-- ==== Sys2Proof/Word.lean ====
section
/-! DEFINITION. The word types of the model and their plainest arithmetic. -/

namespace Sys2Proof

/-- One byte of memory or of a message. -/
abbrev Byte := BitVec 8

/-- A register of the window: 32 bits (R463). -/
abbrev Word := BitVec 32

/-- A landing counter, a descriptor word, a word of a fault record: 64 bits (R42, R127, R369). -/
abbrev DWord := BitVec 64

/-- A run of bytes, lowest address first. -/
abbrev Bytes := List Byte

/-- The little-endian number that a run of bytes holds. -/
def leNat : Bytes → Nat
  | [] => 0
  | b :: bs => b.toNat + 256 * leNat bs

/-- The `n` little-endian bytes of a number. -/
def leBytes : Nat → Nat → Bytes
  | 0, _ => []
  | n + 1, v => BitVec.ofNat 8 v :: leBytes n (v / 256)

/-- Bits `hi` down to `lo` of a number. -/
def bitsOf (v hi lo : Nat) : Nat := (v / 2 ^ lo) % 2 ^ (hi + 1 - lo)

/-- Bit `i` of a number. -/
def bitOf (v i : Nat) : Bool := (v / 2 ^ i) % 2 == 1

/-- A sum that stops at `max`: how every COUNT field saturates (R475). -/
def satAdd (max a b : Nat) : Nat := Nat.min max (a + b)

/-- The nearest value of the range `lo` to `hi` (R241 and its sisters). -/
def clampNat (lo hi v : Nat) : Nat := if v < lo then lo else if hi < v then hi else v

/-- A Boolean as one bit. -/
def bit (b : Bool) : Nat := if b then 1 else 0

/-- `n` zero bytes. -/
def zeroBytes (n : Nat) : Bytes := List.replicate n 0#8

end Sys2Proof
end

