-- ==== Sys2Proof/Syntax.lean ====
section
/-! DEFINITION. The commands the module takes: one constructor of `Instr` for each row of spec/opcode_table.json, with the
operands the manual gives it (R447 for messages, R127 to R132 for descriptors, R216 and R332 for packets). -/

namespace Sys2Proof

/-- The two management links (R379). -/
inductive Link where
  | a | b
deriving DecidableEq, Repr

/-- Where a message arrives: a management link, or the mailbox of a CXL port (R442). -/
inductive Src where
  | mgt (l : Link)
  | cxl (p : Fin 16)
deriving DecidableEq, Repr

/-- Where a register access comes from (R463): a link, a host through BAR0 of a CXL port, the debug port, a control core. -/
inductive Acc where
  | mgt (l : Link)
  | host (p : Fin 16)
  | debug
  | ctrl
deriving DecidableEq, Repr

/-- A register access: its accessor, the transaction number on a link (R496), its size in bytes (R463). -/
structure RAcc where
  who : Acc
  txn : Nat
  size : Nat
deriving DecidableEq, Repr

/-- A message request (R442, R495): port of arrival, transaction number on a link, header, and whether the payload length is
the one its fields give (R443). -/
structure Req where
  src : Src
  txn : Nat
  major : Nat
  minor : Nat
  tag : Nat
  lenOk : Bool
deriving DecidableEq, Repr

/-- The parameters of PART_SETUP (R376). -/
structure PartParams where
  part : Nat
  jobTag : Nat
  tenant : Nat
  tenantKey : Bytes
  privileged : Bool
  qBase : Nat
  qCount : Nat
  cBase : Nat
  cCount : Nat
  budget : Nat
  reqTimeout : Nat
  biTimeout : Nat
  poison : Bool
  scrub : Bool
deriving DecidableEq, Repr

/-- The payload of EXT_ADD (R447). -/
structure ExtAddArgs where
  ext : Nat
  base : Nat
  sizeLog2 : Nat
  fva : Nat
  part : Nat
  job : Nat
  tenant : Nat
  retained : Bool
  coherent : Bool
deriving DecidableEq, Repr

/-- The payload of EXT_PRESENT (R447). -/
structure ExtPresentArgs where
  home : Nat
  ext : Nat
  base : Nat
  sizeLog2 : Nat
  fva : Nat
  part : Nat
  job : Nat
  mask : Nat
  coherent : Bool
deriving DecidableEq, Repr

/-- The payload of QUE_CREATE (R447). -/
structure QueArgs where
  q : Nat
  cls : Nat
  weight : Nat
  sqBase : Nat
  sqLog2 : Nat
  cqBase : Nat
  cqLog2 : Nat
  msix : Nat
deriving DecidableEq, Repr

/-- The parameters of GRP_CREATE (R155). -/
structure GrpParams where
  groupTag : Nat
  jobTag : Nat
  part : Nat
  ctx : Nat
  lattice : Bool
  weight : Nat
  latticeId : Nat
  share : Nat
  n : Nat
  chunkLog2 : Nat
  depth : Nat
  budget : Nat
  arrivalMs : Nat
  tree : Nat
deriving DecidableEq, Repr

/-- A host-map entry (R154, R157). -/
structure HostEntry where
  level : Nat
  first : Nat
  last : Nat
  host : Nat
deriving DecidableEq, Repr

/-- A multicast tree entry (R227); `rsvZero` tells whether its reserved bits are zero. -/
structure TreeEntry where
  v : Bool
  col : Bool
  attachMask : Nat
  up : Nat
  part : Nat
  vc : Nat
  nbranch : Nat
  jobTag : Nat
  root : Bool
  branches : List (Nat × Nat)
  rsvZero : Bool
deriving DecidableEq, Repr

/-- The payload of ANA_SET (R447). DIRECTION: 0 ingress, 1 egress, 2 both (R235, log entry 21). -/
structure AnaArgs where
  port : Nat
  flow : Bool
  src : Nat
  dir : Nat
  srcEpid : Nat
  dstEpid : Nat
  vc : Nat
deriving DecidableEq, Repr

/-- A submission-ring descriptor: eight 64-bit words (R127). -/
structure Desc where
  w0 : DWord
  w1 : DWord
  w2 : DWord
  w3 : DWord
  w4 : DWord
  w5 : DWord
  w6 : DWord
  w7 : DWord
deriving DecidableEq, Repr

/-- The packet header: routing fields of R216 and the fields of R332. -/
structure Hdr where
  dst : Nat
  src : Nat
  vc : Nat
  hops : Nat
  detoured : Bool
  ce : Bool
  echo : Bool
  mc : Bool
  tree : Nat
  seq : Nat
  job : Nat
  gen : Nat
  len : Nat
  wid : Nat
  ackedVc : Nat
  close : Bool
  last : Bool
deriving DecidableEq, Repr

/-- The redirect block of R339. PART: 0 whole, 1 first of two, 2 second of two. -/
structure Redirect where
  origSeq : Nat
  origHome : Nat
  piece : Nat
  fresh : Bool
deriving DecidableEq, Repr

/-- The authentication trailer (R383): zero, or an invocation count, the PHASE bit and the truncated tag. -/
inductive Trailer where
  | zero
  | tagged (count : Nat) (phase : Bool) (tag : DWord)
deriving DecidableEq, Repr

/-- Where a write lands: a home address with the extent identifier of its translation, or a device address (R25, R129). -/
inductive Dest where
  | home (addr ext : Nat)
  | device (addr : Nat)
deriving DecidableEq, Repr

/-- A write's body (PUT, COPY-TILE, remote store data): mask selects bytes of `data` for a partial store; `ctr` the landing
counter named, `total` the operation's bytes (R25, R42). -/
structure WriteBody where
  dest : Dest
  data : Bytes
  mask : Option (List Bool)
  ctr : Option Nat
  total : Nat
deriving DecidableEq, Repr

/-- What a read request serves (R25, R148): a CXL.mem load, a GET, a prefetch. -/
inductive ReadKind where
  | load | get | prefetch
deriving DecidableEq, Repr

/-- A read request's body (R25, R148). -/
structure ReadBody where
  addr : Nat
  ext : Nat
  len : Nat
  kind : ReadKind
deriving DecidableEq, Repr

/-- An ATOMIC request's body (R29, R132). -/
structure AtomBody where
  addr : Nat
  ext : Nat
  op : Nat
  ty : Nat
  operand : Nat
  compare : Nat
  ctr : Option Nat
deriving DecidableEq, Repr

/-- The origin block of a forwarded mirror write (R337); no source EPID where the write came by no flow (log entry 70). -/
structure Origin where
  src : Option Nat
  vc : Nat
  seq : Nat
  wid : Nat
  last : Bool
  old : Option Nat
deriving DecidableEq, Repr

/-- A mirror write's body (R83, R337): the extent by its home, the offset, the data, the origin block. -/
structure MirrorBody where
  home : Nat
  ext : Nat
  off : Nat
  data : Bytes
  origin : Origin
deriving DecidableEq, Repr

/-- A packet of a rebuild step (R85): the step number, the offset in the step, the data, and the byte offsets within the data of words
sent with the poison marker. -/
structure RebuildBody where
  home : Nat
  ext : Nat
  step : Nat
  off : Nat
  data : Bytes
  poisoned : List Nat
deriving DecidableEq, Repr

/-- What a mirror control packet asks or answers (R504). -/
inductive MirrorCtl where
  | create (ext base sizeLog2 fva tenant : Nat) (retained : Bool)  -- R85 step 1
  | created (ext status : Nat)                                     -- the target's answer (R505)
  | rebind (ext job tenant fva : Nat)                              -- R73
  | rebound (ext status : Nat)
  | scrub (ext : Nat)                                              -- R73
  | scrubbed (ext status : Nat)
  | revoke (ext : Nat) (free : Bool)                               -- R88
  | revoked (ext status : Nat)
deriving DecidableEq, Repr

/-- A 32-byte collective record (R171). -/
structure CollRec where
  group : Nat
  seq : Nat
  sig : Nat
  lowRank : Nat
  chunkLog2 : Nat
  mismatch : Option Nat
  chunkMismatch : Option Nat
  code : Nat
deriving DecidableEq, Repr

/-- The operation of a collective, as the operation fields of its header and data packets name it (R332, log entry 9). -/
structure CollOp where
  collop : Nat
  operator : Nat
  fmt : Nat
  sat : Bool
  elements : Nat
  root : Nat
  rowLen : Nat
  chunkLog2 : Nat
deriving DecidableEq, Repr

/-- One packet of the data of a contribution or partial (R172): the group, sequence number, level and the left rank of the vertex
it goes to, whether it is the left operand, its offset in the contribution, its bytes, whether a word of it read as uncorrectable
(R206), and the operation. -/
structure ChunkBody where
  group : Nat
  seq : Nat
  level : Nat
  vertex : Nat
  left : Bool
  off : Nat
  data : Bytes
  poison : Bool
  cop : CollOp
deriving DecidableEq, Repr

/-- A result chunk (R174): the ranks that take it are those of the receiving module. -/
structure ResultBody where
  group : Nat
  seq : Nat
  off : Nat
  data : Bytes
deriving DecidableEq, Repr

/-- A link-state port record (R323). -/
structure PortRec where
  port : Nat
  nbr : Nat
  nbrPort : Nat
  weight : Nat
  drain : Bool
deriving DecidableEq, Repr

/-- A link-state advertisement (R323). -/
structure Lsa where
  origin : Nat
  seq : Nat
  leaving : Bool
  spine : Bool
  ports : List PortRec
deriving DecidableEq, Repr

/-- A Deadbolt message (R353). -/
structure Deadbolt where
  origin : Nat
  seq : Nat
  job : Nat
  cause : Nat
  subject : Nat
  epid : Nat
deriving DecidableEq, Repr

/-- What a packet carries. -/
inductive Body where
  | write (b : WriteBody)
  | read (b : ReadBody)
  | atomic (b : AtomBody)
  | signal (ctr value : Nat)
  | reply (status : Nat) (data : Bytes) (valid : List Bool)
  | ack (status : Nat)
  | report (excluded : Bool)
  | close
  | mirror (b : MirrorBody)
  | rebuild (b : RebuildBody)
  | mctl (m : MirrorCtl)
  | header (level vertex : Nat) (left : Bool) (r : CollRec) (cop : CollOp)
  | chunk (b : ChunkBody)
  | result (b : ResultBody)
  | done (r : CollRec)
  | go (r : CollRec)
  | a2aReport (r : CollRec)
  | cause (r : CollRec)
  | abort (r : CollRec)
deriving DecidableEq, Repr

/-- A fabric packet. The payload stands here in clear; the trailer's tag authenticates it (R383, log entry 8). -/
structure Pkt where
  h : Hdr
  rd : Option Redirect
  body : Body
  tr : Trailer
deriving DecidableEq, Repr

/-- The envelope of a packet that reached this module: header, redirect block, trailer. -/
structure Env where
  h : Hdr
  rd : Option Redirect
  tr : Trailer
deriving DecidableEq, Repr

/-- The SnpType of an M2S MemRd (R307). -/
inductive Snp where
  | data | inv | cur | noOp
deriving DecidableEq, Repr

/-- The MetaValue of an M2S MemWr (R307). -/
inductive MetaVal where
  | invalid | shared | any
deriving DecidableEq, Repr

/-- A CXL.mem request: the port it came on, and the host physical address (R300). -/
structure MemReq where
  port : Fin 16
  hpa : Nat
deriving DecidableEq, Repr

/-- A host's commit of an HDM decoder (R300). -/
structure Decoder where
  base : Nat
  size : Nat
  ways : Nat
  gran : Nat
  pos : Nat
deriving DecidableEq, Repr

/-- The commands of the module: one constructor for each row of spec/opcode_table.json. -/
inductive Instr where
  -- management messages (R446, R447)
  | getVersion (r : Req)
  | mgtHeartbeat (r : Req)
  | leaseTake (r : Req)
  | leaseRelease (r : Req)
  | reportAck (r : Req) (seq : Nat)
  | attestGet (r : Req) (nonce : Bytes)
  | modReset (r : Req) (kind : Nat)
  | fwStatus (r : Req)
  | fwBegin (r : Req) (imageLen histLen : Nat)
  | fwData (r : Req) (region off : Nat) (data : Bytes)
  | fwCommit (r : Req)
  | fwAbort (r : Req)
  -- partitions (R375)
  | partSetup (r : Req) (p : PartParams)
  | partBind (r : Req) (part attach slot : Nat)
  | partUnbind (r : Req) (part attach slot : Nat)
  | keyLoad (r : Req) (part slot keyId : Nat) (ct wrapped : Bytes)
  | partReset (r : Req) (part policy : Nat)
  | genTagReuseWaitEnd (part : Nat)
  | partRelease (r : Req) (part : Nat)
  | consentSet (r : Req) (part : Nat) (token : Bytes)
  | consentClear (r : Req) (part : Nat)
  | partQuery (r : Req) (part : Nat)
  | dossierRead (r : Req) (part off : Nat)
  | jobAbort (r : Req) (job : Nat)
  -- extents (R67)
  | extAdd (r : Req) (a : ExtAddArgs)
  | extPresent (r : Req) (a : ExtPresentArgs)
  | extMirror (r : Req) (ext target : Nat)
  | extRevoke (r : Req) (home ext disp forcedUs : Nat)
  | extShackle (r : Req) (ext part job tenant fva : Nat)
  | extQuery (r : Req) (home ext kind : Nat)
  -- translation (R99)
  | xltMap (r : Req) (part fva pageLog2 : Nat) (leaves : List (BitVec 128))
  | xltUnmap (r : Req) (part fva bytes : Nat)
  | xltInval (r : Req) (part : Nat) (all : Bool) (fva bytes : Nat)
  | xltInvalDrainDone (src : Src)
  | xltQuery (r : Req) (part fva : Nat)
  -- queues (R121)
  | queCreate (r : Req) (a : QueArgs)
  | queResume (r : Req) (q : Nat)
  | queDestroy (r : Req) (q : Nat)
  | queQuery (r : Req) (q : Nat)
  -- groups (R154)
  | grpCreate (r : Req) (p : GrpParams)
  | grpMembers (r : Req) (ctx first : Nat) (epids : List Nat)
  | grpHosts (r : Req) (ctx : Nat) (entries : List HostEntry)
  | grpArm (r : Req) (ctx : Nat)
  | grpDestroy (r : Req) (ctx : Nat)
  | grpQuery (r : Req) (ctx : Nat)
  -- endpoints, trees, analysis (R210)
  | epidAssign (r : Req) (epid kind attach home : Nat)
  | epidRelease (r : Req) (epid : Nat)
  | treeWrite (r : Req) (tree : Nat) (e : TreeEntry)
  | treeClear (r : Req) (tree : Nat)
  | anaSet (r : Req) (a : AnaArgs)
  | anaConsent (r : Req) (token : Bytes)
  | anaClear (r : Req) (all disable : Bool) (job : Nat)
  | fabQuery (r : Req) (kind idx : Nat)
  -- power, self-test, logs (R402, R423, R454, R455)
  | powerLit (r : Req)
  | powerDark (r : Req)
  | selftest (r : Req) (kind port : Nat)
  | logRead (r : Req) (entry count : Nat)
  | ageRead (r : Req) (off : Nat)
  | traceSet (r : Req) (part : Nat) (mask : Bytes)
  -- CXL memory device mailbox (R312)
  | identify (port : Fin 16)
  | getSupportedLogs (port : Fin 16)
  | getLog (port : Fin 16)
  | getEventRecords (port : Fin 16)
  | clearEventRecords (port : Fin 16) (handles : List Nat)
  | getDynamicCapacityConfiguration (port : Fin 16)
  | addDynamicCapacityResponse (port : Fin 16) (home ext : Nat) (accept : Bool)
  | presentAnswerTimeout (attach home ext : Nat)
  | releaseDynamicCapacity (port : Fin 16) (home ext : Nat)
  | spdmRequest (port : Fin 16) (falcon mlkem : Bool)
  | ideKeyManagement (port : Fin 16) (enable : Bool)
  -- queues and descriptors (R123, R128)
  | doorbell (a : RAcc) (q : Nat) (value : DWord) (viaBar : Bool)
  | nop (q : Nat) (d : Desc)
  | put (q : Nat) (d : Desc)
  | get (q : Nat) (d : Desc)
  | copyTile (q : Nat) (d : Desc)
  | atomic (q : Nat) (d : Desc)
  | wait (q : Nat) (d : Desc)
  | fence (q : Nat) (d : Desc)
  | signal (q : Nat) (d : Desc)
  | coll (q : Nat) (d : Desc)
  | epochClose (q : Nat) (d : Desc)
  | epochCloseDrainDone (part : Nat)
  | quantumGrant (engine : Fin 32) (q : Nat)
  | quantumEnd (engine : Fin 32)
  | tableWalkDone (part fva : Nat) (uncorrectable : Bool)
  | prefetchReply (id : Nat) (data : Bytes) (valid : List Bool)
  | prefetchTimeout (id : Nat)
  -- CXL.mem and CXL.io (R25, R307 to R310)
  | cxlMemLoad (m : MemReq) (snp : Snp)
  | cxlMemStore (m : MemReq) (mask : List Bool) (data : Bytes) (mv : MetaVal)
  | biRsp (port : Fin 16) (line : Nat) (keepShared : Bool)
  | biTimeout (line : Nat) (attach : Nat)
  | cxlIoCompletion (id : Nat) (ok : Bool) (data : Bytes)
  | cxlIoTimeout (id : Nat)
  | landingCounterRead (port : Fin 16) (off size : Nat)
  | hdmDecoderCommit (port : Fin 16) (r : Fin 4) (d : Decoder)
  | biEnable (port : Fin 16) (on : Bool)
  | perstNAssert (port : Fin 16)
  | perstNRelease (port : Fin 16)
  | hotReset (port : Fin 16)
  | functionLevelReset (port : Fin 16)
  | cxlReset (port : Fin 16)
  | cxlLinkUp (port : Fin 16) (width : Nat) (fullRate : Bool)
  | cxlTrainRetry (port : Fin 16) (width : Nat) (fullRate : Bool)
  | l0pRequest (port : Fin 16) (width : Nat)
  | loopbackDirected (port : Fin 16)
  | ideIntegrityFailure (port : Fin 16)
  -- clocks and start-up (R414, R431)
  | phyPllLoss (port : Fin 64)
  | phyPllRelock (port : Fin 64)
  | woquelImageRead (flash : Option Bytes)
  | identityRegenerated (ok : Bool)
  -- governor, gates, health (R405 to R425)
  | governorTick (demand draw vin tj gddr : Nat)
  | capCommand (a : RAcc) (value : Word)
  | portIdle (port : Fin 64)
  | unitGateIdle (unit : Nat)
  | clkGateOffReq (a : RAcc) (value : Word)
  | clkObsWrite (a : RAcc) (value : Word)
  | hltPlanRun (a : RAcc) (value : Word)
  | patrolRead (addr : Nat) (flips : List (Nat × Nat))
  | sramVminTest (slice : Fin 256) (mv : Nat)
  | sensorUpdate (addr : BitVec 32) (value : Word)
  | moduleFault (addr : Nat) (region : Nat)
  -- Biria links (R270 to R291)
  | flitReceived (port : Fin 64) (flit : Bytes)
  | replayTimeout (port : Fin 64)
  | linkNop (port : Fin 64)
  | train (port : Fin 64) (nbr nbrPort lanes minLanes map : Nat)
  | swapReq (port : Fin 64) (dir : Bool) (lane src dst : Nat) (failed : Bool)
  | swapDone (port : Fin 64) (dir : Bool) (lane dst lseq : Nat)
  | swapAbort (port : Fin 64) (dir : Bool) (lane reason : Nat)
  | calStart (port : Fin 64) (w : Nat)
  | calEnd (port : Fin 64) (w : Nat) (retired : Bool)
  | lanes (port : Fin 64) (dir : Bool) (count map lseq : Nat)
  | wavelengthFailure (port : Fin 64) (w : Fin 9)
  | swapCheckDone (port : Fin 64) (ok : Bool)
  | swapTimeout (port : Fin 64)
  | spareRotation (port : Fin 64)
  | calMeasureDone (port : Fin 64) (ok : Bool)
  | trainingStepDone (port : Fin 64) (passing margins : List Nat)
  | trainingRetry (port : Fin 64)
  | optPortEnable (a : RAcc) (port : Fin 64) (value : Word)
  | optPortRetrain (a : RAcc) (port : Fin 64) (value : Word)
  | cxlPortRetrain (a : RAcc) (port : Fin 16) (value : Word)
  | portStateChange (port : Fin 64)
  -- repair and flows (R320 to R341)
  | lsaReceived (port : Fin 64) (l : Lsa)
  | lsaAgeOut (origin : Nat)
  | lostFlowFree (module : Nat)
  | flowIdleClose (src dst vc : Nat)
  | retxDue (src dst vc : Nat)
  | dupSuppressExpiry (src wid : Nat)
  | packetExpiry (src dst vc seq : Nat)
  | noRouteExpiry (src dst vc seq : Nat)
  -- packets (R219, R25, R332)
  | fabricPacketTransit (port : Fin 64) (p : Pkt) (flits : Nat)
  | fabricWrite (port : Option (Fin 64)) (e : Env) (b : WriteBody)
  | fabricReadRequest (port : Option (Fin 64)) (e : Env) (b : ReadBody)
  | atomicRequest (port : Option (Fin 64)) (e : Env) (b : AtomBody)
  | signalArrival (port : Option (Fin 64)) (e : Env) (ctr value : Nat)
  | reply (port : Option (Fin 64)) (e : Env) (status : Nat) (data : Bytes) (valid : List Bool)
  | acknowledgement (port : Option (Fin 64)) (e : Env) (status : Nat)
  | deliveryReport (port : Option (Fin 64)) (e : Env) (excluded : Bool)
  | flowClose (port : Option (Fin 64)) (e : Env)
  | redirectRequest (port : Option (Fin 64)) (e : Env) (b : Body)
  | redirectWaitExpiry (src dst vc seq : Nat)
  | mirrorWrite (port : Option (Fin 64)) (e : Env) (b : MirrorBody)
  | rebuildStep (port : Option (Fin 64)) (e : Env) (b : RebuildBody)
  | mirrorControl (port : Option (Fin 64)) (e : Env) (m : MirrorCtl)
  | unprotectedRefusal (port : Option (Fin 64)) (e : Env)
  | multicastLeg (port : Option (Fin 64)) (e : Env) (b : Body)
  | deadboltMessage (port : Fin 64) (m : Deadbolt)
  | requestTimeout (src wid : Nat)
  -- collectives (R161 to R184)
  | header (port : Option (Fin 64)) (e : Env) (level vertex : Nat) (left : Bool) (r : CollRec) (cop : CollOp)
  | contribution (port : Option (Fin 64)) (e : Env) (b : ChunkBody)
  | resultChunk (port : Option (Fin 64)) (e : Env) (b : ResultBody)
  | done (port : Option (Fin 64)) (e : Env) (r : CollRec)
  | go (port : Option (Fin 64)) (e : Env) (r : CollRec)
  | allToAllReport (port : Option (Fin 64)) (e : Env) (r : CollRec)
  | cause (port : Option (Fin 64)) (e : Env) (r : CollRec)
  | abort (port : Option (Fin 64)) (e : Env) (r : CollRec)
  | arrivalTimeout (ctx seq level vertex : Nat)
  -- extent events (R88)
  | forcedRevokeTimeout (kind ext : Nat)
  | revokeDrainDone (kind ext : Nat)
  | scrubDone (kind ext : Nat)
  -- Hinge and reports (R448 to R452)
  | reportResend (l : Link)
  -- registers (R461 to R482)
  | fltPop (a : RAcc) (value : Word)
  | fltStatLostClear (a : RAcc) (value : Word)
  | latchSnap (a : RAcc) (value : Word)
  | unlock (a : RAcc) (key : Word)
  | unlockLapse (a : Acc)
  | indDataRead (a : RAcc)
  | indDataWrite (a : RAcc) (value : Word)
  | topTimeLoRead (a : RAcc)
  | cfgcrcRefWrite (a : RAcc) (value : Word)
  | setAliasWrite (a : RAcc) (off : Nat) (value : Word)
  | clrAliasWrite (a : RAcc) (off : Nat) (value : Word)
  | tglAliasWrite (a : RAcc) (off : Nat) (value : Word)
  | registerWrite (a : RAcc) (off : Nat) (value : Word)
  -- debug port (R456 to R459); `frameOk`: the frame's CRC holds
  | dbgNop (frameOk : Bool)
  | halt (frameOk : Bool) (target : Nat)
  | resume (frameOk : Bool) (target : Nat)
  | step (frameOk : Bool) (target : Nat)
  | bpSet (frameOk : Bool) (target addr data : Nat)
  | bpClear (frameOk : Bool) (target data : Nat)
  | breakpointHit (core : Fin 16) (n : Fin 8)
  | coreRd (frameOk : Bool) (target addr : Nat)
  | coreWr (frameOk : Bool) (target addr data : Nat)
  | memRd (frameOk : Bool) (addr : Nat)
  | memWr (frameOk : Bool) (addr : Nat) (data : Word)
  | regRd (frameOk : Bool) (addr : Nat)
  | regWr (frameOk : Bool) (addr : Nat) (data : Word)
  | partRd (frameOk : Bool) (target addr : Nat)
  | partWr (frameOk : Bool) (target addr : Nat) (data : Word)
  | partReleaseScrubDone (part : Nat)
  | aspmL1Exit (port : Fin 16)
  | cxlLinkDown (port : Fin 16) (width : Nat)
  -- rows without operands: pins and input power (R342, R400, R411, R412), clocks (R414), start-up (R431, R404), governor (R406, R408),
  -- health (R421 to R425), repair (R320 to R329), firmware (R441, R448 to R452), registers (R477), the debug pin (R456)
  | fwSessionTimeout
  | trayReleaseAssert
  | trayReleaseDeassert
  | pwrBrakeAssert
  | pwrBrakeRelease
  | powerApplied
  | inputLow
  | inputBrake
  | inputRecover
  | inputOff
  | inputHigh
  | thermalCeiling
  | thermalRelease
  | thermalBrake
  | thermalShutdown
  | thermalRestart
  | referencePresent
  | rootPllLock
  | referenceLoss
  | rootRelock
  | lightingDone
  | darkeningDone
  | staggerExpiry
  | lullHoldExpiry
  | marginPlanDaily
  | gddrDeferredRetrain
  | healthSecond
  | healthHour
  | lsaPeriodic
  | repairHoldEnd
  | isolationTimeout
  | ccWindowEnd
  | hingeTimeout
  | fwmHingeAccept
  | fwmHingeReject
  | cfgcrcPass
  | dbgEnRise
  | dbgEnFall
  | marginPlanDone
  | thermalBrakeRelease
deriving DecidableEq, Repr

end Sys2Proof
end

