-- ==== Sys2Proof/Machine/Table.lean ====
section
/-! DEFINITION. Sparse tables: a list of (number, value) pairs in one canonical form, numbers strictly rising and no value
equal to the default, so that equal tables are equal data. Pool memory, control memory, registers, partitions, queues,
flows and every other numbered structure of the module are held so. -/

namespace Sys2Proof.Machine

/-- A sparse table over natural numbers. -/
abbrev Tab (α : Type) := List (Nat × α)

/-- The value at `k`, `d` where nothing is listed. -/
def Tab.get {α : Type} (d : α) : Tab α → Nat → α
  | [], _ => d
  | (k', v) :: t, k => if k = k' then v else Tab.get d t k

/-- The value at `k`, if listed. -/
def Tab.find {α : Type} : Tab α → Nat → Option α
  | [], _ => none
  | (k', v) :: t, k => if k = k' then some v else Tab.find t k

/-- Nothing is listed at `k` any more. -/
def Tab.del {α : Type} (t : Tab α) (k : Nat) : Tab α := t.filter (fun e => e.1 != k)

/-- `v` is listed at `k`, in its place. -/
def Tab.ins {α : Type} : Tab α → Nat → α → Tab α
  | [], k, v => [(k, v)]
  | (k', v') :: t, k, v =>
    if k = k' then (k, v) :: t else if k < k' then (k, v) :: (k', v') :: t else (k', v') :: Tab.ins t k v

/-- The table reads `v` at `k`: a value equal to the default is not listed. -/
def Tab.put {α : Type} [DecidableEq α] (d : α) (t : Tab α) (k : Nat) (v : α) : Tab α :=
  if v = d then t.del k else t.ins k v

/-- Numbers strictly rise. -/
def Tab.sorted {α : Type} : Tab α → Bool
  | [] => true
  | [_] => true
  | (k, _) :: (k', v') :: t => decide (k < k') && Tab.sorted ((k', v') :: t)

/-- The canonical form: numbers strictly rise and nothing listed equals the default. -/
def Tab.wf {α : Type} [DecidableEq α] (d : α) (t : Tab α) : Bool :=
  t.sorted && t.all (fun e => decide (e.2 ≠ d))

/-- Every listed value changed by `f` of its number; what becomes the default is dropped. -/
def Tab.mapD {α : Type} [DecidableEq α] (d : α) (f : Nat → α → α) : Tab α → Tab α
  | [] => []
  | (k, v) :: t => if f k v = d then (Tab.mapD d f t).del k else (k, f k v) :: Tab.mapD d f t

/-- The entries for which `p` holds. -/
def Tab.keep {α : Type} (p : Nat → α → Bool) (t : Tab α) : Tab α := t.filter (fun e => p e.1 e.2)

/-- The lowest number from `0` up to `n` that the table does not list (R64: lowest-numbered free record). -/
def Tab.free {α : Type} (t : Tab α) (n : Nat) : Option Nat :=
  (List.range (Nat.min n (t.length + 1))).find? (fun k => (t.find k).isNone)

/-- Bytes of a byte-addressed memory from address `a`, nothing listed reading `0`. -/
def Tab.bytes (m : Tab Byte) (a n : Nat) : Bytes := (List.range n).map (fun i => m.get 0#8 (a + i))

/-- Bytes written from address `a`. -/
def Tab.putBytes (m : Tab Byte) (a : Nat) : Bytes → Tab Byte
  | [] => m
  | b :: bs => Tab.putBytes (m.put 0#8 a b) (a + 1) bs

/-- The bytes from `a` on are dropped, and read 0 (a scrub, R73). -/
def Tab.clearRange {α : Type} (m : Tab α) (a n : Nat) : Tab α := m.filter (fun e => e.1 < a || a + n ≤ e.1)

end Sys2Proof.Machine
end

