-- ==== Sys2Proof/Machine/Float.lean ====
section
/-! DEFINITION. The number formats of R189 and exact arithmetic on them: decode to an exact value, compute exactly, round
once to nearest even (R193). Used by the atomic unit (R29) and by the Tumbler engines (R193 to R205). -/

namespace Sys2Proof.Machine

/-- How a format spends its all-ones exponent (R189). -/
inductive Special where
  | ieee   -- infinity and NaNs
  | e4m3   -- one NaN mantissa, no infinity
  | none   -- neither
deriving DecidableEq, Repr

/-- A floating-point element format of R189. -/
structure FFmt where
  ebits : Nat
  mbits : Nat
  bias : Nat
  emax : Int
  special : Special
deriving DecidableEq, Repr

def fp64 : FFmt := ⟨11, 52, 1023, 1023, .ieee⟩
def fp32 : FFmt := ⟨8, 23, 127, 127, .ieee⟩
def fp16 : FFmt := ⟨5, 10, 15, 15, .ieee⟩
def bf16 : FFmt := ⟨8, 7, 127, 127, .ieee⟩
def fp8e4m3 : FFmt := ⟨4, 3, 7, 8, .e4m3⟩
def fp8e5m2 : FFmt := ⟨5, 2, 15, 15, .ieee⟩
def fp6e3m2 : FFmt := ⟨3, 2, 3, 4, .none⟩
def fp6e2m3 : FFmt := ⟨2, 3, 1, 2, .none⟩
def fp4e2m1 : FFmt := ⟨2, 1, 1, 2, .none⟩

/-- An exact value: NaN, an infinity, or ±m × 2^e, with signed zeros. -/
inductive FVal where
  | nan
  | inf (neg : Bool)
  | fin (neg : Bool) (m : Nat) (e : Int)
deriving DecidableEq, Repr

/-- The width of a format in bits. -/
def FFmt.width (f : FFmt) : Nat := 1 + f.ebits + f.mbits

/-- The sign bit of a format, as a number. -/
def FFmt.signBit (f : FFmt) : Nat := 2 ^ (f.ebits + f.mbits)

/-- The code of the largest finite magnitude (R189). -/
def FFmt.maxCode (f : FFmt) : Nat :=
  match f.special with
  | .ieee => (2 ^ f.ebits - 1) * 2 ^ f.mbits - 1
  | .e4m3 => 2 ^ (f.ebits + f.mbits) - 2
  | .none => 2 ^ (f.ebits + f.mbits) - 1

/-- The canonical NaN (R189); 0 for a format without one. -/
def FFmt.canonNaN (f : FFmt) : Nat :=
  match f.special with
  | .ieee => (2 ^ f.ebits - 1) * 2 ^ f.mbits + 2 ^ (f.mbits - 1)
  | .e4m3 => 2 ^ (f.ebits + f.mbits) - 1
  | .none => 0

/-- The exponent of the smallest normal value. -/
def FFmt.emin (f : FFmt) : Int := 1 - (f.bias : Int)

/-- The exact value of an encoding (R189). -/
def FFmt.decode (f : FFmt) (bits : Nat) : FVal :=
  let neg := bitOf bits (f.ebits + f.mbits)
  let mag := bits % 2 ^ (f.ebits + f.mbits)
  let ex := mag / 2 ^ f.mbits
  let mant := mag % 2 ^ f.mbits
  if f.special = .ieee ∧ ex = 2 ^ f.ebits - 1 then (if mant = 0 then .inf neg else .nan)
  else if f.special = .e4m3 ∧ mag = 2 ^ (f.ebits + f.mbits) - 1 then .nan
  else if ex = 0 then .fin neg mant (f.emin - f.mbits)
  else .fin neg (2 ^ f.mbits + mant) (f.emin - f.mbits + (ex - 1 : Nat))

/-- ⌊log2 (num / den)⌋ for positive numbers. -/
def log2Rat (num den : Nat) : Int :=
  let d : Int := (Nat.log2 num : Int) - (Nat.log2 den : Int)
  let ge : Bool := if 0 ≤ d then decide (den * 2 ^ d.toNat ≤ num) else decide (den ≤ num * 2 ^ (-d).toNat)
  if ge then d else d - 1

/-- num / den rounded to the nearest integer, ties to even (R193). -/
def rne (num den : Nat) : Nat :=
  let q := num / den
  let r := num % den
  if den < 2 * r ∨ (2 * r = den ∧ q % 2 = 1) then q + 1 else q

/-- The magnitude code of (num / den) × 2^e rounded once to nearest even, unbounded above (R193). -/
def FFmt.roundMag (f : FFmt) (num den : Nat) (e : Int) : Nat :=
  if num = 0 then 0
  else
    let sub : Int := f.emin - f.mbits
    let q0 : Int := log2Rat num den + e - f.mbits
    let qe : Int := if q0 < sub then sub else q0
    let sh := e - qe
    let n := if 0 ≤ sh then rne (num * 2 ^ sh.toNat) den else rne num (den * 2 ^ (-sh).toNat)
    (qe - sub).toNat * 2 ^ f.mbits + n

/-- A magnitude code above the largest finite value becomes infinity, or that value where there is none (R194). -/
def FFmt.overflow (f : FFmt) (code : Nat) : Nat :=
  if code ≤ f.maxCode then code
  else match f.special with
    | .ieee => (2 ^ f.ebits - 1) * 2 ^ f.mbits
    | _ => f.maxCode

/-- The encoding of ±(num / den) × 2^e, rounded once (R193, R194). -/
def FFmt.encodeRat (f : FFmt) (neg : Bool) (num den : Nat) (e : Int) : Nat :=
  bit neg * f.signBit + f.overflow (f.roundMag num den e)

/-- The encoding of a value, rounded once; NaN gives the canonical NaN (R193, R194). -/
def FFmt.encode (f : FFmt) : FVal → Nat
  | .nan => f.canonNaN
  | .inf neg => bit neg * f.signBit + (match f.special with
    | .ieee => (2 ^ f.ebits - 1) * 2 ^ f.mbits
    | _ => f.maxCode)
  | .fin neg m e => f.encodeRat neg m 1 e

/-- The signed integer m × 2^(e − e0) of a finite value, for e0 ≤ e. -/
def scaled (neg : Bool) (m : Nat) (e e0 : Int) : Int :=
  let v : Int := (m * 2 ^ (e - e0).toNat : Nat)
  if neg then -v else v

/-- The exact sum (R194's special cases included). -/
def FVal.add : FVal → FVal → FVal
  | .nan, _ => .nan
  | _, .nan => .nan
  | .inf a, .inf b => if a = b then .inf a else .nan
  | .inf a, _ => .inf a
  | _, .inf b => .inf b
  | .fin na ma ea, .fin nb mb eb =>
    let e0 := if ea ≤ eb then ea else eb
    let s := scaled na ma ea e0 + scaled nb mb eb e0
    if s = 0 then .fin (na && nb && decide (ma = 0) && decide (mb = 0)) 0 e0 else .fin (decide (s < 0)) s.natAbs e0

/-- The negative of a value. -/
def FVal.neg : FVal → FVal
  | .nan => .nan
  | .inf a => .inf (!a)
  | .fin a m e => .fin (!a) m e

/-- The exact product, IEEE 754 special cases (R204, R205). -/
def FVal.mul : FVal → FVal → FVal
  | .nan, _ => .nan
  | _, .nan => .nan
  | .inf a, .inf b => .inf (a != b)
  | .inf a, .fin b m _ => if m = 0 then .nan else .inf (a != b)
  | .fin a m _, .inf b => if m = 0 then .nan else .inf (a != b)
  | .fin a ma ea, .fin b mb eb => .fin (a != b) (ma * mb) (ea + eb)

/-- Strictly below, with −0 below +0 (R29, R195); false where either is a NaN. -/
def FVal.lt : FVal → FVal → Bool
  | .nan, _ => false
  | _, .nan => false
  | .inf a, .inf b => a && !b
  | .inf a, .fin _ _ _ => a
  | .fin _ _ _, .inf b => !b
  | .fin na ma ea, .fin nb mb eb =>
    let e0 := if ea ≤ eb then ea else eb
    let x := scaled na ma ea e0
    let y := scaled nb mb eb e0
    if ma = 0 ∧ mb = 0 then na && !nb else decide (x < y)

/-- SUM of two encodings (R193, R194). -/
def FFmt.sum (f : FFmt) (a b : Nat) : Nat := f.encode ((f.decode a).add (f.decode b))

/-- MIN of two encodings: one operand unchanged, the left when equal, any NaN canonical (R195). -/
def FFmt.min (f : FFmt) (a b : Nat) : Nat :=
  match f.decode a, f.decode b with
  | .nan, _ => f.canonNaN
  | _, .nan => f.canonNaN
  | x, y => if y.lt x then b else a

/-- MAX of two encodings (R195). -/
def FFmt.max (f : FFmt) (a b : Nat) : Nat :=
  match f.decode a, f.decode b with
  | .nan, _ => f.canonNaN
  | _, .nan => f.canonNaN
  | x, y => if x.lt y then b else a

/-- A value rounded to FP32 and read back: every operation of R204 but the last is FP32, rounded to nearest even. -/
def to32 (v : FVal) : FVal := fp32.decode (fp32.encode v)

/-- Fixed-point Taylor sum of e^(−r), `r` and the term in units of 2^−400, over the terms from `k` on. -/
def expTaylor : Nat → Nat → Int → Nat → Int
  | 0, _, _, _ => 0
  | n + 1, k, term, r => term + expTaylor n (k + 1) (-(term * (r : Int)) / (((k : Int)) * (2 ^ 400 : Int))) r

/-- `n` squarings in fixed point of 400 bits. -/
def sqFix : Nat → Nat → Nat
  | 0, v => v
  | n + 1, v => sqFix n (v * v / 2 ^ 400)

/-- E(x) of R204: e^x for x at or below zero, correctly rounded to FP32. The fixed-point value carries 400 bits, and e^x is
never a rounding tie for a nonzero FP32 x (DEDUCED, log entry 12). -/
def expFP32 : FVal → Nat
  | .nan => fp32.canonNaN
  | .inf _ => 0
  | .fin _ m e =>
    if m = 0 then 0x3F800000
    else if 7 ≤ log2Rat m 1 + e then 0
    else
      let y := if 0 ≤ e + 400 then m * 2 ^ (e + 400).toNat else m / 2 ^ (-(e + 400)).toNat
      let t := expTaylor 90 1 (2 ^ 400 : Int) (y / 2 ^ 8)
      fp32.encodeRat false (sqFix 8 t.toNat) 1 (-400)

end Sys2Proof.Machine
end

