-- ==== Sys2Proof/Config.lean ====
section
/-! DEFINITION. What the manual names and does not define, and what an implementation fixes: constants without a body, so that
nothing in Lean can evaluate them and every claim holds whatever they are. -/

namespace Sys2Proof.Config

/-- A free value: the `n`-th value that the manual leaves open in a run (log entry 1). -/
opaque freeValue : Nat → Nat

/-- Falcon-1024 verification: public key, digest, padded signature (R395, R439; log entry 5). -/
opaque falconVerify : Bytes → Bytes → Bytes → Bool

/-- The vendor's Falcon-1024 public key held by the boot ROM (R439). -/
opaque vendorKey : Bytes

/-- The 1,280-byte Falcon-1024 signature that the SEC block makes over a digest with the identity private key (R391, R393). -/
opaque falconSign : Bytes → Bytes

/-- The module's Falcon-1024 identity public key, which its silicon fixes (R389, R407). -/
opaque identityPk : Bytes

/-- ML-KEM-1024 decapsulation with the module's identity key (R384). -/
opaque mlkemDecaps : Bytes → Bytes

/-- AES-256-GCM decryption under a zero nonce: key, additional data, ciphertext with its tag; none where the tag fails (R384). -/
opaque gcmOpen : Bytes → Bytes → Bytes → Option Bytes

/-- The truncated AES-256-GCM tag of a packet: key, source EPID, invocation count, the packet's authenticated text (R383). -/
opaque gcmTag : Bytes → Nat → Nat → List Nat → BitVec 64

/-- The operation fields of a packet header, bits [255:190], of which the manual places STATUS alone (R216, R332; log entry 93). -/
opaque opFields : List Nat → Nat

/-- Byte `i` of a packet's payload as it travels: the ciphertext of R383, or the clear layout that the manual does not give: authenticated text,
trailer, `i` (log entry 93). -/
opaque payloadByte : List Nat → Nat → Nat → BitVec 8

/-- The source and destination EPIDs in the header of a flooded VC0 message, by its payload (R323, R354 give none; log entry 93). -/
opaque floodEpid : Bytes → Nat

/-- The boot ROM version (R393, R460). -/
opaque romVersion : BitVec 8

/-- The set of the translation cache that a leaf of a partition falls into (R104). -/
opaque cacheSet : Nat → Nat → Nat

/-- What an integer, floating-point or control register of a control core holds after it has run since the debug port last wrote
it: core, number of runs, register (R457; the core's instruction set is not in the manual). -/
opaque coreReg : Nat → Nat → Nat → Nat

/-- What the CXL base standard has Identify and Get Log return, which the manual does not state: kind, index (R312). -/
opaque cxlLog : Nat → Bytes

/-- The level and the message code that the running image gives a trace entry: trace point, log sequence number (R454, R455; the manual leaves
them to the image). -/
opaque traceLevel : Nat → Nat → Nat
opaque traceCode : Nat → Nat → Nat

/-- The level and the trace point field of the log entry of a fault record, by its log sequence number (R454 gives neither). -/
opaque recordLevel : Nat → Nat
opaque recordPoint : Nat → Nat

/-- The state that an image of a handover record version writes of itself (R451, section IMAGE). -/
opaque imageState : Nat → Bytes

/-- The MSI-X vector of an attachment's event log, which its host sets by the CXL standard's means (R304, R311). -/
opaque logVector : Nat → Nat

/-- The spare rows of an SRAM slice (R17 gives 4 MiB for all slices, and no row size). -/
opaque spareRows : Nat

end Sys2Proof.Config
end

