-- ==== Sys2Proof/Machine/Crc.lean ====
section
/-! DEFINITION. The checks whose arithmetic the manual gives in full: CRC-32C (R220, R270), CRC-8 (R456), and the
Reed-Solomon code of a flit (R272); and SHAKE256, which R101, R157, R164, R393 and R407 name (FIPS 202). -/

namespace Sys2Proof.Machine

/-- One bit of CRC-32C, Castagnoli polynomial, low bit first (R220). -/
def crc32cBit (c : BitVec 32) : BitVec 32 := if c.getLsbD 0 then (c >>> 1) ^^^ 0x82F63B78#32 else c >>> 1

/-- One byte of CRC-32C. -/
def crc32cByte (c : BitVec 32) (b : Byte) : BitVec 32 :=
  crc32cBit (crc32cBit (crc32cBit (crc32cBit (crc32cBit (crc32cBit (crc32cBit (crc32cBit (c ^^^ b.setWidth 32))))))))

/-- CRC-32C: initial value and final exclusive OR 0xFFFF_FFFF (R220, R270). -/
def crc32c (bs : Bytes) : BitVec 32 := bs.foldl crc32cByte 0xFFFFFFFF#32 ^^^ 0xFFFFFFFF#32

/-- One bit of CRC-8 with x^8 + x^2 + x + 1, high bit first (R456). -/
def crc8Bit (c : Byte) : Byte := if c.getLsbD 7 then (c <<< 1) ^^^ 0x07#8 else c <<< 1

/-- CRC-8 of a debug frame's bytes, initial value 0 (R456). -/
def crc8 (bs : Bytes) : Byte :=
  bs.foldl (fun c b => crc8Bit (crc8Bit (crc8Bit (crc8Bit (crc8Bit (crc8Bit (crc8Bit (crc8Bit (c ^^^ b))))))))) 0#8

/-- Multiplication by α in GF(2^8) with x^8 + x^4 + x^3 + x^2 + 1 (R272). -/
def gfX (a : Byte) : Byte := if a.getLsbD 7 then (a <<< 1) ^^^ 0x1D#8 else a <<< 1

/-- The two syndromes of a codeword, the first byte the highest power: values at α^0 and α^1 (R272). -/
def rsSyndromes (cw : Bytes) : Byte × Byte := cw.foldl (fun s b => (s.1 ^^^ b, gfX s.2 ^^^ b)) (0#8, 0#8)

/-- The power `i < n` with α^i × e = s, if there is one. -/
def gfLog (e s : Byte) : Nat → Nat → Option Nat
  | 0, _ => none
  | n + 1, i => if e = s then some i else gfLog (gfX e) s n (i + 1)

/-- Decodes one shortened RS(128,126) codeword: corrects one byte, tells whether it did, none when it cannot (R272). -/
def rsDecode (cw : Bytes) : Option (Bytes × Bool) :=
  match rsSyndromes cw with
  | (s0, s1) =>
    if s0 = 0#8 ∧ s1 = 0#8 then some (cw, false)
    else if s0 = 0#8 ∨ s1 = 0#8 then none
    else
      match gfLog s0 s1 cw.length 0 with
      | none => none
      | some p =>
        let i := cw.length - 1 - p
        some (cw.set i ((cw.getD i 0#8) ^^^ s0), true)

/-- The bytes of codeword `c` of a flit: bytes i below 252 with i mod 2 = c, then its two parity bytes (R272). -/
def flitCodeword (f : Bytes) (c : Nat) : Bytes :=
  (List.range 126).map (fun j => f.getD (2 * j + c) 0#8) ++ [f.getD (252 + 2 * c) 0#8, f.getD (253 + 2 * c) 0#8]

/-- Corrects both codewords of a flit and gives bytes 0 to 251 and the number of codewords corrected (R272). -/
def flitCorrect (f : Bytes) : Option (Bytes × Nat) :=
  match rsDecode (flitCodeword f 0), rsDecode (flitCodeword f 1) with
  | some (a, ca), some (b, cb) =>
    some ((List.range 252).map (fun i => if i % 2 = 0 then a.getD (i / 2) 0#8 else b.getD (i / 2) 0#8), bit ca + bit cb)
  | _, _ => none

/-- The flit decodes and its CRC holds (R270, R272): bytes 0 to 247 and the count of corrected codewords. -/
def flitCheck (f : Bytes) : Option (Bytes × Nat) :=
  match flitCorrect f with
  | none => none
  | some (g, n) =>
    if f.length = 256 ∧ (crc32c (g.take 248)).toNat = leNat ((g.drop 248).take 4) then some (g.take 248, n) else none

/-- The round constants of Keccak-f[1600]. -/
def keccakRC : List (BitVec 64) :=
  [0x0000000000000001#64, 0x0000000000008082#64, 0x800000000000808A#64, 0x8000000080008000#64, 0x000000000000808B#64,
   0x0000000080000001#64, 0x8000000080008081#64, 0x8000000000008009#64, 0x000000000000008A#64, 0x0000000000000088#64,
   0x0000000080008009#64, 0x000000008000000A#64, 0x000000008000808B#64, 0x800000000000008B#64, 0x8000000000008089#64,
   0x8000000000008003#64, 0x8000000000008002#64, 0x8000000000000080#64, 0x000000000000800A#64, 0x800000008000000A#64,
   0x8000000080008081#64, 0x8000000000008080#64, 0x0000000080000001#64, 0x8000000080008008#64]

/-- The rotation offsets of Keccak, lane x + 5 y. -/
def keccakRot : List Nat := [0, 1, 62, 28, 27, 36, 44, 6, 55, 20, 3, 10, 43, 25, 39, 41, 45, 15, 21, 8, 18, 2, 61, 56, 14]

/-- One round of Keccak-f[1600] on its 25 lanes. -/
def keccakRound (a : List (BitVec 64)) (rc : BitVec 64) : List (BitVec 64) :=
  let at' (l : List (BitVec 64)) (i : Nat) : BitVec 64 := l.getD i 0#64
  let c := (List.range 5).map (fun x => at' a x ^^^ at' a (x + 5) ^^^ at' a (x + 10) ^^^ at' a (x + 15) ^^^ at' a (x + 20))
  let d := (List.range 5).map (fun x => at' c ((x + 4) % 5) ^^^ (at' c ((x + 1) % 5)).rotateLeft 1)
  let t := (List.range 25).map (fun i => at' a i ^^^ at' d (i % 5))
  let b := (List.range 25).map (fun i =>
    let x := i % 5
    let y := i / 5
    let x0 := (x + 3 * y) % 5
    (at' t (x0 + 5 * x)).rotateLeft (keccakRot.getD (x0 + 5 * x) 0))
  let e := (List.range 25).map (fun i =>
    let y5 := 5 * (i / 5)
    at' b i ^^^ ((at' b ((i % 5 + 1) % 5 + y5) ^^^ 0xFFFFFFFFFFFFFFFF#64) &&& at' b ((i % 5 + 2) % 5 + y5)))
  match e with
  | [] => []
  | h :: r => (h ^^^ rc) :: r

/-- Keccak-f[1600]. -/
def keccakF (a : List (BitVec 64)) : List (BitVec 64) := keccakRC.foldl keccakRound a

/-- A block of bytes exclusive-ORed into the first lanes. -/
def keccakAbsorb (a : List (BitVec 64)) (blk : Bytes) : List (BitVec 64) :=
  (List.range 25).map (fun i => a.getD i 0#64 ^^^ BitVec.ofNat 64 (leNat ((blk.drop (8 * i)).take 8)))

/-- SHAKE256 absorbs every whole block of 136 bytes and then the padded rest; `n` bounds the blocks. -/
def shakeAbsorb : Nat → List (BitVec 64) → Bytes → List (BitVec 64)
  | 0, a, _ => a
  | n + 1, a, m =>
    if m.length < 136 then
      let pad := m ++ [0x1F#8] ++ zeroBytes (135 - m.length)
      keccakF (keccakAbsorb a (pad.set 135 (pad.getD 135 0#8 ^^^ 0x80#8)))
    else shakeAbsorb n (keccakF (keccakAbsorb a (m.take 136))) (m.drop 136)

/-- The first `n ≤ 136` bytes of SHAKE256 over `m`. -/
def shake256 (n : Nat) (m : Bytes) : Bytes :=
  ((shakeAbsorb (m.length / 136 + 1) (List.replicate 25 0#64) m).flatMap (fun l => leBytes 8 l.toNat)).take n

/-- The first 8 bytes of SHAKE256 as a little-endian number (R101, R157, R164). -/
def shake64 (m : Bytes) : Nat := leNat (shake256 8 m)

end Sys2Proof.Machine
end

