-- ==== Sys2Proof/Machine/State.lean ====
section
/-! DEFINITION. The state of the module as plain data, its reasons to stop, and the state right after reset. Reset is the state
that follows step 1 of R431, to which a hard reset returns (R365). -/

namespace Sys2Proof.Machine

/-- Why a command ends the run. -/
inductive Fault where
  /-- A register write changed an RSV-P bit and has not been undone: the manual says that it binds nothing about the module's
  behaviour until it is (R471). Raised by `run` for every command that is not one of the ways out. Safe: the model stops. -/
  | notBound
deriving DecidableEq, Repr

/-- Why a command has no meaning. -/
inductive Refusal where
  /-- The command has no meaning yet; raised by arms of `exec` alone. Safe: nothing is claimed of it. -/
  | notModelled (mnemonic : String)
deriving DecidableEq, Repr

/-- The statuses of R445. -/
inductive Status where
  | ok | denied | range | overlap | full | state | busy | role | key | lease | lost
  | identity | tooLarge | signature | version | opcode | length | noFw | image | rejected
deriving DecidableEq, Repr

/-! ### What the module sends -/

/-- What left the module, or what one block handed to another whose arrival is a command of its own. -/
inductive Out where
  /-- A message response (R442): port, transaction, tag, the request's MINOR, status, payload. -/
  | resp (src : Src) (txn tag minor : Nat) (status : Status) (payload : Bytes)
  /-- A register response (R463, R495): accessor, transaction, status, data (8 bytes at most). -/
  | regResp (who : Acc) (txn : Nat) (status : Status) (data : Nat)
  /-- A host access that completes as an Unsupported Request (R463). -/
  | unsupported (port : Fin 16)
  /-- A report sent on a link (R448): REPORT_SEQ, code, payload. -/
  | report (l : Link) (seq code : Nat) (payload : Bytes)
  /-- A packet whose last cell has crossed to a fabric port, in the order of R246 and R247 (R219). -/
  | pkt (port : Nat) (p : Pkt)
  /-- A packet of a local block whose last cell has crossed to another local block, by internal ports: it comes back as its own
  row's command (R242, R245). -/
  | loc (inp outp : Nat) (p : Pkt)
  /-- A copy handed to the link of the analysis port (R237): the port, prefix and packet. -/
  | copy (port : Nat) (bytes : Bytes)
  /-- A flit sent on a port (R270): its 256 bytes, and the symbols that they put on each wavelength (R273). -/
  | flit (port : Nat) (bytes : Bytes) (light : List (Nat × List Nat))
  /-- A packet assembled from flits, whose row is a command of its own (R255). -/
  | assembled (port : Nat) (bytes : Bytes)
  /-- An LSA whose last cell has crossed to a fabric port (R323, R324). -/
  | lsa (port : Nat) (l : Lsa)
  /-- A Deadbolt message whose last cell has crossed to a fabric port (R354). -/
  | deadbolt (port : Nat) (d : Deadbolt)
  /-- A DMA read of accelerator memory (R309): number, port, device address, length. -/
  | dmaRead (id port addr len : Nat)
  /-- A DMA write to accelerator memory (R309): port, device address, bytes. -/
  | dmaWrite (port addr : Nat) (data : Bytes)
  /-- An MSI-X interrupt (R311). -/
  | msix (port vector : Nat)
  /-- A CXL.mem load answered with data and its meta state (R307): port, host address, data, exclusive or shared, poison. -/
  | memData (port : Fin 16) (hpa : Nat) (data : Bytes) (state : Nat) (poison : Bool)
  /-- A CXL.mem request completed without data (R307). -/
  | memCmp (port : Fin 16) (hpa : Nat) (state : Nat)
  /-- A back-invalidation snoop (R78): port, line, whether it asks for invalidation. -/
  | biSnp (port line : Nat) (inv : Bool)
  /-- An event record written to a log of an attachment (R312). -/
  | event (attach : Nat) (kind : Nat) (args : List Nat)
  /-- A CXL mailbox or DOE answer: port, success, bytes (R312, R392, R315). -/
  | mailbox (port : Fin 16) (code : Nat) (payload : Bytes)
  /-- A debug port response (R456): status, data. -/
  | debug (status data : Nat)
  /-- A table walk started (R102): partition, FVA; it ends as TABLE_WALK_DONE. -/
  | walk (part fva : Nat)
deriving DecidableEq, Repr

/-! ### Start-up, identity, image (R431 to R437, R389) -/

structure Sys where
  conv : Bool             -- the conversion's outputs are on (R400)
  aonOnly : Bool          -- only the always-on domain is supplied, after a thermal shutdown (R412)
  imgRead : Bool          -- the boot ROM has read the flash (R431 step 2)
  imgOk : Bool            -- FWM_STAT.WOQUEL_OK
  imgErr : Nat            -- FWM_BOOT.WOQUEL_ERR
  spine : Bool            -- the role (R1 to R3)
  moduleId : Nat
  reserveGiB : Nat        -- POOL_RESERVE (R62)
  attachMap : List Nat    -- byte p: the attachment of CXL port p, or 31 (R297)
  startDark : Bool
  reqCosign : Bool
  opKey : Option Bytes
  helper : Bytes          -- IDENTITY_HELPER (R407)
  presets : List (Nat × Nat)
  certChain : Bytes       -- CERT_CHAIN of the Woquel image (R392, R435)
  wqDigest : Bytes
  idOk : Bool             -- SEC_STAT.ID_OK
  idDone : Bool           -- regeneration has ended (R389, R390)
  debugSeen : Bool        -- SEC_STAT.DEBUG_SEEN
deriving DecidableEq, Repr

/-! ### Clocks (R413 to R418) -/

structure Clk where
  src : Nat               -- 0 oscillator, 1 reference / 4, 2 root / 240
  refOk : Bool
  rootLock : Bool
  stopped : Bool          -- every domain but AON stopped (R415)
  gated : Nat             -- bits of CLK_STAT.GATED
  closed : List Nat       -- unit gates closed (R416), rising
deriving DecidableEq, Repr

/-! ### Power (R400 to R412) -/

inductive PwrSt where
  | standby | dark | lighting | lit | darkening | held
deriving DecidableEq, Repr

/-- A ramp of R406: none, one waiting for its stagger offset, one moving; `up` its direction. -/
inductive Ramp where
  | none
  | waiting (up : Bool)
  | moving (up : Bool)
deriving DecidableEq, Repr

structure Pwr where
  st : PwrSt
  a : Nat                 -- allowance, in hundredths of a watt
  ramp : Ramp
  rampN : Nat             -- ramps since the start (R407)
  lastUs : Nat            -- PWR_STAGGER.LAST_US
  lull : Bool             -- a lull runs (R408)
  lullHeld : Bool         -- it has reached HOLD_MS
  pin : Bool              -- PWR_BRAKE_N low
  inputBrake : Bool       -- R400
  thermBrake : Bool       -- R412
  thermal : Bool          -- the thermal ceiling is in force
  capLag : Bool
  capClamped : Bool
  fill : Nat              -- fill in hundredths of a watt
  slewShort : Bool
  inputLow : Bool
  inputHigh : Bool
  demand : Nat            -- D of the last tick, in hundredths of a watt
  draw : Nat              -- PWR_MEAS.DRAW_W
  vin : Nat               -- PWR_VIN.CV
  tj : Nat
  gddr : Nat
  starting : Bool         -- the start-up of the running image has still to light the ports (R431 step 8)
deriving DecidableEq, Repr

/-! ### Health and ageing (R419 to R425) -/

structure Hlt where
  pen : Tab Nat           -- penalty of part i in hundredths of a point
  events : Tab Nat        -- events of this second, at 16 × part + kind
  crossed : Tab Nat       -- thresholds acted on, by part (R425)
  vcore : Nat             -- mV
  ageMin : Nat            -- HLT_PLAN_AGE.MIN, advanced by HEALTH_HOUR
  plan : Bool             -- a margin plan runs
  planned : Bool          -- one has ended since the start
  deferred : Bool         -- GDDR_DEFERRED
  plans : Nat             -- plans since the start
  vmin : Tab Nat          -- minimum voltage by slice
  slope : Tab Nat         -- slope efficiency by laser, in nW of OMA per 10 µA of bias, as the sensor last gave it
  bias : Tab Nat          -- bias by laser, in 10 µA
  rebias : Tab Nat        -- bias awaiting the next rotation step or training, by laser (R421)
  firstTr : Tab Nat       -- windows at the first training: MEM_TR_TIME at 2 × channel, MEM_TR_VOLT at 2 × channel + 1
  srErr : Tab Nat         -- corrected SRAM errors since the last plan, by 2^20 × slice + row
  remaps : Tab Nat        -- rows remapped, by slice
  replan : Tab Nat        -- GDDR7 channels to retrain at the next plan (R425)
  record : Bytes          -- the latest ageing record (R441)
deriving DecidableEq, Repr

/-! ### Management: lease, links, outstanding responses (R381, R442, R496) -/

/-- A response still outstanding on a port: the request it answers and the row that owes it. -/
structure Owed where
  src : Src
  txn : Nat
  tag : Nat
  minor : Nat
  why : Nat               -- 1 XLT_INVAL, 2 EXT_SHACKLE, 3 FW_COMMIT, 4 PART_RESET held, 5 KEY_LOAD held,
                          -- 6 EXT_MIRROR, 9 held by the Hinge pause
  key : Nat               -- the partition or extent concerned
deriving DecidableEq, Repr

structure Mgt where
  holder : Option Link
  heardNs : Nat           -- local time of the holder's last message
  leaseMs : Nat           -- LEASE_MS in force (R399)
  last : Tab (Nat × Out)  -- the last TXN of link 0 or 1 and its response (R496)
  owed : List Owed
deriving DecidableEq, Repr

/-! ### Firmware, log, reports (R438 to R455) -/

structure Image where
  version : Nat
  digest : Bytes
  recWrite : Nat
  recMin : Nat
  recMax : Nat
  msgMinor : Nat
  cosigned : Bool
deriving DecidableEq, Repr

structure Session where
  src : Src
  imgLen : Nat
  histLen : Nat
  img : Tab Byte          -- every byte received is listed
  hist : Tab Byte
deriving DecidableEq, Repr

/-- A report held for a link (R448). -/
structure Report where
  seq : Nat
  code : Nat
  payload : Bytes
deriving DecidableEq, Repr

structure Fw where
  img : Option Image      -- the running image
  hinged : Bool
  session : Option Session
  timedOut : Option Src   -- the port whose session timed out: its next FW_DATA or FW_COMMIT meets STATE (R441)
  hinge : Option Image    -- the new image while the Hinge timer runs
  record : Bytes          -- the handover record in firmware working memory (R451)
  held : List Instr       -- requests and resets held during the pause, oldest first (R450, R368)
  okCount : Nat
  rejCount : Nat
  log : Tab Bytes         -- log ring: 64-byte entries by index
  logSeq : Nat
  seqA : Nat              -- next REPORT_SEQ of MGT-A
  seqB : Nat
  repA : List Report      -- unacknowledged, oldest first
  repB : List Report
deriving DecidableEq, Repr

/-! ### The register window (ch. 17) -/

/-- What one accessor holds (R472, R469, R480). -/
structure AccSt where
  ind : Nat
  view : Bool
  unlocked : Bool
  timeHi : Nat
  latchHi : Nat
deriving DecidableEq, Repr

/-- What the holding registers keep of one instant (R476): the counts, the measurement registers, the penalties and minimum voltages
behind the scores, the ports whose PHY PLL is unlocked, the root's lock, the role. -/
structure Snap where
  cnt : Tab Nat
  ind : Tab Word
  pen : Tab Nat
  vmin : Tab Nat
  nolock : List Nat
  root : Bool
  spine : Bool
deriving DecidableEq, Repr

structure Regs where
  cfg : Tab Word          -- RW, RW-L and RSV-P bits by offset, where they differ from reset
  cnt : Tab Nat           -- saturating counts by offset
  ind : Tab Word          -- indirect measurement registers by address
  held : Option Snap      -- the holding registers; none before the first snapshot, when they read zero (R476)
  accs : Tab AccSt
  latchSeq : Nat
  latchNs : Nat
  cfgErr : Bool
  armed : Bool
  rsvp : Bool             -- TOP_STAT.RSVP_CHANGED
  crc : Word              -- TOP_CFGCRC
  ref : Word              -- TOP_CFGCRC_REF
deriving DecidableEq, Repr

/-! ### Fault queue (R369 to R373) -/

structure FRec where
  cls : Nat
  block : Nat
  sev : Nat
  part : Option Nat
  seq : Nat
  timeNs : Nat
  addr : Nat
  detail : Nat
deriving DecidableEq, Repr

structure Flt where
  q : List FRec           -- oldest first
  seq : Nat
  lost : Bool
deriving DecidableEq, Repr

/-- A translation in use (R12): its partition, the 64 KiB page number of its page's base, its level, and the invalidation number under which it
was read. -/
structure Use where
  part : Nat
  page : Nat
  level : Nat
  seq : Nat
deriving DecidableEq, Repr

/-! ### Debug port (R456 to R459) -/

structure Dbg where
  en : Bool
  halted : List Nat       -- cores, rising
  bps : Tab Nat           -- breakpoint n of core c at 8 c + n
  regs : Tab Nat          -- registers the port has written, at 65536 c + r, since the core last ran
  runs : Tab Nat          -- times core c has run since DBG_EN rose
  mem : Tab Byte          -- control memory
  lastSt : Nat            -- the previous frame's result
  lastData : Nat
  count : Nat             -- accesses to partitions started
  busy : Option Nat       -- the one that has not finished
  used : Option Use       -- the translation that it uses
deriving DecidableEq, Repr

/-! ### Partitions (R374 to R398) -/

inductive PartSt where
  | free | idle | active | resetting | torn | releasing
deriving DecidableEq, Repr

/-- A key slot's key (R385); `retired`: the local time at which it retired. -/
structure Key where
  id : Nat
  key : Bytes
  retired : Option Nat
deriving DecidableEq, Repr

structure Part where
  st : PartSt
  gen : Nat                       -- generation tag
  retired : List (Nat × Nat)      -- generation tags retired, with the local time (R360)
  prm : PartParams
  binds : List (Nat × Nat)        -- attachment, slot; attachments rising
  cur : Option Key
  nxt : Option Key
  consent : Option Bytes
  trace : Bytes
  epoch : Nat
  closing : Option (List (Nat × Nat))  -- a close in progress: queue and ring index of its EPOCH-CLOSEs (R52, R53)
  rst : Option Nat                -- a reset that waits at step 4 (R360): its policy
  tabs : Tab Nat                  -- its translation tables in the pool reserve: level by home address (R93, R97)
  ents : Tab (BitVec 128)         -- their entries that are not zero, by home address (R94, R95)
  digest : BitVec 64              -- the table digest (R101)
  invSeq : Nat                    -- invalidation sequence number (R113)
  engs : List (Nat × Nat × Nat)   -- tile engine, queue, bytes moved when the partition was torn down (R362)
  cause : Nat                     -- cause code of the Deadbolt that last tore it down (R351, R362)
deriving DecidableEq, Repr

/-! ### Pool memory and extents (R56 to R91) -/

inductive ExtSt where
  | free | shackled | mirrored | rebuilding | revoking | retained
deriving DecidableEq, Repr

inductive ExtKind where
  | home | mirror | present
deriving DecidableEq, Repr

/-- A command to an extent that waits until the one under way has had its answer (R68): EXT_MIRROR with its target, EXT_REVOKE with its
disposition and timeout, EXT_SHACKLE with partition, job tag, tenant and FVA base. -/
inductive ExtCmd where
  | mirror (target : Nat)
  | revoke (disp us : Nat)
  | shackle (p job ten fva : Nat)
deriving DecidableEq, Repr

/-- An extent record (R65) and what the module keeps beside it. -/
structure Ext where
  st : ExtSt
  kind : ExtKind
  log2 : Nat
  retained : Bool
  coherent : Bool
  torn : Bool
  mv : Bool
  eid : Nat
  home : Nat
  mirror : Nat
  base : Nat
  fva : Nat
  part : Nat
  job : Nat
  tenant : Nat
  mask : Nat
  target : Nat
  hw : Nat
  forcedUs : Nat
  scrub : Nat
  origHome : Nat
  origExt : Nat
  promoted : Bool
  accepted : Nat          -- attachments whose host has accepted the extent (R304)
  asked : Nat             -- attachments whose answer is awaited (R304)
  dbSeen : Bool           -- Deadbolt has reached the partition since the extent was shackled (R74)
  locked : Bool           -- the rebuild's step at HIGH_WATER is locked (R85)
  retain : Bool           -- disposition of the revocation in progress
  ended : Nat             -- requests ended at step 4 of R88
  forced : Bool           -- the forced-revoke timeout has expired
  drained : Bool          -- the drain of the revocation has ended (R88 step 3)
  scrubbing : Bool        -- a scrub of firmware runs (R73, R88 step 5)
  want : Option (Nat × Nat × Nat × Nat)  -- EXT_SHACKLE under way: partition, job tag, tenant, FVA base (R73)
  later : List (Req × ExtCmd)             -- commands that wait for one under way (R68)
deriving DecidableEq, Repr

/-- A snoop-filter entry (R77): sharers by attachment; `owner` when it is OWNED; `bi` the holders whose answer is awaited, with
the entry's next sharers once all have answered; `grant` the attachment that then becomes its owner (R78). -/
structure Snoop where
  sharers : Nat
  owner : Option Nat
  part : Nat
  age : Nat
  bi : Option (Nat × Nat)
  grant : Option Nat
deriving DecidableEq, Repr

/-- Whom an access serves, and how its answer goes back. -/
inductive Who where
  | fabric (h : Hdr) (port : Option (Fin 64))   -- a packet, answered by a reply or an acknowledgement
  | host (m : MemReq) (attach : Nat) (snp : Snp) (mv : MetaVal)
  | queue (q idx off : Nat)                     -- a piece of an operation of this module
  | debug (n : Nat)                             -- access n of the debug port to a partition's data (R458)
  | coll (h : Hdr) (ctx seq rank addr : Nat)    -- result bytes of a collective for a member here, with their FVA (R174)
deriving DecidableEq, Repr

/-- What an access does at the home. -/
inductive What where
  | read (len : Nat) (kind : ReadKind)
  | write (data : Bytes) (mask : Option (List Bool)) (ctr : Option Nat) (total : Nat)
  | atomic (op ty operand compare : Nat) (ctr : Option Nat)
deriving DecidableEq, Repr

/-- An access to this module's pool, the translation that it used where it is not a tile's, and, where a part of it met an uncorrectable
word before, that word's address (R86). -/
structure Access where
  who : Who
  addr : Nat
  ext : Nat
  redirect : Option Nat           -- ORIG_HOME of a REDIRECT request (R108)
  what : What
  used : Option Use := none
  hurt : Option Nat := none
deriving DecidableEq, Repr

/-- Why an access waits: back-invalidation of a line, a locked rebuild step, the mirror's write of bytes it touches, the mirror's
value of uncorrectable words, the promotion of a record, the duplicate-suppression table, an earlier ATOMIC on the same word. -/
inductive Why where
  | bi (line : Nat)
  | lock (ext : Nat)
  | mirror (wid : Nat)
  | fetch (wid : Nat)
  | promote (home ext : Nat)
  | dup                           -- the duplicate-suppression table is full (R336)
  | turn                          -- an earlier ATOMIC on the word waits (R30)
deriving DecidableEq, Repr

/-- A write that the home has applied and the mirror has not (R41, R83). -/
structure MirWait where
  wid : Nat
  ext : Nat
  addr : Nat
  len : Nat
  access : Option (Access × Nat)  -- the access to finish, with the old value of an ATOMIC
deriving DecidableEq, Repr

structure Pool where
  mem : Tab Byte
  bad : Tab Bool                  -- uncorrectable 8-byte words, by address / 8
  flip : Tab Nat                  -- wrong bits of the 72 of a word in its cells (R57, R59), by address / 8
  ext : Tab Ext                   -- extent records
  journal : Tab Ext               -- the extent journal (R66)
  snoop : Tab Snoop               -- by line number
  ageN : Nat                      -- snoop-filter entries allocated
  severed : List Nat              -- attachments severed (R81), rising
  waits : List (Why × Access)     -- accesses that wait, oldest first
  mirr : List MirWait
deriving DecidableEq, Repr

/-! ### Translation (R92 to R118) -/

/-- A translation cache entry (R105), most recently used first in the list. -/
structure CEnt where
  part : Nat
  page : Nat                      -- 64 KiB page number of the page base
  level : Nat                     -- 2, 3 or 4
  leaf : BitVec 128
  seq : Nat
  pf : Bool
deriving DecidableEq, Repr

/-- A store's operands (R307). -/
structure StoreArgs where
  mask : List Bool
  data : Bytes
  mv : MetaVal
deriving DecidableEq, Repr

/-- A CXL.mem request that waits: a load with its SnpType, or a store. -/
structure HostAcc where
  m : MemReq
  snp : Snp
  store : Option StoreArgs
deriving DecidableEq, Repr

/-- A walk in flight (R102): prefetch or demand, with the CXL.mem requests and the descriptors (queue and ring index) that wait for it. -/
structure Walk where
  part : Nat
  page : Nat
  seq : Nat
  pf : Bool
  loads : List HostAcc
  ops : List (Nat × Nat)
deriving DecidableEq, Repr

/-- An XLT_INVAL not yet complete (R116): the 64 KiB pages it covers, its sequence number, the pool data prefetches in flight at step 1. -/
structure Inval where
  src : Src
  part : Nat
  lo : Nat
  hi : Nat
  seq : Nat
  pfs : List Nat
deriving DecidableEq, Repr

/-- A pointer entry in the walk cache (R105): partition, home address of the entry, entry. -/
structure PtrEnt where
  part : Nat
  addr : Nat
  entry : BitVec 128
deriving DecidableEq, Repr

structure Xlt where
  cache : List CEnt
  ptrs : List PtrEnt              -- the walk cache, most recently used first
  walks : List Walk
  invals : List Inval
deriving DecidableEq, Repr

/-! ### Queues and tile engines (R119 to R151) -/

inductive QueSt where
  | disabled | running | halted
deriving DecidableEq, Repr

/-- What a lookup or a walk of an FVA ends at. -/
inductive Xl where
  | leaf (lv : Nat) (l : BitVec 128)
  | unmapped
  | poison
deriving DecidableEq, Repr

/-- A page that a tile has translated (R12, R111): the 64 KiB page number of its base, what its lookup or walk ended at, the invalidation number
then, and the byte at which the tile ends; 0 while the tile is under its pre-check. -/
structure Tr where
  page : Nat
  x : Xl
  seq : Nat
  hi : Nat
deriving DecidableEq, Repr

/-- A descriptor started and not completed. `cur` is the bytes cut into pieces, `tile` the end of the tile being cut, `checked` the end of the
last tile that has passed its pre-check, `moved` the bytes handed on (R33), `open_` the packets and requests not yet answered. -/
structure Op where
  idx : Nat
  d : Desc
  total : Nat
  cur : Nat
  tile : Nat
  checked : Nat
  tr : List Tr                    -- the translations of its tiles
  sent : Bool                     -- an ATOMIC or SIGNAL: its packet has been made
  moved : Nat
  wid : Nat
  open_ : Nat
  fail : Option (Nat × Nat)       -- first failure: status code and RESULT (R135, R134)
  stop : Nat                      -- after a failure: pieces from this byte on go nowhere (R33, R111)
  home : Option Nat               -- home module of the first destination byte, where a counter is named (R130)
  result : Nat                    -- RESULT where the operation completes with OK
  ports : List Nat                -- CXL ports that carried its data (R137)
deriving DecidableEq, Repr

/-- A part of a packet that one read of its source brings: its byte in the operation, its length, its bytes. -/
structure SrcRead where
  off : Nat
  len : Nat
  data : Option Bytes
deriving DecidableEq, Repr

/-- A packet's worth of an operation (R145), in the order in which it will be numbered (R37), with the reads of its source. -/
structure Piece where
  idx : Nat
  off : Nat
  len : Nat
  parts : List SrcRead
deriving DecidableEq, Repr

structure Que where
  st : QueSt
  part : Nat
  attach : Nat
  cls : Nat
  weight : Nat
  sqBase : Nat
  sqLog2 : Nat
  cqBase : Nat
  cqLog2 : Nat
  msix : Nat
  head : Nat                      -- next descriptor not yet started
  tail : Nat
  cqHead : Nat
  cqTail : Nat                    -- slot of the next record
  used : Nat                      -- records written and unconsumed (R136)
  phase : Bool
  arm : Bool
  ops : List Op                   -- in ring order
  pieces : List Piece
  flight : Nat                    -- descriptors in flight when its partition was torn down (R362)
deriving DecidableEq, Repr

/-- A tile engine that a quantum holds: its queue, bytes still to move. -/
structure Engine where
  q : Nat
  left : Nat
deriving DecidableEq, Repr

/-- A pool read cache segment (R147): queue, partition, FVA / 64 KiB, the descriptor it serves, its 256-byte blocks. -/
structure Seg where
  q : Nat
  idx : Nat
  part : Nat
  page : Nat
  home : Nat
  ext : Nat
  data : Bytes
  valid : List Bool
deriving DecidableEq, Repr

/-- A prefetch in flight (R150): the bytes of the segment that it fills, from `off` on, or cancelled. -/
structure Prefetch where
  q : Nat
  idx : Nat
  part : Nat
  page : Nat
  off : Nat
  home : Nat
  ext : Nat
  cancelled : Bool
deriving DecidableEq, Repr

structure Qs where
  ctx : Tab Que
  engines : Tab Engine
  fetchers : Tab Nat              -- stream prefetcher by queue (R146)
  segs : List Seg
  pf : Tab Prefetch               -- by request number
  pointer : Tab Nat               -- the round pointer of each class (R141)
deriving DecidableEq, Repr

/-! ### Landing counters -/

/-- Landing counters by number (R42); zero where not listed. -/
abbrev Counters := Tab Nat

/-! ### Endpoint table, routing, flows (R210 to R241, R331 to R340) -/

/-- An endpoint entry (R214). -/
structure Ep where
  v : Bool
  isLocal : Bool
  kind : Nat
  attach : Nat
  home : Nat
  detour : Bool
  pathVer : Nat
  members : List (Nat × Nat)      -- port and weight, ports rising
deriving DecidableEq, Repr

/-- A multicast packet under way at a tree module (R229): its branches not yet reported, its local deliveries not yet landed. -/
structure McRun where
  tree : Nat
  wid : Nat                       -- WID of the leg that brought it here, or of the operation at the root
  fwd : Nat                       -- WID of the legs that go on from here, which their reports name
  job : Nat
  gen : Nat
  vc : Nat
  src : Nat                       -- the EPID that issued the leg to this module
  branches : List Nat             -- branch EPIDs that have not reported
  localOpen : Nat
  excluded : Bool
  echo : Bool
  q : Option (Nat × Nat)          -- at the root: queue and ring index
  rate : Nat                      -- at the root of a multicast PUT: its rate in 1/64 GB/s (R234)
  gotAck : Bool                   -- a delivery report has come in this window
  gotEcho : Bool                  -- one with ECHO
deriving DecidableEq, Repr

/-- Analysis copying (R235). -/
structure Ana where
  en : Bool
  port : Nat
  flow : Bool
  src : Nat
  dir : Nat
  srcEpid : Nat
  dstEpid : Nat
  vc : Nat
  jobs : List Nat
  queue : List (Nat × Bytes)      -- copies not yet read out: job tag, prefix and packet (R238, R259)
deriving DecidableEq, Repr

/-! ### The switch core (R242 to R262) -/

/-- The region of the packet buffer from which a packet's cells come (R250): the retransmit store; the reservation of an ingress fabric port
for a channel and hop class, or its shared cells; the reservation of an internal input port for a channel, or its shared cells. -/
inductive Own where
  | store
  | fabRes (port vc cls : Nat)
  | fabShared (port : Nat)
  | intRes (port vc : Nat)
  | intShared (port : Nat)
deriving DecidableEq, Repr

/-- What the switch carries: a packet, or a VC0 message of repair or Deadbolt. -/
inductive Load where
  | pkt (p : Pkt)
  | lsa (l : Lsa) (hops : Nat)
  | deadbolt (d : Deadbolt) (hops : Nat)
deriving DecidableEq, Repr

/-- A packet in the packet buffer: its input port, its region, the local time at which it was written (R253). -/
structure Queued where
  inp : Nat
  own : Own
  since : Nat
  load : Load
deriving DecidableEq, Repr

/-- What an output lane keeps (R246, R247): its grant pointer for each channel, the deficit counts of VC1 and VC3 to VC7 in cells, and the index
of the channel last served. -/
structure OutLane where
  grant : List Nat
  drr : List Int
  last : Nat
deriving DecidableEq, Repr

/-- A packet under way by cut-through (R256, R257): its input port, the port that it leaves by (none once that port has gone), the
header with which it leaves, flits sent, cells, region. -/
structure Cut where
  inp : Nat
  outp : Option Nat
  h : Hdr
  k : Nat
  cells : Nat
  own : Own
deriving DecidableEq, Repr

/-- A source flow (R331). -/
structure SFlow where
  next : Nat
  acked : Nat
  rate : Nat                      -- 1/64 GB/s
  lastUs : Nat
  retxUs : Nat
  closing : Bool
  frozen : Bool                   -- toward a lost home (R338)
  gotAck : Bool                   -- in this window (R234)
  gotEcho : Bool
  job : Nat                       -- the job of its latest packet
  recs : List Pkt                 -- recorded packets, in SEQ order
  queue : List Pkt                -- packets held for the window, the store or the flow table (R20, R331, R333)
deriving DecidableEq, Repr

/-- A destination flow (R331). Packets ahead of the expected one are held by SEQ; a refused one leaves only its number (R225).
`open_`: the expected packet has been applied and is not yet visible (R35). `ce`: the packets not yet acknowledged that came with CE
(R233). `bad`: a packet of the operation under way was refused (R42). `op`: the operation whose LAST packet is still to come (R342). `refused`: the status that answered a refused SEQ. -/
structure DFlow where
  next : Nat
  lastUs : Nat
  held : Tab (Option (Pkt × Option (Fin 64)))
  open_ : Bool
  more : Nat                      -- deliveries of the open packet beside the one that closes it: results of several members
  ce : List Nat
  op : Option Nat
  refused : Tab Nat
  job : Nat                       -- the job of its latest packet
  bad : List Nat                  -- operations of which a packet has been refused, by WID (R33, R42)
deriving DecidableEq, Repr

/-- What an outstanding request of this module serves. -/
inductive For where
  | load (m : MemReq) (snp : Snp) (attach part : Nat) (u : Use)
  | store (m : MemReq) (attach part : Nat) (u : Use)
  | piece (q idx off : Nat)                      -- data for a piece of an operation
  | op (q idx : Nat)                             -- an ATOMIC, a SIGNAL, a PUT: the operation itself
  | mirrorRead (addr n : Nat)                    -- R60
  | mirrorWrite                                  -- R83
  | rebuild (ext k : Nat)                        -- R85: packet `k` of the locked step
  | mctl (m : MirrorCtl)                         -- R504
  | result (ctx seq : Nat)                       -- a result chunk sent to one module (R174, R176)
  | debug (n : Nat)                              -- access n of the debug port (R458)
  | prefetch                                     -- a prefetch, by the same number (R147)
deriving DecidableEq, Repr

/-- An outstanding request: source and destination EPIDs, channel, partition, extent named, what it serves. -/
structure OutReq where
  src : Nat
  dst : Nat
  vc : Nat
  part : Nat
  home : Nat
  ext : Nat
  serves : For
deriving DecidableEq, Repr

structure Fab where
  ep : Tab Ep
  homeMap : Tab (Nat × Bool)      -- pool EPID and LOST, by module
  trees : Tab TreeEntry
  runs : List McRun
  legs : Tab Nat                  -- the tree entry of the legs sent under a WID (R231)
  ana : Ana
  sflow : Tab SFlow               -- by flow number
  dflow : Tab DFlow
  shadow : Tab (Nat × Nat)        -- SHADOW NEXT_SEQ and job, by source, channel and home
  dup : Tab (Nat × Nat × Nat)     -- duplicate suppression: old value, expiry and job, by source and WID
  inv : Tab Nat                   -- invocation counts, by EPID and key slot identity (R383)
  nextWid : Nat
  reqs : Tab OutReq               -- by WID
  voq : Tab (List Queued)         -- queues by (input port, output port, channel) (R245): 2048 × input + 8 × output + channel
  blocks : List (Queued × Option Nat)  -- packets of local blocks for which the packet buffer has no cells yet, oldest first, with the
                                  -- fabric port of a VC0 message
  lanes : Tab OutLane             -- by output lane
  accept : Tab Nat                -- accept pointers, by input lane (R246)
  cuts : List Cut                 -- packets under way by cut-through
  ccMax : Nat                     -- FAB_CC_RATE.MAX in force in this window, in GB/s (R241)
  noRoute : List Queued           -- packets without a candidate (R223), oldest first
  redirWait : List (Pkt × Option (Fin 64))
  waitFlow : List Pkt             -- first packets of flows for which the flow table has no entry (R331), oldest first
deriving DecidableEq, Repr

/-! ### CXL ports (R292 to R319) -/

inductive CxlSt where
  | reset | training | ioOnly | up | down
deriving DecidableEq, Repr

/-- An event record of a CXL log (R312). -/
structure CxlEvt where
  handle : Nat
  kind : Nat                      -- 0 Add Capacity, 1 Forced Capacity Release, 2 a fault or teardown
  args : List Nat
deriving DecidableEq, Repr

structure CxlPort where
  st : CxlSt
  width : Nat
  trained : Nat
  l1 : Bool
  mem : Bool                      -- CXL.mem enabled by firmware
  bi : Bool
  ide : Bool
  ideErr : Bool                   -- an integrity failure is logged in the IDE status (R315)
  spdm : Bool
  low : Bool
  perst : Bool                    -- PERST_N low
  dead : Bool                     -- held DOWN by health (R425)
  aer : Bool                      -- an uncorrectable error is logged (R310, R32)
  dec : List (Option Decoder)     -- four decoders
  decErr : List Bool
  evts : List CxlEvt
  evtN : Nat
  held : List Instr               -- CXL.mem requests held while the link retrains (R294)
  dmaq : List Out                 -- CXL.io requests held for the link, or for one of the 256 reads (R294, R309)
deriving DecidableEq, Repr

/-- An outstanding CXL.io read (R309): port and what it serves. -/
inductive DmaFor where
  | piece (q idx off : Nat) (addr : Nat)         -- source data of a piece
  | fence (q idx : Nat)                          -- the zero-length read of R137 before a record
  | landed (e : Hdr) (port : Option (Fin 64)) (part att : Nat) (ctr : Option Nat) (total : Nat)  -- the zero-length read of R26
  | result (e : Hdr) (part : Nat) (ctr : Option Nat) (total ctx seq rank addr len : Nat)     -- the same, for a member's result bytes
deriving DecidableEq, Repr

structure Cxl where
  ports : Tab CxlPort
  dma : Tab (Nat × DmaFor)
  nextId : Nat
deriving DecidableEq, Repr

/-! ### Repair (R320 to R348) -/

structure Repair where
  lsdb : Tab Lsa                  -- by origin
  lsaSeq : Nat                    -- next LSA_SEQ of this module
  hold : Option Nat               -- local time of the first new LSA of the repair in progress
  late : List Nat                 -- requests whose timer has expired during the hold, by WID (R34)
  leaving : Bool                  -- TRAY_RELEASE_N asserted
  isolated : Bool
  out : List Nat                  -- EPIDs of this module that wait to be assigned again (R329)
  drain : List Nat                -- ports to drain (R345)
  retire : List Nat               -- ports firmware turns off once out of every path set (R346)
  lastUs : Nat
  seen : List (Nat × Nat × Nat)   -- Deadbolt pairs seen, with local time, newest first (R354)
  dbSeq : Nat
  nbr : Tab (Nat × Nat)           -- the last neighbour module and port found, by port (R322)
deriving DecidableEq, Repr

/-! ### Biria ports (R263 to R291) -/

/-- A swap in a direction (R282): lane, from, to, failure or planned; `sent` tells that SWAP_DONE has gone or come. -/
structure Swap where
  lane : Nat
  src : Nat
  dst : Nat
  failed : Bool
deriving DecidableEq, Repr

/-- One direction of a port: its lane map, spare, retired wavelengths, swap and calibration in progress. -/
structure Dir where
  map : List Nat                  -- wavelength of lane L
  spare : Option Nat
  retired : List Nat              -- rising
  swap : Option Swap
  cal : Option Nat                -- the freed wavelength in calibration (R285)
  lost : List Nat                 -- wavelengths that this receiving end has seen fail (R281)
deriving DecidableEq, Repr

inductive OptSt where
  | off | training | up | spareless | degraded | down
deriving DecidableEq, Repr

/-- A sequenced flit as it was first sent, which a replay sends again (R274): whether it is a LINK flit, its fields, its message bytes; the
region of its cell, which leaves with its acknowledgement (R275), and the destination of its packet. -/
structure TxFlit where
  seq : Nat
  link : Bool
  sop : Bool
  eop : Bool
  abandon : Bool
  crVc : Nat
  crClass : Nat
  crShared : Bool
  crCount : Nat
  msg : Bytes
  own : Option Own
  dst : Nat
deriving DecidableEq, Repr

structure OptPort where
  st : OptSt
  told : OptSt                    -- the state that repair was last told (R280)
  step : Nat                      -- training step of R278, 1 to 6
  nbr : Option (Nat × Nat)
  rx : Dir
  tx : Dir
  expect : Nat                    -- next LSEQ expected (R274)
  nak : Bool
  next : Nat                      -- next LSEQ to send
  sent : List TxFlit              -- unacknowledged, oldest first
  data : List TxFlit              -- DATA flits framed and not yet sent (R275, R282), oldest first
  links : List TxFlit             -- LINK flits not yet sent
  ret : List (Nat × Nat × Bool × Nat)  -- credit returns not yet sent: channel, class, shared, count (R251, R271)
  pos : Nat                       -- bytes of the stream sent since training, modulo 840 (R273)
  scr : List (BitVec 31)          -- the scramblers of its sending lanes (R273)
  replays : Nat                   -- consecutive replays without an advance of ACK
  asm : Option (Nat × Bytes)      -- a packet in reassembly: flits so far, their message bytes (R255)
  credit : Tab Nat                -- reserved credit held, by 8 × VC + class (R251)
  shared : Nat                    -- shared cells held
  granted : Nat                   -- shared cells granted to the upstream and not used (R251)
  stall : Bool                    -- DATA flits stopped by a failure swap (R282)
  idle : Bool                     -- at idle power (R266)
  pll : Bool                      -- its PHY PLL is locked (R288)
deriving DecidableEq, Repr

/-! ### Collectives (R152 to R185) -/

inductive GrpSt where
  | building | active | fenced
deriving DecidableEq, Repr

structure Grp where
  st : GrpSt
  p : GrpParams
  members : Tab Nat               -- EPID by rank
  hosts : List HostEntry          -- in the order written
  digest : Nat
  seqs : Tab Nat                  -- next sequence number by local rank
  abort : Option (Nat × Nat × Nat) -- latest aborted sequence number, its code and RESULT (R181)
  fencedBy : Nat                  -- RESULT bits [29:0] of the fence (R183)
  depth : Nat                     -- effective depth of the last collective (R172)
deriving DecidableEq, Repr

/-- A collective that a local member has entered: the COLL, the source bytes cut so far, the result bytes landed. -/
structure CMem where
  ctx : Nat
  seq : Nat
  rank : Nat
  q : Nat
  idx : Nat
  cop : CollOp
  sent : Nat
  got : Nat
  going : Bool                    -- ALL_TO_ALL: GO has come (R177)
  told : Bool                     -- its report to the top vertex has gone
deriving DecidableEq, Repr

/-- A vertex with work (R166): the headers and the staged bytes of its two operands, from offset `done_` on; its depth in chunks, and the bytes
that wait for a staging buffer (R172). -/
structure CVert where
  ctx : Nat
  seq : Nat
  level : Nat
  rank : Nat
  cop : CollOp
  lh : Option CollRec
  rh : Option CollRec
  l : Bytes
  r : Bytes
  done_ : Nat
  sentHdr : Bool
  bad : Bool                      -- its output has MISMATCH set, or an operand was poisoned: data is discarded (R169, R206)
  depth : Nat
  wl : Bytes
  wr : Bytes
deriving DecidableEq, Repr

/-- The top vertex's record of a collective (R174, R176): result packets not yet acknowledged, the bytes sent, the members' reports
of ALL_TO_ALL. -/
structure CTop where
  ctx : Nat
  seq : Nat
  cop : CollOp
  total : Nat
  sent : Nat
  open_ : Nat
  reports : List Nat
  done_ : Bool
  wid : Option Nat                -- the operation of a chunk that goes out piece by piece, in a group of one (R166)
deriving DecidableEq, Repr

structure Col where
  grps : Tab Grp
  mems : List CMem
  verts : List CVert
  tops : List CTop
  wait : List (Nat × Pkt)         -- records and data that the COL block has yet to offer to its ports, by group context (R160, R249)
  credit : Tab Int                -- the claims of the groups that wait, in chunks × 64; 4096 stands for the open groups
  turn : Option Nat               -- the group whose chunk is being offered
deriving DecidableEq, Repr

/-! ### The whole state -/

/-- The state of the module. -/
structure State where
  pending : List Instr
  out : List Out                  -- newest first
  seed : Nat                      -- free values taken so far: the model's own (log entry 1)
  now : Nat                       -- local time in ns (R480)
  sys : Sys
  clk : Clk
  pwr : Pwr
  hlt : Hlt
  mgt : Mgt
  fw : Fw
  regs : Regs
  flt : Flt
  dbg : Dbg
  parts : Tab Part
  dossiers : Tab Bytes
  pool : Pool
  xlt : Xlt
  qs : Qs
  ctrs : Counters
  fab : Fab
  cxl : Cxl
  rep : Repair
  opt : Tab OptPort
  col : Col
deriving DecidableEq, Repr

/-! ### Defaults: what an unlisted number of a table reads as -/

/-- The parameters of a partition never set up. -/
def PartParams.none : PartParams := ⟨0, 0, 0, [], false, 0, 0, 0, 0, 0, 0, 0, false, false⟩

/-- A FREE partition whose generation tag is 0 (R398). -/
def Part.init : Part :=
  { st := .free, gen := 0, retired := [], prm := PartParams.none, binds := [], cur := none, nxt := none, consent := none,
    trace := [], epoch := 0, closing := none, rst := none, tabs := [], ents := [], digest := 0#64, invSeq := 0,
    engs := [], cause := 0 }

/-- A FREE extent record. -/
def Ext.init : Ext :=
  { st := .free, kind := .home, log2 := 0, retained := false, coherent := false, torn := false, mv := false, eid := 0, home := 0,
    mirror := 0, base := 0, fva := 0, part := 0, job := 0, tenant := 0, mask := 0, target := 0, hw := 0, forcedUs := 0,
    scrub := 0, origHome := 0, origExt := 0, promoted := false, accepted := 0, asked := 0, dbSeen := false, locked := false,
    retain := false, ended := 0, forced := false, drained := false, scrubbing := false,
    want := none, later := [] }

/-- A DISABLED queue. -/
def Que.init : Que :=
  { st := .disabled, part := 0, attach := 0, cls := 0, weight := 0, sqBase := 0, sqLog2 := 0, cqBase := 0, cqLog2 := 0,
    msix := 0, head := 0, tail := 0, cqHead := 0, cqTail := 0, used := 0, phase := true, arm := false, ops := [], pieces := [],
    flight := 0 }

/-- An invalid endpoint entry (log entry 3: the table reads as zero after reset). -/
def Ep.init : Ep :=
  { v := false, isLocal := false, kind := 0, attach := 0, home := 0, detour := false, pathVer := 0, members := [] }

/-- An invalid tree entry. -/
def TreeEntry.init : TreeEntry := ⟨false, false, 0, 0, 0, 0, 0, 0, false, [], true⟩

/-- A direction of a port that has not trained: no spare, lanes on wavelengths 0 to 7 (OPT_PORT_MAP's reset value, R290). -/
def Dir.init : Dir := { map := [], spare := none, retired := [], swap := none, cal := none, lost := [] }

/-- A port that is OFF. -/
def OptPort.init : OptPort :=
  { st := .off, told := .off, step := 0, nbr := none, rx := Dir.init, tx := Dir.init, expect := 0, nak := false, next := 0, sent := [],
    data := [], links := [], ret := [], pos := 0, scr := [], replays := 0, asm := none, credit := [], shared := 0, granted := 0,
    stall := false, idle := false, pll := true }

/-- An output lane that has served nothing. -/
def OutLane.init : OutLane := ⟨[0, 0, 0, 0, 0, 0, 0, 0], [0, 0, 0, 0, 0, 0], 0⟩

/-- A CXL port held in reset. -/
def CxlPort.init : CxlPort :=
  { st := .reset, width := 0, trained := 0, l1 := false, mem := false, bi := false, ide := false, ideErr := false, spdm := false, low := false,
    perst := true, dead := false, aer := false, dec := [none, none, none, none], decErr := [false, false, false, false],
    evts := [], evtN := 0, held := [], dmaq := [] }

/-- An accessor after reset (R479). -/
def AccSt.init : AccSt := ⟨0, false, false, 0, 0⟩

/-- The module right after step 1 of R431. -/
def State.reset : State :=
  { pending := [], out := [], seed := 0, now := 0
    sys := { conv := true, aonOnly := false, imgRead := false, imgOk := false, imgErr := 0, spine := false, moduleId := 0,
             reserveGiB := 4, attachMap := List.replicate 16 31, startDark := false, reqCosign := false, opKey := none,
             helper := [], presets := [], certChain := [], wqDigest := [], idOk := false, idDone := false, debugSeen := false }
    clk := { src := 0, refOk := false, rootLock := false, stopped := false, gated := 0, closed := [] }
    pwr := { st := .standby, a := 0, ramp := .none, rampN := 0, lastUs := 0, lull := false, lullHeld := false, pin := false,
             inputBrake := false, thermBrake := false, thermal := false, capLag := false, capClamped := false, fill := 0,
             slewShort := false, inputLow := false, inputHigh := false, demand := 0, draw := 0, vin := 0, tj := 0, gddr := 0,
             starting := false }
    hlt := { pen := [], events := [], crossed := [], vcore := 750, ageMin := 0, plan := false, planned := false, deferred := false,
             plans := 0, vmin := [], slope := [], bias := [], rebias := [], firstTr := [], srErr := [], remaps := [], replan := [],
             record := [] }
    mgt := { holder := none, heardNs := 0, leaseMs := 300, last := [], owed := [] }
    fw := { img := none, hinged := false, session := none, timedOut := none, hinge := none, record := [], held := [], okCount := 0,
            rejCount := 0, log := [], logSeq := 0, seqA := 0, seqB := 0, repA := [], repB := [] }
    regs := { cfg := [], cnt := [], ind := [], held := none, accs := [], latchSeq := 0, latchNs := 0, cfgErr := false,
              armed := false, rsvp := false, crc := 0#32, ref := 0#32 }
    flt := { q := [], seq := 0, lost := false }
    dbg := { en := false, halted := [], bps := [], regs := [], runs := [], mem := [], lastSt := 0, lastData := 0, count := 0, busy := none, used := none }
    parts := [], dossiers := []
    pool := { mem := [], bad := [], flip := [], ext := [], journal := [], snoop := [], ageN := 0, severed := [], waits := [], mirr := [] }
    xlt := { cache := [], ptrs := [], walks := [], invals := [] }
    qs := { ctx := [], engines := [], fetchers := [], segs := [], pf := [], pointer := [] }
    ctrs := []
    fab := { ep := [], homeMap := [], trees := [], runs := [], legs := [],
             ana := { en := false, port := 0, flow := false, src := 0, dir := 0, srcEpid := 0, dstEpid := 0, vc := 0, jobs := [], queue := [] },
             sflow := [], dflow := [], shadow := [], dup := [], inv := [], nextWid := 0, reqs := [], voq := [], blocks := [], lanes := [], accept := [],
             cuts := [], ccMax := 256, noRoute := [],
             redirWait := [], waitFlow := [] }
    cxl := { ports := [], dma := [], nextId := 0 }
    rep := { lsdb := [], lsaSeq := 0, hold := none, late := [], leaving := false, isolated := false, out := [], drain := [], retire := [],
             lastUs := 0, seen := [], dbSeq := 0, nbr := [] }
    opt := [], col := { grps := [], mems := [], verts := [], tops := [], wait := [], credit := [], turn := none } }

end Sys2Proof.Machine
end

