-- ==== Sys2Proof/Machine/Wire.lean ====
section
/-! DEFINITION. What goes on the fibre: the bytes of a packet (R171, R216, R255, R323, R332, R353, R383), of a flit (R270 to R272), and the
symbols of the wavelengths that carry a direction's byte stream (R263, R273). -/

namespace Sys2Proof.Machine

/-- A field that begins at bit `lo`. -/
def fld (lo v : Nat) : Nat := v * 2 ^ lo

/-! ### Collective records (R171) -/

/-- The 32 bytes of a collective record of a TYPE. -/
def recBytes (type : Nat) (r : CollRec) : Bytes :=
  leBytes 4 type ++ leBytes 4 r.group ++ leBytes 4 r.seq ++ leBytes 8 r.sig ++ leBytes 3 r.lowRank ++ leBytes 1 r.chunkLog2
    ++ leBytes 3 (r.mismatch.getD 0) ++ leBytes 3 (r.chunkMismatch.getD 0)
    ++ leBytes 1 (bit r.mismatch.isSome + fld 1 (bit r.chunkMismatch.isSome)) ++ leBytes 1 r.code

/-- The TYPE and the record that 32 bytes hold. -/
def recParse (b : Bytes) : Nat × CollRec :=
  let u (i n : Nat) : Nat := leNat ((b.drop i).take n)
  (u 0 1, { group := u 4 4, seq := u 8 4, sig := u 12 8, lowRank := u 20 3, chunkLog2 := u 23 1,
            mismatch := if bitOf (u 30 1) 0 then some (u 24 3) else none,
            chunkMismatch := if bitOf (u 30 1) 1 then some (u 27 3) else none, code := u 31 1 })

/-! ### What a packet carries, as numbers -/

def encBytes (b : Bytes) : List Nat := b.map BitVec.toNat
def encOp (c : CollOp) : List Nat :=
  [c.collop, c.operator, c.fmt, bit c.sat, c.elements, c.root, c.rowLen, c.chunkLog2]
def encDest : Dest → List Nat
  | .home a e => [0, a, e]
  | .device a => [1, a]
def encCtl : MirrorCtl → List Nat
  | .create e b z f t r => [0, e, b, z, f, t, bit r]
  | .created e x => [1, e, x]
  | .rebind e j t f => [2, e, j, t, f]
  | .rebound e x => [3, e, x]
  | .scrub e => [4, e]
  | .scrubbed e x => [5, e, x]
  | .revoke e f => [6, e, bit f]
  | .revoked e x => [7, e, x]

/-- The body of a packet, as numbers to authenticate. The records of R171 stand in their own layout. -/
def encBody : Body → List Nat
  | .write b => 0 :: encDest b.dest ++ [b.ctr.getD 65536, b.total] ++ (match b.mask with | none => [2] | some m => m.map bit)
      ++ encBytes b.data
  | .read b => [1, b.addr, b.ext, b.len, match b.kind with | .load => 0 | .get => 1 | .prefetch => 2]
  | .atomic b => [2, b.addr, b.ext, b.op, b.ty, b.operand, b.compare, b.ctr.getD 65536]
  | .signal c v => [3, c, v]
  | .reply st d v => 4 :: st :: v.map bit ++ encBytes d
  | .ack st => [5, st]
  | .report x => [6, bit x]
  | .close => [7]
  | .mirror b => [8, b.home, b.ext, b.off, b.origin.src.getD (2 ^ 17), b.origin.vc, b.origin.seq, b.origin.wid, bit b.origin.last,
      b.origin.old.getD (2 ^ 64)] ++ encBytes b.data
  | .rebuild b => [9, b.home, b.ext, b.step, b.off, b.poisoned.length] ++ b.poisoned ++ encBytes b.data
  | .mctl m => 10 :: encCtl m
  | .header k i l r c => [11, k, i, bit l] ++ encBytes (recBytes 0 r) ++ encOp c
  | .chunk b => [12, b.group, b.seq, b.level, b.vertex, bit b.left, b.off, bit b.poison] ++ encOp b.cop ++ encBytes b.data
  | .result b => [13, b.group, b.seq, b.off] ++ encBytes b.data
  | .done r => 14 :: encBytes (recBytes 1 r)
  | .go r => 15 :: encBytes (recBytes 2 r)
  | .a2aReport r => 16 :: encBytes (recBytes 1 r)
  | .cause r => 17 :: encBytes (recBytes 3 r)
  | .abort r => 18 :: encBytes (recBytes 4 r)

/-- The authenticated text of a packet: the header with HOPS, DETOURED, CE and ECHO taken as zero, and the payload (R383). -/
def pktText (p : Pkt) : List Nat :=
  [p.h.dst, p.h.src, p.h.vc, bit p.h.mc, p.h.tree, p.h.seq, p.h.job, p.h.gen, p.h.len, p.h.wid, p.h.ackedVc, bit p.h.close,
    bit p.h.last]
    ++ (match p.rd with | none => [] | some r => [r.origSeq, r.origHome, r.piece, bit r.fresh]) ++ encBody p.body

/-! ### The header (R216, R332) -/

/-- STATUS of a VC2 packet (R332). -/
def bodyStatus : Body → Nat
  | .reply st _ _ => st
  | .ack st => st
  | _ => 0

/-- Bits [189:0] of a header: the fields of R216 and R332. -/
def hdrFields (h : Hdr) (redirect : Bool) : Nat :=
  h.dst + fld 17 h.src + fld 34 h.vc + fld 37 h.hops + fld 40 (bit h.detoured) + fld 41 (bit h.ce) + fld 42 (bit h.echo)
    + fld 43 (bit h.mc) + fld 44 h.tree + fld 64 h.seq + fld 96 h.job + fld 128 h.gen + fld 136 h.len + fld 152 h.wid
    + fld 184 h.ackedVc + fld 187 (bit h.close) + fld 188 (bit redirect) + fld 189 (bit h.last)

/-- The header that 32 bytes hold, and its REDIRECT bit. -/
def hdrOf (b : Bytes) : Hdr × Bool :=
  let n := leNat (b.take 32)
  ({ dst := bitsOf n 16 0, src := bitsOf n 33 17, vc := bitsOf n 36 34, hops := bitsOf n 39 37, detoured := bitOf n 40, ce := bitOf n 41,
     echo := bitOf n 42, mc := bitOf n 43, tree := bitsOf n 56 44, seq := bitsOf n 95 64, job := bitsOf n 127 96,
     gen := bitsOf n 135 128, len := bitsOf n 148 136, wid := bitsOf n 183 152, ackedVc := bitsOf n 186 184, close := bitOf n 187,
     last := bitOf n 189 }, bitOf n 188)

/-- The operation fields, bits [255:190]: STATUS in bits [197:190] of a VC2 packet; the places of the rest the manual does not give
(log entry 93). -/
def opFields (p : Pkt) : Nat :=
  if p.h.vc = 2 then bodyStatus p.body % 256 + fld 8 (Config.opFields (pktText p) % 2 ^ 58) else Config.opFields (pktText p) % 2 ^ 66

/-- The 32 bytes of a header. -/
def hdrBytes (p : Pkt) : Bytes := leBytes 32 (hdrFields p.h p.rd.isSome + fld 190 (opFields p))

/-- A transit module's changes to a header: HOPS, DETOURED, CE (R217). -/
def restamp (b : Bytes) (hops : Nat) (detoured ce : Bool) : Bytes :=
  let n := leNat (b.take 32)
  leBytes 32 (n - fld 37 (bitsOf n 41 37) + fld 37 (hops % 8 + fld 3 (bit detoured) + fld 4 (bit ce))) ++ b.drop 32

/-! ### Whole packets (R255, R323, R353, R383) -/

/-- The 16-byte authentication trailer (R383). -/
def trailerBytes : Trailer → Bytes
  | .zero => zeroBytes 16
  | .tagged c ph tag => leBytes 8 (c % 2 ^ 63 + fld 63 (bit ph)) ++ leBytes 8 tag.toNat

/-- A packet's bytes: header, payload as it travels, trailer. The ciphertext, and the layouts that the manual does not give, are free values
(log entry 93). -/
def pktBytes (p : Pkt) : Bytes :=
  hdrBytes p ++ (List.range p.h.len).map (Config.payloadByte (pktText p) (leNat (trailerBytes p.tr))) ++ trailerBytes p.tr

/-- The payload of a Deadbolt message (R353). -/
def deadboltBytes (d : Deadbolt) : Bytes :=
  leBytes 2 d.origin ++ leBytes 4 d.seq ++ leBytes 4 d.job ++ leBytes 2 d.cause ++ leBytes 2 d.subject ++ leBytes 3 d.epid ++ zeroBytes 15

/-- A port record of an LSA (R323). -/
def portRecBytes (r : PortRec) : Bytes :=
  leBytes 4 (r.port + fld 6 r.nbr + fld 19 r.nbrPort + fld 25 r.weight + fld 29 (bit r.drain))

/-- The payload of an LSA (R323). -/
def lsaBytes (l : Lsa) : Bytes :=
  leBytes 2 l.origin ++ leBytes 4 l.seq ++ leBytes 1 (bit l.leaving + fld 1 (bit l.spine)) ++ leBytes 1 l.ports.length ++ zeroBytes 8
    ++ l.ports.flatMap portRecBytes

/-- A VC0 packet: JOB_TAG zero, a zero trailer; the EPIDs of a flooded message the manual does not give (log entry 93). -/
def vc0Bytes (hops : Nat) (payload : Bytes) : Bytes :=
  leBytes 32 (Config.floodEpid payload % 2 ^ 34 + fld 37 (hops % 8) + fld 136 payload.length + fld 189 1) ++ payload ++ zeroBytes 16

/-- Flits of a packet of `len` payload bytes, and so its cells (R255). -/
def flitsOf (len : Nat) : Nat := (48 + len + 239) / 240

/-- The cells of a packet (R255). -/
def pktCells (p : Pkt) : Nat := flitsOf p.h.len

/-! ### Flits (R270 to R272) -/

/-- The fields of a flit header (R271). -/
structure FlitHdr where
  type : Nat
  sop : Bool
  eop : Bool
  abandon : Bool
  nak : Bool
  lseq : Nat
  ack : Nat
  crVc : Nat
  crClass : Nat
  crShared : Bool
  crCount : Nat
deriving DecidableEq, Repr

/-- The 8 bytes of a flit header. -/
def flitHdrBytes (h : FlitHdr) : Bytes :=
  leBytes 8 (h.type + fld 2 (bit h.sop) + fld 3 (bit h.eop) + fld 4 (bit h.abandon) + fld 5 (bit h.nak) + fld 6 h.lseq + fld 20 h.ack
    + fld 34 h.crVc + fld 37 h.crClass + fld 40 (bit h.crShared) + fld 41 h.crCount)

/-- The header of a flit's bytes. -/
def flitHdrOf (f : Bytes) : FlitHdr :=
  let n := leNat (f.take 8)
  { type := bitsOf n 1 0, sop := bitOf n 2, eop := bitOf n 3, abandon := bitOf n 4, nak := bitOf n 5, lseq := bitsOf n 19 6,
    ack := bitsOf n 33 20, crVc := bitsOf n 36 34, crClass := bitsOf n 39 37, crShared := bitOf n 40, crCount := bitsOf n 47 41 }

/-- The two parity bytes of 126 data bytes: the remainder by the generator (x − 1)(x − α) (R272). -/
def rsParity (d : Bytes) : Byte × Byte :=
  d.foldl (fun r b => ((r.2 ^^^ ((b ^^^ r.1) ^^^ gfX (b ^^^ r.1)), gfX (b ^^^ r.1)))) (0#8, 0#8)

/-- The bytes of a flit below 252 that codeword `c` holds (R272). -/
def flitData (f : Bytes) (c : Nat) : Bytes := (List.range 126).map (fun j => f.getD (2 * j + c) 0#8)

/-- The 256 bytes of a flit: header, message field, CRC, parity (R270, R272). -/
def flitBytes (h : FlitHdr) (msg : Bytes) : Bytes :=
  let body := flitHdrBytes h ++ (msg ++ zeroBytes 240).take 240
  let f := body ++ leBytes 4 (crc32c body).toNat
  let p := rsParity (flitData f 0)
  let q := rsParity (flitData f 1)
  f ++ [p.1, p.2, q.1, q.2]

/-- The widths in bytes of the fields of a link message (R277). -/
def linkWidths : Nat → List Nat
  | 1 => [2, 1, 1, 1, 4]
  | 2 => [1, 1, 1, 1, 1]
  | 3 => [1, 1, 1, 2]
  | 4 => [1, 1, 1]
  | 5 => [1]
  | 6 => [1, 1]
  | 7 => [1, 1, 4, 2]
  | _ => []

/-- The message field of a link message: its code in byte 8 of the flit, the fields from byte 9 (R277). -/
def linkMsg (opc : Nat) (args : List Nat) : Bytes :=
  leBytes 1 opc ++ (List.zipWith (fun n v => leBytes n v) (linkWidths opc) args).flatten

/-! ### Lanes, scrambling, symbols (R273) -/

/-- One byte under the additive generator x^31 + x^28 + 1, least significant bit first: the register after it, and the byte. -/
def scramble (r : BitVec 31) (b : Byte) : BitVec 31 × Byte :=
  (List.range 8).foldl (fun x i =>
    let k := x.1.getLsbD 30 ^^ x.1.getLsbD 27
    ((x.1 <<< 1) ||| (if k then 1#31 else 0#31), if k then x.2 ^^^ ((1#8) <<< i) else x.2)) (r, b)

/-- A byte's four PAM4 symbols, least significant bit pair first (R273). -/
def symbols (b : Byte) : List Nat := (List.range 4).map (fun i => bitsOf b.toNat (2 * i + 1) (2 * i))

/-- The bytes of a stretch of the stream that lane `l` of `n` takes, where the stretch begins at byte `pos` of the stream. -/
def laneBytes (n pos l : Nat) (bs : Bytes) : Bytes :=
  (bs.zipIdx.filter (fun x => (pos + x.2) % n == l)).map Prod.fst

/-- A lane's scrambled bytes, and its register after them. -/
def scrambleAll (r : BitVec 31) (bs : Bytes) : BitVec 31 × Bytes :=
  bs.foldl (fun x b => let y := scramble x.1 b; (y.1, x.2 ++ [y.2])) (r, [])

/-- The scramblers of a direction at training: each is seeded with its lane's number. -/
def freshScr : List (BitVec 31) := (List.range 8).map (BitVec.ofNat 31)

/-- The wavelengths that carry lane `l`: its own, and the spare that a swap copies it onto (R282 step 2). -/
def lanesOn (d : Dir) (l : Nat) : List Nat :=
  (d.map[l]?).toList ++ (match d.swap with | some x => if x.lane = l then [x.dst] else [] | none => [])

/-- The symbols that a stretch of the stream puts on each wavelength, and the scramblers after it. -/
def lightOf (d : Dir) (pos : Nat) (scr : List (BitVec 31)) (bs : Bytes) : List (Nat × List Nat) × List (BitVec 31) :=
  let n := d.map.length
  let out := (List.range n).map (fun l => scrambleAll (scr.getD l 0#31) (laneBytes n pos l bs))
  ((out.zipIdx.map (fun x => (lanesOn d x.2).map (fun w => (w, x.1.2.flatMap symbols)))).flatten,
   (List.range 8).map (fun l => match out[l]? with | some x => x.1 | none => scr.getD l 0#31))

end Sys2Proof.Machine
end

