-- ==== Sys2Proof/Machine/Buffer.lean ====
section
/-! DEFINITION. What the packet buffer holds and from which regions its cells come (R245, R250, R251, R254, R259, R261), and the free reorder store
(R252). -/

namespace Sys2Proof.Machine

/-! ### What crosses -/

def Load.vc : Load → Nat
  | .pkt p => p.h.vc
  | _ => 0

/-- Fabric ports crossed so far. -/
def Load.hops : Load → Nat
  | .pkt p => p.h.hops
  | .lsa _ n => n
  | .deadbolt _ n => n

/-- It has crossed one more (R219 step 4). -/
def Load.hop : Load → Load
  | .pkt p => .pkt { p with h := { p.h with hops := p.h.hops + 1 } }
  | .lsa l n => .lsa l (n + 1)
  | .deadbolt d n => .deadbolt d (n + 1)

/-- Payload bytes. -/
def Load.len : Load → Nat
  | .pkt p => p.h.len
  | .lsa l _ => 16 + 4 * l.ports.length
  | .deadbolt _ _ => 32

def Load.cells (x : Load) : Nat := flitsOf x.len

def Load.bytes : Load → Bytes
  | .pkt p => pktBytes p
  | .lsa l n => vc0Bytes n (lsaBytes l)
  | .deadbolt d n => vc0Bytes n (deadboltBytes d)

/-- The EPID that a fault record about it names. -/
def Load.dst : Load → Nat
  | .pkt p => p.h.dst
  | _ => 0

/-- It has crossed to a fabric port. -/
def Load.out (port : Nat) : Load → Out
  | .pkt p => .pkt port p
  | .lsa l _ => .lsa port l
  | .deadbolt d _ => .deadbolt port d

/-! ### The packet buffer (R250, R251) -/

/-- The number of a queue. -/
def voqKey (inp outp vc : Nat) : Nat := 2048 * inp + 8 * outp + vc

def voqIn (k : Nat) : Nat := k / 2048
def voqOut (k : Nat) : Nat := k / 8 % 256
def voqVc (k : Nat) : Nat := k % 8

/-- The packets queued for an output port on a channel, by input port (R245). -/
def egress (s : State) (p vc : Nat) : List Queued :=
  (s.fab.voq.filter (fun e => voqOut e.1 == p && voqVc e.1 == vc)).flatMap (fun e => e.2)

/-- The bytes of an egress queue (R254). -/
def egressBytes (s : State) (p vc : Nat) : Nat := 256 * (egress s p vc).foldl (fun a q => a + q.load.cells) 0

/-- Every cell held in the packet buffer, by the region that it came from: of packets that wait, of packets under way, of flits not yet
acknowledged (R250, R275). -/
def holdings (s : State) : List (Own × Nat) :=
  s.fab.voq.flatMap (fun e => e.2.map (fun q => (q.own, q.load.cells)))
    ++ s.fab.noRoute.map (fun q => (q.own, q.load.cells))
    ++ s.fab.cuts.map (fun c => (c.own, c.cells - c.k))
    ++ s.opt.flatMap (fun e => (e.2.sent ++ e.2.data).filterMap (fun f => f.own.map (fun o => (o, 1))))

/-- Cells held of the regions that satisfy `b`. -/
def cellsHeld (s : State) (b : Own → Bool) : Nat := (holdings s).foldl (fun a x => if b x.1 then a + x.2 else a) 0

def Own.isShared : Own → Bool
  | .fabShared _ => true
  | .intShared _ => true
  | _ => false

/-- Cells of a copy in the analysis port's queue. -/
def copyCells (b : Bytes) : Nat := (b.length + 239) / 240

/-- Cells of the shared region that are occupied or granted as credit (R251, R259, R261). -/
def sharedCells (s : State) : Nat :=
  cellsHeld s Own.isShared + s.opt.foldl (fun a e => a + e.2.granted) 0 + s.fab.ana.queue.foldl (fun a x => a + copyCells x.2) 0

/-- Cells of the shared region (R250). -/
def sharedSize : Nat := 4 * 142204

/-- KiB of the shared region that are occupied or granted as credit (R261). -/
def sharedUsed (s : State) : Nat := (sharedCells s + 3) / 4

/-- Cells of the reorder store in use (R252). -/
def reorderCells (s : State) : Nat :=
  s.fab.dflow.foldl (fun a e => a + e.2.held.foldl (fun b x => b + (match x.2 with | some p => pktCells p.1 | none => 0)) 0) 0

/-- Cells of the reorder store (R250). -/
def reorderSize : Nat := 4 * 32768

/-- KiB of the reorder store in use (R261). -/
def reorderUsed (s : State) : Nat := (reorderCells s + 3) / 4

end Sys2Proof.Machine
end

