-- ==== Sys2Proof/Machine/Regs.lean ====
section
/-! DEFINITION. The register window: the tables of registers, what a read returns, saturating counts, fields that hold
configuration (ch. 17 and the register section of each chapter). -/

namespace Sys2Proof.Machine

/-- One register of the manual's tables: offset, reset value, bits by access type (R466), whether it is a saturating count
(R475), whether it is of the configuration class (R477), whether a host may read it (R482), and the ranges of its fields as
(lowest bit, width, least value, greatest value). Registers that repeat by port or class stand once, at the first offset. -/
structure RegDef where
  off : Nat
  reset : Nat
  rw : Nat
  rwl : Nat
  w1c : Nat
  wo : Nat
  rsvp : Nat
  count : Bool
  cfg : Bool
  host : Bool
  fields : List (Nat × Nat × Nat × Nat)
deriving DecidableEq, Repr

/-- The register tables of the chapters, part 1. -/
def regTable1 : List RegDef := [
  ⟨0x000000, 0x16418, 0x0, 0x0, 0x0, 0x0, 0xFFF00000, false, false, true, []⟩,  -- TOP_ID
  ⟨0x000004, 0x0, 0x0, 0x0, 0x0, 0x0, 0xFFFF8000, false, false, true, []⟩,  -- TOP_MODULE
  ⟨0x000008, 0x0, 0x0, 0x0, 0x5, 0x0, 0xFFFFFFF0, false, false, false, []⟩,  -- TOP_STAT
  ⟨0x00000C, 0x0, 0x0, 0x0, 0x0, 0xFFFFFFFF, 0x0, false, false, false, []⟩,  -- TOP_UNLOCK
  ⟨0x000010, 0x0, 0x2, 0x0, 0x0, 0x1, 0xFFF8, false, false, false, []⟩,  -- TOP_LATCH
  ⟨0x000014, 0x0, 0x0, 0x0, 0x0, 0x0, 0x0, false, false, false, []⟩,  -- TOP_LATCH_TIME_LO
  ⟨0x000018, 0x0, 0x0, 0x0, 0x0, 0x0, 0x0, false, false, false, []⟩,  -- TOP_LATCH_TIME_HI
  ⟨0x00001C, 0x0, 0xFFFFFFFC, 0x0, 0x0, 0x0, 0x3, false, false, false, []⟩,  -- TOP_IND_ADDR
  ⟨0x000020, 0x0, 0xFFFFFFFF, 0x0, 0x0, 0x0, 0x0, false, false, false, []⟩,  -- TOP_IND_DATA
  ⟨0x000024, 0x0, 0x0, 0x0, 0x0, 0x0, 0x0, false, false, false, []⟩,  -- TOP_CFGCRC
  ⟨0x000028, 0x0, 0xFFFFFFFF, 0x0, 0x0, 0x0, 0x0, false, false, false, []⟩,  -- TOP_CFGCRC_REF
  ⟨0x00002C, 0x0, 0x0, 0x0, 0x0, 0x0, 0x0, true, false, false, []⟩,  -- TOP_LOCK_REFUSE
  ⟨0x000030, 0x0, 0x0, 0x0, 0x0, 0x0, 0x0, true, false, false, []⟩,  -- TOP_RSVP_WR
  ⟨0x000034, 0x0, 0x0, 0x0, 0x0, 0x0, 0x0, false, false, true, []⟩,  -- TOP_TIME_LO
  ⟨0x000038, 0x0, 0x0, 0x0, 0x0, 0x0, 0x0, false, false, true, []⟩,  -- TOP_TIME_HI
  ⟨0x010000, 0x0, 0x0, 0x0, 0x0, 0x0, 0xFFFFFE00, false, false, false, []⟩,  -- CLK_STAT
  ⟨0x010004, 0x0, 0xFFFF, 0x0, 0x0, 0x0, 0xFFFF0000, false, true, false, []⟩,  -- CLK_OBS
  ⟨0x010008, 0x0, 0x0, 0x1F, 0x0, 0x0, 0xFFFFFFE0, false, true, false, []⟩,  -- CLK_GATE
  ⟨0x01000C, 0x0, 0x0, 0x0, 0x0, 0x0, 0x0, true, false, false, []⟩,  -- CLK_GATE_REFUSE
  ⟨0x010010, 0x0, 0x0, 0x0, 0x0, 0x0, 0x0, true, false, false, []⟩,  -- CLK_LOSS
  ⟨0x020000, 0x8F0F, 0xFF7F, 0x0, 0x0, 0x0, 0xFFFF0080, false, true, false, [(0, 7, 1, 100), (8, 7, 1, 100)]⟩,  -- PWR_CTRL
  ⟨0x020004, 0x47E, 0x7FF, 0x0, 0x0, 0x0, 0xFFFFF800, false, true, false, []⟩,  -- PWR_CAP
  ⟨0x020008, 0xC80000, 0x3FF07FF, 0x0, 0x0, 0x0, 0xFC00F800, false, true, false, [(16, 10, 0, 1000)]⟩,  -- PWR_FLOOR
  ⟨0x02000C, 0x0, 0x0, 0x0, 0x690, 0x0, 0xFFFFF800, false, false, false, []⟩,  -- PWR_STAT
  ⟨0x020010, 0x0, 0x0, 0x0, 0x0, 0x0, 0xF800F800, false, false, false, []⟩,  -- PWR_MEAS
  ⟨0x020014, 0x0, 0x0, 0x0, 0x0, 0x0, 0xFFFFE000, false, false, false, []⟩,  -- PWR_VIN
  ⟨0x020018, 0x0, 0x0, 0x0, 0x0, 0x0, 0xFFFF0000, false, false, false, []⟩,  -- PWR_TEMP
  ⟨0x02001C, 0x0, 0x0, 0x0, 0x0, 0x0, 0xFFFFE000, false, false, false, []⟩,  -- PWR_STAGGER
  ⟨0x020020, 0x0, 0x0, 0x0, 0x0, 0x0, 0x0, true, false, false, []⟩,  -- PWR_BRAKE
  ⟨0x020024, 0x0, 0x0, 0x0, 0x0, 0x0, 0x0, true, false, false, []⟩,  -- PWR_SHORT
  ⟨0x030000, 0x0, 0x0, 0x0, 0x0, 0x1, 0xFFFFFFF8, false, false, false, []⟩,  -- HLT_PLAN
  ⟨0x030004, 0x2EE, 0x0, 0x0, 0x0, 0x0, 0xFFFFFC00, false, false, false, []⟩,  -- HLT_VCORE
  ⟨0x030008, 0x0, 0x0, 0x0, 0x0, 0x0, 0xFFFF0000, false, false, false, []⟩,  -- HLT_PLAN_AGE
  ⟨0x03000C, 0x0, 0x0, 0x0, 0x0, 0x0, 0x0, true, false, false, []⟩,  -- HLT_TEST_REFUSE
  ⟨0x040000, 0x12C, 0x0, 0x1FFF, 0x0, 0x0, 0xFFFFE000, false, true, false, [(0, 13, 50, 5000)]⟩,  -- SEC_LEASE_CTRL
  ⟨0x040004, 0x0, 0x0, 0x0, 0x0, 0x0, 0xFFFFFFF0, false, false, false, []⟩,  -- SEC_STAT
  ⟨0x040008, 0x0, 0x0, 0x0, 0x0, 0x0, 0x0, true, false, false, []⟩,  -- SEC_DENY
  ⟨0x04000C, 0x0, 0x0, 0x0, 0x0, 0x0, 0x0, true, false, false, []⟩,  -- SEC_LEASE_REFUSE
  ⟨0x040010, 0x0, 0x0, 0x0, 0x0, 0x0, 0x0, true, false, false, []⟩,  -- SEC_AUTH_FAIL
  ⟨0x060000, 0xE4, 0xFF, 0x0, 0x0, 0x0, 0xFFFFFF00, false, true, false, [(0, 4, 0, 8), (4, 3, 2, 7)]⟩  -- FAB_ROUTE_CTRL
  ]

/-- The register tables of the chapters, part 2. -/
def regTable2 : List RegDef := [
  ⟨0x060004, 0x0, 0xFFFFFFFF, 0x0, 0x0, 0x0, 0x0, false, true, false, []⟩,  -- FAB_DETOUR_MASK_LO
  ⟨0x060008, 0x0, 0xFFFFFFFF, 0x0, 0x0, 0x0, 0x0, false, true, false, []⟩,  -- FAB_DETOUR_MASK_HI
  ⟨0x06000C, 0x40, 0xFFFF, 0x0, 0x0, 0x0, 0xFFFF0000, false, true, false, [(0, 16, 4, 16384)]⟩,  -- FAB_CC_THRESH
  ⟨0x060010, 0x4, 0x7F, 0x0, 0x0, 0x0, 0xFFFFFF80, false, true, false, [(0, 7, 1, 64)]⟩,  -- FAB_CC_WINDOW
  ⟨0x060014, 0x100500, 0x3FFFFFF, 0x0, 0x0, 0x0, 0xFC000000, false, true, false, [(0, 10, 8, 512), (10, 8, 1, 64), (18, 8, 1, 64)]⟩,  -- FAB_CC_RATE
  ⟨0x060018, 0x0, 0x0, 0x0, 0x0, 0x0, 0xFFFFE000, false, false, false, []⟩,  -- FAB_ANA_STAT
  ⟨0x06001C, 0x0, 0x0, 0x0, 0x0, 0x0, 0x0, true, false, false, []⟩,  -- FAB_HOPLIMIT
  ⟨0x060020, 0x0, 0x0, 0x0, 0x0, 0x0, 0x0, true, false, false, []⟩,  -- FAB_REORDER_DROP
  ⟨0x060024, 0x0, 0x0, 0x0, 0x0, 0x0, 0x0, true, false, false, []⟩,  -- FAB_NOROUTE
  ⟨0x060028, 0x0, 0x0, 0x0, 0x0, 0x0, 0x0, true, false, false, []⟩,  -- FAB_ANA_DROP
  ⟨0x060040, 0x32010, 0xFFFFF, 0x0, 0x0, 0x0, 0xFFF00000, false, true, false, [(0, 10, 2, 1000), (10, 10, 50, 1000)]⟩,  -- FAB_REPAIR_CTRL
  ⟨0x060044, 0x0, 0x0, 0x0, 0x0, 0x0, 0xFFFF8000, false, false, false, []⟩,  -- FAB_REPAIR_STAT
  ⟨0x060048, 0x0, 0x0, 0x0, 0x0, 0x0, 0x0, true, false, false, []⟩,  -- FAB_REPAIR_COUNT
  ⟨0x06004C, 0x0, 0x0, 0x0, 0x0, 0x0, 0x0, true, false, false, []⟩,  -- FAB_RETX
  ⟨0x060050, 0x0, 0x0, 0x0, 0x0, 0x0, 0x0, true, false, false, []⟩,  -- FAB_DUP
  ⟨0x060054, 0x50000, 0x0, 0x0, 0x0, 0x0, 0xFFF80000, false, false, false, []⟩,  -- FAB_FLOW_STAT
  ⟨0x060058, 0x0, 0x0, 0x0, 0x0, 0x0, 0x0, true, false, false, []⟩,  -- FAB_DISAGREE
  ⟨0x06005C, 0x0, 0x0, 0x0, 0x0, 0x0, 0xFFFFC000, false, false, false, []⟩,  -- FAB_LOST_STAT
  ⟨0x060060, 0x20000, 0x0, 0x0, 0x0, 0x0, 0xFFFC0000, false, false, false, []⟩,  -- FAB_ATOM_STAT
  ⟨0x080000, 0x244442, 0xFFFFFF, 0x0, 0x0, 0x0, 0xFF000000, false, true, false, [(0, 4, 1, 15), (4, 4, 1, 15), (8, 4, 1, 15), (12, 4, 1, 15), (16, 4, 1, 15), (20, 4, 1, 15)]⟩,  -- SWC_VC_WEIGHT
  ⟨0x080004, 0x1008, 0x7F7F, 0x0, 0x0, 0x0, 0xFFFF8080, false, true, false, [(0, 7, 1, 64), (8, 7, 1, 64)]⟩,  -- SWC_SHARE_CAP
  ⟨0x080008, 0x1, 0x1, 0x0, 0x0, 0x0, 0xFFFFFFFE, false, true, false, []⟩,  -- SWC_CT_CTRL
  ⟨0x08000C, 0x22B7C, 0x0, 0x0, 0x0, 0x0, 0xFFFC0000, false, false, false, []⟩,  -- SWC_BUF_STAT
  ⟨0x080010, 0x8000, 0x0, 0x0, 0x0, 0x0, 0xFFFF0000, false, false, false, []⟩,  -- SWC_REORDER_STAT
  ⟨0x080014, 0x0, 0x0, 0x0, 0x0, 0x0, 0x0, true, false, false, []⟩,  -- SWC_REORDER_FULL
  ⟨0x080018, 0x0, 0x0, 0x0, 0x0, 0x0, 0x0, true, false, false, []⟩,  -- SWC_ABANDON
  ⟨0x08001C, 0x0, 0x0, 0x0, 0x0, 0x0, 0x0, true, false, false, []⟩,  -- SWC_MALFORMED
  ⟨0x080020, 0x0, 0x0, 0x0, 0x0, 0x0, 0x0, true, false, false, []⟩,  -- SWC_EXPIRED
  ⟨0x0C0000, 0xA06, 0xFF0F, 0x0, 0x0, 0x0, 0xFFFF00F0, false, true, false, [(0, 4, 4, 8)]⟩,  -- OPT_CTRL
  ⟨0x0C0004, 0x814, 0xFFF, 0x0, 0x0, 0x0, 0xFFFFF000, false, true, false, [(0, 8, 1, 255), (8, 4, 1, 15)]⟩,  -- OPT_RETRY
  ⟨0x0C0008, 0x400, 0xFFFF, 0x0, 0x0, 0x0, 0xFFFF0000, false, true, false, [(0, 16, 16, 65535)]⟩,  -- OPT_SWAP_THRESH
  ⟨0x0C1000, 0x2, 0x3, 0x0, 0x0, 0x4, 0xFFFFFFF8, false, true, false, []⟩,  -- OPT_PORT_CTRL
  ⟨0x0C1004, 0x78, 0x0, 0x0, 0x0, 0x0, 0xFFE00000, false, false, false, []⟩,  -- OPT_PORT_STAT
  ⟨0x0C1008, 0x76543210, 0x0, 0x0, 0x0, 0x0, 0x0, false, false, false, []⟩,  -- OPT_PORT_MAP
  ⟨0x0C100C, 0x0, 0x0, 0x0, 0x0, 0x0, 0x0, true, false, false, []⟩,  -- OPT_PORT_CRC
  ⟨0x0C1010, 0x0, 0x0, 0x0, 0x0, 0x0, 0x0, true, false, false, []⟩,  -- OPT_PORT_FEC
  ⟨0x0C1014, 0x0, 0x0, 0x0, 0x0, 0x0, 0x0, true, false, false, []⟩,  -- OPT_PORT_REPLAY
  ⟨0x0C1018, 0x0, 0x0, 0x0, 0x0, 0x0, 0x0, true, false, false, []⟩,  -- OPT_PORT_SWAP
  ⟨0x100000, 0xA1, 0x3FF7, 0x0, 0x0, 0x0, 0xFFFFC008, false, true, true, [(1, 2, 0, 2), (4, 10, 1, 1000)]⟩,  -- CXL_CTRL
  ⟨0x101000, 0x0, 0x0, 0x0, 0x0, 0x1, 0xFFFFFFFE, false, false, false, []⟩  -- CXL_PORT_CTRL
  ]

/-- The register tables of the chapters, part 3. -/
def regTable3 : List RegDef := [
  ⟨0x101004, 0x0, 0x0, 0x0, 0x0, 0x0, 0xFFFE0000, false, false, true, []⟩,  -- CXL_PORT_STAT
  ⟨0x101008, 0x0, 0x0, 0x0, 0x0, 0x0, 0x0, true, false, true, []⟩,  -- CXL_PORT_CRC
  ⟨0x10100C, 0x0, 0x0, 0x0, 0x0, 0x0, 0x0, true, false, true, []⟩,  -- CXL_PORT_FEC
  ⟨0x101010, 0x0, 0x0, 0x0, 0x0, 0x0, 0x0, true, false, true, []⟩,  -- CXL_PORT_REPLAY
  ⟨0x101014, 0x0, 0x0, 0x0, 0x0, 0x0, 0x0, true, false, true, []⟩,  -- CXL_PORT_RETRAIN
  ⟨0x101018, 0x0, 0x0, 0x0, 0x0, 0x0, 0x0, true, false, true, []⟩,  -- CXL_PORT_POISON
  ⟨0x180000, 0x40, 0x1FF, 0x0, 0x0, 0x0, 0xFFFFFE00, false, true, false, [(0, 9, 8, 256)]⟩,  -- MEM_REBUILD_RATE
  ⟨0x1C0000, 0x800404, 0x1FF1F1F, 0x0, 0x0, 0x0, 0xFE00E0E0, false, true, false, [(0, 5, 0, 16), (8, 5, 0, 16), (16, 9, 0, 256)]⟩,  -- XLT_PF_CTRL
  ⟨0x1C0004, 0x0, 0x0, 0x0, 0x0, 0x0, 0xFFFFFF80, false, false, false, []⟩,  -- XLT_INV_STAT
  ⟨0x1C0008, 0x0, 0x0, 0x0, 0x0, 0x0, 0x0, true, false, false, []⟩,  -- XLT_PF_DROP
  ⟨0x1C000C, 0x0, 0x0, 0x0, 0x0, 0x0, 0x0, true, false, false, []⟩,  -- XLT_WALK_ERR
  ⟨0x280000, 0x8, 0xF, 0x0, 0x0, 0x0, 0xFFFFFFF0, false, true, false, [(0, 4, 0, 12)]⟩,  -- QUE_PF_CTRL
  ⟨0x280004, 0x0, 0x0, 0x0, 0x0, 0x0, 0x0, true, false, false, []⟩,  -- QUE_PF_DISCARD
  ⟨0x280008, 0x0, 0x0, 0x0, 0x0, 0x0, 0x0, true, false, false, []⟩,  -- QUE_PF_TIMEOUT
  ⟨0x28000C, 0x0, 0x0, 0x0, 0x0, 0x0, 0x0, true, false, false, []⟩,  -- QUE_DB_ERR
  ⟨0x300000, 0x0, 0x0, 0x0, 0x0, 0x0, 0xFFFFFC00, false, false, false, []⟩,  -- COL_STAGE_STAT
  ⟨0x300004, 0x0, 0x0, 0x0, 0x0, 0x0, 0x0, true, false, false, []⟩,  -- COL_ABORT
  ⟨0x300008, 0x0, 0x0, 0x0, 0x0, 0x0, 0x0, true, false, false, []⟩,  -- COL_DISCARD
  ⟨0x30000C, 0x300000, 0x0, 0x0, 0x0, 0x0, 0xFFC00000, false, false, false, []⟩,  -- COL_MEMBER_STAT
  ⟨0x380000, 0x0, 0x0, 0x0, 0x2000, 0x0, 0xFFFFC000, false, false, false, []⟩,  -- FLT_STAT
  ⟨0x380004, 0x0, 0x0, 0x0, 0x0, 0x0, 0x0, true, false, false, []⟩,  -- FLT_LATE
  ⟨0x380008, 0x0, 0x0, 0x0, 0x0, 0x0, 0x0, true, false, false, []⟩,  -- FLT_DEADBOLT
  ⟨0x38000C, 0x0, 0x0, 0x0, 0x0, 0x1, 0xFFFFFFFE, false, false, false, []⟩,  -- FLT_POP
  ⟨0x380010, 0x0, 0x0, 0x0, 0x0, 0x0, 0x0, false, false, false, []⟩,  -- FLT_REC0
  ⟨0x380100, 0x0, 0x0, 0x0, 0x0, 0x0, 0x0, true, false, false, []⟩,  -- FLT_OVF0
  ⟨0x3C0000, 0x0, 0x0, 0x0, 0x0, 0x0, 0xFFFFFFE0, false, false, true, []⟩,  -- FWM_STAT
  ⟨0x3C0004, 0x0, 0x0, 0x0, 0x0, 0x0, 0x0, false, false, true, []⟩,  -- FWM_VERSION
  ⟨0x3C0008, 0x0, 0x0, 0x0, 0x0, 0x0, 0xFFFF0000, false, false, false, []⟩,  -- FWM_BOOT
  ⟨0x3C000C, 0x0, 0x0, 0x0, 0x0, 0x0, 0x0, true, false, false, []⟩,  -- FWM_REPORT_LOST
  ⟨0x3C0010, 0x0, 0x0, 0x0, 0x0, 0x3, 0xFFFC, false, false, false, []⟩,  -- FWM_HINGE
  ⟨0x3C0014, 0x0, 0x0, 0x0, 0x0, 0x0, 0xFFFF0000, false, false, false, []⟩,  -- FWM_LOG_POS
  ⟨0x3E0000, 0x0, 0x0, 0x0, 0x0, 0x0, 0xFFFE0000, false, false, false, []⟩  -- DBG_STAT
  ]

/-- Every register (R482). -/
def regTable : List RegDef := regTable1 ++ regTable2 ++ regTable3

/-- The offset at which the table lists the register at `off`: per-port registers repeat every 0x40 bytes (R290, R317), the
records and the overflow counters of FLT every 4 (R373). -/
def regBase (off : Nat) : Nat :=
  if 0xC1000 ≤ off ∧ off < 0xC2000 then 0xC1000 + (off - 0xC1000) % 0x40
  else if 0x101000 ≤ off ∧ off < 0x101400 then 0x101000 + (off - 0x101000) % 0x40
  else if 0x380010 ≤ off ∧ off < 0x380030 then 0x380010
  else if 0x380100 ≤ off ∧ off < 0x380200 then 0x380100
  else off

/-- The register at a window offset, if any (R461). -/
def regDef (off : Nat) : Option RegDef :=
  if off % 4 = 0 then regTable.find? (fun r => r.off == regBase off) else none

/-- The reset value of the register at an offset. -/
def regReset (off : Nat) : Word := match regDef off with | some r => BitVec.ofNat 32 r.reset | none => 0#32

/-- The stored RW, RW-L and RSV-P bits of a register. -/
def cfgReg (s : State) (off : Nat) : Word := (s.regs.cfg.find off).getD (regReset off)

/-- A register's stored bits become `v`. -/
def setCfg (s : State) (off : Nat) (v : Word) : State :=
  { s with regs := { s.regs with cfg := if v = regReset off then s.regs.cfg.del off else s.regs.cfg.ins off v } }

/-- A field of a stored register. -/
def cfgField (s : State) (off hi lo : Nat) : Nat := bitsOf (cfgReg s off).toNat hi lo

/-- Counts saturate at 0xFFFF_FFFF (R475). -/
def cntMax : Nat := 0xFFFFFFFF

/-- A count of the module rises by `n` (R475). -/
def bumpN (off n : Nat) (s : State) : State :=
  { s with regs := { s.regs with cnt := s.regs.cnt.put 0 off (satAdd cntMax (s.regs.cnt.get 0 off) n) } }

/-- A count of the module rises by 1. -/
def bump (off : Nat) (s : State) : State := bumpN off 1 s

/-- The manual binds nothing about the module while a stored RSV-P bit differs from its reset value (R471). -/
def unbound (s : State) : Bool :=
  s.regs.cfg.any (fun e =>
    match regDef e.1 with
    | some r => decide ((e.2 ^^^ BitVec.ofNat 32 r.reset) &&& BitVec.ofNat 32 r.rsvp ≠ 0#32)
    | none => false)
  || s.regs.accs.any (fun a => a.2.ind % 4 != 0)

/-! ### Figures of the role and of configuration fields -/

/-- Lit-idle of the role, in W (R401). -/
def litIdle (s : State) : Nat := if s.sys.spine then 330 else 390

/-- Dark of the role, in W (R401). -/
def darkDraw (s : State) : Nat := if s.sys.spine then 67 else 95

/-- Maximum of the role, in W (R401). -/
def maxDraw (s : State) : Nat := if s.sys.spine then 902 else 1150

def slewUp (s : State) : Nat := cfgField s 0x20000 6 0
def slewDn (s : State) : Nat := cfgField s 0x20000 14 8
def staggerEn (s : State) : Bool := bitOf (cfgReg s 0x20000).toNat 15
def capWatts (s : State) : Nat := cfgField s 0x20004 10 0
/-- The floor: 1 to lit-idle − 1 is taken as lit-idle (R427). -/
def floorWatts (s : State) : Nat :=
  let f := cfgField s 0x20008 10 0
  if f = 0 then 0 else Nat.max f (litIdle s)
def sprayLog2 (s : State) : Nat := cfgField s 0x60000 3 0
def hopLimit (s : State) : Nat := cfgField s 0x60000 6 4
def detourEn (s : State) : Bool := bitOf (cfgReg s 0x60000).toNat 7
def detourMask (s : State) (p : Nat) : Bool :=
  if p < 32 then bitOf (cfgReg s 0x60004).toNat p else bitOf (cfgReg s 0x60008).toNat (p - 32)
def ccThresh (s : State) : Nat := cfgField s 0x6000C 15 0 * 1024
def rateMax (s : State) : Nat := cfgField s 0x60014 9 0
def rateMin (s : State) : Nat := cfgField s 0x60014 17 10
def rateStep (s : State) : Nat := cfgField s 0x60014 25 18
def retxUs (s : State) : Nat := cfgField s 0x60040 9 0
def ctEn (s : State) : Bool := bitOf (cfgReg s 0x80008).toNat 0
def fabricCap (s : State) : Nat := cfgField s 0x80004 6 0
def internalCap (s : State) : Nat := cfgField s 0x80004 14 8
def minLanes (s : State) : Nat := cfgField s 0xC0000 3 0
def calPeriod (s : State) : Nat := cfgField s 0xC0000 15 8
def replayLimit (s : State) : Nat := cfgField s 0xC0004 11 8
def l0pEn (s : State) : Bool := bitOf (cfgReg s 0x100000).toNat 0
/-- The narrowest width at which a CXL port trains (R316): 3 is replaced by 2. -/
def minWidth (s : State) : Nat := match cfgField s 0x100000 2 1 with | 0 => 4 | 1 => 8 | _ => 16
def pfDepth (s : State) : Nat := cfgField s 0x1C0000 4 0
def pfWays (s : State) : Nat := cfgField s 0x1C0000 12 8
def pfWalks (s : State) : Nat := cfgField s 0x1C0000 24 16
def dataDepth (s : State) : Nat := cfgField s 0x280000 3 0

/-- Fabric port `p` is enabled (R290). -/
def optEn (s : State) (p : Nat) : Bool := bitOf (cfgReg s (0xC1000 + 0x40 * p)).toNat 0
def calEn (s : State) (p : Nat) : Bool := bitOf (cfgReg s (0xC1000 + 0x40 * p)).toNat 1

/-! ### Tables of the state, read with their defaults -/

def part (s : State) (n : Nat) : Part := s.parts.get Part.init n
def setPart (s : State) (n : Nat) (p : Part) : State := { s with parts := s.parts.put Part.init n p }
def extRec (s : State) (n : Nat) : Ext := s.pool.ext.get Ext.init n
def que (s : State) (q : Nat) : Que := s.qs.ctx.get Que.init q
def setQue (s : State) (q : Nat) (x : Que) : State := { s with qs := { s.qs with ctx := s.qs.ctx.put Que.init q x } }
def endpoint (s : State) (e : Nat) : Ep := s.fab.ep.get Ep.init e
def tree (s : State) (t : Nat) : TreeEntry := s.fab.trees.get TreeEntry.init t
def optPort (s : State) (p : Nat) : OptPort := s.opt.get OptPort.init p
def setOpt (s : State) (p : Nat) (o : OptPort) : State := { s with opt := s.opt.put OptPort.init p o }
def cxlPort (s : State) (p : Nat) : CxlPort := s.cxl.ports.get CxlPort.init p
def setCxl (s : State) (p : Nat) (o : CxlPort) : State :=
  { s with cxl := { s.cxl with ports := s.cxl.ports.put CxlPort.init p o } }
def acc (s : State) (a : Nat) : AccSt := s.regs.accs.get AccSt.init a
def setAcc (s : State) (a : Nat) (x : AccSt) : State := { s with regs := { s.regs with accs := s.regs.accs.put AccSt.init a x } }

/-! ### Attachments (R297) -/

/-- The attachment number that ATTACH_MAP gives a port; 31 for none. -/
def mapOf (s : State) (p : Nat) : Nat := (s.sys.attachMap[p]?).getD 31

/-- The ports of an attachment, rising. -/
def attachPorts (s : State) (a : Nat) : List Nat := (List.range 16).filter (fun p => mapOf s p == a)

/-- An attachment is valid: 1, 2, 4, 8 or 16 ports of a node-role module carry its number (R297, R3). -/
def attachValid (s : State) (a : Nat) : Bool :=
  s.sys.imgOk && !s.sys.spine && decide (a < 16) && [1, 2, 4, 8, 16].contains (attachPorts s a).length

/-- The attachment of a port, if the port belongs to a valid one. -/
def attachOf (s : State) (p : Nat) : Option Nat := if attachValid s (mapOf s p) then some (mapOf s p) else none

/-! ### Numbers of the accessors (R463) -/

def accIdx : Acc → Nat → Nat
  | .mgt .a, _ => 0
  | .mgt .b, _ => 1
  | .host _, att => 2 + att
  | .debug, _ => 18
  | .ctrl, _ => 19

/-- The accessor that an access comes from: a host counts by its attachment. -/
def accOf (s : State) (a : Acc) : Nat := accIdx a (match a with | .host p => mapOf s p | _ => 0)

/-! ### What a read returns -/

def OptSt.code : OptSt → Nat
  | .off => 0 | .training => 1 | .up => 2 | .spareless => 3 | .degraded => 4 | .down => 5

def CxlSt.code : CxlSt → Nat
  | .reset => 0 | .training => 1 | .ioOnly => 2 | .up => 3 | .down => 4

def PwrSt.code : PwrSt → Nat
  | .standby => 0 | .dark => 1 | .lighting => 2 | .lit => 3 | .darkening => 4 | .held => 5

/-- The brake is in force from any cause (R411, R400, R412). -/
def braked (s : State) : Bool := s.pwr.pin || s.pwr.inputBrake || s.pwr.thermBrake

/-- Firmware runs: an image has been accepted and no module reset has ended it. -/
def fwRuns (s : State) : Bool := s.fw.img.isSome

/-- FWM_STAT.STATE (R460). -/
def fwState (s : State) : Nat :=
  if s.sys.imgRead && !s.sys.imgOk then 4 else if s.fw.hinge.isSome then 3 else if s.fw.session.isSome then 1
  else if s.fw.img.isSome then 2 else 0

/-- A rotation step runs in a direction: its planned swap, or the calibration of the freed wavelength (R285). -/
def Dir.rotating (d : Dir) : Bool := d.cal.isSome || (match d.swap with | some x => !x.failed | none => false)

/-- OPT_PORT_STAT (R290). -/
def optStat (o : OptPort) : Nat :=
  o.st.code + fld 3 (o.rx.spare.getD 15) + fld 7 o.rx.map.length + fld 11 (bit (o.rx.rotating || o.tx.rotating))
    + fld 12 (o.rx.retired.foldl (fun a w => a + 2 ^ w) 0)

/-- OPT_PORT_MAP (R290): its reset value before the port has trained. -/
def optMap (o : OptPort) : Nat :=
  if o.rx.map = [] then 0x76543210
  else (List.range 8).foldl (fun a l => a + fld (4 * l) ((o.rx.map[l]?).getD 15)) 0

/-- CXL_PORT_STAT (R317). -/
def cxlStat (s : State) (p : Nat) : Nat :=
  let c := cxlPort s p
  c.st.code + fld 3 c.width + fld 8 (bit c.mem) + fld 9 (bit c.bi) + fld 10 (bit c.ide) + fld 11 (bit c.low)
    + (match attachOf s p with | some a => fld 12 a + fld 16 1 | none => 0)

/-- The eight words of a fault record as 32-bit parts (R369). -/
def FRec.word (r : FRec) (k : Nat) : Nat :=
  let w0 := r.cls + fld 6 r.block + fld 10 r.sev + (match r.part with | some p => fld 12 p + fld 18 1 | none => 0)
    + fld 32 (r.seq % 2 ^ 32)
  let w := match k / 2 with | 0 => w0 | 1 => r.timeNs % 2 ^ 64 | 2 => r.addr % 2 ^ 64 | _ => r.detail % 2 ^ 64
  if k % 2 = 0 then w % 2 ^ 32 else w / 2 ^ 32

/-- Staging budgets reserved, in MiB (R173). -/
def stageSum (s : State) : Nat := s.col.grps.foldl (fun a g => a + g.2.p.budget) 0

/-- Entries of the member store taken (R153). -/
def memberSum (s : State) : Nat := s.col.grps.foldl (fun a g => a + g.2.p.n + 3 * g.2.hosts.length) 0

/-- What the register holds apart from counts, held values and what an accessor holds for itself. -/
def roReg (s : State) (off : Nat) : Nat :=
  if off = 0x4 then
    (if s.sys.imgOk then s.sys.moduleId + fld 13 (bit s.sys.spine) + fld 14 1 else 0)
  else if off = 0x0 then 0x16418
  else if off = 0x14 then s.regs.latchNs % 2 ^ 32
  else if off = 0x24 then s.regs.crc.toNat
  else if off = 0x28 then s.regs.ref.toNat
  else if off = 0x34 then s.now % 2 ^ 32
  else if off = 0x10000 then bit s.clk.refOk + fld 1 (bit s.clk.rootLock) + fld 2 s.clk.src + fld 4 s.clk.gated
  else if off = 0x2000C then
    s.pwr.st.code + fld 3 (bit s.pwr.capLag) + fld 4 (bit s.pwr.capClamped) + fld 5 (bit (braked s))
      + fld 6 (bit (decide (0 < s.pwr.fill))) + fld 7 (bit s.pwr.slewShort) + fld 8 (bit s.pwr.thermal)
      + fld 9 (bit s.pwr.inputLow) + fld 10 (bit s.pwr.inputHigh)
  else if off = 0x20010 then s.pwr.draw % 2048 + fld 16 (s.pwr.a / 100 % 2048)
  else if off = 0x20014 then s.pwr.vin % 8192
  else if off = 0x20018 then s.pwr.tj % 256 + fld 8 (s.pwr.gddr % 256)
  else if off = 0x2001C then s.pwr.lastUs
  else if off = 0x30000 then fld 1 (bit s.hlt.plan) + fld 2 (bit s.hlt.deferred)
  else if off = 0x30004 then s.hlt.vcore
  else if off = 0x30008 then s.hlt.ageMin
  else if off = 0x40004 then
    (match s.mgt.holder with | none => 0 | some .a => 1 | some .b => 2) + fld 2 (bit s.sys.idOk) + fld 3 (bit s.sys.debugSeen)
  else if off = 0x60018 then
    s.fab.ana.port + fld 6 (bit s.fab.ana.en) + fld 7 (bit s.fab.ana.flow) + fld 8 s.fab.ana.jobs.length
  else if off = 0x60044 then s.rep.lastUs % 16384 + fld 14 (bit s.rep.hold.isSome)
  else if off = 0x60054 then 327680 - (s.fab.sflow.length + s.fab.dflow.length + s.fab.shadow.length)
  else if off = 0x6005C then s.fab.homeMap.foldl (fun a e => a + bit e.2.2) 0
  else if off = 0x60060 then 131072 - s.fab.dup.length
  else if off = 0x8000C then 142204 - sharedUsed s
  else if off = 0x80010 then 32768 - reorderUsed s
  else if off = 0x1C0004 then s.xlt.invals.length
  else if off = 0x300000 then stageSum s
  else if off = 0x30000C then 3145728 - memberSum s
  else if off = 0x380000 then s.flt.q.length + fld 13 (bit s.flt.lost)
  else if 0x380010 ≤ off ∧ off < 0x380030 then
    (match s.flt.q with | [] => 0 | r :: _ => r.word ((off - 0x380010) / 4))
  else if off = 0x3C0000 then fwState s + fld 3 (bit s.sys.imgOk) + fld 4 (bit s.fw.hinged)
  else if off = 0x3C0004 then (match s.fw.img with | some i => i.version | none => 0)
  else if off = 0x3C0008 then Config.romVersion.toNat + fld 8 s.sys.imgErr
  else if off = 0x3C0010 then fld 16 s.fw.okCount + fld 24 s.fw.rejCount
  else if off = 0x3C0014 then s.fw.logSeq % 65536
  else if off = 0x3E0000 then s.dbg.halted.foldl (fun a c => a + 2 ^ c) 0 + fld 16 (bit s.dbg.en)
  else if 0xC1000 ≤ off ∧ off < 0xC2000 ∧ (off - 0xC1000) % 0x40 = 4 then optStat (optPort s ((off - 0xC1000) / 0x40))
  else if 0xC1000 ≤ off ∧ off < 0xC2000 ∧ (off - 0xC1000) % 0x40 = 8 then optMap (optPort s ((off - 0xC1000) / 0x40))
  else if 0x101000 ≤ off ∧ off < 0x101400 ∧ (off - 0x101000) % 0x40 = 4 then cxlStat s ((off - 0x101000) / 0x40)
  else 0

/-- What an accessor reads of the registers that it holds for itself (R472, R480), if `off` is one. -/
def ownReg (s : State) (a off : Nat) : Option Nat :=
  let x := acc s a
  if off = 0x8 then
    some (bit s.regs.cfgErr + fld 1 (bit s.regs.armed) + fld 2 (bit s.regs.rsvp) + fld 3 (bit x.unlocked))
  else if off = 0x10 then some (fld 1 (bit x.view) + fld 16 s.regs.latchSeq)
  else if off = 0x18 then some x.latchHi
  else if off = 0x1C then some x.ind
  else if off = 0x38 then some x.timeHi
  else none

/-- The live value of the register at an offset, for accessor `a`. -/
def liveReg (s : State) (a off : Nat) : Word :=
  match regDef off with
  | none => 0#32
  | some r =>
    if r.count then BitVec.ofNat 32 (s.regs.cnt.get 0 off)
    else
      match ownReg s a off with
      | some v => BitVec.ofNat 32 v ||| (cfgReg s off &&& BitVec.ofNat 32 r.rsvp)
      | none =>
        let v := BitVec.ofNat 32 (roReg s off)
        if r.rw = 0 ∧ r.rwl = 0 then v ||| (cfgReg s off &&& BitVec.ofNat 32 r.rsvp)
        else if off = 0x28 then v else cfgReg s off

/-- What a read of the register at `off` returns to accessor `a`: a held count where its VIEW is 1 (R476). -/
def readReg (s : State) (a off : Nat) : Word :=
  match regDef off with
  | none => 0#32
  | some r =>
    if r.count && (acc s a).view then (match s.regs.held with | some h => BitVec.ofNat 32 (h.cnt.get 0 off) | none => 0#32)
    else liveReg s a off

/-! ### Indirect registers (R472 to R474, R291, R318, R430) -/

/-- The health counters and measurements as they stand (R475). -/
def liveSnap (s : State) : Snap :=
  { cnt := s.regs.cnt, ind := s.regs.ind, pen := s.hlt.pen, vmin := s.hlt.vmin,
    nolock := (s.opt.filter (fun e => !e.2.pll)).map Prod.fst, root := s.clk.rootLock, spine := s.sys.spine }

/-- The score that a penalty gives (R424). -/
def scoreOfPen (p : Nat) : Nat := 1000 - Nat.min (p / 100) 1000

/-- The score of a part. -/
def scoreOf (s : State) (i : Nat) : Nat := scoreOfPen (s.hlt.pen.get 0 i)

/-- PLL_STAT of PLL `k` (R474): the lock of a port's PHY PLL follows the port; losses are counted in the stored register. -/
def pllStat (x : Snap) (k : Nat) : Word :=
  (x.ind.get 0#32 (0x05000000 + 0x40 * k) &&& 0xFFFF0000#32) ||| BitVec.ofNat 32 (bit (x.root && !(decide (k < 64) && x.nolock.contains k)))

/-- An indirect register at an instant. -/
def indReg (x : Snap) (a : Nat) : Word :=
  if 0x05000000 ≤ a ∧ a ≤ 0x05000000 + 0x40 * 80 then
    (if (a - 0x05000000) % 0x40 = 0 then pllStat x ((a - 0x05000000) / 0x40) else 0#32)
  else if 0x03000000 ≤ a ∧ a < 0x03000000 + 4 * 1762 then BitVec.ofNat 32 (scoreOfPen (x.pen.get 0 ((a - 0x03000000) / 4)))
  else if 0x03200000 ≤ a ∧ a < 0x03200000 + 4 * 256 then BitVec.ofNat 32 (x.vmin.get 0 ((a - 0x03200000) / 4))
  else if 0x04000000 ≤ a ∧ a < 0x05000000 ∧ x.spine then 0#32
  else x.ind.get 0#32 a

/-- The indirect address of an accessor; its two low bits are reserved (R480). -/
def indAddr (s : State) (x : Nat) : Nat := (acc s x).ind / 4 * 4

/-- What a read of TOP_IND_DATA returns to accessor `x` (R472, R476). -/
def readInd (s : State) (x : Nat) : Word :=
  if (acc s x).view then (match s.regs.held with | some h => indReg h (indAddr s x) | none => 0#32)
  else indReg (liveSnap s) (indAddr s x)

/-- The configuration class, each register of it, ascending (R477). -/
def configOffsets : List Nat :=
  (regTable.filter (fun r => r.cfg)).foldr (fun r l =>
    (if r.off = 0xC1000 then (List.range 64).map (fun p => r.off + 0x40 * p) else [r.off]) ++ l) []

/-- TOP_CFGCRC: the CRC-32C over the configuration class (R477). -/
def configCrc (s : State) : Word :=
  crc32c ((configOffsets.map (fun o => leBytes 4 (cfgReg s o).toNat)).flatten)

end Sys2Proof.Machine
end

