-- ==== Sys2Proof/Machine/Ops.lean ====
section
/-! DEFINITION. The named operations that every command shares: how a command runs, what the module sends, fault records, reports,
the log ring, trace points, event logs, free values. -/

namespace Sys2Proof.Machine

/-- What a command's meaning answers. -/
abbrev Result := Host.Outcome State Fault Refusal

/-! ### How a command runs -/

/-- Every domain runs: the conversion is on, the root PLL, of which every clock but the AON's is a division, is locked, and no clock has been
lost (R400, R412 to R415). -/
def running (s : State) : Bool := s.sys.conv && !s.sys.aonOnly && s.clk.rootLock && !s.clk.stopped

/-- A command of the module: while the domains it needs are off or stopped it finds nobody and changes nothing (R400, R415); while
a changed RSV-P bit stands, the manual binds nothing (R471). -/
def run (f : State → State) (s : State) : Result :=
  if !running s then .next s else if unbound s then .fault .notBound else .next (f s)

/-- A register write: it stays defined while an RSV-P bit stands changed, since it may write the bit back (R471). -/
def runWrite (f : State → State) (s : State) : Result := if !running s then .next s else .next (f s)

/-- An event of the always-on domain, which a stopped clock or a thermal shutdown does not stop (R412, R415). -/
def runAon (f : State → State) (s : State) : Result :=
  if !s.sys.conv then .next s else if unbound s then .fault .notBound else .next (f s)

/-- An event of the input power: it finds the module whatever is off (R400). -/
def runPower (f : State → State) (s : State) : Result := .next (f s)

/-! ### What leaves the module -/

/-- The module sends `o`. -/
def emit (o : Out) (s : State) : State := { s with out := o :: s.out }

/-- Several, in order. -/
def emitAll (os : List Out) (s : State) : State := os.foldl (fun s o => emit o s) s

/-- A free value that nothing constrains, below `m`; the counter of values taken advances (log entry 1). -/
def freeVal (m : Nat) (s : State) : Nat × State := (Config.freeValue s.seed % m, { s with seed := s.seed + 1 })

/-! ### Fault records (R369 to R371) -/

/-- The default severity of a class (R370). -/
def sevOf (cls : Nat) : Nat :=
  if [0x2, 0x3, 0x4, 0x6, 0x7, 0x9, 0xA, 0xC, 0x11, 0x13, 0x16, 0x1D].contains cls then 2
  else if [0x5, 0x18].contains cls then 3
  else if cls = 0xE then 1 else 0

/-- A fault record: kept while the queue holds fewer than 4,096, else dropped, its class's overflow count raised and LOST set
(R371). SEQ counts it either way (R369). -/
def faultSev (cls block sev : Nat) (p : Option Nat) (addr detail : Nat) (s : State) : State :=
  let r : FRec := { cls, block, sev, part := p, seq := s.flt.seq % 2 ^ 32, timeNs := s.now, addr, detail }
  if s.flt.q.length < 4096 then { s with flt := { s.flt with q := s.flt.q ++ [r], seq := (s.flt.seq + 1) % 2 ^ 32 } }
  else bump (0x380100 + 4 * cls) { s with flt := { s.flt with lost := true, seq := (s.flt.seq + 1) % 2 ^ 32 } }

/-- A fault record of its class's default severity. -/
def fault (cls block : Nat) (p : Option Nat) (addr detail : Nat) (s : State) : State :=
  faultSev cls block (sevOf cls) p addr detail s

/-- A fault record for which no rule states DETAIL: a free value (log entry 30). -/
def faultAtSev (cls block sev : Nat) (p : Option Nat) (addr : Nat) (s : State) : State :=
  let (v, s) := freeVal (2 ^ 64) s
  faultSev cls block sev p addr v s

/-- The same, of its class's default severity. -/
def faultAt (cls block : Nat) (p : Option Nat) (addr : Nat) (s : State) : State := faultAtSev cls block (sevOf cls) p addr s

/-- A fault record for which no rule states ADDR or DETAIL. -/
def faultAny (cls block sev : Nat) (p : Option Nat) (s : State) : State :=
  let (v, s) := freeVal (2 ^ 64) s
  faultAtSev cls block sev p v s

/-! ### Reports (R448, R449) -/

/-- One link's copy of a report: kept while the link's store has room, else dropped and counted. REPORT_SEQ rises either way. -/
def reportOn (l : Link) (code : Nat) (payload : Bytes) (s : State) : State :=
  match l with
  | .a =>
    let s' := { s with fw := { s.fw with seqA := (s.fw.seqA + 1) % 2 ^ 32 } }
    if s.fw.repA.length < 64 then
      emit (.report .a s.fw.seqA code payload)
        { s' with fw := { s'.fw with repA := s.fw.repA ++ [⟨s.fw.seqA, code, payload⟩] } }
    else bump 0x3C000C s'
  | .b =>
    let s' := { s with fw := { s.fw with seqB := (s.fw.seqB + 1) % 2 ^ 32 } }
    if s.fw.repB.length < 64 then
      emit (.report .b s.fw.seqB code payload)
        { s' with fw := { s'.fw with repB := s.fw.repB ++ [⟨s.fw.seqB, code, payload⟩] } }
    else bump 0x3C000C s'

/-- A report to both managers. -/
def reportRaw (code : Nat) (payload : Bytes) (s : State) : State := reportOn .b code payload (reportOn .a code payload s)

/-- A report with the payload SUBJECT and DETAIL (R449). -/
def report (code subject detail : Nat) (s : State) : State := reportRaw code (leBytes 8 subject ++ leBytes 8 detail) s

/-! ### Log ring and trace points (R454, R455) -/

/-- An entry of the log ring. -/
def logEntry (source level : Nat) (p : Option Nat) (point code : Nat) (data : Bytes) (s : State) : State :=
  let e := leBytes 8 s.fw.logSeq ++ leBytes 8 s.now ++ leBytes 1 source ++ leBytes 1 level ++ leBytes 1 (p.getD 255)
    ++ leBytes 1 point ++ leBytes 4 code ++ (data ++ zeroBytes 40).take 40
  { s with fw := { s.fw with log := s.fw.log.ins (s.fw.logSeq % 65536) e, logSeq := s.fw.logSeq + 1 } }

/-- Trace point `pt` is reached for partition `p`: it writes an entry while firmware runs and the partition's mask selects it.
The level and code of a trace entry are the image's own (log entry 24). -/
def tracePoint (pt p : Nat) (data : Bytes) (s : State) : State :=
  if fwRuns s && bitOf (leNat (part s p).trace) pt then
    logEntry 1 (Config.traceLevel pt s.fw.logSeq % 4) (some p) pt (Config.traceCode pt s.fw.logSeq) data s
  else s

/-! ### Event logs of the attachments (R312) -/

/-- The port that holds the attachment's event log: its lowest. -/
def evtPort (s : State) (a : Nat) : Option Nat := (attachPorts s a).head?

/-- The lowest-numbered UP port of an attachment (R308, R311). -/
def upPort (s : State) (a : Nat) : Option Nat := (attachPorts s a).find? (fun p => (cxlPort s p).st == .up)

/-- A port in L1 leaves it (R295). -/
def leaveL1 (p : Nat) (s : State) : State := if (cxlPort s p).l1 then setCxl s p { cxlPort s p with l1 := false } else s

/-- An event record in the log of an attachment, with the log's MSI-X (R304, R311). -/
def event (a kind : Nat) (args : List Nat) (s : State) : State :=
  match evtPort s a with
  | none => s
  | some p =>
    let c := cxlPort s p
    let s := emit (.event a kind args) (setCxl s p { c with evts := c.evts ++ [⟨c.evtN, kind, args⟩], evtN := c.evtN + 1 })
    match upPort s a with
    | some u => emit (.msix u (Config.logVector a)) s
    | none => s

/-- A fault record leaves the queue: firmware reports it, logs it, and copies it to the event logs of the partition's
attachments (R372). -/
def popFault (s : State) : State :=
  match s.flt.q with
  | [] => s
  | r :: q =>
    let w := fun k => leBytes 4 (r.word k)
    let bytes := ((List.range 8).map w).flatten
    let s := { s with flt := { s.flt with q := q } }
    let s := reportRaw 0x8001 bytes s
    let s := logEntry 2 (Config.recordLevel s.fw.logSeq % 4) r.part (Config.recordPoint s.fw.logSeq) r.cls ((bytes.drop 8).take 24) s
    match r.part with
    | none => s
    | some p => ((part s p).binds.map Prod.fst).foldl (fun s a => event a 2 [r.cls, r.addr, r.detail] s) s

/-! ### Partitions and jobs -/

/-- The partition of this module that holds a job tag, outside FREE. -/
def partOfJob (s : State) (job : Nat) : Option Nat :=
  (s.parts.find? (fun e => e.2.st != .free && e.2.prm.jobTag == job)).map Prod.fst

/-- The same, outside FREE and RELEASING (R504, R505). -/
def livePartOfJob (s : State) (job : Nat) : Option Nat :=
  (s.parts.find? (fun e => e.2.st != .free && e.2.st != .releasing && e.2.prm.jobTag == job)).map Prod.fst

/-- Some partition of the module is ACTIVE. -/
def anyActive (s : State) : Bool := s.parts.any (fun e => e.2.st == .active)

/-- Some partition is ACTIVE or TORN (R402). -/
def anyBusy (s : State) : Bool := s.parts.any (fun e => e.2.st == .active || e.2.st == .torn)

/-- An intrusive test is refused: a bound partition is ACTIVE; in spine role any ACTIVE partition counts (R423). -/
def intrusiveBusy (s : State) : Bool :=
  s.parts.any (fun e => e.2.st == .active && (s.sys.spine || !e.2.binds.isEmpty))

/-- The request timeout of a partition in ns: 0 selects 50 µs (R376). -/
def reqTimeoutNs (s : State) (p : Nat) : Nat :=
  1000 * (if (part s p).prm.reqTimeout = 0 then 50 else (part s p).prm.reqTimeout)

/-- The partition that owns a queue number (R119). -/
def partOfQueue (s : State) (q : Nat) : Option Nat :=
  (s.parts.find? (fun e => e.2.st != .free && decide (e.2.prm.qBase ≤ q) && decide (q < e.2.prm.qBase + e.2.prm.qCount))).map Prod.fst

/-- The scratchpad slice that holds a landing counter (R15); no command shows it. -/
def ctrSlice (c : Nat) : Nat := c % 128

/-- The partition that owns a landing counter (R42). -/
def partOfCtr (s : State) (c : Nat) : Option Nat :=
  (s.parts.find? (fun e => e.2.st != .free && decide (e.2.prm.cBase ≤ c) && decide (c < e.2.prm.cBase + e.2.prm.cCount))).map Prod.fst

/-- The partition bound in a slot of an attachment (R302). -/
def partInSlot (s : State) (a slot : Nat) : Option Nat :=
  (s.parts.find? (fun e => e.2.binds.contains (a, slot))).map Prod.fst

/-- A partition is bound to an attachment. -/
def boundTo (s : State) (p a : Nat) : Bool := (part s p).binds.any (fun b => b.1 == a)

/-- A partition's consent includes a scope: bit 0 DEBUG, 1 TRACE, 2 ANALYSIS (R395). -/
def consents (p : Part) (scope : Nat) : Bool :=
  match p.consent with | none => false | some t => bitOf (leNat ((t.drop 2).take 1)) scope

/-! ### Events of health (R424) -/

/-- `n` events of a kind at a part, in the second that runs. -/
def health (i kind n : Nat) (s : State) : State :=
  { s with hlt := { s.hlt with events := s.hlt.events.put 0 (16 * i + kind) (s.hlt.events.get 0 (16 * i + kind) + n) } }

/-! ### Lost modules (R106, R328) -/

/-- A module has its LOST bit set in the home map. -/
def isLost (s : State) (m : Nat) : Bool := (s.fab.homeMap.get (0, false) m).2

/-- The pool EPID of a module, from the home map. -/
def poolEpid (s : State) (m : Nat) : Option Nat := (s.fab.homeMap.find m).map Prod.fst

/-- The pool EPID of a module, where its entry is valid (R211). -/
def livePool (s : State) (m : Nat) : Option Nat := (poolEpid s m).filter (fun e => (endpoint s e).v)

/-- An EPID of this module of a kind: 0 attachment (with its number), 1 pool, 2 control complex. -/
def ownEpid (s : State) (kind att : Nat) : Option Nat :=
  (s.fab.ep.find? (fun e => e.2.v && e.2.isLocal && e.2.kind == kind && (kind != 0 || e.2.attach == att))).map Prod.fst

/-- The control-complex EPID of a module, from the endpoint table. -/
def ctrlEpid (s : State) (m : Nat) : Option Nat :=
  (s.fab.ep.find? (fun e => e.2.v && e.2.kind == 2 && e.2.home == m)).map Prod.fst

end Sys2Proof.Machine
end

