-- ==== Sys2Proof/Machine/Operands.lean ====
section
/-! DEFINITION. The form that every message shares: its port, its class, its order of checks, its response (R442 to R446, R496,
R502), and the operand fields of descriptors and leaves (R95, R127 to R132). -/

namespace Sys2Proof.Machine

/-! ### Messages -/

/-- A row of R447: its opcode, whether it is a mutation (R381), who may send it, whether the boot ROM serves it (R446). -/
structure Msg where
  opcode : Nat
  mutates : Bool
  mgr : Bool
  host : Bool
  rom : Bool
deriving DecidableEq, Repr

/-- What a message's effect answers: the state, and its response payload, or none where it responds later (R446). -/
abbrev Answer := State × Option Bytes

def linkIdx : Link → Nat
  | .a => 0
  | .b => 1

/-- The port of arrival can carry a message: a link always, a CXL port while CXL.io is up (R294). -/
def srcUp (s : State) : Src → Bool
  | .mgt _ => true
  | .cxl p => (attachOf s p).isSome && ((cxlPort s p).st == .ioOnly || (cxlPort s p).st == .up)

/-- The attachment behind a CXL port of arrival. -/
def srcAttach (s : State) : Src → Option Nat
  | .mgt _ => none
  | .cxl p => attachOf s p

/-- A response, stored with its TXN on a link (R496). -/
def respond (src : Src) (txn tag minor : Nat) (st : Status) (payload : Bytes) (s : State) : State :=
  let o : Out := .resp src txn tag minor st payload
  let s := emit o s
  match src with
  | .mgt l => { s with mgt := { s.mgt with last := s.mgt.last.ins (linkIdx l) (txn, o) } }
  | .cxl _ => s

/-- A response to a request. -/
def answer (r : Req) (st : Status) (payload : Bytes) (s : State) : State := respond r.src r.txn r.tag r.minor st payload s

/-- The module owes `r` its response. -/
def owe (r : Req) (why key : Nat) (s : State) : State :=
  { s with mgt := { s.mgt with owed := s.mgt.owed ++ [⟨r.src, r.txn, r.tag, r.minor, why, key⟩] } }

/-- The responses owed for a reason and a subject go out. -/
def settle (why key : Nat) (st : Status) (payload : Bytes) (s : State) : State :=
  let due := s.mgt.owed.filter (fun o => o.why == why && o.key == key)
  due.foldl (fun s o => respond o.src o.txn o.tag o.minor st payload s)
    { s with mgt := { s.mgt with owed := s.mgt.owed.filter (fun o => !(o.why == why && o.key == key)) } }

/-- A request of this port is held or awaits its response (R442, R450). -/
def busyPort (s : State) (src : Src) : Bool := s.mgt.owed.any (fun o => o.src == src)

/-- Every message from the lease holder renews the lease, and a new LEASE_MS applies from it (R381, R399). -/
def heard (src : Src) (s : State) : State :=
  match src with
  | .cxl _ => s
  | .mgt l =>
    if s.mgt.holder = some l then
      { s with mgt := { s.mgt with heardNs := s.now, leaseMs := cfgField s 0x40000 12 0 } }
    else s

/-- The MAJOR and MINOR of a request are served (R444). -/
def versionOk (s : State) (r : Req) : Bool :=
  decide (r.major = 1) && decide (r.minor ≤ (match s.fw.img with | some i => i.msgMinor | none => 0))

/-- The first failing check decides (R502). -/
def firstFail : List (Bool × Status) → Option Status
  | [] => none
  | (b, st) :: l => if b then some st else firstFail l

/-- The class of the port does not permit the message, or a host names a partition not bound to its attachment (R379). -/
def classBad (s : State) (r : Req) (m : Msg) (p : Option Nat) : Bool :=
  match r.src with
  | .mgt _ => !m.mgr
  | .cxl _ => !m.host || (match p, srcAttach s r.src with | some p, some a => !boundTo s p a | _, none => true | none, _ => false)

/-- A manager without the lease sends a mutation (R381). -/
def leaseBad (s : State) (r : Req) (m : Msg) : Bool :=
  match r.src with | .mgt l => m.mutates && s.mgt.holder != some l | .cxl _ => false

/-- A management command names as live a module that the data path has declared lost: counted, recorded, reported (R330). The manual gives
no code for the data path's state: DETAIL is a free value (log entry 30). -/
def disagree (opcode : Nat) (s : State) : State :=
  let (v, s) := freeVal (2 ^ 64) s
  report 0x8010 opcode v (faultAny 0x12 7 0 none (bump 0x60058 s))

/-- A request carried out: the checks in the order of R502, then the effect. `p`: the partition that a host must have bound;
`checks`: the command's own refusals in rank order. -/
def serve (r : Req) (m : Msg) (p : Option Nat) (checks : State → List (Bool × Status)) (eff : State → Answer) (s : State) : State :=
  if m.opcode ≠ 1 ∧ !versionOk s r then answer r .version [] s
  else if !r.lenOk then answer r .length [] s
  else if !m.rom && !fwRuns s then answer r .noFw [] s
  else if leaseBad s r m then answer r .lease [] (bump 0x4000C s)
  else if classBad s r m p then answer r .denied [] (faultAny 0 0 0 none (bump 0x40008 s))
  else
    match firstFail (checks s) with
    | some st => answer r st [] (if st = .lost then disagree m.opcode s else s)
    | none =>
      match eff s with
      | (s', some b) => answer r .ok b s'
      | (s', none) => s'

/-- The stored response of a link to this TXN (R496). -/
def stored (s : State) (r : Req) : Option Out :=
  match r.src with
  | .mgt l => (match s.mgt.last.find (linkIdx l) with | some (t, o) => if t = r.txn then some o else none | none => none)
  | .cxl _ => none

/-- The holder of the lease is heard; a repeated TXN gets its stored response; a port with a response outstanding is BUSY; during
the Hinge pause a request is held (R450), but for MOD_RESET, which abandons it (R368); any other request is served. -/
def message (r : Req) (m : Msg) (p : Option Nat) (c : Instr) (checks : State → List (Bool × Status)) (eff : State → Answer)
    (s : State) : State :=
  if !srcUp s r.src then s
  else
    let s := heard r.src s
    match stored s r with
    | some o => emit o s
    | none =>
      if s.mgt.owed.any (fun o => o.src == r.src && o.txn == r.txn && (match r.src with | .mgt _ => true | .cxl _ => false)) then s
      else if busyPort s r.src then answer r .busy [] s
      else if s.fw.hinge.isSome && m.opcode != 7 then owe r 9 0 { s with fw := { s.fw with held := s.fw.held ++ [c] } }
      else serve r m p checks eff s

/-- Answers at once, with no payload. -/
def done (s : State) : Answer := (s, some [])

/-! ### Descriptor fields (R127 to R132) -/

namespace D
def opcode (d : Desc) : Nat := bitsOf d.w0.toNat 3 0
def cnt (d : Desc) : Bool := bitOf d.w0.toNat 4
def halt (d : Desc) : Bool := bitOf d.w0.toNat 5
def counter (d : Desc) : Nat := bitsOf d.w0.toNat 31 16
def length (d : Desc) : Nat := bitsOf d.w0.toNat 63 32
def srcAddr (d : Desc) : Nat := d.w1.toNat
def dstAddr (d : Desc) : Nat := d.w2.toNat
def srcKind (d : Desc) : Nat := bitsOf d.w3.toNat 1 0
def dstKind (d : Desc) : Nat := bitsOf d.w3.toNat 3 2
def dstEpid (d : Desc) : Nat := bitsOf d.w3.toNat 20 4
def treeNo (d : Desc) : Nat := bitsOf d.w3.toNat 33 21
def xBytes (d : Desc) : Nat := bitsOf d.w4.toNat 31 0
def yRows (d : Desc) : Nat := bitsOf d.w4.toNat 47 32
def zPlanes (d : Desc) : Nat := bitsOf d.w4.toNat 63 48
def srcRow (d : Desc) : Nat := bitsOf d.w5.toNat 31 0
def dstRow (d : Desc) : Nat := bitsOf d.w5.toNat 63 32
def srcPlane (d : Desc) : Nat := bitsOf d.w6.toNat 47 0
def dstPlane (d : Desc) : Nat := bitsOf d.w7.toNat 47 0
def atomOp (d : Desc) : Nat := bitsOf d.w0.toNat 35 32
def atomType (d : Desc) : Nat := bitsOf d.w0.toNat 39 36
def atomAddr (d : Desc) : Nat := bitsOf d.w1.toNat 49 0
def operand (d : Desc) : Nat := d.w2.toNat
def compare (d : Desc) : Nat := d.w3.toNat
def expected (d : Desc) : Nat := d.w1.toNat
def waitEpid (d : Desc) : Nat := bitsOf d.w2.toNat 16 0
def value (d : Desc) : Nat := bitsOf d.w0.toNat 63 32
def sigEpid (d : Desc) : Nat := bitsOf d.w1.toNat 16 0
def group (d : Desc) : Nat := bitsOf d.w0.toNat 43 32
def collop (d : Desc) : Nat := bitsOf d.w0.toNat 47 44
def operator (d : Desc) : Nat := bitsOf d.w0.toNat 51 48
def fmt (d : Desc) : Nat := bitsOf d.w0.toNat 56 52
def sat (d : Desc) : Bool := bitOf d.w0.toNat 57
def root (d : Desc) : Nat := bitsOf d.w3.toNat 20 4
def chunkLog2 (d : Desc) : Nat := bitsOf d.w3.toNat 25 21
def depth (d : Desc) : Nat := bitsOf d.w3.toNat 30 26
def elements (d : Desc) : Nat := bitsOf d.w4.toNat 39 0
def rowLen (d : Desc) : Nat := bitsOf d.w5.toNat 15 0
end D

/-! ### Leaf fields (R95) -/

namespace Leaf
def v (l : BitVec 128) : Bool := l.getLsbD 0
def isLeaf (l : BitVec 128) : Bool := l.getLsbD 1
def r (l : BitVec 128) : Bool := l.getLsbD 2
def w (l : BitVec 128) : Bool := l.getLsbD 3
def a (l : BitVec 128) : Bool := l.getLsbD 4
def mv (l : BitVec 128) : Bool := l.getLsbD 5
def homeAddr (l : BitVec 128) : Nat := bitsOf l.toNat 52 16
def homeModule (l : BitVec 128) : Nat := bitsOf l.toNat 65 53
def mirrorModule (l : BitVec 128) : Nat := bitsOf l.toNat 78 66
def extentId (l : BitVec 128) : Nat := bitsOf l.toNat 92 79
/-- Every reserved bit is zero. -/
def reservedZero (l : BitVec 128) : Bool := bitsOf l.toNat 15 6 == 0 && bitsOf l.toNat 127 93 == 0
end Leaf

end Sys2Proof.Machine
end

