-- ==== Sys2Proof/Machine/Switch.lean ====
section
/-! DEFINITION. The switch core and the sending side of a Biria link: ports and lanes (R242, R243), queues and scheduler (R245 to R249), credit
(R250 to R252), flits sent (R270 to R275), copies to the analysis port (R237, R238, R259). A transfer
that has begun ends within the command that let it begin: a slot moves one cell on each matched pair of lanes (log entry 94). -/

namespace Sys2Proof.Machine

/-! ### Ports and lanes (R242, R243) -/

/-- A fabric port's link carries flits (R280). -/
def OptPort.lit (o : OptPort) : Bool := o.st == .up || o.st == .spareless || o.st == .degraded

/-- A port is up for repair and routing (R280), unless it is the analysis port (R235). -/
def portUp (s : State) (p : Nat) : Bool := (optPort s p).lit && !(s.fab.ana.en && s.fab.ana.port == p)

/-- Ports: F0 to F63 are 0 to 63, T0 to T31 64 to 95, M0 to M7 96 to 103, C0 to C31 104 to 135, X0 to X15 136 to 151, K0 152. -/
def portCount : Nat := 153

/-- Lanes of a port: two for T, M and C. -/
def laneCount (p : Nat) : Nat := if 64 ≤ p ∧ p < 136 then 2 else 1

/-- The lowest lane of a port; 225 lanes in all. -/
def firstLane (p : Nat) : Nat := if p < 64 then p else if p < 136 then 64 + 2 * (p - 64) else 208 + (p - 136)

def portLanes (p : Nat) : List Nat := (List.range (laneCount p)).map (fun i => firstLane p + i)

/-- The port of a lane. -/
def portOfLane (l : Nat) : Nat := if l < 64 then l else if l < 208 then 64 + (l - 64) / 2 else 136 + (l - 208)

/-- The T port of a queue: its engine's, or by its number while it holds none (log entry 95). -/
def enginePort (s : State) (q : Nat) : Nat :=
  64 + (match s.qs.engines.find? (fun e => e.2.q == q) with | some e => e.1 | none => q) % 32

/-- The T port of the operation that a request of `own` serves. -/
def reqEngine (s : State) (own wid : Nat) : Option Nat :=
  match s.fab.reqs.find wid with
  | some r =>
    if r.src = own then (match r.serves with | .op q _ => some (enginePort s q) | .piece q _ _ => some (enginePort s q) | _ => none) else none
  | none => none

/-- The internal port that serves an EPID of this module for a packet to or from another (R242, R245; log entry 95). -/
def blockPort (s : State) (own other vc wid : Nat) : Nat :=
  let e := endpoint s own
  if e.kind = 0 then
    match reqEngine s own wid with
    | some t => t
    | none => 136 + (match upPort s e.attach with | some p => p | none => ((attachPorts s e.attach).head?).getD 0)
  else if e.kind = 1 then 96 + (own + other) % 8
  else if vc = 0 then 152
  else if vc = 7 then 96 + (own + other) % 8
  else 104 + (own + other) % 32

/-- The internal port that a packet of this module comes from. -/
def fromPort (s : State) (h : Hdr) : Nat := blockPort s h.src h.dst h.vc h.wid

/-- The internal port that a packet for this module goes to. -/
def toPort (s : State) (h : Hdr) : Nat := blockPort s h.dst h.src h.vc h.wid

/-! ### Buffer and credit (R250, R251) -/

/-- Buffer for a packet of a local block: shared cells below the port's cap, else the reservation of its port and channel (R250, R251). -/
def takeInternal (s : State) (inp vc cells : Nat) : Option Own :=
  if cellsHeld s (fun o => o == .intShared inp) + cells ≤ internalCap s * 4096 ∧ sharedCells s + cells ≤ sharedSize then some (.intShared inp)
  else if cellsHeld s (fun o => o == .intRes inp vc) + cells ≤ 18 then some (.intRes inp vc)
  else none

/-- Buffer for a packet that arrives on a fabric port with `cls` hops: the shared credit that its upstream holds, else the reservation
(R251). -/
def takeFabric (p vc cls cells : Nat) (s : State) : Own × State :=
  let o := optPort s p
  if cells ≤ o.granted then (.fabShared p, setOpt s p { o with granted := o.granted - cells }) else (.fabRes p vc cls, s)

/-- A credit return waits for the next sequenced flit of a port. -/
def pushRet (p vc cls : Nat) (shared : Bool) (n : Nat) (s : State) : State :=
  let o := optPort s p
  if !o.lit || n = 0 then s
  else if o.ret.any (fun x => x.1 == vc && x.2.1 == cls && x.2.2.1 == shared) then
    setOpt s p { o with ret := o.ret.map (fun x => if x.1 = vc ∧ x.2.1 = cls ∧ x.2.2.1 = shared then (vc, cls, shared, x.2.2.2 + n) else x) }
  else setOpt s p { o with ret := o.ret ++ [(vc, cls, shared, n)] }

/-- Cells leave the buffer: reserved cells of a fabric port return to the upstream as credit (R251). -/
def leave (o : Own) (n : Nat) (s : State) : State :=
  match o with
  | .fabRes p vc cls => pushRet p vc cls false n s
  | _ => s

/-- Cells that a packet takes on arrival leave again at once: it is discarded, or a local block or the reorder store takes it (R251, R252). -/
def passCells (p vc cls cells : Nat) (s : State) : State :=
  let x := takeFabric p vc cls cells s
  leave x.1 cells x.2

/-- A block of shared credit is granted where the upstream holds fewer than 256 cells, the port is below its cap and the region has the
block free (R251). -/
def grantShared (p : Nat) (s : State) : State :=
  let o := optPort s p
  if o.lit ∧ o.granted < 256 ∧ cellsHeld s (fun x => x == .fabShared p) + o.granted + 256 ≤ fabricCap s * 4096 ∧ sharedCells s + 256 ≤ sharedSize then
    pushRet p 0 0 true 1 (setOpt s p { o with granted := o.granted + 256 })
  else s

/-- Credit for a packet that will arrive at the next module with `cls` hops (R251): shared credit first, then reserved. -/
def takeCredit (o : OptPort) (vc cls cells : Nat) : Option OptPort :=
  if cells ≤ o.shared then some { o with shared := o.shared - cells }
  else if cells ≤ o.credit.get 0 (8 * vc + cls) then
    some { o with credit := o.credit.put 0 (8 * vc + cls) (o.credit.get 0 (8 * vc + cls) - cells) }
  else none

/-! ### Flits sent (R270 to R275) -/

/-- A flit goes to the transmitter: the stream and its scramblers go on by 256 bytes. -/
def putFlit (p : Nat) (h : FlitHdr) (msg : Bytes) (s : State) : State :=
  let o := optPort s p
  let b := flitBytes h msg
  let x := lightOf o.tx o.pos o.scr b
  emit (.flit p b x.1) (setOpt s p { o with pos := (o.pos + 256) % 840, scr := x.2 })

/-- The header of a sequenced flit as it goes out now: ACK and NAK take their current values (R274). -/
def txHdr (o : OptPort) (f : TxFlit) : FlitHdr :=
  { type := if f.link then 2 else 1, sop := f.sop, eop := f.eop, abandon := f.abandon, nak := o.nak, lseq := f.seq, ack := o.expect,
    crVc := f.crVc, crClass := f.crClass, crShared := f.crShared, crCount := f.crCount }

/-- An IDLE flit, which carries ACK and NAK (R271, R274). -/
def sendIdle (p : Nat) (s : State) : State :=
  let o := optPort s p
  putFlit p { type := 0, sop := false, eop := false, abandon := false, nak := o.nak, lseq := o.next, ack := o.expect, crVc := 0, crClass := 0,
              crShared := false, crCount := 0 } [] s

/-- A flit takes the next LSEQ and the oldest credit return that waits, and goes; the port leaves idle power first (R266). -/
def sendSeq (p : Nat) (f : TxFlit) (s : State) : State :=
  let o := optPort s p
  let f := { f with seq := o.next }
  let (f, ret) := match o.ret with
    | [] => (f, [])
    | (vc, cls, sh, n) :: r =>
      ({ f with crVc := vc, crClass := cls, crShared := sh, crCount := Nat.min n 127 }, if 127 < n then (vc, cls, sh, n - 127) :: r else r)
  let o := { o with next := (o.next + 1) % 16384, sent := o.sent ++ [f], ret := ret, idle := false }
  putFlit p (txHdr o f) f.msg (setOpt s p o)

/-- A LINK flit with a link message (R277). -/
def linkFlit (opc : Nat) (args : List Nat) : TxFlit :=
  { seq := 0, link := true, sop := false, eop := false, abandon := false, crVc := 0, crClass := 0, crShared := false, crCount := 0,
    msg := linkMsg opc args, own := none, dst := 0 }

/-- The flit that a port sends next: a LINK flit, a DATA flit unless a failure swap stops them, or a NOP for a credit return
(R275, R277, R282). -/
def txNext (p : Nat) (s : State) : Option State :=
  let o := optPort s p
  if !o.lit || decide (8192 ≤ o.sent.length) then none
  else
    match o.links, o.data with
    | f :: fs, _ => some (sendSeq p f (setOpt s p { o with links := fs }))
    | [], f :: fs =>
      if !o.stall then some (sendSeq p f (setOpt s p { o with data := fs }))
      else if o.ret.isEmpty then none else some (sendSeq p (linkFlit 0 []) s)
    | [], [] => if o.ret.isEmpty then none else some (sendSeq p (linkFlit 0 []) s)

/-- Up to `n` flits go. -/
def txRun (p : Nat) : Nat → State → State
  | 0, s => s
  | n + 1, s => match txNext p s with | some s => txRun p n s | none => s

/-- Everything that a port may send goes. -/
def txPort (p : Nat) (s : State) : State :=
  let o := optPort s p
  txRun p (o.links.length + o.data.length + o.ret.foldl (fun a x => a + x.2.2.2 / 127 + 1) 0) s

/-- A link message is sent. -/
def sendLink (p opc : Nat) (args : List Nat) (s : State) : State :=
  let o := optPort s p
  if o.lit then txPort p (setOpt s p { o with links := o.links ++ [linkFlit opc args] }) else s

/-- A DATA flit for a link, not yet numbered. -/
def dataFrame (sop eop abandon : Bool) (msg : Bytes) (own : Option Own) (dst : Nat) : TxFlit :=
  { seq := 0, link := false, sop, eop, abandon, crVc := 0, crClass := 0, crShared := false, crCount := 0, msg, own, dst }

/-- The flits of a packet's bytes (R255, R271). -/
def framesOf (bytes : Bytes) (n dst : Nat) (own : Option Own) : List TxFlit :=
  (List.range n).map (fun k =>
    dataFrame (k == 0) (k + 1 == n) false ((bytes.drop (240 * k)).take 240) own dst)

/-- Framed flits go to a port's link. -/
def frameOut (p : Nat) (fs : List TxFlit) (s : State) : State :=
  let o := optPort s p
  txPort p (setOpt s p { o with data := o.data ++ fs })

/-! ### The analysis port (R235 to R238, R259) -/

/-- The prefix of a copy (R237). -/
def copyPrefix (s : State) (port : Nat) (egressDir flow : Bool) : Bytes :=
  leBytes 8 (s.sys.moduleId + fld 13 port + fld 19 (bit egressDir) + fld 20 (bit flow) + fld 21 (s.now % 2 ^ 43))

/-- The oldest copy goes to the analysis port's link, once the one before it has gone. -/
def copyNext (s : State) : Option State :=
  let a := s.fab.ana
  let o := optPort s a.port
  if !a.en || !o.lit || !o.data.isEmpty then none
  else
    match a.queue with
    | [] => none
    | (_, b) :: q => some (frameOut a.port (framesOf b (copyCells b) 0 none) (emit (.copy a.port b) { s with fab := { s.fab with ana := { a with queue := q } } }))

def copyRun : Nat → State → State
  | 0, s => s
  | n + 1, s => match copyNext s with | some s => copyRun n s | none => s

/-- The analysis port's queue is read out as far as its link takes it. -/
def flushCopies (s : State) : State := copyRun s.fab.ana.queue.length s

/-- A packet of a job on the consent list, as it crosses a port: copied where the port or its flow is the source; VC0 never (R236). A
flow's packet is copied at the port it leaves by, or comes in by for this module (R237). A copy that finds 1 MiB of copies
queued is lost (R238, R259). -/
def anaCopyBytes (p : Nat) (egressDir : Bool) (h : Hdr) (b : Bytes) (s : State) : State :=
  let a := s.fab.ana
  let hit := if a.flow then h.src == a.srcEpid && h.dst == a.dstEpid && h.vc == a.vc && (egressDir || (endpoint s h.dst).isLocal)
    else p == a.src && (a.dir == 2 || a.dir == bit egressDir)
  if a.en && h.vc != 0 && a.jobs.contains h.job && hit then
    let c := copyPrefix s p egressDir a.flow ++ b
    if 256 * (a.queue.foldl (fun n x => n + copyCells x.2) 0 + copyCells c) ≤ 2 ^ 20 then
      flushCopies { s with fab := { s.fab with ana := { a with queue := a.queue ++ [(h.job, c)] } } }
    else bump 0x60028 s
  else s

/-- The same, of a packet. -/
def anaCopy (p : Nat) (egressDir : Bool) (q : Pkt) (s : State) : State := anaCopyBytes p egressDir q.h (pktBytes q) s

/-! ### The scheduler (R246, R247) -/

/-- A request: input lane, output lane, the queue. -/
structure Rq where
  inL : Nat
  outL : Nat
  key : Nat
deriving DecidableEq, Repr

/-- A transfer under way: its lanes, the packet, cells still to cross, whether the first iteration made the match. -/
structure Xfer where
  inL : Nat
  outL : Nat
  q : Queued
  left : Nat
  first : Bool
deriving DecidableEq, Repr

/-- The channels that share by deficit round robin, in their order (R247). -/
def drrVcs : List Nat := [1, 3, 4, 5, 6, 7]

/-- The weight of the `i`-th of them, in cells per round. -/
def drrWeight (s : State) (i : Nat) : Nat := 18 * cfgField s 0x80000 (4 * i + 3) (4 * i)

def outLane (s : State) (l : Nat) : OutLane := s.fab.lanes.get OutLane.init l
def setLane (l : Nat) (x : OutLane) (s : State) : State := { s with fab := { s.fab with lanes := s.fab.lanes.put OutLane.init l x } }

/-- The input lane of a queue (log entry 95). -/
def inLane (k : Nat) : Nat := firstLane (voqIn k) + (voqOut k + voqVc k) % laneCount (voqIn k)

/-- A packet may cross to its output: a fabric port is up, may send DATA and holds the packet's credit (R246, R251); a block takes every
packet (R252, log entry 95). -/
def canCross (s : State) (outp : Nat) (x : Load) : Bool :=
  if outp < 64 then
    let o := optPort s outp
    portUp s outp && !o.stall && o.data.isEmpty && decide (o.sent.length < 8192) && (takeCredit o x.vc (x.hops + 1) x.cells).isSome
  else true

/-- Lanes that a packet under way by cut-through holds. -/
def cutIn (s : State) (l : Nat) : Bool := s.fab.cuts.any (fun c => c.inp == l)
def cutOut (s : State) (l : Nat) : Bool := s.fab.cuts.any (fun c => c.outp == some l)

/-- The requests of the lanes not yet matched (R246 step 1). -/
def requests (xs : List Xfer) (s : State) : List Rq :=
  s.fab.voq.flatMap (fun e =>
    match e.2 with
    | [] => []
    | q :: _ =>
      if xs.any (fun x => x.inL == inLane e.1) || cutIn s (inLane e.1) || !canCross s (voqOut e.1) q.load then []
      else ((portLanes (voqOut e.1)).filter (fun l => !xs.any (fun x => x.outL == l) && !cutOut s l)).map (fun l => ⟨inLane e.1, l, e.1⟩))

/-- The channel that an output lane serves next, with the deficits after a new round where one begins (R247). -/
def arbitrate (s : State) (l : OutLane) (ask : Nat → Bool) : Option (Nat × List Int) :=
  if ask 0 then some (0, l.drr)
  else if ask 2 then some (2, l.drr)
  else
    let asks := drrVcs.map ask
    if !asks.any id then none
    else
      let pos (d : List Int) (i : Nat) : Bool := asks.getD i false && decide (0 < d.getD i 0)
      let d := if (List.range 6).any (pos l.drr) then l.drr
        else (List.range 6).map (fun i => l.drr.getD i 0 + (if asks.getD i false then (drrWeight s i : Int) else 0))
      ((List.range 6).map (fun k => (l.last + k) % 6)).find? (pos d) |>.map (fun i => (drrVcs.getD i 0, d))

/-- The first lane at or after a pointer, in ascending cyclic order. -/
def firstFrom (ptr : Nat) (ls : List Nat) : Option Nat :=
  ls.foldl (fun b l => match b with
    | none => some l
    | some m => if (l + 225 - ptr) % 225 < (m + 225 - ptr) % 225 then some l else some m) none

/-- An output lane's grant (R246 step 2). -/
def grantOf (rs : List Rq) (l : Nat) (s : State) : Option (Rq × State) :=
  let mine := rs.filter (fun r => r.outL == l)
  let x := outLane s l
  match arbitrate s x (fun vc => mine.any (fun r => voqVc r.key == vc)) with
  | none => none
  | some (vc, d) =>
    let on := mine.filter (fun r => voqVc r.key == vc)
    match firstFrom (x.grant.getD vc 0) (on.map Rq.inL) with
    | none => none
    | some i => (on.find? (fun r => r.inL == i)).map (fun r => (r, setLane l { x with drr := d } s))

/-- The grants of every output lane that is asked. -/
def grantsOf (rs : List Rq) (s : State) : List Rq × State :=
  ((rs.map Rq.outL).eraseDups).foldl (fun x l => match grantOf rs l x.2 with | some (r, s) => (x.1 ++ [r], s) | none => x) ([], s)

/-- The grant that an input lane accepts (R246 step 3). -/
def acceptOf (gs : List Rq) (l : Nat) (s : State) : Option Rq :=
  let mine := gs.filter (fun r => r.inL == l)
  let pick (rs : List Rq) : Option Rq :=
    match firstFrom (s.fab.accept.get 0 l) (rs.map Rq.outL) with
    | some o => rs.find? (fun r => r.outL == o)
    | none => none
  match pick (mine.filter (fun r => voqVc r.key == 0)) with
  | some r => some r
  | none => match pick (mine.filter (fun r => voqVc r.key == 2)) with | some r => some r | none => pick mine

/-- A channel whose queue is empty has its deficit at zero, on every lane of its output port (R247). -/
def zeroDrr (outp vc : Nat) (s : State) : State :=
  match drrVcs.idxOf? vc with
  | some i =>
    if (egress s outp vc).isEmpty then
      (portLanes outp).foldl (fun s l => setLane l { outLane s l with drr := (outLane s l).drr.set i 0 } s) s
    else s
  | none => s

/-- A matched packet leaves its queue: credit is spent, its cells come off its channel's deficit. -/
def startXfer (first : Bool) (r : Rq) (s : State) : Option (Xfer × State) :=
  match s.fab.voq.get [] r.key with
  | [] => none
  | q :: rest =>
    let vc := voqVc r.key
    let outp := voqOut r.key
    let x := outLane s r.outL
    let x := match drrVcs.idxOf? vc with
      | some i => { x with drr := x.drr.set i (x.drr.getD i 0 - (q.load.cells : Int)), last := i }
      | none => x
    let s := setLane r.outL x { s with fab := { s.fab with voq := s.fab.voq.put [] r.key rest } }
    let s := if outp < 64 then
        (match takeCredit (optPort s outp) vc (q.load.hops + 1) q.load.cells with | some o => setOpt s outp o | none => s)
      else s
    some (⟨r.inL, r.outL, q, q.load.cells, first⟩, zeroDrr outp vc s)

/-- One iteration of a slot: request, grant, accept. -/
def iteration (first : Bool) (xs : List Xfer) (s : State) : List Xfer × State :=
  let (gs, s) := grantsOf (requests xs s) s
  ((gs.map Rq.inL).eraseDups).foldl (fun x l =>
    match acceptOf gs l x.2 with
    | some r => (match startXfer first r x.2 with | some (y, s) => (x.1 ++ [y], s) | none => x)
    | none => x) (xs, s)

/-- A match of the first iteration moves its pointers once its last cell has crossed (R246). -/
def movePtrs (inL outL vc : Nat) (s : State) : State :=
  let x := outLane s outL
  let s := setLane outL { x with grant := x.grant.set vc ((inL + 1) % 225) } s
  { s with fab := { s.fab with accept := s.fab.accept.put 0 inL ((outL + 1) % 225) } }

/-- A packet's last cell has crossed: to a fabric port its flits go to the link and hold their cells until they are acknowledged; to a
block the packet is handed on and its cells leave. -/
def crossed (x : Xfer) (s : State) : State :=
  let outp := portOfLane x.outL
  let s := if x.first then movePtrs x.inL x.outL x.q.load.vc s else s
  if outp < 64 then
    let l := x.q.load.hop
    let s := emit (l.out outp) s
    let s := match l with | .pkt p => anaCopy outp true p s | _ => s
    frameOut outp (framesOf l.bytes l.cells l.dst (some x.q.own)) s
  else
    let s := match x.q.load with | .pkt p => emit (.loc x.q.inp outp p) s | _ => s
    leave x.q.own x.q.load.cells s

/-- The matches of a slot: three iterations, the first of which moves pointers. -/
def matchSlot (xs : List Xfer) (s : State) : List Xfer × State :=
  let x := iteration true xs s
  if x.1.isEmpty then x else let y := iteration false x.1 x.2; iteration false y.1 y.2

/-- One cell crosses on each matched pair of lanes; packets whose last cell it was have crossed. -/
def cellsCross (xs : List Xfer) (s : State) : List Xfer × State :=
  let xs := xs.map (fun x => { x with left := x.left - 1 })
  (xs.filter (fun x => x.left != 0), (xs.filter (fun x => x.left == 0)).foldl (fun s x => crossed x s) s)

/-- Slots run while packets cross. -/
def slots : Nat → List Xfer → State → State
  | 0, xs, s => xs.foldl (fun s x => crossed x s) s
  | n + 1, xs, s =>
    let x := matchSlot xs s
    if x.1.isEmpty then x.2 else let y := cellsCross x.1 x.2; slots n y.1 y.2

/-- The cells that wait in queues. -/
def queuedCells (s : State) : Nat := s.fab.voq.foldl (fun a e => a + e.2.foldl (fun b q => b + q.load.cells) 0) 0

/-- A port has something to send. -/
def OptPort.busy (o : OptPort) : Bool := !o.ret.isEmpty || !o.data.isEmpty || !o.links.isEmpty

/-- Grants of shared credit, what waits at the links, and copies go out. -/
def linkWork (s : State) : State :=
  let s := s.opt.foldl (fun s e => grantShared e.1 s) s
  flushCopies (s.opt.foldl (fun s e => if (optPort s e.1).busy then txPort e.1 s else s) s)

/-- Everything that can cross crosses. -/
def switch (s : State) : State := linkWork (slots (queuedCells s + 1) [] s)

end Sys2Proof.Machine
end

