-- ==== Sys2Proof/Machine/Net.lean ====
section
/-! DEFINITION. Packets: port choice (R219 to R223), the way into the switch (R245, R250, R251, R258), protection under a job key (R383), source
flows and the retransmit store (R331 to R334, R20, R224). -/

namespace Sys2Proof.Machine

/-! ### Channels and trees -/

/-- A channel under congestion control, which may also detour (R218). -/
def ccVc (vc : Nat) : Bool := [1, 3, 4, 5, 6, 7].contains vc

/-- The branches in use of a tree entry (R227). -/
def usedBranches (t : TreeEntry) : List (Nat × Nat) := t.branches.take t.nbranch

/-! ### Port choice (R219 to R221) -/

/-- The hash of R220 with a selector. -/
def routeHash (s : State) (h : Hdr) (sel : Nat) : Nat :=
  (crc32c (leBytes 4 h.src ++ leBytes 4 h.dst ++ leBytes 1 h.vc ++ leBytes 4 (h.seq / 2 ^ sprayLog2 s)
    ++ leBytes 2 s.sys.moduleId ++ leBytes 1 sel)).toNat

/-- The first candidate whose cumulative weight exceeds `h` (R219 step 2). -/
def pick : List (Nat × Nat) → Nat → Option Nat
  | [], _ => none
  | (p, w) :: l, h => if h < w then some p else pick l (h - w)

/-- A choice among weighted candidates by a hash. -/
def pickBy (c : List (Nat × Nat)) (hash : Nat) : Option Nat := pick c (hash * (c.foldl (fun a m => a + m.2) 0) / 2 ^ 32)

/-- The candidates of R219 step 1. -/
def candidates (s : State) (dst : Nat) : List (Nat × Nat) :=
  (endpoint s dst).members.filter (fun m => decide (0 < m.2) && portUp s m.1)

/-- The detour candidates of R221, ports rising. -/
def detours (s : State) (h : Hdr) : List (Nat × Nat) :=
  ((List.range 64).filter (fun p => detourMask s p && portUp s p && !(endpoint s h.dst).members.any (fun m => m.1 == p)
    && decide (egressBytes s p h.vc < ccThresh s / 2))).map (fun p => (p, 1))

/-- The egress port of a packet, and whether it leaves by a detour; none where no candidate exists (R223). -/
def choosePort (s : State) (h : Hdr) : Option (Nat × Bool) :=
  match pickBy (candidates s h.dst) (routeHash s h 0) with
  | none => none
  | some p =>
    if !h.detoured && ccVc h.vc && detourEn s && (endpoint s h.dst).detour && decide (ccThresh s < egressBytes s p h.vc) then
      match pickBy (detours s h) (routeHash s h 1) with
      | some d => some (d, true)
      | none => some (p, false)
    else some (p, false)

/-! ### Queues (R219, R223, R245, R252, R258) -/

/-- A packet enters the queue of its input port, output port and channel. -/
def enqueue (outp : Nat) (q : Queued) (s : State) : State :=
  let k := voqKey q.inp outp q.load.vc
  switch { s with fab := { s.fab with voq := s.fab.voq.put [] k (s.fab.voq.get [] k ++ [q]) } }

/-- A packet takes a fabric port. `mark`: its first choice here, at which CE is set where the egress queue holds more than the
threshold (R232, R258). -/
def enqueueAt (outp : Nat) (detoured mark : Bool) (q : Queued) (p : Pkt) (s : State) : State :=
  let ce := p.h.ce || (mark && ccVc p.h.vc && decide (ccThresh s < egressBytes s outp p.h.vc))
  enqueue outp { q with load := .pkt { p with h := { p.h with detoured := p.h.detoured || detoured, ce } } } s

/-- A packet is discarded: its cells leave. -/
def dropQueued (q : Queued) (s : State) : State := leave q.own q.load.cells s

/-- A packet takes its port: for this module's own EPID an internal one (R245); toward an invalid entry or a lost module it is
discarded and counted (R211, R328); without a candidate it waits (R223). -/
def routePkt (mark : Bool) (q : Queued) (p : Pkt) (s : State) : State :=
  let e := endpoint s p.h.dst
  if !e.v then bump 0x60024 (dropQueued q s)
  else if e.isLocal then enqueue (toPort s p.h) q s
  else if isLost s e.home then bump 0x60024 (dropQueued q s)
  else
    match choosePort s p.h with
    | some (o, d) => enqueueAt o d mark q p s
    | none => { s with fab := { s.fab with noRoute := s.fab.noRoute ++ [q] } }

/-- A packet whose port has gone chooses again, and is not marked a second time (R258); one without a route tries again (R223). -/
def routeAgain (mark : Bool) (q : Queued) (s : State) : State :=
  match q.load with
  | .pkt p => routePkt mark q p s
  | _ => dropQueued q s

def rechoose (mark : Bool) (qs : List Queued) (s : State) : State := qs.foldl (fun s q => routeAgain mark q s) s

/-- A packet goes on from its block: a VC0 message to its fabric port, any other by its destination. -/
def routeOwn (outp : Option Nat) (q : Queued) (s : State) : State :=
  match outp, q.load with
  | some o, _ => enqueue o q s
  | none, .pkt p => routePkt true q p s
  | none, _ => s

/-- A packet of a local block enters the buffer by its internal port, if the buffer has cells for it and none of its port and channel waits
before it; else it waits at its block (R251). -/
def enterBuffer (inp : Nat) (outp : Option Nat) (x : Load) (s : State) : State :=
  let wait : State := { s with fab := { s.fab with blocks := s.fab.blocks ++ [(⟨inp, .intRes inp x.vc, s.now, x⟩, outp)] } }
  if s.fab.blocks.any (fun b => b.1.inp == inp && b.1.load.vc == x.vc) then wait
  else match takeInternal s inp x.vc x.cells with | some o => routeOwn outp ⟨inp, o, s.now, x⟩ s | none => wait

/-- A packet of this module that its source does not record. -/
def forward (p : Pkt) (s : State) : State := enterBuffer (fromPort s p.h) none (.pkt p) s

/-- A packet of this module that its source records: it waits inside the retransmit store and takes no other buffer (R250). -/
def forwardRecorded (p : Pkt) (s : State) : State := routePkt true ⟨fromPort s p.h, .store, s.now, .pkt p⟩ p s

/-- A VC0 message goes out on a port from the control complex (R242). -/
def sendCtl (port : Nat) (x : Load) (s : State) : State := enterBuffer 152 (some port) x s

/-- A packet that came in by a fabric port goes on to another module. -/
def forwardTransit (port : Nat) (p : Pkt) (s : State) : State :=
  let x := takeFabric port p.h.vc p.h.hops (pktCells p) s
  routePkt true ⟨port, x.1, s.now, .pkt p⟩ p x.2

/-- A packet is malformed: counted and recorded (R255). -/
def noteMalformed (dst : Nat) (s : State) : State := bump 0x8001C (faultAt 0xE 6 none dst s)

/-- A packet that came in by a fabric port crosses alone to the block of its EPID (R244, R246): the pointers of its lanes move. -/
def handOver (port : Option (Fin 64)) (h : Hdr) (s : State) : State :=
  match port with
  | none => s
  | some n =>
    match firstFrom (s.fab.accept.get 0 n.val) (portLanes (toPort s h)) with
    | some l => movePtrs n.val l h.vc s
    | none => s

/-- The packets that wait at their blocks try again, oldest first. -/
def retryBlocks (s : State) : State :=
  s.fab.blocks.foldl (fun s b => enterBuffer b.1.inp b.2 b.1.load s) { s with fab := { s.fab with blocks := [] } }

/-! ### Protection (R383) -/

/-- A packet goes under the current key of partition `p`, with the next invocation count of its source EPID (R383). -/
def protect (p : Nat) (q : Pkt) (s : State) : Pkt × State :=
  match (part s p).cur with
  | none => ({ q with tr := .zero }, s)
  | some k =>
    let c := s.fab.inv.get 0 (64 * q.h.src + p)
    ({ q with tr := .tagged c (bitOf k.id 0) (Config.gcmTag k.key q.h.src c (pktText q)) },
     { s with fab := { s.fab with inv := s.fab.inv.put 0 (64 * q.h.src + p) (c + 1) } })

/-- The invocation counts of a partition's EPIDs start at 0: a key has become current (R383). -/
def freshCounts (p : Nat) (s : State) : State :=
  { s with fab := { s.fab with inv := s.fab.inv.keep (fun k _ => k % 64 != p) } }

/-! ### Headers -/

/-- The header of a packet of a job that partition `p` originates. -/
def mkHdr (s : State) (p src dst vc len wid : Nat) (last : Bool) : Hdr :=
  { dst, src, vc, hops := 0, detoured := false, ce := false, echo := false, mc := false, tree := 0, seq := 0,
    job := (part s p).prm.jobTag, gen := (part s p).gen, len, wid, ackedVc := 0, close := false, last }

/-- The next write or request identifier, never 0: an acknowledgement whose WID is 0 names no operation (R332, log entry 25). -/
def takeWid (s : State) : Nat × State :=
  let w := s.fab.nextWid % (2 ^ 32 - 1) + 1
  (w, { s with fab := { s.fab with nextWid := w } })

/-! ### Source flows (R331, R333) -/

/-- The number of a flow: source EPID, destination EPID, channel (R22). -/
def flowKey (src dst vc : Nat) : Nat := (src * 2 ^ 17 + dst) * 8 + vc

/-- Microseconds of local time. -/
def nowUs (s : State) : Nat := s.now / 1000

/-- A flow that sends its first packet (R331, R234). -/
def newFlow (s : State) (job : Nat) : SFlow :=
  { next := 0, acked := 0, rate := 64 * s.fab.ccMax, lastUs := nowUs s, retxUs := nowUs s + retxUs s, closing := false,
    frozen := false, gotAck := false, gotEcho := false, job, recs := [], queue := [] }

/-- Entries of the flow table in use (R17, R331). -/
def flowEntries (s : State) : Nat := s.fab.sflow.length + s.fab.dflow.length + s.fab.shadow.length

/-- Bytes of the retransmit store in use: for reports and CLOSE packets, or for the rest (R20). -/
def storeUsed (s : State) (rep : Bool) : Nat :=
  s.fab.sflow.foldl (fun a e => a + (e.2.recs.filter (fun q => (q.h.close || q.h.vc == 2) == rep)).foldl
    (fun b q => b + 256 * pktCells q) 0) 0

/-- The store has room for a packet (R20). -/
def storeRoom (s : State) (q : Pkt) : Bool :=
  let rep := q.h.close || q.h.vc == 2
  decide (storeUsed s rep + 256 * pktCells q ≤ (if rep then 2 ^ 20 else 63 * 2 ^ 20))

def setFlow (s : State) (k : Nat) (f : SFlow) : State := { s with fab := { s.fab with sflow := s.fab.sflow.ins k f } }

/-- The partition whose key protects a flow's packet: the live partition of its job. -/
def keyPart (s : State) (job : Nat) : Option Nat :=
  (s.parts.find? (fun e => e.2.st != .free && e.2.prm.jobTag == job && e.2.cur.isSome)).map Prod.fst

/-- A mirror control packet, or another that goes without encryption (R383, R504). -/
def clearBody : Body → Bool
  | .mctl _ => true
  | _ => false

/-- A packet takes the flow's next SEQ, is protected, recorded and sent (R224, R383, R333). -/
def launch (k : Nat) (f : SFlow) (q : Pkt) (s : State) : State :=
  let q := { q with h := { q.h with seq := f.next } }
  let (q, s) := if clearBody q.body then ({ q with tr := .zero }, s)
    else match keyPart s q.h.job with | some p => protect p q s | none => ({ q with tr := .zero }, s)
  let f := { f with next := (f.next + 1) % 2 ^ 32, job := q.h.job, recs := f.recs ++ [q], lastUs := nowUs s,
                    retxUs := if f.recs = [] then nowUs s + retxUs s else f.retxUs, closing := f.closing || q.h.close }
  forwardRecorded q (setFlow s k f)

/-- The flow may send another packet now: below the window and with room in the store (R333, R20). -/
def mayLaunch (s : State) (f : SFlow) (q : Pkt) : Bool :=
  decide ((f.next + 2 ^ 32 - f.acked) % 2 ^ 32 ≤ 255) && !f.frozen && !f.closing && storeRoom s q

/-- A packet enters its flow: sent, or held behind others of its flow until it may go. -/
def sendFlow (q : Pkt) (s : State) : State :=
  let k := flowKey q.h.src q.h.dst q.h.vc
  match s.fab.sflow.find k with
  | some f =>
    if f.queue = [] && mayLaunch s f q then launch k f q s else setFlow s k { f with queue := f.queue ++ [q] }
  | none =>
    if flowEntries s < 327680 then
      if mayLaunch s (newFlow s q.h.job) q then launch k (newFlow s q.h.job) q s
      else setFlow s k { newFlow s q.h.job with queue := [q] }
    else { s with fab := { s.fab with waitFlow := s.fab.waitFlow ++ [q] } }

/-- The held packets of a flow that may go now go, in order. -/
def pushFlow (k : Nat) : Nat → State → State
  | 0, s => s
  | n + 1, s =>
    match s.fab.sflow.find k with
    | none => s
    | some f =>
      match f.queue with
      | [] => s
      | q :: qs => if mayLaunch s { f with queue := qs } q then pushFlow k n (launch k { f with queue := qs } q s) else s

/-- Room has come up: the packets that wait at their blocks, every flow's held packets, and the first packets that wait for an entry, try
again. -/
def pushAll (s : State) : State :=
  let s := retryBlocks (switch s)
  let s := s.fab.sflow.foldl (fun s e => pushFlow e.1 e.2.queue.length s) s
  let w := s.fab.waitFlow
  w.foldl (fun s q => sendFlow q s) { s with fab := { s.fab with waitFlow := [] } }

/-- A packet that is never recorded goes at once: an acknowledgement or another VC2 reply (R333). -/
def sendReply (q : Pkt) (s : State) : State :=
  match keyPart s q.h.job with
  | some p => let (q, s) := protect p q s; forward q s
  | none => forward { q with tr := .zero } s

/-! ### Retransmission (R334) -/

/-- Every recorded packet of a flow is sent again, and counted. -/
def resend (k : Nat) (s : State) : State :=
  match s.fab.sflow.find k with
  | none => s
  | some f =>
    let s := setFlow s k { f with retxUs := nowUs s + retxUs s }
    if f.frozen then s
    else
      f.recs.foldl (fun s q =>
        forwardRecorded { q with h := { q.h with hops := 0, detoured := false, ce := false } } (bump 0x6004C s)) s

end Sys2Proof.Machine
end

