-- ==== Sys2Proof/Machine/Pool.lean ====
section
/-! DEFINITION. Pool memory at its home: words and poison (R58 to R60), extent records and admission (R63 to R74), the snoop filter
(R76 to R82), the atomic unit (R28 to R31, R336), mirroring and rebuild (R83, R86), and one access to the pool. -/

namespace Sys2Proof.Machine

/-! ### Statuses of R135 -/

namespace St
def ok : Nat := 0
def denied : Nat := 1
def rights : Nat := 2
def unmapped : Nat := 3
def align : Nat := 4
def counter : Nat := 5
def poison : Nat := 6
def timeout : Nat := 7
def revoked : Nat := 8
def closed : Nat := 9
def aborted : Nat := 10
def excluded : Nat := 11
def format : Nat := 12
end St

/-! ### Words and bytes -/

/-- The 8-byte words that a range of bytes touches. -/
def wordsOf (a n : Nat) : List Nat := if n = 0 then [] else (List.range ((a + n - 1) / 8 + 1 - a / 8)).map (fun i => a / 8 + i)

/-- The 64-byte lines that a range of bytes touches. -/
def linesOf (a n : Nat) : List Nat := if n = 0 then [] else (List.range ((a + n - 1) / 64 + 1 - a / 64)).map (fun i => a / 64 + i)

/-- A word of pool memory reads as uncorrectable (R59). -/
def badWord (s : State) (w : Nat) : Bool := s.pool.bad.get false w

/-- The uncorrectable words of a range, rising. -/
def badIn (s : State) (a n : Nat) : List Nat := (wordsOf a n).filter (badWord s)

/-- Bytes of pool memory. -/
def poolBytes (s : State) (a n : Nat) : Bytes := s.pool.mem.bytes a n

/-- The byte of a write is enabled: a write without a mask enables every byte. -/
def enabled (mask : Option (List Bool)) (i : Nat) : Bool :=
  match mask with | none => true | some m => (m[i]?).getD false

/-- Every byte of word `w` is written by a write of `data` at `a` (R58). -/
def wholeWord (a : Nat) (data : Bytes) (mask : Option (List Bool)) (w : Nat) : Bool :=
  (List.range 8).all (fun k => decide (a ≤ 8 * w + k) && decide (8 * w + k < a + data.length) && enabled mask (8 * w + k - a))

/-- Some byte of word `w` is written. -/
def partWord (a : Nat) (data : Bytes) (mask : Option (List Bool)) (w : Nat) : Bool :=
  (List.range 8).any (fun k => decide (a ≤ 8 * w + k) && decide (8 * w + k < a + data.length) && enabled mask (8 * w + k - a))

/-- The uncorrectable words that a write touches without covering them (R58). -/
def mergeBad (s : State) (a : Nat) (data : Bytes) (mask : Option (List Bool)) : List Nat :=
  (badIn s a data.length).filter (fun w => partWord a data mask w && !wholeWord a data mask w)

/-- The bytes of a write, one by one, but for those of the words in `skip`. -/
def writeCells (m : Tab Byte) (a : Nat) (mask : Option (List Bool)) (skip : List Nat) : Nat → Bytes → Tab Byte
  | _, [] => m
  | i, b :: bs =>
    writeCells (if enabled mask i && !skip.contains ((a + i) / 8) then m.put 0#8 (a + i) b else m) a mask skip (i + 1) bs

/-- A write to pool memory: a word it covers loses its poison marker; an uncorrectable word it covers in part keeps its bytes and
its marker (R58, R59). -/
def writeMem (a : Nat) (data : Bytes) (mask : Option (List Bool)) (s : State) : State :=
  let skip := mergeBad s a data mask
  { s with pool := { s.pool with
      mem := writeCells s.pool.mem a mask skip 0 data,
      flip := s.pool.flip.keep (fun w _ => skip.contains w || !partWord a data mask w),
      bad := (wordsOf a data.length).foldl (fun b w => if wholeWord a data mask w then b.put false w false else b) s.pool.bad } }

/-- The poison marker is written into words (R59, R81). -/
def poisonWords (ws : List Nat) (s : State) : State :=
  { s with pool := { s.pool with bad := ws.foldl (fun b w => b.put false w true) s.pool.bad,
                                 flip := s.pool.flip.keep (fun w _ => !ws.contains w) } }

/-- Every word of a range becomes zero with valid check bits (R73). -/
def scrubRange (a n : Nat) (s : State) : State :=
  { s with pool := { s.pool with mem := s.pool.mem.clearRange a n, bad := s.pool.bad.clearRange (a / 8) (n / 8),
                                 flip := s.pool.flip.clearRange (a / 8) (n / 8) } }

/-! ### The check of the words that a read touches (R57, R59, R14) -/

/-- The GDDR7 channel that holds a bit of a word: bit 8 of its address the group, its 32-byte lane the data channel of the group; bits 64 to
71, the check bits, in the group's ninth (R57). -/
def channelOf (word b : Nat) : Nat := 9 * (word / 32 % 2) + (if b < 64 then word / 4 % 8 else 8)

/-- The wrong bits of a word. -/
def wrongBits (m : Nat) : List Nat := (List.range 72).filter (bitOf m)

/-- The word's cells hold no wrong bit any more. -/
def mendWord (w : Nat) (s : State) : State := { s with pool := { s.pool with flip := s.pool.flip.put 0 w 0 } }

/-- A word with wrong bits `m` is read (R59): one is corrected and counted against its channel; more leave the word uncorrectable, counted
against the channel of its data (log entry 102), with the poison marker. -/
def checkWord (w m : Nat) (s : State) : State :=
  let s' := mendWord w s
  if badWord s w then s'
  else
    match wrongBits m with
    | [] => s'
    | [b] => health (912 + channelOf w b) 0 1 s'
    | _ => poisonWords [w] (health (912 + channelOf w 0) 1 1 s')

/-- A read of bytes of the pool: every word of the stripes that it occupies is checked (R57, R59). A word found uncorrectable beside the bytes
asked for has its own record; the reader's record tells of the others. -/
def checkRead (p : Option Nat) (a n : Nat) (s : State) : State :=
  if n = 0 then s
  else
    (s.pool.flip.filter (fun e => decide (a / 256 ≤ e.1 / 32) && decide (e.1 / 32 ≤ (a + n - 1) / 256))).foldl (fun s e =>
      let s' := checkWord e.1 e.2 s
      if badWord s' e.1 && !badWord s e.1 && !(wordsOf a n).contains e.1 then faultAt 6 3 p (8 * e.1) s' else s') s

/-- A bit of a word's cells goes wrong, or right again. -/
def flipBit (w b : Nat) (s : State) : State :=
  { s with pool := { s.pool with flip := s.pool.flip.put 0 w (Nat.xor (s.pool.flip.get 0 w) (2 ^ b)) } }

/-! ### Extent records (R64 to R66) -/

/-- A record changes, in the table and in the journal (R66). -/
def setExt (n : Nat) (e : Ext) (s : State) : State :=
  { s with pool := { s.pool with ext := s.pool.ext.put Ext.init n e, journal := s.pool.journal.put Ext.init n e } }

/-- Bytes of an extent. -/
def Ext.bytes (e : Ext) : Nat := 2 ^ e.log2

/-- The first address of the pool reserve (R62). -/
def poolTop (s : State) : Nat := 2 ^ 37 - s.sys.reserveGiB * 2 ^ 30

/-- The HOME record whose extent contains a range (R71). -/
def homeExt (s : State) (a n : Nat) : Option (Nat × Ext) :=
  s.pool.ext.find? (fun x => x.2.kind == .home && x.2.st != .free && decide (x.2.base ≤ a) && decide (a + n ≤ x.2.base + x.2.bytes))

/-- The HOME record promoted from a lost home's extent (R108). -/
def promotedExt (s : State) (home ext : Nat) : Option (Nat × Ext) :=
  s.pool.ext.find? (fun x => x.2.kind == .home && x.2.promoted && x.2.origHome == home && x.2.origExt == ext && x.2.st != .free)

/-- The MIRROR record of a home's extent. -/
def mirrorExt (s : State) (home ext : Nat) : Option (Nat × Ext) :=
  s.pool.ext.find? (fun x => x.2.kind == .mirror && x.2.st != .free && x.2.home == home && x.2.eid == ext)

/-- The record of this module that names an extent by home and identifier, of a kind. -/
def recOf (s : State) (k : ExtKind) (home ext : Nat) : Option (Nat × Ext) :=
  s.pool.ext.find? (fun x => x.2.kind == k && x.2.st != .free && x.2.home == home && x.2.eid == ext)

/-- The mirror of the extent is established (R60): the record is MIRRORED. -/
def Ext.mirrored (e : Ext) : Bool := e.st == .mirrored && e.mv

/-- Admission at the home (R71, R62, R88 step 4, R108): the record, or the status of the refusal. -/
def admitAt (s : State) (job a n : Nat) (ext : Option Nat) (redirect : Option Nat) : Except Nat (Nat × Ext) :=
  match homeExt s a n with
  | none => .error St.denied
  | some (i, e) =>
    if poolTop s < a + n then .error St.denied
    else if e.st = .revoking ∧ e.forced then .error St.revoked
    else if e.st ≠ .shackled ∧ e.st ≠ .mirrored ∧ e.st ≠ .rebuilding then .error St.denied
    else if e.job ≠ job then .error St.denied
    else
      match ext with
      | none => .ok (i, e)
      | some x => if x = (match redirect with | some _ => e.origExt | none => e.eid) then .ok (i, e) else .error St.denied

/-! ### The snoop filter (R76 to R82) -/

/-- No entry: what an unlisted line reads as. -/
def Snoop.init : Snoop := ⟨0, none, 0, 0, none, none⟩

def snoop (s : State) (line : Nat) : Snoop := s.pool.snoop.get Snoop.init line
def setSnoop (line : Nat) (x : Snoop) (s : State) : State :=
  { s with pool := { s.pool with snoop := s.pool.snoop.put Snoop.init line x } }

/-- Attachment bits set in a mask. -/
def maskList (m : Nat) : List Nat := (List.range 16).filter (fun a => bitOf m a)

/-- The holders of a line. -/
def Snoop.holders (x : Snoop) : Nat := match x.owner with | some o => 2 ^ o | none => x.sharers

/-- A back-invalidation of a line toward the attachments of `mask`, after which the entry's sharers are `next`, or its owner `grant`
(R78, R308). -/
def startBi (line mask next : Nat) (inv : Bool) (grant : Option Nat) (s : State) : State :=
  let x := snoop s line
  (maskList mask).foldl (fun s a => match upPort s a with | some p => emit (.biSnp p line inv) (leaveL1 p s) | none => s)
    (setSnoop line { x with bi := some (mask, next), grant := grant } s)

/-- A non-host access to a line: the back-invalidation it needs is started (R78). `w`: it writes or is an ATOMIC. -/
def snoopLine (w : Bool) (line : Nat) (s : State) : State :=
  let x := snoop s line
  if x.bi.isSome then s
  else if w then (if x.holders = 0 then s else startBi line x.holders 0 true none s)
  else match x.owner with
    | some o => startBi line (2 ^ o) (2 ^ o) false none s
    | none => s

/-- The lines of a range answer to a non-host access; the first that is BI_PENDING, if any, is what the access waits for. -/
def snoopRange (w : Bool) (ls : List Nat) (s : State) : State × Option Nat :=
  let s := ls.foldl (fun s l => snoopLine w l s) s
  (s, ls.find? (fun l => (snoop s l).bi.isSome))

/-- The set of a line (R77): line address bits [18:6]. -/
def snoopSet (line : Nat) : Nat := line % 8192

/-- The entries of a line's set. -/
def setEntries (s : State) (line : Nat) : List (Nat × Snoop) := s.pool.snoop.filter (fun x => snoopSet x.1 == snoopSet line)

/-- The oldest entry of a set that is not BI_PENDING (R79). -/
def victim (s : State) (line : Nat) : Option (Nat × Snoop) :=
  ((setEntries s line).filter (fun x => x.2.bi.isNone)).foldl
    (fun v x => match v with | none => some x | some y => if x.2.age < y.2.age then some x else v) none

/-- A host's read needs an entry for a line: the one it has, whose AGE stays; a new one where the set has a free way; else the oldest is
back-invalidated first, and the read waits for the line answered here (R77, R79). -/
def takeEntry (line part : Nat) (x : Snoop) (s : State) : State × Option Nat :=
  if snoop s line ≠ Snoop.init then (setSnoop line { x with part := part } s, none)
  else if (setEntries s line).length < 12 then
    let s' := setSnoop line { x with part := part, age := s.pool.ageN } s
    ({ s' with pool := { s'.pool with ageN := s.pool.ageN + 1 } }, none)
  else
    match victim s line with
    | some (v, y) => (startBi v y.holders 0 true none s, some v)
    | none => (s, ((setEntries s line).head?).map Prod.fst)

/-- A host's read of a COHERENT line (R78, R307): the state, and the line it waits for, if any. -/
def hostRead (line part att : Nat) (excl : Bool) (s : State) : State × Option Nat :=
  let x := snoop s line
  if x.bi.isSome then (s, some line)
  else
    match x.owner with
    | some o =>
      if o = att then (s, none)
      else if excl then (startBi line (2 ^ o) 0 true (some att) s, some line)
      else (startBi line (2 ^ o) (2 ^ o) false none s, some line)
    | none =>
      if excl then
        (if x.sharers = 0 ∨ x.sharers = 2 ^ att then takeEntry line part { x with sharers := 0, owner := some att } s
         else (startBi line (x.sharers - (if bitOf x.sharers att then 2 ^ att else 0)) (if bitOf x.sharers att then 2 ^ att else 0)
            true (some att) s, some line))
      else if bitOf x.sharers att then (s, none)
      else if x.sharers = 0 then takeEntry line part { x with sharers := 2 ^ att } s
      else (setSnoop line { x with sharers := x.sharers + 2 ^ att } s, none)

/-- A host's MemWr to a COHERENT line (R307): the state, whether it writes memory now, and the line it waits for, if any. The write
of an owner, or of a holder that is being back-invalidated, is a write-back. -/
def hostWrite (line att : Nat) (mv : MetaVal) (s : State) : State × Option Nat :=
  let x := snoop s line
  if x.owner = some att then
    (match x.bi with
     | some _ => (s, none)
     | none =>
      match mv with
      | .invalid => (setSnoop line Snoop.init s, none)
      | .shared => (setSnoop line { x with owner := none, sharers := 2 ^ att } s, none)
      | .any => (s, none))
  else snoopRange true [line] s

/-- What an entry is once all holders have answered: its new owner's, that of those that kept a copy, or none (R78). -/
def Snoop.settled (x : Snoop) (keep : Nat) : Snoop :=
  match x.grant with
  | some g => { x with sharers := 0, owner := some g, bi := none, grant := none }
  | none => if keep = 0 then Snoop.init else { x with sharers := keep, owner := none, bi := none }

/-- A holder's answer to a back-invalidation: once all have answered, the transition that it served takes place (R78). -/
def biAnswer (line att : Nat) (keep : Bool) (s : State) : State :=
  let x := snoop s line
  match x.bi with
  | none => s
  | some (m, nx) =>
    let m' := if bitOf m att then m - 2 ^ att else m
    let nx' := if bitOf nx att && !keep then nx - 2 ^ att else nx
    if m' = 0 then setSnoop line (x.settled nx') s else setSnoop line { x with bi := some (m', nx') } s

/-- A line is resolved by its partition's orphan policy (R81 step 1): POISON marks every word of it. -/
def orphan (line : Nat) (p : Nat) (s : State) : State :=
  if (part s p).prm.poison then poisonWords ((List.range 8).map (fun k => 8 * line + k)) s else s

/-- Every entry that names an attachment: as owner it is resolved, its sharer bit clears, its awaited answers count as given
(R81 step 2). Answers the number of lines resolved. -/
def resolveAttach (att : Nat) (s : State) : State × Nat :=
  s.pool.snoop.foldl (fun acc e =>
    let (s, n) := acc
    let line := e.1
    let x := snoop s line
    let own := x.owner == some att
    let s := if own then orphan line x.part s else s
    let drop (k : Nat) : Nat := if bitOf k att then k - 2 ^ att else k
    match x.bi with
    | some (m, nx) =>
      let s := setSnoop line { x with sharers := drop x.sharers, bi := some (m, drop nx), grant := x.grant.filter (· != att) } s
      if bitOf m att then (biAnswer line att false s, if own then n + 1 else n) else (s, n)
    | none =>
      if own then (setSnoop line Snoop.init s, n + 1)
      else if bitOf x.sharers att then
        (setSnoop line (if drop x.sharers = 0 then Snoop.init else { x with sharers := drop x.sharers }) s, n)
      else (s, n)) (s, 0)

/-- An attachment is severed (R81): its lines resolved, one fault record with their number. -/
def sever (line att : Nat) (s : State) : State :=
  let p := (snoop s line).part
  let first := (snoop s line).owner != some att
  let s := if first then orphan line p s else s
  let (s, n) := resolveAttach att s
  let s := { s with pool := { s.pool with severed := s.pool.severed.filter (· < att) ++ [att] ++ s.pool.severed.filter (att < ·) } }
  fault 9 3 (some p) att (n + bit first) s

/-! ### The atomic unit (R29) -/

/-- The bytes of an ATOMIC's type (R132): 32 or 64 bits. -/
def atomWidth (ty : Nat) : Nat := if ty = 2 ∨ ty = 3 ∨ ty = 5 then 8 else 4

/-- The value that an ATOMIC stores (R29). -/
def atomNew (op ty old operand compare : Nat) : Nat :=
  let w := 8 * atomWidth ty
  let b := operand % 2 ^ w
  if op = 3 then (if old = compare % 2 ^ w then b else old)
  else if ty = 4 ∨ ty = 5 then
    let f := if ty = 4 then fp32 else fp64
    if op = 0 then f.sum old b else if op = 1 then f.min old b else f.max old b
  else
    let sgn := decide (ty = 0 ∨ ty = 2)
    let v (x : Nat) : Int := if sgn && bitOf x (w - 1) then (x : Int) - (2 ^ w : Nat) else (x : Int)
    if op = 0 then (old + b) % 2 ^ w
    else if op = 1 then (if v b < v old then b else old)
    else (if v old < v b then b else old)

/-- The number of a duplicate-suppression entry (R336): source and WID. -/
def dupKey (src wid : Nat) : Nat := src * 2 ^ 32 + wid

/-- An ATOMIC executed is entered with its old value and its expiry (R336). -/
def addDup (src wid old expiry job : Nat) (s : State) : State :=
  { s with fab := { s.fab with dup := s.fab.dup.ins (dupKey src wid) (old, expiry, job) } }

/-! ### Mirror traffic (R60, R83, R337) -/

/-- Runs of consecutive bytes of a range that avoid words that read as uncorrectable, none longer than `lim`: offset and length. -/
def goodRuns (s : State) (a lim : Nat) : Nat → Nat → Nat → Nat → List (Nat × Nat)
  | 0, _, st, len => if len = 0 then [] else [(st, len)]
  | n + 1, i, st, len =>
    if badWord s ((a + i) / 8) then (if len = 0 then [] else [(st, len)]) ++ goodRuns s a lim n (i + 1) (i + 1) 0
    else if len = lim then (st, len) :: goodRuns s a lim n (i + 1) i 1
    else goodRuns s a lim n (i + 1) st (len + 1)

/-- A packet of this module's pool toward another module's pool on VC7 (R83). -/
def mirrorSend (p dstMod : Nat) (wid len : Nat) (last : Bool) (b : Body) (s : State) : State :=
  match ownEpid s 1 0, livePool s dstMod with
  | some src, some dst => sendFlow { h := mkHdr s p src dst 7 len wid last, rd := none, body := b, tr := .zero } s
  | _, _ => s

/-- An outstanding request is entered. -/
def addReq (wid : Nat) (r : OutReq) (s : State) : State := { s with fab := { s.fab with reqs := s.fab.reqs.ins wid r } }

/-- An outstanding request ends. -/
def delReq (wid : Nat) (s : State) : State := { s with fab := { s.fab with reqs := s.fab.reqs.del wid } }

/-- The origin block of a write (R337). A write of a host, a queue or the debug port of this module came by no flow: its block names no source
(DESIGN CHOICE, log entry 117). -/
def originOf (acc : Access) (old : Option Nat) : Origin :=
  match acc.who with
  | .fabric h _ => ⟨some h.src, h.vc, h.seq, h.wid, h.last, old⟩
  | .coll h _ _ _ _ => ⟨some h.src, h.vc, h.seq, h.wid, h.last, old⟩
  | _ => ⟨none, 0, 0, 0, true, old⟩

/-- The module that takes the forwarded writes of an extent: its mirror, or its rebuild target. -/
def Ext.second (e : Ext) : Nat := if e.st = .mirrored then e.mirror else e.target

/-- A write's bytes, as they now stand at home, go to the second copy (R83): one packet for each run; the access `fin`, if any,
completes with the last of them, whose packet alone carries LAST. Answers whether anything was sent. -/
def forwardWrite (i : Nat) (e : Ext) (a n : Nat) (org : Origin) (fin : Option (Access × Nat)) (s : State) : State × Bool :=
  let runs := goodRuns s a 4072 n 0 0 0
  (runs.zipIdx.foldl (fun (s : State) (rk : (Nat × Nat) × Nat) =>
    let ((off, len), k) := rk
    let isLast := k + 1 == runs.length
    let (wid, s) := takeWid s
    let b : MirrorBody := { home := e.home, ext := e.eid, off := a + off - e.base, data := poolBytes s (a + off) len,
                            origin := { org with last := org.last && isLast } }
    let s := addReq wid ⟨(ownEpid s 1 0).getD 0, (poolEpid s e.second).getD 0, 7, e.part, e.home, e.eid, .mirrorWrite⟩ s
    let s := { s with pool := { s.pool with mirr := s.pool.mirr ++ [⟨wid, i, a + off, len, if isLast then fin else none⟩] } }
    mirrorSend e.part e.second wid (24 + len) isLast (.mirror b) s) s, !runs.isEmpty)

/-- A write in flight to the second copy touches the range (R41). -/
def mirrorTouch (s : State) (a n : Nat) : Option Nat :=
  (s.pool.mirr.find? (fun m => decide (m.addr < a + n) && decide (a < m.addr + m.len))).map MirWait.wid

/-- The bytes of a write that lie below the rebuild's high-water mark or in a mirrored extent: what is forwarded (R83, R86). -/
def forwardLen (e : Ext) (a n : Nat) : Nat :=
  if e.mirrored then n
  else if e.st = .rebuilding then Nat.min n (e.base + e.hw * 2 ^ 20 - a)
  else 0

/-- The write touches the locked step of a rebuild (R86). -/
def lockTouch (e : Ext) (a n : Nat) : Bool :=
  e.st == .rebuilding && e.locked && decide (a < e.base + (e.hw + 1) * 2 ^ 20) && decide (e.base + e.hw * 2 ^ 20 < a + n)

/-! ### One access -/

/-- What an access comes to: it waits; what is left of it waits; it completes when the second copy acknowledges it (R41); or it is done with
a status, data, the valid bits of its 64-byte lines, and RESULT. -/
inductive Res where
  | wait (w : Why)
  | rest (w : Why) (acc : Access)
  | later
  | done (status : Nat) (data : Bytes) (valid : List Bool) (result : Nat)
deriving DecidableEq, Repr

/-- The values of uncorrectable words are asked of the mirror on VC7 (R60). -/
def fetchMirror (e : Ext) (ws : List Nat) (s : State) : State × Res :=
  let a := 8 * (ws.head?).getD 0
  let n := 8 * (ws.getLast?).getD 0 + 8 - a
  let (wid, s) := takeWid s
  let s := addReq wid ⟨(ownEpid s 1 0).getD 0, (poolEpid s e.mirror).getD 0, 7, e.part, e.home, e.eid, .mirrorRead a n⟩ s
  (mirrorSend e.part e.mirror wid 24 true (.read ⟨a - e.base, e.eid, n, .load⟩) s, .wait (.fetch wid))

/-- A read of admitted bytes (R27, R59, R60). -/
def readAt (e : Ext) (a n : Nat) (fetched : Bool) (s : State) : State × Res :=
  match mirrorTouch s a n with
  | some w => (s, .wait (.mirror w))
  | none =>
    let s := checkRead (some e.part) a n s
    match badIn s a n with
    | [] => (s, .done St.ok (poolBytes s a n) [] 0)
    | w :: ws =>
      if e.mirrored && !fetched then fetchMirror e (w :: ws) s
      else (fault 6 3 (some e.part) (8 * w) (ws.length + 1) s, .done St.poison [] [] (Nat.max a (8 * w)))

/-- A prefetch read: a line of a COHERENT extent returns no data (R148); an uncorrectable line neither. -/
def prefetchAt (e : Ext) (a n : Nat) (s : State) : State × Res :=
  let s := checkRead (some e.part) a n s
  (s, .done St.ok (poolBytes s a n)
    ((linesOf a n).map (fun l => !e.coherent && (badIn s (64 * l) 64).isEmpty && (mirrorTouch s (64 * l) 64).isNone)) 0)

/-- The bytes `[i, i + n)` of a write's data, with their enables. -/
def partOfWrite (data : Bytes) (mask : Option (List Bool)) (i n : Nat) : Bytes × Option (List Bool) :=
  ((data.drop i).take n, mask.map (fun m => (m.drop i).take n))

/-- Bytes of a write go into the home's copy, and those that a second copy holds are forwarded to it (R58, R83, R86). A word that they touch
in part and that reads as uncorrectable stays as it is, with a record (R58). `fin`: the access that ends with the second copy's
acknowledgement. Answers the first such word's address, and whether anything was forwarded. -/
def putBytes (i : Nat) (e : Ext) (acc : Access) (a : Nat) (data : Bytes) (mask : Option (List Bool)) (fin : Option (Access × Nat)) (s : State) :
    State × Option Nat × Bool :=
  let bad := mergeBad s a data mask
  let s := if bad.isEmpty then s else fault 6 3 (some e.part) (8 * (bad.head?).getD 0) bad.length s
  let s := writeMem a data mask s
  let n := forwardLen e a data.length
  let hurt := bad.head?.map (8 * ·)
  if n = 0 then (s, hurt, false)
  else
    match forwardWrite i e a n (originOf acc none) (if hurt.isNone then fin else none) s with
    | (s, sent) => (s, hurt, sent)

/-- The parts of a write that lie beside the locked step take effect by their own rows; what is left waits for the step (R86). -/
def splitWrite (i : Nat) (e : Ext) (acc : Access) (a : Nat) (data : Bytes) (mask : Option (List Bool)) (ctr : Option Nat) (total : Nat)
    (s : State) : State × Access :=
  let lo := e.base + e.hw * 2 ^ 20
  let k := lo - a
  let mid := partOfWrite data mask k (lo + 2 ^ 20 - Nat.max a lo)
  let below := partOfWrite data mask 0 k
  let above := partOfWrite data mask (k + mid.1.length) data.length
  let put (s : State) (a : Nat) (d : Bytes × Option (List Bool)) : State × Option Nat :=
    if d.1 = [] then (s, none) else match putBytes i e acc a d.1 d.2 none s with | (s, h, _) => (s, h)
  let (s, h1) := put s a below
  let (s, h2) := put s (a + k + mid.1.length) above
  let who := match acc.who with | .queue q idx off => Who.queue q idx (off + k) | w => w
  (s, { acc with who, addr := a + k, what := .write mid.1 mid.2 ctr total, hurt := acc.hurt <|> h1 <|> h2 })

/-- A write of admitted bytes, after its back-invalidations (R58, R83, R86). -/
def writeAt (i : Nat) (e : Ext) (acc : Access) (a : Nat) (data : Bytes) (mask : Option (List Bool)) (ctr : Option Nat) (total : Nat)
    (fetched : Bool) (s : State) : State × Res :=
  let parts := (wordsOf a data.length).filter (fun w => partWord a data mask w && !wholeWord a data mask w)
  let s := parts.foldl (fun s w => checkRead (some e.part) (8 * w) 8 s) s
  let bad := mergeBad s a data mask
  if !bad.isEmpty && e.mirrored && !fetched then fetchMirror e bad s
  else if lockTouch e a data.length then
    match splitWrite i e acc a data mask ctr total s with
    | (s, acc) => (s, .rest (.lock i) acc)
  else
    match putBytes i e acc a data mask (if acc.hurt.isNone then some (acc, 0) else none) s with
    | (s, hurt, sent) =>
      match acc.hurt <|> hurt with
      | none => if sent then (s, .later) else (s, .done St.ok [] [] 0)
      | some w => (s, .done St.poison [] [] w)

/-- An ATOMIC on an admitted word, after its back-invalidation (R29 to R31, R336). -/
def atomicAt (i : Nat) (e : Ext) (acc : Access) (a op ty operand compare : Nat) (fetched : Bool) (s : State) : State × Res :=
  let n := atomWidth ty
  if a % n ≠ 0 then (s, .done St.align [] [] a)
  else
    match mirrorTouch s a n with
    | some w => (s, .wait (.mirror w))
    | none =>
      let s := checkRead (some e.part) a n s
      if 131072 ≤ s.fab.dup.length then (s, .wait .dup)
      else if lockTouch e a n then (s, .wait (.lock i))
      else
        match badIn s a n with
        | w :: ws =>
          if e.mirrored && !fetched then fetchMirror e (w :: ws) s
          else (fault 6 3 (some e.part) a 1 s, .done St.poison [] [] a)
        | [] =>
          let old := leNat (poolBytes s a n)
          let s := writeMem a (leBytes n (atomNew op ty old operand compare)) none s
          let s := match acc.who with
            | .fabric h _ => addDup h.src h.wid old (s.now + 2 * reqTimeoutNs s e.part) h.job s
            | _ => s
          let f := forwardLen e a n
          if f = 0 then (s, .done St.ok [] [] old)
          else
            match forwardWrite i e a f (originOf acc (some old)) (some (acc, old)) s with
            | (s, true) => (s, .later)
            | (s, false) => (s, .done St.ok [] [] old)

/-- The coherence of an access to a COHERENT extent (R76 to R79, R307): the state, and the line it waits for, if any. A host read with
SnpCur or NoOp is a non-host read. -/
def coherence (e : Ext) (acc : Access) (a n : Nat) (s : State) : State × Option Nat :=
  if !e.coherent then (s, none)
  else
    match acc.who, acc.what with
    | .host _ att snp _, .read _ _ =>
      if snp = .data ∨ snp = .inv then hostRead (a / 64) e.part att (snp == .inv) s else snoopRange false (linesOf a n) s
    | .host _ att _ mv, .write _ _ _ _ => hostWrite (a / 64) att mv s
    | _, .read _ k => if k = .prefetch then (s, none) else snoopRange false (linesOf a n) s
    | _, _ => snoopRange true (linesOf a n) s

/-- The bytes an access touches. -/
def What.size : What → Nat
  | .read n _ => n
  | .write d _ _ _ => d.length
  | .atomic _ ty _ _ _ => atomWidth ty

/-- The ATOMICs on one word: the second waits while the first does (R30). -/
def sameWord (x y : Access) : Bool :=
  match x.what, y.what with
  | .atomic _ _ _ _ _, .atomic _ _ _ _ _ => x.addr / 8 == y.addr / 8
  | _, _ => false

/-- An earlier ATOMIC on the word of this one waits. -/
def behindAtomic (pre : List (Why × Access)) (acc : Access) : Bool := pre.any (fun w => sameWord w.2 acc)

/-- One access to this module's pool: coherence first, then the bytes. `fetched`: the mirror's value has been asked. The access has
been admitted (R71) to record `i`. -/
def perform (i : Nat) (e : Ext) (acc : Access) (fetched : Bool) (s : State) : State × Res :=
  if behindAtomic s.pool.waits acc then (s, .wait .turn)
  else
    match coherence e acc acc.addr acc.what.size s with
    | (s, some l) => (s, .wait (.bi l))
    | (s, none) =>
      match acc.what with
      | .read n k => if k = .prefetch then prefetchAt e acc.addr n s else readAt e acc.addr n fetched s
      | .write d m c t => writeAt i e acc acc.addr d m c t fetched s
      | .atomic op ty x c _ => atomicAt i e acc acc.addr op ty x c fetched s

end Sys2Proof.Machine
end

