-- ==== Sys2Proof/Machine/Xlat.lean ====
section
/-! DEFINITION. Translation: the table of a partition (R92 to R101), the translation cache (R104, R105), pages, the tile pre-check
(R110, R111), and the failover to the mirror (R107). -/

namespace Sys2Proof.Machine

/-! ### Tables (R93 to R97) -/

/-- 64 KiB pages in a page of a level (R93). -/
def pagesAt : Nat → Nat
  | 1 => 2 ^ 23
  | 2 => 16384
  | 3 => 32
  | _ => 1

/-- Bytes of a table of a level (R93). -/
def tableSize : Nat → Nat
  | 1 => 32768
  | 4 => 512
  | _ => 8192

/-- The index of a page in a table of a level (R93). -/
def tableIdx (lv page : Nat) : Nat := page / pagesAt lv % (tableSize lv / 16)

/-- The home address of the entry that a walk for a page reads in the table at `t` (R93). -/
def entryAddr (t lv page : Nat) : Nat := t + 16 * tableIdx lv page

/-- NEXT of a pointer entry (R94). -/
def ptrNext (e : BitVec 128) : Nat := bitsOf e.toNat 36 9 * 512

/-- The pointer entry to a table (R94). -/
def ptrEntry (t : Nat) : BitVec 128 := BitVec.ofNat 128 (1 + fld 9 (bitsOf t 36 9))

/-- A pointer entry whose reserved bits are zero, at a level that has a next one (R94). -/
def ptrOk (lv : Nat) (e : BitVec 128) : Bool := decide (lv ≤ 3) && bitsOf e.toNat 8 2 == 0 && bitsOf e.toNat 127 37 == 0

/-- A leaf that R96 accepts at a level. -/
def leafOk (lv : Nat) (l : BitVec 128) : Bool :=
  decide (2 ≤ lv) && Leaf.reservedZero l && Leaf.homeAddr l % (65536 * pagesAt lv) == 0 && (!Leaf.a l || (Leaf.r l && Leaf.w l))

/-- The root table of a partition (R97). -/
def rootOf (x : Part) : Option Nat := (x.tabs.find? (fun t => t.2 == 1)).map Prod.fst

/-- The entry at a home address; what nothing has written reads as zero. -/
def entryOf (x : Part) (a : Nat) : BitVec 128 := x.ents.get 0#128 a

/-- The entry at a home address reads as uncorrectable (R59, R103). -/
def entryBad (s : State) (a : Nat) : Bool := badWord s (a / 8) || badWord s (a / 8 + 1)

/-- What a walk ends at: a leaf, an entry with V 0, an uncorrectable entry or a malformed one, by its home address (R102, R103, R96). -/
inductive WalkEnd where
  | leaf (lv : Nat) (l : BitVec 128)
  | unmapped
  | poison (addr : Nat)
  | malformed (addr : Nat)
deriving DecidableEq, Repr

/-- A walk: the home addresses of the entries on its path, the pointers that it followed, its end. -/
structure Trip where
  path : List Nat
  ptrs : List (Nat × BitVec 128)
  fin : WalkEnd
deriving DecidableEq, Repr

/-- A walk from the table at `t` of a level on (R102): `held` is what the walk cache holds of an entry. -/
def walkFrom (s : State) (x : Part) (held : Nat → Option (BitVec 128)) (page : Nat) : Nat → Nat → Nat → Trip
  | 0, _, _ => ⟨[], [], .unmapped⟩
  | n + 1, lv, t =>
    let a := entryAddr t lv page
    let on (e : BitVec 128) : Trip :=
      let w := walkFrom s x held page n (lv + 1) (ptrNext e)
      { w with path := a :: w.path, ptrs := (a, e) :: w.ptrs }
    match held a with
    | some e => on e
    | none =>
      let e := entryOf x a
      if entryBad s a then ⟨[a], [], .poison a⟩
      else if !Leaf.v e then ⟨[a], [], .unmapped⟩
      else if Leaf.isLeaf e then (if leafOk lv e then ⟨[a], [], .leaf lv e⟩ else ⟨[a], [], .malformed a⟩)
      else if ptrOk lv e then on e
      else ⟨[a], [], .malformed a⟩

/-- A walk of a partition's copy for a page; without a root table every FVA is unmapped (R97). -/
def walkWith (s : State) (p : Nat) (held : Nat → Option (BitVec 128)) (page : Nat) : Trip :=
  match rootOf (part s p) with
  | some t => walkFrom s (part s p) held page 4 1 t
  | none => ⟨[], [], .unmapped⟩

/-- The pointer entry of a partition that the walk cache holds (R105). -/
def heldPtr (s : State) (p a : Nat) : Option (BitVec 128) :=
  (s.xlt.ptrs.find? (fun e => e.part == p && e.addr == a)).map PtrEnt.entry

/-- A walk that uses the walk cache (R102). -/
def walkOf (s : State) (p page : Nat) : Trip := walkWith s p (heldPtr s p) page

/-- What a lookup sees of a walk's end: a malformed entry counts as invalid (R96). -/
def WalkEnd.xl : WalkEnd → Xl
  | .leaf lv l => .leaf lv l
  | .unmapped => .unmapped
  | .poison _ => .poison
  | .malformed _ => .unmapped

/-- The pointers that a walk has followed are in the walk cache, most recently used first (R105). -/
def cachePtrs (p : Nat) (ps : List (Nat × BitVec 128)) (s : State) : State :=
  let l := ps.foldl (fun l e => ⟨p, e.1, e.2⟩ :: l.filter (fun c => !(c.part == p && c.addr == e.1))) s.xlt.ptrs
  { s with xlt := { s.xlt with ptrs := l.take 61440 } }

/-- A walk has ended: an uncorrectable entry is recorded by its home address (R103), a malformed one counted and recorded (R96). -/
def walkEnded (p : Nat) (w : Trip) (s : State) : State :=
  let s := cachePtrs p w.ptrs s
  match w.fin with
  | .poison a => fault 7 1 (some p) a St.poison s
  | .malformed a => bump 0x1C000C (faultAt 7 1 (some p) a s)
  | _ => s

/-- A cached translation of a page of a partition. -/
def cached (s : State) (p page : Nat) : Option CEnt :=
  s.xlt.cache.find? (fun c => c.part == p && c.page == page - page % pagesAt c.level)

/-- The translation of an FVA: from the cache, else by a walk of the partition's copy (R102 to R104). -/
def translate (s : State) (p fva : Nat) : Xl :=
  let page := fva / 65536
  match cached s p page with
  | some c => .leaf c.level c.leaf
  | none => (walkOf s p page).fin.xl

/-- A leaf enters the cache with the number under which it was read, most recent first. A set holds 16 ways; only the set hash, which the manual
does not disclose, says which entries share one (R104). Unused prefetched entries hold at most `pfWays` of them (R112). -/
def cacheLeaf (p page lv : Nat) (l : BitVec 128) (seq : Nat) (pf : Bool) (s : State) : State :=
  let e : CEnt := { part := p, page := page - page % pagesAt lv, level := lv, leaf := l, seq, pf := pf }
  let rest := s.xlt.cache.filter (fun c => !(c.part == p && c.page == e.page && c.level == lv))
  let set (c : CEnt) : Nat := Config.cacheSet c.part (8 * c.page + c.level) % 4096
  let rest := if pf && decide (pfWays s ≤ rest.length) then
      (let mine := rest.filter (fun c => c.pf && set c == set e)
       if pfWays s ≤ mine.length then
         (match mine.getLast? with | some v => rest.erase v | none => rest)
       else rest)
    else rest
  let rest := if rest.length < 16 then rest
    else (let mine := rest.filter (fun c => set c == set e)
          if mine.length < 16 then rest else (match mine.getLast? with | some v => rest.erase v | none => rest))
  { s with xlt := { s.xlt with cache := if pf && pfWays s == 0 then rest else e :: rest } }

/-- A request uses a cached entry: it is the most recent, and prefetched no more (R104, R105). -/
def hitLeaf (c : CEnt) (s : State) : State := cacheLeaf c.part c.page c.level c.leaf c.seq false s

/-- A demand lookup: the translation and the invalidation number under which it was read, and the state in which a hit is the most recent entry,
or a walk has ended and its leaf is cached. -/
def demand (p fva : Nat) (s : State) : State × Xl × Nat :=
  match cached s p (fva / 65536) with
  | some c => (hitLeaf c s, .leaf c.level c.leaf, c.seq)
  | none =>
    let w := walkOf s p (fva / 65536)
    let n := (part s p).invSeq
    match w.fin with
    | .leaf lv l => (cacheLeaf p (fva / 65536) lv l n false (walkEnded p w s), .leaf lv l, n)
    | x => (walkEnded p w s, x.xl, n)

/-! ### The leaves of a table (R93, R101) -/

/-- The entries of a partition in the table at `t`: index and entry. -/
def tableEnts (x : Part) (t size : Nat) : List (Nat × BitVec 128) :=
  (x.ents.filter (fun e => decide (t ≤ e.1) && decide (e.1 < t + size))).map (fun e => ((e.1 - t) / 16, e.2))

/-- The tables that hang under the table at `t` of a level, with their levels and the first page that each covers. -/
def tablesFrom (x : Part) : Nat → Nat → Nat → Nat → List (Nat × Nat × Nat)
  | 0, _, _, _ => []
  | n + 1, lv, t, base =>
    (lv, t, base) :: (tableEnts x t (tableSize lv)).flatMap (fun e =>
      if Leaf.v e.2 && !Leaf.isLeaf e.2 then tablesFrom x n (lv + 1) (ptrNext e.2) (base + e.1 * pagesAt lv) else [])

/-- The tables of a partition: level, home address, first page. -/
def tablesOf (x : Part) : List (Nat × Nat × Nat) := match rootOf x with | some t => tablesFrom x 4 1 t 0 | none => []

/-- The valid leaves of a partition: first page, level, home address of the entry, leaf. -/
def leavesOf (x : Part) : List (Nat × Nat × Nat × BitVec 128) :=
  (tablesOf x).flatMap (fun t => (tableEnts x t.2.1 (tableSize t.1)).filterMap (fun e =>
    if Leaf.v e.2 && Leaf.isLeaf e.2 then some (t.2.2 + e.1 * pagesAt t.1, t.1, t.2.1 + 16 * e.1, e.2) else none))

/-- The share of one leaf in the digest (R101). -/
def leafDigest (page lv : Nat) (l : BitVec 128) : BitVec 64 :=
  BitVec.ofNat 64 (shake64 (leBytes 8 (page * 65536) ++ leBytes 1 lv ++ leBytes 16 l.toNat))

/-- The digest of a set of leaves (R101). -/
def tableDigest (ls : List (Nat × Nat × Nat × BitVec 128)) : BitVec 64 :=
  ls.foldl (fun d e => d ^^^ leafDigest e.1 e.2.1 e.2.2.2) 0#64

/-- The bytes of a partition's tables, which its budget holds (R97). -/
def tableBytes (x : Part) : Nat := x.tabs.foldl (fun n t => n + tableSize t.2) 0

/-! ### Changing a table (R96, R97, R99, R103) -/

/-- Words of the reserve that are written whole are readable again (R59). -/
def readable (a n : Nat) (s : State) : State := { s with pool := { s.pool with bad := s.pool.bad.clearRange (a / 8) (n / 8) } }

/-- An entry of a partition is written whole (R100); what the walk cache holds of it goes (log entry 98). -/
def putEntry (p a : Nat) (e : BitVec 128) (s : State) : State :=
  let x := part s p
  let s := readable a 16 (setPart s p { x with ents := x.ents.put 0#128 a e })
  { s with xlt := { s.xlt with ptrs := s.xlt.ptrs.filter (fun c => !(c.part == p && c.addr == a)) } }

/-- The places of the module's tables in the reserve. -/
def placed (s : State) : List (Nat × Nat) := s.parts.flatMap (fun e => e.2.tabs.map (fun t => (t.1, tableSize t.2)))

/-- The first free place for a table among the `k`-th and those after it, of `n` places in all. -/
def findPlace (base size n : Nat) (used : List (Nat × Nat)) : Nat → Nat → Option Nat
  | 0, _ => none
  | f + 1, k =>
    let a := base + size * (k % n)
    if used.all (fun u => decide (a + size ≤ u.1) || decide (u.1 + u.2 ≤ a)) then some a else findPlace base size n used f (k + 1)

/-- A table is allocated from the partition's budget: at a place of the reserve above the journal, aligned to its size, that no table holds
(R93, R97). Which one is a free value (log entry 98). None where the budget has no room. -/
def allocTable (p lv : Nat) (s : State) : Option (Nat × State) :=
  let x := part s p
  let size := tableSize lv
  let base := poolTop s + 2 ^ 21
  let n := (2 ^ 37 - base) / size
  if x.prm.budget * 8192 < tableBytes x + size then none
  else
    match freeVal n s with
    | (k, s) =>
      match findPlace base size n (placed s) (64 * (placed s).length + 1) k with
      | some t => some (t, readable t size (setPart s p { x with tabs := x.tabs.ins t lv }))
      | none => none

/-- The table of level `n` on the path of a page, allocated as far as it is not there, from the table `t` of level `lv` on; pointers that read
as uncorrectable are written again. -/
def pathFrom (p page : Nat) : Nat → Nat → Nat → State → Option (Nat × State)
  | 0, _, t, s => some (t, s)
  | n + 1, lv, t, s =>
    let a := entryAddr t lv page
    let e := entryOf (part s p) a
    if Leaf.v e then pathFrom p page n (lv + 1) (ptrNext e) (if entryBad s a then putEntry p a e s else s)
    else
      match allocTable p (lv + 1) s with
      | some (u, s) => pathFrom p page n (lv + 1) u (putEntry p a (ptrEntry u) s)
      | none => none

/-- The table of a level for a page: the root table first (R97). -/
def pathTo (p page lv : Nat) (s : State) : Option (Nat × State) :=
  match rootOf (part s p) with
  | some t => pathFrom p page (lv - 1) 1 t s
  | none => match allocTable p 1 s with | some (t, s) => pathFrom p page (lv - 1) 1 t s | none => none

/-- A partition's digest changes by a leaf that comes or goes. -/
def flipDigest (p page lv : Nat) (l : BitVec 128) (s : State) : State :=
  setPart s p { part s p with digest := (part s p).digest ^^^ leafDigest page lv l }

/-- A valid leaf is written at its page (R99); none where the budget has no room. -/
def mapLeaf (p page lv : Nat) (l : BitVec 128) (s : State) : Option State :=
  match pathTo p page lv s with
  | none => none
  | some (t, s) =>
    let a := entryAddr t lv page
    let old := entryOf (part s p) a
    let s := if Leaf.v old then flipDigest p page lv old s else s
    some (putEntry p a l (flipDigest p page lv l s))

/-- Tables without an entry are freed, with the pointers to them, from the level `lv` upward (R99). -/
def freeEmpty (p : Nat) (s : State) : State :=
  [4, 3, 2, 1].foldl (fun s lv =>
    let x := part s p
    let gone := x.tabs.filter (fun t => t.2 == lv && (tableEnts x t.1 (tableSize lv)).isEmpty)
    let s := setPart s p { x with tabs := x.tabs.keep (fun k _ => !gone.any (fun t => t.1 == k)) }
    (x.ents.filter (fun e => Leaf.v e.2 && !Leaf.isLeaf e.2 && gone.any (fun t => t.1 == ptrNext e.2))).foldl (fun s e => putEntry p e.1 0#128 s) s) s

/-- Entries that lie whole in the pages from `lo` to `hi − 1` and read as uncorrectable are written as zero. -/
def clearBad (p lo hi : Nat) (s : State) : State :=
  let ts := tablesOf (part s p)
  let inside (w : Nat) : Bool := ts.any (fun t =>
    let i := (8 * w - t.2.1) / 16
    decide (t.2.1 ≤ 8 * w) && decide (8 * w < t.2.1 + tableSize t.1) && decide (lo ≤ t.2.2 + i * pagesAt t.1)
      && decide (t.2.2 + (i + 1) * pagesAt t.1 ≤ hi))
  { s with pool := { s.pool with bad := s.pool.bad.keep (fun w _ => !inside w) } }

/-- The leaf meets the pages from `lo` to `hi − 1`. -/
def leafMeets (e : Nat × Nat × Nat × BitVec 128) (lo hi : Nat) : Bool := decide (e.1 < hi) && decide (lo < e.1 + pagesAt e.2.1)

/-- V becomes 0 in the leaves of a range of pages; tables that become empty are freed (R99). -/
def unmapPages (p lo hi : Nat) (s : State) : State :=
  let ls := (leavesOf (part s p)).filter (fun e => leafMeets e lo hi)
  freeEmpty p (ls.foldl (fun s e => putEntry p e.2.2.1 0#128 (flipDigest p e.1 e.2.1 e.2.2.2 s)) (clearBad p lo hi s))

/-! ### Pages of a range (R110, R111) -/

/-- A page of one side of a tile: its base, its size, its translation where a lookup or walk has given it, and the lowest FVA of the tile's bytes in
it. -/
structure Pg where
  base : Nat
  size : Nat
  xl : Option Xl
  first : Nat
deriving DecidableEq, Repr

/-- What is known of the translation of a 64 KiB page number. -/
abbrev Look : Type := Nat → Option Xl

/-- The 64 KiB page lies in the page that a tile has translated. -/
def Tr.covers (t : Tr) (page : Nat) : Bool :=
  match t.x with | .leaf lv _ => t.page == page - page % pagesAt lv | _ => t.page == page

/-- What a tile under its pre-check knows of a page: what its walks have found, and the translation cache. -/
def lookOf (s : State) (p : Nat) (tr : List Tr) : Look := fun page =>
  match tr.find? (fun t => t.hi == 0 && t.covers page) with
  | some t => some t.x
  | none => (cached s p page).map (fun c => .leaf c.level c.leaf)

/-- A lookup whose walks end at once (log entry 99). -/
def lookNow (s : State) (p : Nat) : Look := fun page => some (translate s p (page * 65536))

/-- The page of an FVA: an unmapped or unreadable range counts as 64 KiB pages (R110). -/
def pageOf (look : Look) (fva : Nat) : Pg :=
  match look (fva / 65536) with
  | some (.leaf lv l) => ⟨fva / (65536 * pagesAt lv) * (65536 * pagesAt lv), 65536 * pagesAt lv, some (.leaf lv l), fva⟩
  | x => ⟨fva / 65536 * 65536, 65536, x, fva⟩

/-- The pages of consecutive bytes, at most `k` of them. -/
def pagesOf (look : Look) : Nat → Nat → Nat → List Pg
  | 0, _, _ => []
  | k + 1, a, n =>
    if n = 0 then []
    else
      let g := pageOf look a
      let c := Nat.min n (g.base + g.size - a)
      g :: pagesOf look k (a + c) (n - c)

/-- Pages join those of a side, each once. -/
def addPages (acc gs : List Pg) : List Pg := gs.foldl (fun acc g => if acc.any (fun h => h.base == g.base) then acc else acc ++ [g]) acc

/-- The end of the 64th page of consecutive bytes from `a`. -/
def page64 (look : Look) (a n : Nat) : Nat :=
  match (pagesOf look 64 a n).getLast? with
  | some g => Nat.min (a + n) (g.base + g.size)
  | none => a + n

/-! ### Geometry of an operation (R129, R144) -/

/-- Bytes of a row, rows of a plane, planes, and the strides of both sides. -/
structure Shape where
  x : Nat
  y : Nat
  z : Nat
  srcRow : Nat
  srcPlane : Nat
  dstRow : Nat
  dstPlane : Nat
deriving DecidableEq, Repr

/-- The shape of a descriptor: PUT, GET and COLL are one row. -/
def shapeOf (d : Desc) (total : Nat) : Shape :=
  if D.opcode d = 3 then ⟨D.xBytes d, D.yRows d, D.zPlanes d, D.srcRow d, D.srcPlane d, D.dstRow d, D.dstPlane d⟩
  else ⟨total, 1, 1, 0, 0, 0, 0⟩

/-- The offset of byte `c` from the source base. -/
def Shape.srcOff (g : Shape) (c : Nat) : Nat :=
  let r := c / g.x
  r / g.y * g.srcPlane + r % g.y * g.srcRow + c % g.x

/-- The offset of byte `c` from the destination base. -/
def Shape.dstOff (g : Shape) (c : Nat) : Nat :=
  let r := c / g.x
  r / g.y * g.dstPlane + r % g.y * g.dstRow + c % g.x

/-- The pages of row after row of a side from byte `c` on, stopping after 65. -/
def rowPages (look : Look) (g : Shape) (off : Nat → Nat) (b : Nat) : Nat → Nat → Nat → List Pg → List Pg
  | 0, _, _, acc => acc
  | k + 1, c, n, acc =>
    if n = 0 ∨ 65 ≤ acc.length then acc
    else
      let m := Nat.min n (g.x - c % g.x)
      rowPages look g off b k (c + m) (n - m) (addPages acc (pagesOf look 65 (b + off c) m))

/-- A side of an operation that is translated: its base FVA. -/
def srcFva (d : Desc) : Option Nat := if D.srcKind d = 1 then some (D.srcAddr d) else none
def dstFva (d : Desc) : Option Nat := if D.dstKind d = 1 then some (D.dstAddr d) else none

/-- The pages of a side for bytes `c` to `c + n − 1`, in their order; counting ends beyond 64. -/
def sidePages (look : Look) (g : Shape) (off : Nat → Nat) (base : Option Nat) (c n : Nat) : List Pg :=
  match base with
  | none => []
  | some b => rowPages look g off b (n / g.x + 2) c n []

/-- Both sides' pages, source first. -/
def bothSides (look : Look) (g : Shape) (d : Desc) (c n : Nat) : List Pg × List Pg :=
  (sidePages look g g.srcOff (srcFva d) c n, sidePages look g g.dstOff (dstFva d) c n)

/-- A part of an operation spans at most 64 pages on each side. -/
def fits64 (look : Look) (g : Shape) (d : Desc) (c n : Nat) : Bool :=
  decide ((bothSides look g d c n).1.length ≤ 64) && decide ((bothSides look g d c n).2.length ≤ 64)

/-- The largest number of units of `u` bytes from `c`, at most `k`, that fits 64 pages. -/
def bandOf (look : Look) (g : Shape) (d : Desc) (c u : Nat) : Nat → Nat
  | 0 => 0
  | k + 1 => if fits64 look g d c ((k + 1) * u) then k + 1 else bandOf look g d c u k

/-- The length of the 1-D tile at `c`, of at most `n` bytes (R110). -/
def tile1 (look : Look) (g : Shape) (d : Desc) (c n : Nat) : Nat :=
  let side (off : Nat) (b : Option Nat) : Nat := match b with | none => n | some b => page64 look (b + off) n - (b + off)
  Nat.min (side (g.srcOff c) (srcFva d)) (side (g.dstOff c) (dstFva d))

/-- The length of the tile at byte `c` of an operation of `total` bytes (R110). -/
def tileLen (look : Look) (d : Desc) (total c : Nat) : Nat :=
  let g := shapeOf d total
  if D.opcode d ≠ 3 then tile1 look g d c (total - c)
  else
    let plane := g.x * g.y
    let planes := if 1 < g.z ∧ c % plane = 0 then bandOf look g d c plane ((total - c) / plane) else 0
    if 0 < planes then planes * plane
    else
      let rows := if c % g.x = 0 then bandOf look g d c g.x ((plane - c % plane) / g.x) else 0
      if 0 < rows then rows * g.x else tile1 look g d c (g.x - c % g.x)

/-- The first page of the tile at byte `c`, source side first, whose translation neither a walk of the pre-check nor the cache has given: of the
bytes from `c` on, the first 64 pages decide how far the tile goes (R110). -/
def tileNeeds (look : Look) (d : Desc) (total c : Nat) : Option Nat :=
  let b := bothSides look (shapeOf d total) d c (total - c)
  match (b.1.take 64 ++ b.2.take 64).find? (fun g => g.xl.isNone) with
  | some g => some (g.base / 65536)
  | none => none

/-! ### The pre-check (R111, R130, R163) -/

/-- A page's leaf fails a test. -/
def Pg.lacks (g : Pg) (need : BitVec 128 → Bool) : Bool := match g.xl with | some (.leaf _ l) => !need l | _ => false

/-- The first page without a readable translation. -/
def firstGap (gs : List Pg) : Option (Nat × Nat) :=
  gs.findSome? (fun g => match g.xl with
    | some .unmapped => some (St.unmapped, g.first)
    | some .poison => some (St.poison, g.first)
    | _ => none)

/-- The first page that fails a test of its leaf. -/
def firstLack (gs : List Pg) (need : BitVec 128 → Bool) : Option Nat := (gs.find? (fun g => g.lacks need)).map Pg.first

/-- The home module of the first destination byte (R130). -/
def destHome (look : Look) (d : Desc) : Option Nat :=
  match dstFva d with
  | none => none
  | some b => match look (b / 65536) with | some (.leaf _ l) => some (Leaf.homeModule l) | _ => none

/-- The pre-check of a tile of this module `me`: none where it passes, else the status and the faulting address. -/
def precheck (look : Look) (me : Nat) (d : Desc) (total c n : Nat) (home : Option Nat) : Option (Nat × Nat) :=
  let src := (bothSides look (shapeOf d total) d c n).1
  let dst := (bothSides look (shapeOf d total) d c n).2
  match firstGap src with
  | some f => some f
  | none =>
    match firstGap dst with
    | some f => some f
    | none =>
      match firstLack src Leaf.r with
      | some a => some (St.rights, a)
      | none =>
        match firstLack dst Leaf.w with
        | some a => some (St.rights, a)
        | none =>
          if D.opcode d = 2 then (firstLack dst (fun l => Leaf.homeModule l == me)).map (fun a => (St.denied, a))
          else if D.cnt d && D.dstKind d == 1 && D.opcode d != 8 then
            (firstLack dst (fun l => some (Leaf.homeModule l) == home)).map (fun a => (St.counter, a))
          else none

/-! ### The translations of a tile (R12, R111) -/

/-- A page as a tile that ends at `hi` keeps it. -/
def Pg.keep (g : Pg) (s : State) (p hi : Nat) (tr : List Tr) : List Tr :=
  match g.xl with
  | some (.leaf lv l) =>
    let page := g.base / 65536
    let seq := match tr.find? (fun t => t.hi == 0 && t.covers page) with
      | some t => t.seq
      | none => (match cached s p page with | some c => c.seq | none => (part s p).invSeq)
    [⟨page, .leaf lv l, seq, hi⟩]
  | _ => []

/-- A lookup of byte `off` of an operation: the translation that its tile passed its pre-check with. -/
def tileLeaf (o : Op) (off fva : Nat) : Option (Nat × BitVec 128) :=
  match o.tr.find? (fun t => decide (off < t.hi) && t.covers (fva / 65536)) with
  | some ⟨_, .leaf lv l, _, _⟩ => some (lv, l)
  | _ => none

/-! ### Where a request goes (R107) -/

/-- The home of an FVA: the module to which a request goes, its home address and extent, and the redirect block where the home is
lost. -/
structure Target where
  mod : Nat
  epid : Nat
  addr : Nat
  ext : Nat
  rd : Option Redirect
deriving DecidableEq, Repr

/-- The target of an access through a leaf, or the status with which it ends at once: ABORTED where the home is lost without a mirror
(R107), DENIED where no valid pool EPID is known (R211). -/
def targetOf (s : State) (fva lv : Nat) (l : BitVec 128) : Except Nat Target :=
  let a := Leaf.homeAddr l + fva % (65536 * pagesAt lv)
  let h := Leaf.homeModule l
  if isLost s h then
    if Leaf.mv l then
      match livePool s (Leaf.mirrorModule l) with
      | some e => if isLost s (Leaf.mirrorModule l) then .error St.aborted
          else .ok ⟨Leaf.mirrorModule l, e, a, Leaf.extentId l, some ⟨0, h, 0, true⟩⟩
      | none => .error St.denied
    else .error St.aborted
  else
    match livePool s h with
    | some e => .ok ⟨h, e, a, Leaf.extentId l, none⟩
    | none => .error St.denied

end Sys2Proof.Machine
end

