-- ==== Sys2Proof/Machine/QueOps.lean ====
section
/-! DEFINITION. Queues: DMA toward an attachment (R309), completion records (R134 to R137), segments (R149), landing counters (R42,
R43, R47), fences (R50), the bookkeeping of an operation, and Host accesses that fail (R32). -/

namespace Sys2Proof.Machine

/-! ### DMA (R309) -/

/-- The port that carries a device address of an attachment: consecutive 4 KiB blocks go to consecutive UP ports. -/
def dmaPort (s : State) (att addr : Nat) : Option Nat :=
  let ups := (attachPorts s att).filter (fun p => (cxlPort s p).st == .up)
  if ups = [] then none else ups[(addr / 4096) % ups.length]?

/-- The port that a device address uses, for a request that may have to wait: among the UP ports; while none is up, the lowest that retrains,
or the lowest (R294, R309; log entry 109). -/
def dmaVia (s : State) (att addr : Nat) : Nat :=
  let ps := attachPorts s att
  match dmaPort s att addr with
  | some p => p
  | none => ((ps.find? (fun p => (cxlPort s p).st == .training && (cxlPort s p).trained != 0)) <|> ps.head?).getD 0

/-- A CXL.io read, of which a port keeps up to 256 outstanding. -/
def isRead : Out → Bool
  | .dmaRead _ _ _ _ => true
  | _ => false

/-- A port may send a CXL.io request: it is UP, and has room for another read (R309). -/
def mayDma (s : State) (p : Nat) (o : Out) : Bool :=
  let sent := (s.cxl.dma.filter (fun e => e.2.1 == p)).length - ((cxlPort s p).dmaq.filter isRead).length
  (cxlPort s p).st == .up && (!isRead o || decide (sent ≤ 256))

/-- A port that is UP, or that retrains, holds what it cannot send yet. -/
def dmaHolds (c : CxlPort) : Bool := c.st == .up || (c.st == .training && c.trained != 0)

/-- A CXL.io request goes out on a port, which leaves L1 for it (R295), or waits there in its turn (R294, R309). A port that is down sends
nothing: a write is lost, a read ends by its timeout (R310, R359). -/
def dmaSend (p : Nat) (o : Out) (s : State) : State :=
  if (cxlPort s p).dmaq = [] ∧ mayDma s p o then emit o (leaveL1 p s)
  else if dmaHolds (cxlPort s p) then setCxl s p { cxlPort s p with dmaq := (cxlPort s p).dmaq ++ [o] }
  else s

/-- The first requests of a port's queue go, until one cannot. -/
def flushRun (p : Nat) : List Out → State → State
  | [], s => s
  | o :: l, s =>
    let s' := setCxl s p { cxlPort s p with dmaq := l }
    if mayDma s' p o then flushRun p l (emit o s') else s

/-- The requests that wait at a port go, in their order, as far as they can. -/
def flushDma (p : Nat) (s : State) : State := flushRun p (cxlPort s p).dmaq s

/-- A CXL.io read on a port. -/
def dmaReadOn (port addr len : Nat) (f : DmaFor) (s : State) : State :=
  let id := s.cxl.nextId
  dmaSend port (.dmaRead id port addr len) { s with cxl := { s.cxl with dma := s.cxl.dma.ins id (port, f), nextId := id + 1 } }

/-- A CXL.io read of accelerator memory. -/
def dmaRead (att addr len : Nat) (f : DmaFor) (s : State) : State := dmaReadOn (dmaVia s att addr) addr len f s

/-- The addresses and lengths of the 512-byte blocks that a run of bytes touches: a posted write carries no more (R309; log entry 109). -/
def blocksOf (addr n : Nat) : List (Nat × Nat) :=
  ((List.range ((addr + n - 1) / 512 - addr / 512 + 1)).map (fun i =>
    let lo := Nat.max addr ((addr / 512 + i) * 512)
    (lo, Nat.min (addr + n) ((addr / 512 + i + 1) * 512) - lo))).filter (fun b => b.2 != 0)

/-- Bytes go to accelerator memory by posted writes (R309). -/
def dmaWrite (att addr : Nat) (data : Bytes) (s : State) : State :=
  (blocksOf addr data.length).foldl (fun s b =>
    let p := dmaVia s att b.1
    dmaSend p (.dmaWrite p b.1 ((data.drop (b.1 - addr)).take b.2)) s) s

/-- The ports that carry a run of bytes. -/
def dmaPorts (s : State) (att addr n : Nat) : List Nat := ((blocksOf addr n).map (fun b => dmaVia s att b.1)).eraseDups

/-- A zero-length read on each port that carried some bytes (R26, R137). -/
def dmaFence (att addr n : Nat) (f : DmaFor) (s : State) : State :=
  (match dmaPorts s att addr n with | [] => [dmaVia s att addr] | ps => ps).foldl (fun s p => dmaReadOn p addr 0 f s) s

/-! ### Segments and prefetches (R149, R150) -/

/-- Segments are dropped; the prefetches in flight for them are cancelled, not recalled. -/
def dropSegs (f : Seg → Bool) (g : Prefetch → Bool) (s : State) : State :=
  { s with qs := { s.qs with segs := s.qs.segs.filter (fun x => !f x),
                             pf := s.qs.pf.map (fun e => (e.1, { e.2 with cancelled := e.2.cancelled || g e.2 })) } }

/-- A queue's segments. -/
def dropQueue (q : Nat) (s : State) : State := dropSegs (fun x => x.q == q) (fun x => x.q == q) s

/-- The segments of one descriptor. -/
def dropDesc (q idx : Nat) (s : State) : State :=
  dropSegs (fun x => x.q == q && x.idx == idx) (fun x => x.q == q && x.idx == idx) s

/-- A partition's segments. -/
def dropPart (p : Nat) (s : State) : State := dropSegs (fun x => x.part == p) (fun x => x.part == p) s

/-- The segments of an extent. -/
def dropExt (home ext : Nat) (s : State) : State :=
  dropSegs (fun x => x.home == home && x.ext == ext) (fun x => x.home == home && x.ext == ext) s

/-! ### Operations of a queue -/

def Que.op (x : Que) (idx : Nat) : Option Op := x.ops.find? (fun o => o.idx == idx)

/-- An operation changes. -/
def setOp (q : Nat) (o : Op) (s : State) : State :=
  let x := que s q
  setQue s q { x with ops := x.ops.map (fun p => if p.idx = o.idx then o else p) }

/-- An operation changes, if it is still there. -/
def onOp (q idx : Nat) (f : Op → Op) (s : State) : State :=
  match (que s q).op idx with
  | some o => setOp q (f o) s
  | none => s

/-- The bytes of an operation that move: all, or those before the byte at which it fails (R33). -/
def Op.limit (o : Op) : Nat := if o.fail.isSome then Nat.min o.stop o.total else o.total

/-- An operation fails at a byte: its first failure is kept, what comes before the byte still moves, and what comes after goes nowhere
(R33, R111). -/
def failOpAt (q idx off st result : Nat) (s : State) : State :=
  let s := onOp q idx (fun o => if o.fail.isSome then { o with stop := Nat.min o.stop off } else { o with fail := some (st, result), stop := off }) s
  let x := que s q
  setQue s q { x with pieces := x.pieces.filter (fun p => !(p.idx == idx && decide (off ≤ p.off))) }

/-- An operation fails, and no more of it moves. -/
def failOp (q idx st result : Nat) (s : State) : State := failOpAt q idx 0 st result s

/-- A queue enters HALTED: its segments go (R122, R149). -/
def halt (q idx st : Nat) (s : State) : State :=
  let x := que s q
  if x.st = .halted then s else
  tracePoint 2 x.part (leBytes 8 q ++ leBytes 8 idx ++ leBytes 8 st) (dropQueue q (setQue s q { x with st := .halted }))

/-- The bytes of a completion record (R134). -/
def recordBytes (idx st op : Nat) (phase : Bool) (bytes result : Nat) : Bytes :=
  leBytes 8 (idx + fld 16 st + fld 24 op + fld 31 (bit phase) + fld 32 bytes) ++ leBytes 8 result

/-- An access of the debug port to a partition's data ends (R458). The manual gives a status for success and for a refusal only, and no data
but a read's: the rest are free values. -/
def debugDone (n st : Nat) (data : Bytes) (s : State) : State :=
  if s.dbg.busy = some n then
    let (v, s) := freeVal (2 ^ 32) s
    let (w, s) := freeVal 7 s
    let code := if st = St.ok then 0 else if st = St.denied ∨ st = St.rights then 1 else w
    { s with dbg := { s.dbg with busy := none, used := none, lastSt := code, lastData := if st = St.ok ∧ data ≠ [] then leNat data else v } }
  else s

/-- What the requests of an operation serve is forgotten. -/
def forget (q idx : Nat) (s : State) : State :=
  { s with fab := { s.fab with reqs := s.fab.reqs.keep (fun _ r => match r.serves with
      | .op q' i => !(q' == q && i == idx)
      | .piece q' i _ => !(q' == q && i == idx)
      | _ => true) } }

/-- A descriptor completes with its one record (R134, R136, R137): the operation leaves the queue, the record goes to the completion
ring or is discarded where the attachment has no UP port, the armed vector is sent (R123, R311), a failed HALT descriptor halts the
queue (R122), segments are dropped (R149). -/
def complete (q idx st bytes result : Nat) (s : State) : State :=
  let x := que s q
  match x.op idx with
  | none => s
  | some o =>
    let opc := D.opcode o.d
    let n := 2 ^ x.cqLog2
    let s := dmaWrite x.attach (x.cqBase + 16 * x.cqTail) (recordBytes idx st opc x.phase bytes result) s
    let s := if x.arm then (match upPort s x.attach with | some p => emit (.msix p x.msix) s | none => s) else s
    let s := setQue s q { x with
      ops := x.ops.filter (fun p => p.idx != idx), pieces := x.pieces.filter (fun p => p.idx != idx),
      cqTail := (x.cqTail + 1) % n, phase := if x.cqTail + 1 = n then !x.phase else x.phase, used := x.used + 1, arm := false }
    let s := forget q idx s
    let s := if opc = 5 ∨ opc = 6 then dropQueue q s else dropDesc q idx s
    if D.halt o.d ∧ st ≠ 0 then halt q idx st s else s

/-- A descriptor that may have written accelerator memory completes: the ports that carried its data are read first (R137). -/
def completeVia (q idx st bytes result : Nat) (s : State) : State :=
  match (que s q).op idx with
  | none => s
  | some o =>
    match o.ports with
    | [] => complete q idx st bytes result s
    | _ :: _ =>
      let o' := { o with ports := [], open_ := o.ports.length, fail := some (st, result), moved := bytes }
      o.ports.foldl (fun s p => dmaReadOn p 0 0 (.fence q idx) s) (setOp q o' s)

/-- RESULT of a WAIT or SIGNAL that fails with an address status (R134). -/
def ctrResult (ctr epid : Nat) : Nat := ctr + fld 16 epid

/-! ### Landing counters (R42, R43, R47) -/

/-- The greatest value of a landing counter. -/
def ctrMax : Nat := 2 ^ 64 - 1

/-- The WAITs on a counter that have reached their value complete (R47, R48). -/
def checkWaits (c : Nat) (s : State) : State :=
  s.qs.ctx.foldl (fun s e =>
    e.2.ops.foldl (fun s o =>
      if D.opcode o.d = 5 ∧ D.counter o.d = c ∧ D.expected o.d ≤ s.ctrs.get 0 c then complete e.1 o.idx St.ok 0 (s.ctrs.get 0 c) s
      else s) s) s

/-- A landing counter of this module rises (R16, R23, R42), and stays at its greatest value (R43). -/
def raiseCtr (c n : Nat) (s : State) : State :=
  let v := s.ctrs.get 0 c
  let s' := { s with ctrs := s.ctrs.put 0 c (Nat.min ctrMax (v + n)) }
  checkWaits c (if ctrMax < v + n then fault 8 5 (partOfCtr s c) c v s' else s')

/-! ### Fences and completions of data operations -/

/-- A write-class descriptor (R25). -/
def writeClass (d : Desc) : Bool := [1, 3, 4, 7].contains (D.opcode d)

/-- The FENCEs of a queue whose earlier writes have all completed complete (R50, R341). -/
def checkFences (q : Nat) (s : State) : State :=
  match (que s q).ops.filter (fun o => writeClass o.d || D.opcode o.d == 6) with
  | [] => s
  | o :: _ => if D.opcode o.d = 6 then complete q o.idx St.ok 0 0 s else s

/-- The operation moves bytes (PUT, GET, COPY-TILE). -/
def isData (d : Desc) : Bool := [1, 2, 3].contains (D.opcode d)

/-- Where the landed bytes of an operation raise the counter of the issuing module (R130). -/
def landsHere (d : Desc) : Bool := D.opcode d == 2 || (D.opcode d == 3 && D.dstKind d == 0)

/-- A data operation with nothing left to do completes: the ports that carried its data are read first (R137); where its data landed at
this module, the named counter rises (R42). DESIGN CHOICE: those reads are at address 0 (log entry 112). -/
def tryFinish (q idx : Nat) (s : State) : State :=
  let x := que s q
  match x.op idx with
  | none => s
  | some o =>
    if isData o.d && decide (o.limit ≤ o.cur) && o.open_ == 0 && !x.pieces.any (fun p => p.idx == idx) then
      match o.ports with
      | _ :: _ => o.ports.foldl (fun s p => dmaReadOn p 0 0 (.fence q idx) s) (setOp q { o with ports := [], open_ := o.ports.length } s)
      | [] =>
        match o.fail with
        | some (st, r) => checkFences q (complete q idx st o.moved r s)
        | none =>
          let s := if D.cnt o.d && landsHere o.d then raiseCtr (D.counter o.d) o.total s else s
          checkFences q (complete q idx St.ok o.moved o.result s)
    else s

/-- `n` packets of an operation are answered, the last with status `st` (R32). -/
def opAnswered (q idx n st result : Nat) (s : State) : State :=
  let s := if st = St.ok then s else failOp q idx st result s
  tryFinish q idx (onOp q idx (fun o => { o with open_ := o.open_ - n }) s)

/-- The bytes of a piece, once every read of its source has brought its own. -/
def Piece.data (p : Piece) : Option Bytes :=
  if p.parts.all (fun x => x.data.isSome) then some (p.parts.flatMap (fun x => x.data.getD [])) else none

/-- The read of an operation's source at an offset belongs to the piece. -/
def Piece.reads (p : Piece) (idx off : Nat) : Bool := p.idx == idx && p.parts.any (fun x => x.off == off)

/-- The read of an operation's source at an offset has brought its bytes. -/
def pieceData (q idx off : Nat) (data : Bytes) (s : State) : State :=
  let x := que s q
  let fill (r : SrcRead) : SrcRead := if r.off = off then { r with data := some data } else r
  setQue s q { x with pieces := x.pieces.map (fun p => if p.reads idx off then { p with parts := p.parts.map fill } else p) }

/-- The read of an operation's source at an offset brings nothing: its piece goes, and the operation fails there. -/
def pieceFail (q idx off st result : Nat) (s : State) : State :=
  let at' := match (que s q).pieces.find? (fun p => p.reads idx off) with | some p => p.off | none => off
  tryFinish q idx (failOpAt q idx at' st result s)

/-- The source address of a byte of an operation. -/
def srcAt (o : Op) (off : Nat) : Nat := D.srcAddr o.d + (shapeOf o.d o.total).srcOff off

/-- The destination address of a byte of an operation. -/
def dstAt (o : Op) (off : Nat) : Nat := D.dstAddr o.d + (shapeOf o.d o.total).dstOff off

/-! ### CXL.mem accesses that fail (R32) -/

/-- A load returns poison, a store is dropped; the port counts it, logs an uncorrectable error for a store, and a record is
written. -/
def hostFail (m : MemReq) (load : Bool) (p : Option Nat) (st : Nat) (s : State) : State :=
  let s := bump (0x101018 + 0x40 * m.port.val) s
  let c := cxlPort s m.port.val
  let s := if load then emit (.memData m.port m.hpa [] 0 true) s else setCxl s m.port.val { c with aer := true }
  fault 2 9 p m.hpa st s

/-- A CXL.mem access answered: a load with its data and state (0 none, 1 shared, 2 exclusive), a store by its completion. -/
def hostDone (m : MemReq) (snp : Snp) (load : Bool) (data : Bytes) (s : State) : State :=
  if load then emit (.memData m.port m.hpa data (match snp with | .data => 1 | .inv => 2 | _ => 0) false) s
  else emit (.memCmp m.port m.hpa 0) s

end Sys2Proof.Machine
end

