-- ==== Sys2Proof/Machine/Answer.lean ====
section
/-! DEFINITION. Answers to packets (R332, R333, R335, R503, R504). -/

namespace Sys2Proof.Machine

/-! ### Answers -/

/-- A packet that a flow numbers: every channel but VC0 and VC2, and on VC2 delivery reports and CLOSE packets (R333). -/
def sequenced (vc : Nat) : Body → Bool
  | .report _ => true
  | .close => true
  | _ => vc != 2 && vc != 0

/-- A destination flow's state, as a new flow where it has no entry (R331). -/
def DFlow.init : DFlow := ⟨0, 0, [], false, 0, [], none, [], 0, []⟩

def dflow (s : State) (k : Nat) : DFlow := (s.fab.dflow.find k).getD DFlow.init
def setDFlow (k : Nat) (d : DFlow) (s : State) : State := { s with fab := { s.fab with dflow := s.fab.dflow.ins k d } }

/-- The flow of a packet. -/
def hdrKey (h : Hdr) : Nat := flowKey h.src h.dst h.vc

/-- `a` lies below `b`, modulo 2^32. -/
def seqBelow (a b : Nat) : Bool := decide (0 < (b + 2 ^ 32 - a) % 2 ^ 32) && decide ((b + 2 ^ 32 - a) % 2 ^ 32 ≤ 2 ^ 31)

/-- The packets that came with CE and that an acknowledgement of the flow covers: on VC1 the answered one alone (R233, R333). -/
def ceCovered (d : DFlow) (h : Hdr) : List Nat := d.ce.filter (fun q => q == h.seq || (h.vc != 1 && seqBelow q d.next))

/-- The header of an answer to a packet: back to its source, under its GEN and WID (R216, R332); ECHO tells of CE in a packet that it
covers (R233). -/
def answerHdr (s : State) (h : Hdr) (vc len wid : Nat) : Hdr :=
  let d := dflow s (hdrKey h)
  { dst := h.src, src := h.dst, vc, hops := 0, detoured := false, ce := false, echo := h.ce || !(ceCovered d h).isEmpty, mc := false, tree := 0, seq := d.next,
    job := h.job, gen := h.gen, len, wid, ackedVc := h.vc, close := false, last := true }

/-- An answer has told of the CE that it covers. -/
def clearCe (h : Hdr) (s : State) : State :=
  match s.fab.dflow.find (hdrKey h) with
  | some d => if d.ce = [] then s else setDFlow (hdrKey h) { d with ce := d.ce.filter (fun q => !(ceCovered d h).contains q) } s
  | none => s

/-- An acknowledgement (R332), or a refusal, which also names the operation: of a mirror control packet without protection
(R504). -/
def sendAck (h : Hdr) (st : Nat) (clear : Bool) (s : State) : State :=
  let q : Pkt := { h := answerHdr s h 2 0 (if h.last ∨ st ≠ 0 then h.wid else 0), rd := none, body := .ack st, tr := .zero }
  clearCe h (if clear then forward q s else sendReply q s)

/-- A reply with data: pool stream data on VC6, which is sequenced and recorded, anything else on VC2 (R25, R218). -/
def sendData (h : Hdr) (vc st : Nat) (data : Bytes) (valid : List Bool) (s : State) : State :=
  let q : Pkt := { h := answerHdr s h vc data.length h.wid, rd := none, body := .reply st data valid, tr := .zero }
  clearCe h (if vc = 6 then sendFlow q s else sendReply q s)

/-- The expected packet of a flow has been answered for good: the expected number passes it (R225, R35). The answer to a duplicate passes
nothing. -/
def flowDone (h : Hdr) (s : State) : State :=
  match s.fab.dflow.find (hdrKey h) with
  | some d =>
    if d.next = h.seq then
      setDFlow (hdrKey h) { d with next := (d.next + 1) % 2 ^ 32, open_ := false, lastUs := nowUs s, op := if h.last then none else some h.wid,
                                   bad := if h.last then d.bad.filter (· != h.wid) else d.bad } s
    else s
  | none => s

/-- A packet of the operation has not taken effect here: the operation's LAST packet raises no counter (R33, R42). -/
def breakOp (h : Hdr) (s : State) : State :=
  match s.fab.dflow.find (hdrKey h) with
  | some d => if h.last ∨ d.bad.contains h.wid then s else setDFlow (hdrKey h) { d with bad := d.bad ++ [h.wid] } s
  | none => s

/-- The status that answered a packet is remembered by its number, as long as a duplicate of it can come (R335); its operation is
broken. -/
def noteRefused (h : Hdr) (st : Nat) (s : State) : State :=
  match s.fab.dflow.find (hdrKey h) with
  | some d =>
    let near := d.refused.keep (fun n _ => decide ((d.next + 2 ^ 32 - n) % 2 ^ 32 ≤ 512 ∨ 2 ^ 31 ≤ (d.next + 2 ^ 32 - n) % 2 ^ 32))
    breakOp h (setDFlow (hdrKey h) { d with refused := near.ins h.seq st } s)
  | none => s

/-- The expected packet lands: it is acknowledged, after the flow's number has passed it. One that is delivered to several members lands
with the last of them. -/
def landed (h : Hdr) (clear : Bool) (s : State) : State :=
  match s.fab.dflow.find (hdrKey h) with
  | some d =>
    if d.next = h.seq ∧ 0 < d.more then setDFlow (hdrKey h) { d with more := d.more - 1 } s else sendAck h 0 clear (flowDone h s)
  | none => sendAck h 0 clear s

/-- The open packet of a flow is delivered to `n` members. -/
def landsAt (h : Hdr) (n : Nat) (s : State) : State :=
  match s.fab.dflow.find (hdrKey h) with
  | some d => if d.next = h.seq then setDFlow (hdrKey h) { d with more := n - 1 } s else s
  | none => s

/-- The expected packet is refused: a duplicate meets the same answer (R335). -/
def refused (h : Hdr) (st : Nat) (s : State) : State := sendAck h st false (flowDone h (noteRefused h st s))

end Sys2Proof.Machine
end

