-- ==== Sys2Proof/Machine/Tumbler.lean ====
section
/-! DEFINITION. Tumbler arithmetic (R188 to R207): element formats, the step of each operator, microscaling
requantisation, SOFTMERGE, and the canonical tree of R198. -/

namespace Sys2Proof.Machine

/-- The plain floating-point formats of R188, codes 0x00 to 0x05. -/
def plainFmt : Nat → Option FFmt
  | 0 => some fp64
  | 1 => some fp32
  | 2 => some fp16
  | 3 => some bf16
  | 4 => some fp8e4m3
  | 5 => some fp8e5m2
  | _ => none

/-- The element formats of the microscaling codes 0x08 to 0x0C (R188). -/
def mxFmt : Nat → Option FFmt
  | 8 => some fp8e4m3
  | 9 => some fp8e5m2
  | 10 => some fp6e3m2
  | 11 => some fp6e2m3
  | 12 => some fp4e2m1
  | _ => none

/-- Width and signedness of the integer codes 0x10 to 0x17 (R188). -/
def intFmt : Nat → Option (Nat × Bool)
  | 16 => some (8, true)
  | 17 => some (8, false)
  | 18 => some (16, true)
  | 19 => some (16, false)
  | 20 => some (32, true)
  | 21 => some (32, false)
  | 22 => some (64, true)
  | 23 => some (64, false)
  | _ => none

/-- The code is one of R188. -/
def fmtKnown (c : Nat) : Bool := (plainFmt c).isSome || (mxFmt c).isSome || (intFmt c).isSome

/-- Bytes of one unit in memory: an element, or a block of 32 (R188). -/
def fmtUnit (c : Nat) : Nat :=
  match plainFmt c, mxFmt c, intFmt c with
  | some f, _, _ => f.width / 8
  | _, some f, _ => 1 + 4 * f.width
  | _, _, some (w, _) => w / 8
  | _, _, _ => 1

/-- Elements of one unit: 32 for a microscaling block, else one (R188). -/
def fmtElems (c : Nat) : Nat := if (mxFmt c).isSome then 32 else 1

/-- The row record of SOFTMERGE: 8 + ⌈d × b / 8⌉ × 8 bytes (R203). -/
def rowBytes (c d : Nat) : Nat := 8 + (d * fmtUnit c + 7) / 8 * 8

/-- The operator and format fit together (R191), SAT included (R192). -/
def operFits (op c : Nat) (sat : Bool) : Bool :=
  (!sat || (decide (op = 0) && (intFmt c).isSome)) &&
  (if op = 6 then decide (c = 1 ∨ c = 2 ∨ c = 3)
   else if op ≤ 2 then fmtKnown c
   else if op ≤ 5 then (intFmt c).isSome
   else false)

/-- An unsigned code read as the integer it stands for. -/
def intVal (w : Nat) (sgn : Bool) (v : Nat) : Int :=
  if sgn && bitOf v (w - 1) then (v % 2 ^ w : Nat) - (2 ^ w : Nat) else ((v % 2 ^ w : Nat) : Int)

/-- One integer step (R196). -/
def intStep (op w : Nat) (sgn sat : Bool) (a b : Nat) : Nat :=
  let x := intVal w sgn a
  let y := intVal w sgn b
  let back (v : Int) : Nat := (v % (2 ^ w : Nat)).toNat
  if op = 0 then
    if sat then
      let lo : Int := if sgn then -(2 ^ (w - 1) : Nat) else 0
      let hi : Int := if sgn then (2 ^ (w - 1) : Nat) - 1 else (2 ^ w : Nat) - 1
      back (if x + y < lo then lo else if hi < x + y then hi else x + y)
    else (a + b) % 2 ^ w
  else if op = 1 then (if y < x then b else a)
  else if op = 2 then (if x < y then b else a)
  else if op = 3 then a &&& b
  else if op = 4 then a ||| b
  else a ^^^ b

/-- One plain floating-point step (R193 to R195). -/
def floatStep (op : Nat) (f : FFmt) (a b : Nat) : Nat :=
  if op = 0 then f.sum a b else if op = 1 then f.min a b else f.max a b

/-- The elements of a block's packed bytes, `w` bits each (R190). -/
def mxElems (w : Nat) (blk : Bytes) : List Nat :=
  (List.range 32).map (fun j => leNat (blk.drop 1) / 2 ^ (w * j) % 2 ^ w)

/-- The exact value of a block's element (R190). -/
def mxVal (f : FFmt) (c : Nat) (el : Nat) : FVal :=
  match f.decode el with
  | .fin neg m e => .fin neg m (e + (c : Int) - 127)
  | v => v

/-- A block from its scale code and its elements (R190). -/
def mxPack (w c : Nat) (els : List Nat) : Bytes :=
  leBytes 1 c ++ leBytes (4 * w) ((els.zipIdx.map (fun p => p.1 * 2 ^ (w * p.2))).foldl (· + ·) 0)

/-- The exact result of one element pair: sum, or the chosen operand (R201). -/
def mxPair (op : Nat) (x y : FVal) : FVal :=
  if op = 0 then x.add y else if op = 1 then (if y.lt x then y else x) else (if x.lt y then y else x)

/-- ⌊log2⌋ of a nonzero finite magnitude; none for zero. -/
def fvalLog2 : FVal → Option Int
  | .fin _ m e => if m = 0 then none else some (log2Rat m 1 + e)
  | _ => none

/-- An element code: the value divided by 2^X, rounded once, saturating, sign kept (R201 step 4). -/
def mxElem (f : FFmt) (X : Int) : FVal → Nat
  | .fin neg m e => bit neg * f.signBit + Nat.min f.maxCode (f.roundMag m 1 (e - X))
  | _ => 0

/-- One microscaling step on a block position (R201, R202). -/
def mxStep (op : Nat) (f : FFmt) (l r : Bytes) : Bytes :=
  let cl := leNat (l.take 1)
  let cr := leNat (r.take 1)
  let xs := (mxElems f.width l).map (mxVal f cl)
  let ys := (mxElems f.width r).map (mxVal f cr)
  let bad (v : FVal) : Bool := match v with
    | .fin _ _ _ => false
    | _ => true
  if cl = 255 ∨ cr = 255 ∨ xs.any bad ∨ ys.any bad then mxPack f.width 255 (List.replicate 32 0)
  else
    let zs := List.zipWith (mxPair op) xs ys
    match (zs.filterMap fvalLog2).max? with
    | none => mxPack f.width 0 (zs.map (mxElem f 0))
    | some L =>
      let X0 := L - f.emax
      let X := if X0 < -127 then -127 else if 127 < X0 then 127 else X0
      mxPack f.width (X + 127).toNat (zs.map (mxElem f X))

/-- The quotient v / s of FP32 values rounded once into `f` (R204 step 6). -/
def quotInto (f : FFmt) (v s : FVal) : Nat :=
  match v, s with
  | .nan, _ => f.canonNaN
  | _, .nan => f.canonNaN
  | .inf _, .inf _ => f.canonNaN
  | .inf a, .fin b _ _ => f.encode (.inf (a != b))
  | .fin a _ _, .inf b => bit (a != b) * f.signBit
  | .fin a m e, .fin b m' e' => if m' = 0 then 0 else f.encodeRat (a != b) m m' (e - e')

/-- One element of a merged row (R204 steps 5 and 6, R205). -/
def softElem (f : FFmt) (w1 w2 s' : FVal) (o1 o2 : Nat) : Nat :=
  let v := to32 ((to32 ((f.decode o1).mul w1)).add (to32 ((f.decode o2).mul w2)))
  match v, s' with
  | .nan, _ => f.canonNaN
  | _, .fin _ 0 _ => 0
  | _, _ => quotInto f v s'

/-- One SOFTMERGE step on two row records of `d` elements of `f` (R204, R205). -/
def softStep (f : FFmt) (d : Nat) (l r : Bytes) : Bytes :=
  let b := f.width / 8
  let g (x : Bytes) (off n : Nat) : Nat := leNat ((x.drop off).take n)
  let m1 := g l 0 4
  let m2 := g r 0 4
  let s1 := fp32.decode (g l 4 4)
  let s2 := fp32.decode (g r 4 4)
  let total := 8 + (d * b + 7) / 8 * 8
  let finish (m s : Nat) (os : List Nat) : Bytes :=
    let body := leBytes 4 m ++ leBytes 4 s ++ os.flatMap (leBytes b)
    body ++ zeroBytes (total - body.length)
  if fp32.decode m1 = .nan ∨ fp32.decode m2 = .nan ∨ s1 = .nan ∨ s2 = .nan then
    finish fp32.canonNaN fp32.canonNaN (List.replicate d f.canonNaN)
  else
    let m' := fp32.max m1 m2
    let diff (m : Nat) : FVal := if m = m' then .fin false 0 0 else to32 ((fp32.decode m).add (fp32.decode m').neg)
    let w1 := to32 (s1.mul (fp32.decode (expFP32 (diff m1))))
    let w2 := to32 (s2.mul (fp32.decode (expFP32 (diff m2))))
    let s' := to32 (w1.add w2)
    finish m' (fp32.encode s') ((List.range d).map (fun j => softElem f w1 w2 s' (g l (8 + b * j) b) (g r (8 + b * j) b)))

/-- One step on one position: element, block or row (R198, R199). -/
def tumblerUnit (op c rowLen : Nat) (sat : Bool) (l r : Bytes) : Bytes :=
  match plainFmt c, mxFmt c, intFmt c with
  | some f, _, _ =>
    if op = 6 then softStep f rowLen l r else leBytes (f.width / 8) (floatStep op f (leNat l) (leNat r))
  | _, some f, _ => mxStep op f l r
  | _, _, some (w, sgn) => leBytes (w / 8) (intStep op w sgn sat (leNat l) (leNat r))
  | _, _, _ => l

/-- The bytes of one position. -/
def unitBytes (op c rowLen : Nat) : Nat := if op = 6 then rowBytes c rowLen else fmtUnit c

/-- combine(left, right) over a chunk, position by position (R198 to R200): the same on every engine, which holds nothing between steps (R186,
R187). -/
def combineChunk (op c rowLen : Nat) (sat : Bool) : Nat → Bytes → Bytes → Bytes
  | 0, _, _ => []
  | n + 1, l, r =>
    let u := unitBytes op c rowLen
    tumblerUnit op c rowLen sat (l.take u) (r.take u) ++ combineChunk op c rowLen sat n (l.drop u) (r.drop u)

/-- combine over all positions of a chunk. -/
def combine (op c rowLen : Nat) (sat : Bool) (l r : Bytes) : Bytes :=
  combineChunk op c rowLen sat (l.length / unitBytes op c rowLen) l r

/-- One level of the canonical tree over the partials of ranks spaced 2^k apart (R198). -/
def treeLevel {α : Type} (f : α → α → α) : List α → List α
  | a :: b :: t => f a b :: treeLevel f t
  | l => l

/-- The canonical tree of R198, `n` levels at most. -/
def canonTree {α : Type} (f : α → α → α) : Nat → List α → List α
  | 0, l => l
  | n + 1, l => canonTree f n (treeLevel f l)

end Sys2Proof.Machine
end

