-- ==== Sys2Proof/Machine/ColCore.lean ====
section
/-! DEFINITION. Collectives: groups, vertices and their hosts (R152 to R167), sizes (R161, R170), signatures and headers (R164, R169),
the records that end a collective (R174 to R184). Records travel between control-complex EPIDs (R167). -/

namespace Sys2Proof.Machine

/-! ### Groups -/

def setGrp (ctx : Nat) (g : Grp) (s : State) : State := { s with col := { s.col with grps := s.col.grps.ins ctx g } }

/-- The group context of this module that holds a group of a job. -/
def grpByTag (s : State) (tag job : Nat) : Option (Nat × Grp) :=
  s.col.grps.find? (fun e => e.2.p.groupTag == tag && e.2.p.jobTag == job)

/-- The default chunk size and pipeline depth of a group (R155). -/
def Grp.chunk (g : Grp) : Nat := if g.p.chunkLog2 = 0 then 16 else g.p.chunkLog2
def Grp.reqDepth (g : Grp) : Nat := if g.p.depth = 0 then 8 else g.p.depth

/-- The rank of a member EPID (R156). -/
def Grp.rank (g : Grp) (epid : Nat) : Option Nat := (g.members.find? (fun m => m.2 == epid)).map Prod.fst

/-- The EPID and module of a rank. -/
def Grp.epid (g : Grp) (r : Nat) : Nat := g.members.get 0 r
def rankMod (s : State) (g : Grp) (r : Nat) : Nat := (endpoint s (g.epid r)).home

/-- The modules of a group's members, each once, in rank order. -/
def grpModules (s : State) (g : Grp) : List Nat := ((List.range g.p.n).map (rankMod s g)).eraseDups

/-! ### The tree (R166, R198) -/

/-- The vertex that uses the partial of rank `i` from level `k` on, and whether that is its left operand; none for the whole result. -/
def nextVertex (n : Nat) : Nat → Nat → Nat → Option (Nat × Nat × Bool)
  | 0, _, _ => none
  | f + 1, k, i =>
    if n ≤ 2 ^ k then none
    else if i % 2 ^ (k + 1) = 0 then (if i + 2 ^ k < n then some (k, i, true) else nextVertex n f (k + 1) i)
    else some (k, i - 2 ^ k, false)

/-- The vertex above: none for the top vertex. -/
def vertexAbove (n k i : Nat) : Option (Nat × Nat × Bool) := nextVertex n 18 k i

/-- The level of the top vertex of `n ≥ 2` members. -/
def topLevel (n : Nat) : Nat := Nat.log2 (n - 1)

/-- The module that hosts a vertex: the first host-map entry written that covers it, else the module of its rank (R166). -/
def hostMod (s : State) (g : Grp) (k i : Nat) : Nat :=
  match g.hosts.find? (fun h => h.level == k && decide (h.first ≤ i) && decide (i ≤ h.last)) with
  | some h => h.host
  | none => rankMod s g i

/-- The module that hosts the top vertex; that of rank 0 for a group of one. -/
def topMod (s : State) (g : Grp) : Nat := if g.p.n < 2 then rankMod s g 0 else hostMod s g (topLevel g.p.n) 0

/-- The vertices of a group. -/
def vertices (n : Nat) : List (Nat × Nat) :=
  (List.range 18).flatMap (fun k =>
    (List.range (if n ≤ 2 ^ k then 0 else (n - 2 ^ k + 2 ^ (k + 1) - 1) / 2 ^ (k + 1))).map (fun j => (k, j * 2 ^ (k + 1))))

/-- The vertices of a group that this module hosts. -/
def hosted (s : State) (g : Grp) : Nat := ((vertices g.p.n).filter (fun v => hostMod s g v.1 v.2 == s.sys.moduleId)).length

/-! ### Sizes (R161, R170, R203) -/

/-- The bytes of `n` elements of a collective. -/
def collBytes (c : CollOp) (n : Nat) : Nat :=
  if c.collop = 5 then 0 else if c.operator = 6 then n * rowBytes c.fmt c.rowLen else n / fmtElems c.fmt * fmtUnit c.fmt

/-- The source bytes of rank `r` and its result bytes. -/
def collSrc (c : CollOp) (n r : Nat) : Nat :=
  if c.collop = 2 ∨ c.collop = 6 then collBytes c (n * c.elements)
  else if c.collop = 4 then (if r = c.root then collBytes c c.elements else 0)
  else collBytes c c.elements
def collDst (c : CollOp) (n r : Nat) : Nat :=
  if c.collop = 3 ∨ c.collop = 6 then collBytes c (n * c.elements)
  else if c.collop = 1 then (if r = c.root then collBytes c c.elements else 0)
  else collBytes c c.elements

/-- The bytes of the result at the top vertex. -/
def collTotal (c : CollOp) (n : Nat) : Nat :=
  if c.collop = 2 ∨ c.collop = 3 then collBytes c (n * c.elements) else if c.collop = 6 then 0 else collBytes c c.elements

/-- The bytes of a whole chunk: the largest whole number of units in the chunk size. -/
def collChunk (c : CollOp) : Nat :=
  let u := Nat.max 1 (unitBytes c.operator c.fmt c.rowLen)
  2 ^ c.chunkLog2 / u * u

/-- The bytes of a partial of `m` ranks from `lo` on. -/
def collPartial (c : CollOp) (n lo m : Nat) : Nat :=
  if c.collop = 2 then collBytes c (n * c.elements)
  else if c.collop = 3 then m * collBytes c c.elements
  else if c.collop = 4 then (if lo ≤ c.root ∧ c.root < lo + m then collBytes c c.elements else 0)
  else if c.collop = 6 then 0
  else collBytes c c.elements

/-! ### Signatures and headers (R157, R164, R169) -/

/-- The group digest. -/
def grpDigest (p : GrpParams) (members : Tab Nat) (hosts : List HostEntry) : Nat :=
  shake64 (leBytes 4 p.groupTag ++ leBytes 4 p.n ++ (members.flatMap (fun m => leBytes 4 m.2))
    ++ hosts.flatMap (fun h => leBytes 1 h.level ++ leBytes 4 h.first ++ leBytes 4 h.last ++ leBytes 2 h.host))

/-- The collective signature. -/
def signature (g : Grp) (seq : Nat) (c : CollOp) : Nat :=
  shake64 (leBytes 4 g.p.groupTag ++ leBytes 8 g.digest ++ leBytes 4 seq ++ leBytes 1 c.collop ++ leBytes 1 c.operator ++ leBytes 1 c.fmt
    ++ leBytes 1 (bit c.sat) ++ leBytes 8 c.elements ++ leBytes 4 c.root ++ leBytes 2 c.rowLen ++ zeroBytes 6)

/-- The header of a vertex's output from those of its operands. -/
def joinHdr (l r : CollRec) : CollRec :=
  { l with
    mismatch := if l.mismatch.isSome then l.mismatch else if r.sig ≠ l.sig then some r.lowRank else r.mismatch,
    chunkMismatch := if l.chunkMismatch.isSome then l.chunkMismatch
      else if r.chunkLog2 ≠ l.chunkLog2 then some r.lowRank else r.chunkMismatch }

/-- A record without the fields of a header (R171). -/
def plainRec (g : Grp) (seq result code : Nat) : CollRec :=
  { group := g.p.groupTag, seq, sig := result, lowRank := 0, chunkLog2 := 0, mismatch := none, chunkMismatch := none, code }

/-- RESULT of a collective abort (R179). -/
def colResult (rank mod seq : Nat) : Nat := rank + fld 17 mod + fld 32 seq

/-- The rank that names none. -/
def noRank : Nat := 2 ^ 17 - 1

/-! ### Sending -/

/-- A packet ends a chunk, or is a record of its own. -/
def chunkEnd (p : Pkt) : Bool :=
  match p.body with
  | .chunk b => p.h.last || (b.off + b.data.length) % Nat.max 1 (collChunk b.cop) == 0
  | .result _ => p.h.last
  | _ => true

/-- A packet's flow takes it now. -/
def mayOffer (s : State) (p : Pkt) : Bool :=
  match s.fab.sflow.find (flowKey p.h.src p.h.dst p.h.vc) with
  | some f => f.frozen || (f.queue == [] && mayLaunch s f p)
  | none => decide (flowEntries s < 327680) && mayLaunch s (newFlow s p.h.job) p

/-- The first packet of each group and flow among those that wait at the COL block. -/
def offerHeads (l : List (Nat × Pkt)) : List (Nat × Pkt) :=
  let key (x : Nat × Pkt) : Nat × Nat := (x.1, flowKey x.2.h.src x.2.h.dst x.2.h.vc)
  l.foldl (fun a x => if a.any (fun y => key y == key x) then a else a ++ [x]) []

/-- A turn among claimants with weights: each claim rises by its weight, the largest takes the turn and falls by their sum. Over as many
turns as the sum, each has as many as its weight. -/
def nextTurn (credit : Tab Int) (ws : List (Nat × Nat)) : Option Nat × Tab Int :=
  let up := ws.map (fun w => (w.1, credit.get 0 w.1 + (w.2 : Int)))
  let sum := ws.foldl (fun a w => a + w.2) 0
  let best : Option (Nat × Int) := up.foldl (fun b x => match b with | none => some x | some y => if y.2 < x.2 then some x else some y) none
  (best.map Prod.fst, up.foldl (fun t x => t.put 0 x.1 (if best.map Prod.fst = some x.1 then x.2 - (sum : Int) else x.2)) credit)

/-- The group whose chunk goes next: a lattice group has SHARE of 64 turns, the open groups together those that remain, among them by WEIGHT;
what a group does not use passes to the others (R160). -/
def nextGroup (s : State) (groups : List Nat) : Option Nat × Tab Int :=
  let param (c : Nat) : Option GrpParams := (s.col.grps.find c).map Grp.p
  let lat := groups.filterMap (fun c => match param c with | some p => if p.lattice then some (c, p.share) else none | none => none)
  let opn := groups.filterMap (fun c => match param c with | some p => if p.lattice then none else some (c, p.weight) | none => some (c, 1))
  let rest := 64 - lat.foldl (fun a x => a + x.2) 0
  let credit := s.col.credit.keep (fun k _ => groups.contains k || (k == 4096 && !opn.isEmpty))
  match nextTurn credit (lat ++ (if opn.isEmpty then [] else [(4096, rest)])) with
  | (some 4096, t) => nextTurn t opn
  | x => x

/-- The COL block offers one packet to its ports, if a flow takes one: chunk by chunk, the groups in the order of their shares
(R160, R249). -/
def offerNext (s : State) : Option State :=
  let es := (offerHeads s.col.wait).filter (fun x => mayOffer s x.2)
  let going := s.col.turn.filter (fun c => es.any (fun x => x.1 == c))
  let pick := match going with
    | some c => (some c, s.col.credit)
    | none => nextGroup s (es.map Prod.fst).eraseDups
  match es.find? (fun x => some x.1 == pick.1) with
  | none => none
  | some x =>
    some (sendFlow x.2 { s with col := { s.col with wait := s.col.wait.erase x, credit := pick.2,
                                                    turn := if chunkEnd x.2 then none else some x.1 } })

/-- What waits at the COL block goes, as far as flows take it. -/
def offerRun : Nat → State → State
  | 0, s => s
  | n + 1, s => match offerNext s with | some s => offerRun n s | none => s

def offerAll (s : State) : State := offerRun s.col.wait.length s

/-- A packet of a group waits for its turn at the COL block. -/
def colOffer (ctx : Nat) (p : Pkt) (s : State) : State :=
  offerAll { s with col := { s.col with wait := s.col.wait ++ [(ctx, p)] } }

/-- Nothing of some group contexts waits at the COL block any more. -/
def colUnoffer (f : Nat → Bool) (s : State) : State :=
  { s with col := { s.col with wait := s.col.wait.filter (fun x => !f x.1), credit := s.col.credit.keep (fun k _ => !f k),
                               turn := s.col.turn.filter (fun c => !f c) } }

/-- A collective packet between control complexes, under the group's partition. -/
def colSend (g : Grp) (dstMod vc len wid : Nat) (last : Bool) (b : Body) (s : State) : State :=
  match ownEpid s 2 0, ctrlEpid s dstMod with
  | some src, some dst => colOffer g.p.ctx { h := mkHdr s g.p.part src dst vc len wid last, rd := none, body := b, tr := .zero } s
  | _, _ => s

/-- The run of a multicast operation at this module, by the tree entry, the source and the WID of its leg. -/
def runOf (s : State) (tree src wid : Nat) : Option McRun :=
  s.fab.runs.find? (fun r => r.tree == tree && r.src == src && r.wid == wid)

/-- The run of the legs that a module sent under a WID. -/
def runFwd (s : State) (wid : Nat) : Option McRun := s.fab.runs.find? (fun r => r.fwd == wid)

def setRun (r : McRun) (s : State) : State :=
  { s with fab := { s.fab with runs := s.fab.runs.map (fun x => if x.fwd = r.fwd then r else x) } }

/-- A leg with this WID waits for its acknowledgement, or to be sent. -/
def legOpen (s : State) (wid : Nat) : Bool :=
  s.fab.sflow.any (fun f => (f.2.recs ++ f.2.queue).any (fun q => q.h.mc && q.h.wid == wid))
    || s.col.wait.any (fun x => x.2.h.mc && x.2.h.wid == wid)

/-- A run begins: the legs that it sends belong to its tree entry until they are acknowledged (R231). -/
def addRun (r : McRun) (s : State) : State :=
  { s with fab := { s.fab with runs := s.fab.runs ++ [r], legs := (s.fab.legs.keep (fun w _ => legOpen s w)).ins r.fwd r.tree } }

/-- A leg on each branch of a tree that this module roots, and one to itself where the entry delivers locally (R228). Branches toward
lost modules count as reported with EXCLUDED (R230). `send` takes each leg on its way. -/
def mcSend (send : Pkt → State → State) (t p src vc len wid : Nat) (last : Bool) (b : Body) (q : Option (Nat × Nat)) (s : State) : State :=
  let e := tree s t
  let here := e.col || e.attachMask != 0
  let live := (usedBranches e).filter (fun x => !isLost s (endpoint s x.1).home)
  let r : McRun := { tree := t, wid, job := e.jobTag, gen := (part s p).gen, vc, src, branches := live.map Prod.fst,
                     localOpen := bit here, excluded := live.length != (usedBranches e).length, echo := false, q,
                     fwd := wid, rate := 64 * s.fab.ccMax, gotAck := false, gotEcho := false }
  let s := if s.fab.runs.any (fun x => x.fwd == wid) then s else addRun r s
  let legs := live ++ (if here then [((ownEpid s 2 0).getD 0, t)] else [])
  legs.foldl (fun s x =>
    send { h := { mkHdr s p src x.1 vc len wid last with mc := true, tree := x.2 }, rd := none, body := b, tr := .zero } s) s

/-- The tree of a group can carry its results from here. -/
def treeReady (s : State) (g : Grp) : Bool :=
  let t := tree s g.p.tree
  t.v && t.root && t.vc == 5

/-- The modules of a group: those of its members, and those that host a vertex of it (R152). -/
def allModules (s : State) (g : Grp) : List Nat :=
  (grpModules s g ++ (if g.hosts.isEmpty then [] else (vertices g.p.n).map (fun v => hostMod s g v.1 v.2))).eraseDups

/-- A DONE, GO or abort record goes to every module of the group: down the tree, or to each module, for REDUCE and REDUCE_SCATTER and
where the tree is not set up (R176, R180). -/
def colDown (g : Grp) (collop : Nat) (b : Body) (s : State) : State :=
  if treeReady s g && collop != 1 && collop != 2 then
    (let (wid, s) := takeWid s
     mcSend (colOffer g.p.ctx) g.p.tree g.p.part ((ownEpid s 2 0).getD 0) 5 32 wid true b none s)
  else (allModules s g).foldl (fun s m => colSend g m 5 32 0 true b s) s

/-! ### The end at a member -/

/-- The COLLs of this module in a collective. -/
def memsOf (s : State) (ctx seq : Nat) : List CMem := s.col.mems.filter (fun m => m.ctx == ctx && m.seq == seq)

def setMem (m : CMem) (s : State) : State :=
  { s with col := { s.col with mems := s.col.mems.map (fun x => if x.ctx = m.ctx ∧ x.seq = m.seq ∧ x.rank = m.rank then m else x) } }

/-- A member's COLL completes with a status and RESULT; BYTES are those that landed (R176, R180). -/
def colEnd (m : CMem) (st result : Nat) (s : State) : State :=
  let mems := s.col.mems.filter (fun x => !(x.ctx == m.ctx && x.seq == m.seq && x.rank == m.rank))
  let s := { s with col := { s.col with mems := mems } }
  let x := que s m.q
  let s := setQue s m.q { x with pieces := x.pieces.filter (fun p => p.idx != m.idx) }
  completeVia m.q m.idx st m.got result s

/-- Result bytes have landed at a member (R174, R180). -/
def memGot (ctx seq rank n : Nat) (s : State) : State :=
  match s.col.mems.find? (fun m => m.ctx == ctx && m.seq == seq && m.rank == rank) with
  | some m => setMem { m with got := m.got + n } s
  | none => s

/-- DONE reaches a module: its COLLs of the collective complete with OK (R176). -/
def colDone (ctx seq : Nat) (s : State) : State := (memsOf s ctx seq).foldl (fun s m => colEnd m St.ok 0 s) s

/-- The top vertex's record of a collective. -/
def topOf (s : State) (ctx seq : Nat) : Option CTop := s.col.tops.find? (fun t => t.ctx == ctx && t.seq == seq)
def setTop (t : CTop) (s : State) : State :=
  { s with col := { s.col with tops := s.col.tops.filter (fun x => !(x.ctx == t.ctx && x.seq == t.seq)) ++ [t] } }

/-- The top vertex ends a collective: of those it has ended it keeps the latest alone, so that a cause that comes late finds it
ended. -/
def endTop (t : CTop) (s : State) : State :=
  setTop { t with done_ := true }
    { s with col := { s.col with tops := s.col.tops.filter (fun x => !(x.ctx == t.ctx && x.done_)) } }

/-- A packet carries data of a sequence number to one module. -/
def dataOf (seq : Nat) (p : Pkt) : Bool :=
  !p.h.mc && (match p.body with | .chunk b => b.seq == seq | .result b => b.seq == seq | _ => false)

/-- A request for the acknowledgement of a result chunk. -/
def For.isResult (ctx seq : Nat) : For → Bool
  | .result c n => c == ctx && n == seq
  | _ => false

/-- The work of a sequence number at this module is dropped: its vertices', and the chunks that have not gone out (R180, R181). -/
def dropVerts (ctx seq : Nat) (s : State) : State :=
  { s with col := { s.col with verts := s.col.verts.filter (fun v => !(v.ctx == ctx && v.seq == seq)),
                               wait := s.col.wait.filter (fun x => !(x.1 == ctx && dataOf seq x.2)) },
           fab := { s.fab with reqs := s.fab.reqs.keep (fun _ r => !r.serves.isResult ctx seq) } }

/-- A context keeps the abort record; MEMBER_FENCED and VERTEX_LOST fence the group (R181, R183, R184). -/
def Grp.aborted (g : Grp) (seq code result : Nat) : Grp :=
  let g := { g with abort := some (seq, code, result) }
  if code = 0x42 ∨ code = 0x47 then { g with st := .fenced, fencedBy := bitsOf result 29 0 } else g

/-- An abort record takes effect at a module (R180, R181, R183): the record is kept, vertices drop the sequence number, members
complete. -/
def colAborted (ctx : Nat) (g : Grp) (seq code result : Nat) (s : State) : State :=
  let s := tracePoint 6 g.p.part (leBytes 8 result) (dropVerts ctx seq (setGrp ctx (g.aborted seq code result) s))
  (memsOf s ctx seq).foldl (fun s m => colEnd m code result s) s

/-- The top vertex aborts a collective with the first cause that reaches it (R180). -/
def topAbort (ctx : Nat) (g : Grp) (seq code result : Nat) (s : State) : State :=
  let ended := (match topOf s ctx seq with | some t => t.done_ | none => false)
    || (match g.abort with | some (n, _, _) => n == seq | none => false)
  if ended then s
  else
    let c : CollOp := { collop := 1, operator := 0, fmt := 0, sat := false, elements := 0, root := 0, rowLen := 0, chunkLog2 := 0 }
    let t := (topOf s ctx seq).getD ⟨ctx, seq, c, 0, 0, 0, [], false, none⟩
    let s := bump 0x300004 s
    let g := g.aborted seq code result
    colDown g t.cop.collop (.abort (plainRec g seq result code)) (dropVerts ctx seq (endTop t (setGrp ctx g s)))

/-- A module that detects a cause sends it to the top vertex (R180). -/
def colCause (g : Grp) (seq code rank mod : Nat) (s : State) : State :=
  colSend g (topMod s g) 4 32 0 true (.cause (plainRec g seq (colResult rank mod seq) code)) s

/-- Everything of a result has been acknowledged, or every member has reported: the top vertex sends DONE (R176, R177). -/
def topCheck (g : Grp) (t : CTop) (s : State) : State :=
  if t.done_ || t.sent != t.total || t.open_ != 0 || (t.cop.collop == 6 && !(grpModules s g).all t.reports.contains) then setTop t s
  else colDown g t.cop.collop (.done (plainRec g t.seq 0 0)) (endTop t s)

/-- A result chunk has been acknowledged by everyone it went to (R174). -/
def topAck (ctx seq : Nat) (s : State) : State :=
  match topOf s ctx seq, s.col.grps.find ctx with
  | some t, some g => topCheck g { t with open_ := t.open_ - 1 } s
  | _, _ => s

/-! ### Endings from outside -/

/-- A member's source or destination access failed: its module writes a record with the faulting address and reports MEMBER_FAULT
(R178, R179). -/
def memberFault (m : CMem) (g : Grp) (st addr : Nat) (s : State) : State :=
  let x := que s m.q
  let s := setQue s m.q { x with pieces := x.pieces.filter (fun p => p.idx != m.idx) }
  let s := onOp m.q m.idx (fun o => { o with fail := some (0x45, addr) }) s
  colCause g m.seq 0x45 m.rank s.sys.moduleId (fault 0xC 2 (some g.p.part) addr st s)

/-- The running collectives of a partition's members report a cause: PEER_EPOCH, MEMBER_FENCED (R183, R184). -/
def memCauses (p : CMem → Bool) (code : Nat) (s : State) : State :=
  (s.col.mems.filter p).foldl (fun s m =>
    match s.col.grps.find m.ctx with
    | some g => colCause g m.seq code m.rank s.sys.moduleId s
    | none => s) s

/-- A member of partition `p`. -/
def memOfPart (s : State) (p : Nat) (m : CMem) : Bool := (que s m.q).part == p

/-- The sequence numbers that run at this module: entered, with work at a vertex, or at the top. -/
def colRunning (s : State) (ctx : Nat) : List Nat :=
  ((s.col.mems.filter (fun m => m.ctx == ctx)).map CMem.seq ++ (s.col.verts.filter (fun v => v.ctx == ctx)).map CVert.seq
    ++ (s.col.tops.filter (fun t => t.ctx == ctx && !t.done_)).map CTop.seq).eraseDups

/-- A vertex host that holds no member is lost (R184): the top vertex aborts what runs with VERTEX_LOST, any other module reports the cause to
it; where the top vertex itself is lost, each module ends what runs there. The group is FENCED. -/
def vertexLost (ctx : Nat) (g : Grp) (lost : Nat) (s : State) : State :=
  if !(grpModules s g).contains lost && (vertices g.p.n).any (fun v => hostMod s g v.1 v.2 == lost) then
    let end1 (s : State) (n : Nat) : State :=
      match s.col.grps.find ctx with
      | some g =>
        let r := colResult noRank lost n
        if topMod s g = s.sys.moduleId then topAbort ctx g n 0x47 r s
        else if topMod s g = lost then colAborted ctx g n 0x47 r s
        else colSend g (topMod s g) 4 32 0 true (.cause (plainRec g n r 0x47)) s
      | none => s
    let s := (colRunning s ctx).foldl end1 s
    match s.col.grps.find ctx with
    | some g => setGrp ctx { g with st := .fenced, fencedBy := colResult noRank lost 0 } s
    | none => s
  else s

end Sys2Proof.Machine
end

