-- ==== Sys2Proof/Machine/Mcast.lean ====
section
/-! DEFINITION. Multicast runs: the end of a subtree, delivery reports (R228 to R230). -/

namespace Sys2Proof.Machine

/-- The subtree of a run is done: its local deliveries have landed and every branch has reported. The root completes the operation;
any other module reports upward (R229). -/
def runCheck (r : McRun) (s : State) : State :=
  if r.localOpen != 0 || !r.branches.isEmpty then setRun r s
  else
    let s := { s with fab := { s.fab with runs := s.fab.runs.filter (fun x => x.fwd != r.fwd) } }
    if (endpoint s r.src).isLocal then
      match r.q with
      | none => s
      | some (a, b) =>
        if r.vc = 3 then opAnswered a b 1 (if r.excluded then St.excluded else St.ok) 0 s
        else if r.excluded then s else topAck a b s
    else
      let e := tree s r.tree
      let own := (ownEpid s 2 0).getD 0
      let h := mkHdr s e.part own e.up 2 0 r.wid true
      sendFlow { h := { h with job := r.job, gen := r.gen, echo := r.echo }, rd := none, body := .report r.excluded, tr := .zero } s

/-- A branch of a run has reported, or counts as reported (R229, R230). At the root the report is what the rate of a multicast PUT takes its
ECHO from (R234). -/
def branchDone (r : McRun) (epid : Nat) (excluded echo : Bool) (s : State) : State :=
  runCheck { r with branches := r.branches.erase epid, excluded := r.excluded || excluded, echo := r.echo || echo, gotAck := true,
                    gotEcho := r.gotEcho || echo } s

/-- A local delivery of a leg was refused (R229). -/
def legExcluded (h : Hdr) (s : State) : State :=
  match runOf s h.tree h.src h.wid with
  | some r => setRun { r with excluded := true } s
  | none => s

/-- A local delivery of a leg has landed. Once all of the leg's have, the leg is acknowledged; with the operation's LAST leg the local
side is done. -/
def legLanded (h : Hdr) (s : State) : State :=
  match runOf s h.tree h.src h.wid with
  | none => landed h false s
  | some r =>
    let n := r.localOpen - 1
    if 1 < n then setRun { r with localOpen := n } s
    else
      let s := landed h false s
      runCheck { r with localOpen := (if h.last then 0 else 1), echo := r.echo || h.ce } s

end Sys2Proof.Machine
end

