-- ==== Sys2Proof/Machine/Deliver.lean ====
section
/-! DEFINITION. The completion of an access to the pool (R25, R32, R42, R50), and the accesses that wait. -/

namespace Sys2Proof.Machine

/-! ### The end of an access -/

/-- The channel of a read's reply. -/
def readVc : ReadKind → Nat
  | .load => 2
  | _ => 6

/-- A read request is answered. -/
def readDone (h : Hdr) (k : ReadKind) (st : Nat) (data : Bytes) (valid : List Bool) (s : State) : State :=
  let s := flowDone h s
  if st = St.ok then sendData h (readVc k) St.ok data valid s else sendData h 2 st [] [] s

/-- A packet of the operation has been refused on this flow (R33). -/
def opBroken (s : State) (h : Hdr) : Bool := (dflow s (hdrKey h)).bad.contains h.wid

/-- The counter that a landed write raises: once, with the operation's LAST packet, where none before it was refused (R33, R42, R44). -/
def landCounter (h : Hdr) (ctr : Option Nat) (total : Nat) (s : State) : State :=
  match ctr with
  | some c => if h.last ∧ !opBroken s h then raiseCtr c total s else s
  | none => s

/-- A packet with result bytes is acknowledged. -/
def collAck (h : Hdr) (s : State) : State := if h.mc then legLanded h s else landed h false s

/-- Result bytes of a member have landed: its counter rises, and the packet is acknowledged (R174). -/
def collLanded (h : Hdr) (ctr : Option Nat) (rise ctx seq rank n : Nat) (s : State) : State :=
  collAck h (landCounter h ctr rise (memGot ctx seq rank n s))

/-- A member's result bytes could not be written: MEMBER_FAULT; the packet is acknowledged all the same (R178, log entry 105). -/
def collFailed (h : Hdr) (ctx seq rank st a : Nat) (s : State) : State :=
  collAck h (match s.col.mems.find? (fun m => m.ctx == ctx && m.seq == seq && m.rank == rank), s.col.grps.find ctx with
    | some m, some g => memberFault m g st a s
    | _, _ => s)

/-- An access of the pool ends (R25, R32, R42, R50). -/
def finish (acc : Access) (st : Nat) (data : Bytes) (valid : List Bool) (result : Nat) (s : State) : State :=
  match acc.who with
  | .fabric h _ =>
    match acc.what with
    | .read _ k => readDone h k st data valid s
    | .write _ _ ctr total =>
      if h.mc then legLanded h (if st = St.ok then landCounter h ctr total s else legExcluded h s)
      else if st = St.ok then landed h false (landCounter h ctr total s) else refused h st s
    | .atomic _ ty _ _ ctr =>
      let s := flowDone h s
      if st = St.ok then
        sendData h 2 St.ok (leBytes 8 result) [] (match ctr with | some c => raiseCtr c (atomWidth ty) s | none => s)
      else sendData h 2 st (leBytes 8 result) [] (noteRefused h st s)
  | .host m _ snp _ =>
    let load := match acc.what with | .read _ _ => true | _ => false
    if st = St.ok then hostDone m snp load data s else hostFail m load (homeExt s acc.addr 1 |>.map (fun x => x.2.part)) st s
  | .queue q idx off =>
    (match acc.what with
     | .read _ _ =>
       if st = St.ok then pieceData q idx off data s
       else pieceFail q idx off st (match (que s q).op idx with | some o => srcAt o off + (result - acc.addr) | none => 0) s
     | _ =>
       opAnswered q idx 1 st (match (que s q).op idx with | some o => dstAt o off + result - acc.addr | none => 0) s)
  | .debug n => debugDone n st data s
  | .coll h ctx seq rank a =>
    (match acc.what with
     | .write d _ ctr rise => if st = St.ok then collLanded h ctr rise ctx seq rank d.length s else collFailed h ctx seq rank st (a + result - acc.addr) s
     | _ => s)

/-- An access waits, behind those that wait already. -/
def waitFor (w : Why) (acc : Access) (s : State) : State := { s with pool := { s.pool with waits := s.pool.waits ++ [(w, acc)] } }

/-- An access runs: it ends, waits, or ends with the second copy's acknowledgement. -/
def access (i : Nat) (e : Ext) (acc : Access) (fetched : Bool) (s : State) : State :=
  match perform i e acc fetched s with
  | (s, .wait w) => waitFor w acc s
  | (s, .rest w rest) => waitFor w rest s
  | (s, .later) => s
  | (s, .done st data valid r) => finish acc st data valid r s

/-- An access of a severed attachment to a COHERENT line (R81): a write is dropped and counted, a load returns poison. -/
def severedAccess (m : MemReq) (load : Bool) (s : State) : State :=
  let s := bump (0x101018 + 0x40 * m.port.val) s
  if load then emit (.memData m.port m.hpa [] 0 true) s else bump 0x380004 s

/-- An access that waited runs again; it was admitted, and is not judged again (R88 step 3), but for what severing its attachment has
ended (R81). -/
def again (acc : Access) (fetched : Bool) (s : State) : State :=
  match homeExt s acc.addr acc.what.size with
  | some (i, e) =>
    (match acc.who with
     | .host m att _ _ =>
       if e.coherent && s.pool.severed.contains att then severedAccess m (match acc.what with | .read _ _ => true | _ => false) s
       else access i e acc fetched s
     | _ => access i e acc fetched s)
  | none => finish acc St.denied [] [] acc.addr s

/-- What an access waits for has come about; `pre` are the accesses that have waited longer. -/
def ready (s : State) (pre : List (Why × Access)) : Why → Access → Bool
  | .bi l, _ => (snoop s l).bi.isNone
  | .lock i, a => !lockTouch (extRec s i) a.addr a.what.size
  | .mirror w, _ => !s.pool.mirr.any (fun m => m.wid == w)
  | .dup, _ => decide (s.fab.dup.length < 131072)
  | .turn, a => !behindAtomic pre a
  | .fetch _, _ => false
  | .promote _ _, _ => false

/-- Some access that waits can go on. -/
def someReady (s : State) (pre : List (Why × Access)) : List (Why × Access) → Bool
  | [] => false
  | w :: ws => ready s pre w.1 w.2 || someReady s (pre ++ [w]) ws

/-- One pass over the accesses that wait, in the order of their arrival: those that `go` picks run again, the others keep their place (R30). -/
def sweep (go : State → Why × Access → Bool) (fetched : Bool) (s : State) : State :=
  s.pool.waits.foldl (fun s w => if go s w then again w.2 fetched s else waitFor w.1 w.2 s) { s with pool := { s.pool with waits := [] } }

/-- The accesses that can go on go on, in up to `n` passes. -/
def retryWaits : Nat → State → State
  | 0, s => s
  | n + 1, s =>
    if someReady s [] s.pool.waits then retryWaits n (sweep (fun s w => ready s s.pool.waits w.1 w.2) false s) else s

/-- Every access that waits for a reason goes on. -/
def wake (w : Why) (fetched : Bool) (s : State) : State := sweep (fun _ x => decide (x.1 = w)) fetched s

/-- The second copy holds a forwarded write: the write is visible, and its access ends (R41, R83, R84). -/
def mirrorDone (wid : Nat) (s : State) : State :=
  match s.pool.mirr.find? (fun m => m.wid == wid) with
  | none => s
  | some m =>
    let s := delReq wid { s with pool := { s.pool with mirr := s.pool.mirr.erase m } }
    match m.access with
    | some (acc, r) => finish acc St.ok [] [] r s
    | none => s

/-- The forwarded bytes of a write did not reach the second copy: the write ends with a status (R34, R503). -/
def mirrorFailed (wid st : Nat) (s : State) : State :=
  match s.pool.mirr.find? (fun m => m.wid == wid) with
  | none => delReq wid s
  | some m =>
    let s := delReq wid { s with pool := { s.pool with mirr := s.pool.mirr.erase m } }
    match m.access with
    | some (acc, _) => finish acc st [] [] acc.addr s
    | none => s

/-- A request for the mirror's values ends: the readers go on. Where none waits, the request was a patrol read's, and the words of it that
still read as uncorrectable have their record (R59, R61). -/
def fetchOver (wid addr n : Nat) (s : State) : State :=
  let p := (s.fab.reqs.find wid).map OutReq.part
  let s := delReq wid s
  if s.pool.waits.any (fun x => decide (x.1 = .fetch wid)) then wake (.fetch wid) true s
  else (badIn s addr n).foldl (fun s w => faultAt 6 3 p (8 * w) s) s

/-- The mirror has answered with the values of uncorrectable words (R60): the home rewrites its own copy of those words that still read as
uncorrectable here and that the mirror holds; the readers go on. `valid` tells word by word; nothing for all of them. -/
def mirrorRead (wid addr : Nat) (data : Bytes) (valid : List Bool) (s : State) : State :=
  let held := ((wordsOf addr data.length).zipIdx.filter (fun x => badWord s x.1 && (valid = [] || (valid[x.2]?).getD false))).map Prod.fst
  let s := if held.isEmpty then s else faultAtSev 6 3 1 ((s.fab.reqs.find wid).map OutReq.part) addr s
  let s := held.foldl (fun s w => writeMem (8 * w) ((data.drop (8 * w - addr)).take 8) none s) s
  fetchOver wid addr data.length s

end Sys2Proof.Machine
end

