-- ==== Sys2Proof/Machine/ColOps.lean ====
section
/-! DEFINITION. Collectives at work: vertices and the top vertex (R166, R169 to R177, R198, R206), result chunks at the members (R174),
ALL_TO_ALL (R177). -/

namespace Sys2Proof.Machine

/-- Bytes cut into packets of at most 4,096: offset, bytes, whether it is the last (R145). -/
def packets : Nat → Nat → Bytes → List (Nat × Bytes × Bool)
  | 0, _, _ => []
  | f + 1, off, b =>
    if b.length ≤ 4096 then [(off, b, true)] else (off, b.take 4096, false) :: packets f (off + 4096) (b.drop 4096)

def packetsOf (off : Nat) (b : Bytes) : List (Nat × Bytes × Bool) := packets (b.length / 4096 + 1) off b

/-! ### Result chunks at a member (R174) -/

/-- Where result bytes at an offset lie in the destination of rank `r`; none where the rank does not take them (R161, R199). -/
def resultPlace (c : CollOp) (r off : Nat) : Option Nat :=
  if c.collop = 1 then (if r = c.root then some off else none)
  else if c.collop = 2 then
    (let b := collBytes c c.elements
     if b ≠ 0 ∧ off / b = r then some (off % b) else none)
  else some off

/-- The rise of a member's counter with the last packet of a chunk or block (R42, R174, R177). -/
def resultRise (c : CollOp) (off len : Nat) : Nat :=
  let b := Nat.max 1 (collBytes c c.elements)
  if c.collop = 6 then b
  else
    let k := Nat.max 1 (collChunk c)
    off + len - (if c.collop = 2 then Nat.max (off / k * k) (off / b * b) else off / k * k)

/-- A packet of the result is written into a member's destination. -/
def memberWrite (h : Hdr) (off : Nat) (data : Bytes) (m : CMem) (s : State) : State :=
  match (que s m.q).op m.idx, resultPlace m.cop m.rank off, s.col.grps.find m.ctx with
  | some o, some at', some _ =>
    let x := que s m.q
    let ctr := if D.cnt o.d then some (D.counter o.d) else none
    let rise := resultRise m.cop off data.length
    let a := D.dstAddr o.d + at'
    if D.dstKind o.d = 0 then
      (let s := dmaWrite x.attach a data s
       let ps := dmaPorts s x.attach a data.length
       let s := onOp m.q m.idx (fun o => { o with ports := o.ports ++ ps.filter (fun p => !o.ports.contains p) }) s
       dmaFence x.attach a data.length (.result h x.part ctr rise m.ctx m.seq m.rank a data.length) s)
    else
      match demand x.part a s with
      | (s, .leaf lv l, n) =>
        let ha := Leaf.homeAddr l + a % (65536 * pagesAt lv)
        let used : Option Use := some ⟨x.part, a / 65536 - a / 65536 % pagesAt lv, lv, n⟩
        (match admitAt s h.job ha data.length none none with
         | .ok (i, e) =>
           access i e { who := .coll h m.ctx m.seq m.rank a, addr := ha, ext := e.eid, redirect := none, what := .write data none ctr rise, used }
             false s
         | .error st => collFailed h m.ctx m.seq m.rank st a s)
      | (s, .poison, _) => collFailed h m.ctx m.seq m.rank St.poison a s
      | (s, _, _) => collFailed h m.ctx m.seq m.rank St.unmapped a s
  | _, _, _ => s

/-- A sequence number of a context is over, or the context is not ACTIVE: its records are discarded (R181). -/
def colOver (s : State) (ctx : Nat) (g : Grp) (seq : Nat) : Bool :=
  g.st != .active || (match g.abort with | some (n, _, _) => n == seq | none => false)
    || (match topOf s ctx seq with | some t => t.done_ | none => false)

/-- A record of a collective counts as discarded: its sequence number is over, or its context is not ACTIVE (R181, R185). -/
def resultOver (s : State) (tag job seq : Nat) : Bool :=
  match grpByTag s tag job with
  | some (ctx, g) => colOver s ctx g seq
  | none => true

/-- A result packet arrives: every member here that takes it is written (R174); it is acknowledged where there is none. -/
def resultArrive (h : Hdr) (b : ResultBody) (s : State) : State :=
  let s := if resultOver s b.group h.job b.seq then bump 0x300008 s else s
  let takers := match grpByTag s b.group h.job with
    | none => []
    | some (ctx, _) => (memsOf s ctx b.seq).filter (fun m => (resultPlace m.cop m.rank b.off).isSome
        && (m.cop.collop != 6 || (ownEpid s 0 (que s m.q).attach == some h.dst)))
  if h.mc then
    match runOf s h.tree h.src h.wid with
    | none => s
    | some r =>
      let s := setRun { r with localOpen := 1 + Nat.max 1 takers.length } s
      if takers = [] then legLanded h s else takers.foldl (fun s m => memberWrite h b.off b.data m s) s
  else
    match takers with
    | [] => landed h false s
    | _ :: _ => takers.foldl (fun s m => memberWrite h b.off b.data m s) (landsAt h takers.length s)

/-! ### The top vertex -/

/-- Part of the result goes to one module, as packets of operation `wid`. -/
def resultTo (ctx seq : Nat) (g : Grp) (wid mod off : Nat) (data : Bytes) (last : Bool) (s : State) : State :=
  let s := addReq wid ⟨(ownEpid s 2 0).getD 0, (ctrlEpid s mod).getD 0, 5, g.p.part, mod, ctx, .result ctx seq⟩ s
  let ps := packetsOf off data
  ps.foldl (fun s p =>
    colSend g mod 5 p.2.1.length wid (p.2.2 && last) (.result ⟨g.p.groupTag, seq, p.1, p.2.1⟩) s) s

/-- The modules that result bytes go to one by one, each with its part: ROOT's, those of the slices' ranks, or every member's (R174). -/
def resultDests (s : State) (g : Grp) (c : CollOp) (off : Nat) (data : Bytes) : List (Nat × Nat × Bytes) :=
  if c.collop = 1 then [(rankMod s g c.root, off, data)]
  else if c.collop = 2 then
    let b := Nat.max 1 (collBytes c c.elements)
    ((List.range ((off + data.length - 1) / b + 1 - off / b)).map (fun k => off / b + k)).map (fun r =>
      let lo := Nat.max off (r * b)
      let hi := Nat.min (off + data.length) ((r + 1) * b)
      (rankMod s g r, lo, (data.drop (lo - off)).take (hi - lo)))
  else (grpModules s g).map (fun m => (m, off, data))

/-- Result bytes leave the top vertex: to ROOT's module, slice by slice, or down the tree (R174). A chunk is one operation, also where a group
of one sends it piece by piece (R166). -/
def topOut (ctx seq : Nat) (g : Grp) (c : CollOp) (off : Nat) (data : Bytes) (last : Bool) (s : State) : State :=
  match topOf s ctx seq with
  | none => s
  | some t =>
    if t.done_ then s
    else
      let (wid, s) := match t.wid with | some w => (w, s) | none => takeWid s
      let fresh := bit t.wid.isNone
      let t := { t with sent := t.sent + data.length, wid := if last then none else some wid }
      let ds := resultDests s g c off data
      if c.collop ≠ 1 ∧ c.collop ≠ 2 ∧ treeReady s g then
        let own := (ownEpid s 2 0).getD 0
        let s := (packetsOf off data).foldl (fun s p =>
          mcSend (colOffer ctx) g.p.tree g.p.part own 5 p.2.1.length wid (p.2.2 && last) (.result ⟨g.p.groupTag, seq, p.1, p.2.1⟩) (some (ctx, seq)) s)
            (setTop { t with open_ := t.open_ + fresh } s)
        match runOf s g.p.tree own wid with
        | some r => if last then runCheck r s else s
        | none => s
      else
        match ds with
        | [d] => resultTo ctx seq g wid d.1 d.2.1 d.2.2 last (setTop { t with open_ := t.open_ + fresh } s)
        | _ =>
          ds.foldl (fun s d => match takeWid s with | (w, s) => resultTo ctx seq g w d.1 d.2.1 d.2.2 true s)
            (setTop { t with open_ := t.open_ + ds.length } s)

/-! ### Vertices (R166, R169, R172, R198) -/

def vertOf (s : State) (ctx seq k i : Nat) : Option CVert :=
  s.col.verts.find? (fun v => v.ctx == ctx && v.seq == seq && v.level == k && v.rank == i)

def delVert (v : CVert) (s : State) : State :=
  { s with col := { s.col with
      verts := s.col.verts.filter (fun x => !(x.ctx == v.ctx && x.seq == v.seq && x.level == v.level && x.rank == v.rank)) } }

def setVert (v : CVert) (s : State) : State :=
  { (delVert v s) with col := { (delVert v s).col with verts := (delVert v s).col.verts ++ [v] } }

/-- The effective depth of a collective at this module (R172): the requested depth is that of a member here, else the group's. -/
def effDepth (s : State) (ctx : Nat) (g : Grp) (seq : Nat) (c : CollOp) : Nat :=
  let asked := match memsOf s ctx seq with
    | m :: _ => (match (que s m.q).op m.idx with | some o => D.depth o.d | none => 0)
    | [] => 0
  Nat.min (if asked = 0 then g.reqDepth else asked) (g.p.budget * 2 ^ 20 / (2 * 2 ^ c.chunkLog2 * Nat.max 1 (hosted s g)))

/-- A vertex takes up a sequence number: no depth aborts with STAGING (R172). ALL_TO_ALL and BARRIER stage nothing. -/
def openVert (ctx : Nat) (g : Grp) (seq k i : Nat) (c : CollOp) (s : State) : CVert × State :=
  match vertOf s ctx seq k i with
  | some v => (v, s)
  | none =>
    let v : CVert := { ctx, seq, level := k, rank := i, cop := c, lh := none, rh := none, l := [], r := [], done_ := 0, sentHdr := false, bad := false,
                        depth := 0, wl := [], wr := [] }
    if c.collop = 5 ∨ c.collop = 6 then (v, s)
    else
      let d := effDepth s ctx g seq c
      let s := setGrp ctx { g with depth := d } s
      ({ v with depth := d }, if d = 0 then colCause g seq 0x44 noRank s.sys.moduleId s else s)

/-- Output of a vertex goes to the vertex above, or leaves the top. -/
def vertOut (g : Grp) (v : CVert) (off : Nat) (data : Bytes) (last : Bool) (s : State) : State :=
  match vertexAbove g.p.n (v.level + 1) v.rank with
  | none => topOut v.ctx v.seq g v.cop off data true s
  | some (k, i, left) =>
    (packetsOf off data).foldl (fun s p =>
      colSend g (hostMod s g k i) 4 p.2.1.length 0 (p.2.2 && last)
        (.chunk ⟨g.p.groupTag, v.seq, k, i, left, p.1, p.2.1, false, v.cop⟩) s) s

/-- The bytes of a vertex's output that stand ready, for the collectives that combine nothing (R174, R197). -/
def gathered (g : Grp) (v : CVert) : Bytes :=
  let lt := collPartial v.cop g.p.n v.rank (2 ^ v.level)
  if v.done_ + v.l.length < lt then v.l else v.l ++ v.r

/-- Operand bytes that wait take the staging buffers that are free: a vertex stages no more than its depth of chunks of either operand (R172;
log entry 106). -/
def CVert.stage (v : CVert) : CVert :=
  let cap := v.depth * collChunk v.cop
  { v with l := v.l ++ v.wl.take (cap - v.l.length), wl := v.wl.drop (cap - v.l.length),
           r := v.r ++ v.wr.take (cap - v.r.length), wr := v.wr.drop (cap - v.r.length) }

/-- A vertex that combines nothing any more holds no data. -/
def CVert.empty (v : CVert) : CVert := { v with bad := true, l := [], r := [], wl := [], wr := [] }

/-- A vertex does what work it can, chunk by chunk (R198, R199). -/
def vertAdvance (g : Grp) : Nat → CVert → State → State
  | 0, v, s => setVert v s
  | f + 1, v, s =>
    let c := v.cop
    let n := Nat.min (2 ^ (v.level + 1)) (g.p.n - v.rank)
    let total := collPartial c g.p.n v.rank n
    let want := Nat.min (collChunk c) (total - v.done_)
    if !v.sentHdr || v.bad then setVert v s
    else if want = 0 then delVert v s
    else if c.collop ≤ 2 then
      (if want ≤ v.l.length ∧ want ≤ v.r.length then
        (let out := combine c.operator c.fmt c.rowLen c.sat (v.l.take want) (v.r.take want)
         let v' := { v with l := v.l.drop want, r := v.r.drop want, done_ := v.done_ + want }
         vertAdvance g f v'.stage (vertOut g v v.done_ out (v.done_ + want == total) s))
       else setVert v s)
    else
      let ready := gathered g v
      if want ≤ ready.length then
        (let k := Nat.min want v.l.length
         let v' := { v with l := v.l.drop k, r := v.r.drop (want - k), done_ := v.done_ + want }
         vertAdvance g f v'.stage (vertOut g v v.done_ (ready.take want) (v.done_ + want == total) s))
      else setVert v s

/-- The chunks that a vertex may still have to send. -/
def vertFuel (g : Grp) (v : CVert) : Nat := collPartial v.cop g.p.n v.rank g.p.n / Nat.max 1 (collChunk v.cop) + 2

/-- Both headers of a vertex are there: the output's header goes up, or the top vertex judges it (R169, R170, R176, R177). -/
def vertJoin (ctx : Nat) (g : Grp) (v : CVert) (s : State) : State :=
  match v.lh, v.rh with
  | some l, some r =>
    let o := joinHdr l r
    let v := { v with sentHdr := true }
    let v := if v.bad || o.mismatch.isSome || o.chunkMismatch.isSome then v.empty else v
    match vertexAbove g.p.n (v.level + 1) v.rank with
    | some (k, i, left) => vertAdvance g (vertFuel g v) v (colSend g (hostMod s g k i) 4 32 0 true (.header k i left o v.cop) s)
    | none =>
      match o.mismatch, o.chunkMismatch with
      | some m, _ => topAbort ctx g v.seq 0x40 (colResult m (rankMod s g m) v.seq) s
      | none, some m => topAbort ctx g v.seq 0x41 (colResult m (rankMod s g m) v.seq) s
      | none, none =>
        let t : CTop := { ctx, seq := v.seq, cop := v.cop, total := collTotal v.cop g.p.n, sent := 0, open_ := 0, reports := [], done_ := false, wid := none }
        if v.cop.collop = 6 then delVert v (colDown g 6 (.go (plainRec g v.seq 0 0)) (setTop t s))
        else vertAdvance g (vertFuel g v) v (topCheck g t s)
  | _, _ => setVert v s

/-- A header reaches a vertex. -/
def vertHeader (h : Hdr) (k i : Nat) (left : Bool) (r : CollRec) (c : CollOp) (s : State) : State :=
  match grpByTag s r.group h.job with
  | none => bump 0x300008 s
  | some (ctx, g) =>
    if colOver s ctx g r.seq then bump 0x300008 s
    else
      match openVert ctx g r.seq k i c s with
      | (v, s) => vertJoin ctx ((s.col.grps.find ctx).getD g) (if left then { v with lh := some r } else { v with rh := some r }) s

/-- An operand of a vertex is poisoned: nothing of the sequence number is combined; the cause names the lowest rank of the operand's subtree, a
record the scratchpad address (R206), which is a free value. -/
def vertPoison (g : Grp) (v : CVert) (left : Bool) (s : State) : State :=
  let r := if left then v.rank else v.rank + 2 ^ v.level
  let s := setVert v.empty s
  colCause g v.seq 0x45 r (rankMod s g r) (faultAny 0xC 5 (sevOf 0xC) (some g.p.part) s)

/-- A packet of an operand reaches a vertex: it is staged, and combined as far as both operands go. A poisoned operand is never
combined (R206). -/
def vertChunk (h : Hdr) (b : ChunkBody) (s : State) : State :=
  match grpByTag s b.group h.job with
  | none => bump 0x300008 s
  | some (ctx, g) =>
    if colOver s ctx g b.seq then bump 0x300008 s
    else
      match openVert ctx g b.seq b.level b.vertex b.cop s with
      | (v, s) =>
        let g := (s.col.grps.find ctx).getD g
        if v.bad then setVert v s
        else if b.poison then vertPoison g v b.left (faultAny 4 5 (sevOf 4) none s)
        else vertAdvance g (vertFuel g v) (if b.left then { v with wl := v.wl ++ b.data } else { v with wr := v.wr ++ b.data }).stage s

/-! ### Members -/

/-- A member's header goes to its first vertex; a group of one has none, and its result leaves at once (R165, R166). -/
def memberHeader (m : CMem) (g : Grp) (s : State) : State :=
  match vertexAbove g.p.n 0 m.rank with
  | some (k, i, left) =>
    colSend g (hostMod s g k i) 4 32 0 true
      (.header k i left ⟨g.p.groupTag, m.seq, signature g m.seq m.cop, m.rank, m.cop.chunkLog2, none, none, 0⟩ m.cop) s
  | none =>
    let t : CTop := { ctx := m.ctx, seq := m.seq, cop := m.cop, total := collTotal m.cop g.p.n, sent := 0, open_ := 0, reports := [], done_ := false, wid := none }
    if m.cop.collop = 6 then colDown g 6 (.go (plainRec g m.seq 0 0)) (setTop t s) else topCheck g t s

/-- A packet of a member's contribution goes to its first vertex (R172), or is the result of a group of one. -/
def contribute (m : CMem) (g : Grp) (off : Nat) (data : Bytes) (s : State) : State :=
  let last := off + data.length == collSrc m.cop g.p.n m.rank
  match vertexAbove g.p.n 0 m.rank with
  | some (k, i, left) =>
    colSend g (hostMod s g k i) 4 data.length 0 last (.chunk ⟨g.p.groupTag, m.seq, k, i, left, off, data, false, m.cop⟩) s
  | none => topOut m.ctx m.seq g m.cop off data (last || (off + data.length) % Nat.max 1 (collChunk m.cop) == 0) s

/-- A packet of an ALL_TO_ALL block goes to its rank, on VC3 (R177). -/
def blockOut (m : CMem) (g : Grp) (wid off : Nat) (data : Bytes) (s : State) : State :=
  let b := Nat.max 1 (collBytes m.cop m.cop.elements)
  let src := (ownEpid s 0 (que s m.q).attach).getD 0
  let h := mkHdr s g.p.part src (g.epid (off / b)) 3 data.length wid ((off + data.length) % b == 0)
  sendFlow { h, rd := none, body := .result ⟨g.p.groupTag, m.seq, m.rank * b + off % b, data⟩, tr := .zero } s

/-- GO reaches a module: its members' blocks may move (R177). -/
def colGo (ctx seq : Nat) (s : State) : State := (memsOf s ctx seq).foldl (fun s m => setMem { m with going := true } s) s

/-- A member of ALL_TO_ALL has sent and received every block. -/
def blocksDone (s : State) (g : Grp) (m : CMem) : Bool :=
  m.going && m.got == collDst m.cop g.p.n m.rank &&
    (match (que s m.q).op m.idx with
     | some o => o.cur == o.total && o.open_ == 0 && o.fail.isNone && !(que s m.q).pieces.any (fun p => p.idx == m.idx)
     | none => false)

/-- Members that failed report it (R178); a module whose members of an ALL_TO_ALL are done reports to the top vertex (R177). -/
def colKick (s : State) : State :=
  s.col.mems.foldl (fun s m =>
    match s.col.grps.find m.ctx, (que s m.q).op m.idx with
    | some g, some o =>
      (match o.fail with
       | some (st, a) => if st = 0x45 then s else memberFault m g st a s
       | none =>
         if m.cop.collop = 6 ∧ !m.told ∧ (memsOf s m.ctx m.seq).all (blocksDone s g) then
           colSend g (topMod s g) 4 32 0 true (.a2aReport (plainRec g m.seq 0 0))
             ((memsOf s m.ctx m.seq).foldl (fun s m => setMem { m with told := true } s) s)
         else s)
    | _, _ => s) s

/-- A module's report reaches the top vertex (R177). -/
def a2aReported (h : Hdr) (r : CollRec) (s : State) : State :=
  match grpByTag s r.group h.job with
  | none => bump 0x300008 s
  | some (ctx, g) =>
    match topOf s ctx r.seq with
    | some t =>
      if colOver s ctx g r.seq then bump 0x300008 s else topCheck g { t with reports := t.reports ++ [(endpoint s h.src).home] } s
    | none => bump 0x300008 s

/-- No cause can end the sequence number any more: it is over, or the context has never been armed. A FENCED group's running collectives still
end by their causes (log entry 107). -/
def causeOver (s : State) (ctx : Nat) (g : Grp) (seq : Nat) : Bool := colOver s ctx { g with st := if g.st = .fenced then .active else g.st } seq

/-- A cause reaches the top vertex (R180). -/
def causeArrive (h : Hdr) (r : CollRec) (s : State) : State :=
  match grpByTag s r.group h.job with
  | none => bump 0x300008 s
  | some (ctx, g) => if causeOver s ctx g r.seq then bump 0x300008 s else topAbort ctx g r.seq r.code r.sig s

/-- DONE, GO and abort records reach a module (R176, R177, R180). -/
def recArrive (job : Nat) (b : Body) (s : State) : State :=
  match b with
  | .done r => (match grpByTag s r.group job with | some (ctx, _) => colDone ctx r.seq s | none => bump 0x300008 s)
  | .go r => (match grpByTag s r.group job with | some (ctx, _) => colGo ctx r.seq s | none => bump 0x300008 s)
  | .abort r =>
    (match grpByTag s r.group job with
     | some (ctx, g) => colAborted ctx g r.seq r.code r.sig s
     | none => bump 0x300008 s)
  | _ => s

end Sys2Proof.Machine
end

