-- ==== Sys2Proof/Machine/ExtOps.lean ====
section
/-! DEFINITION. What extents share: mirror control packets (R504, R505), rebuild (R85, R87), revocation (R82, R88), change of tenant
(R73), promotion (R70), and the end of an outstanding request. -/

namespace Sys2Proof.Machine

def ExtSt.code : ExtSt → Nat
  | .free => 0 | .shackled => 1 | .mirrored => 2 | .rebuilding => 3 | .revoking => 4 | .retained => 5

def ExtKind.code : ExtKind → Nat
  | .home => 0 | .mirror => 1 | .present => 2

/-- A record changes state: trace point 5 (R455). -/
def setExtSt (n : Nat) (e : Ext) (s : State) : State :=
  tracePoint 5 e.part (leBytes 8 e.home ++ leBytes 8 e.eid ++ leBytes 8 e.st.code) (setExt n e s)

/-- A record becomes FREE; TORN stays until EXT_ADD creates an extent in it (R74). -/
def freeExt (n : Nat) (s : State) : State :=
  let e := extRec s n
  setExt n { Ext.init with torn := e.torn }
    (tracePoint 5 e.part (leBytes 8 e.home ++ leBytes 8 e.eid ++ leBytes 8 0) s)

/-- The extent tag of R303, bytes 0 to 7. -/
def extTag (e : Ext) : Nat := e.home + fld 16 e.eid + fld 32 e.job

/-! ### Mirror control packets (R504) -/

/-- A mirror control packet to a module, between control-complex EPIDs, under a job tag. Answers whether it could be formed. -/
def mctlSend (dstMod job gen : Nat) (wid : Nat) (m : MirrorCtl) (s : State) : State :=
  match ownEpid s 2 0, ctrlEpid s dstMod with
  | some src, some dst =>
    sendFlow { h := { dst, src, vc := 7, hops := 0, detoured := false, ce := false, echo := false, mc := false, tree := 0, seq := 0,
                      job, gen, len := 32, wid, ackedVc := 0, close := false, last := true },
               rd := none, body := .mctl m, tr := .zero } s
  | _, _ => s

/-- A mirror control request about record `n`, whose answer is awaited. -/
def mctlAsk (n : Nat) (e : Ext) (dstMod : Nat) (m : MirrorCtl) (s : State) : State :=
  let (wid, s) := takeWid s
  mctlSend dstMod e.job (part s e.part).gen wid m
    (addReq wid ⟨(ownEpid s 2 0).getD 0, (ctrlEpid s dstMod).getD 0, 7, e.part, e.home, n, .mctl m⟩ s)

/-- A mirror control answer to the module that asked. -/
def mctlReply (dstMod job gen : Nat) (m : MirrorCtl) (s : State) : State :=
  let (wid, s) := takeWid s
  mctlSend dstMod job gen wid m s

/-- A request of a kind about record `n` is still unanswered. -/
def mctlOpen (s : State) (n : Nat) (f : MirrorCtl → Bool) : Bool :=
  s.fab.reqs.any (fun r => r.2.ext == n && (match r.2.serves with | .mctl m => f m | _ => false))

def isCreate : MirrorCtl → Bool | .create _ _ _ _ _ _ => true | _ => false
def isRevoke : MirrorCtl → Bool | .revoke _ _ => true | _ => false
def isScrub : MirrorCtl → Bool | .scrub _ => true | _ => false

/-- The status that an answer's code stands for. -/
def statusOf : Nat → Status
  | 0 => .ok | 1 => .denied | 2 => .range | 4 => .full | 7 => .role | _ => .lost

/-! ### Rebuild (R85 to R87) -/

/-- One packet of a rebuild step, of 4,096 bytes: words that read as uncorrectable travel as poison, each with a record (R85). -/
def rebuildPacket (n : Nat) (k : Nat) (s : State) : State :=
  let e := extRec s n
  let a := e.base + e.hw * 2 ^ 20 + 4096 * k
  let s := checkRead (some e.part) a 4096 s
  let bad := badIn s a 4096
  let s := bad.foldl (fun s w => faultAt 6 3 (some e.part) (8 * w) s) s
  let (wid, s) := takeWid s
  let s := addReq wid ⟨(ownEpid s 1 0).getD 0, (poolEpid s e.target).getD 0, 7, e.part, e.home, n, .rebuild n k⟩ s
  mirrorSend e.part e.target wid 4096 true
    (.rebuild ⟨e.home, e.eid, e.hw, 4096 * k, poolBytes s a 4096, bad.map (fun w => 8 * w - a)⟩) s

/-- Step 3 of R85: the MiB at HIGH_WATER is locked, read and sent. -/
def rebuildStep (n : Nat) (s : State) : State :=
  (List.range 256).foldl (fun s k => rebuildPacket n k s) (setExt n { extRec s n with locked := true } s)

/-- Step 2 of R85: the record enters REBUILDING, and the first step begins. -/
def startRebuild (n target : Nat) (s : State) : State :=
  rebuildStep n (setExtSt n { extRec s n with st := .rebuilding, target := target, hw := 0 } s)

/-- Steps 5 to 7 of R85, once the target has acknowledged the whole step. -/
def rebuildAdvance (n : Nat) (s : State) : State :=
  let e := extRec s n
  let e := { e with hw := e.hw + 1, locked := false }
  if e.hw * 2 ^ 20 < e.bytes then rebuildStep n (setExt n e s)
  else report 0x8009 e.eid e.target (setExtSt n { e with st := .mirrored, mirror := e.target, mv := true } s)

/-- A request is a packet of the record's rebuild. -/
def For.isRebuild (n : Nat) : For → Bool
  | .rebuild m _ => m == n
  | _ => false

/-- Packets of the record's rebuild are on their way. -/
def rebuildOpen (s : State) (n : Nat) : Bool := s.fab.reqs.any (fun r => r.2.serves.isRebuild n)

/-- The requests of a rebuild are forgotten. -/
def dropRebuild (n : Nat) (s : State) : State := { s with fab := { s.fab with reqs := s.fab.reqs.keep (fun _ r => !r.serves.isRebuild n) } }

/-- A packet of a rebuild step has had no acknowledgement for the request timeout. It goes again where the target has refused it, being
without the job's keys after a reset; else its flow sends it again (R87, R334). -/
def rebuildLate (wid : Nat) (r : OutReq) (n k : Nat) (s : State) : State :=
  let recorded := (s.fab.sflow.find (flowKey r.src r.dst r.vc)).any (fun f => (f.recs ++ f.queue).any (fun p => p.h.wid == wid))
  if recorded then s else rebuildPacket n k (delReq wid s)

/-- A packet of a rebuild step has been acknowledged (R85 step 4). -/
def rebuildAck (wid n : Nat) (s : State) : State :=
  let s := delReq wid s
  let e := extRec s n
  if e.st = .rebuilding ∧ e.locked ∧ !rebuildOpen s n then rebuildAdvance n s else s

/-- A rebuild ends without a copy: the target is lost, or its memory is (R68, R87). -/
def rebuildFail (n : Nat) (s : State) : State :=
  let e := extRec s n
  if e.st = .rebuilding then
    let s := dropRebuild n s
    let s := setExtSt n { e with st := .shackled, mv := false, target := 0, locked := false } s
    faultAny 0x1D 3 2 (some e.part) (report 0x800A e.eid e.target s)
  else s

/-! ### Accesses in flight (R65 INFLIGHT, R88) -/

/-- An access is to bytes of the record. -/
def Ext.holds (e : Ext) (a : Access) : Bool := decide (e.base ≤ a.addr) && decide (a.addr < e.base + e.bytes)

/-- A request that serves a load, a store or an operation of a queue. -/
def For.isAccess : For → Bool
  | .load _ _ _ _ _ => true
  | .store _ _ _ _ => true
  | .piece _ _ _ => true
  | .op _ _ => true
  | .debug _ => true
  | _ => false

/-- A request names the extent of a record. -/
def OutReq.names (r : OutReq) (e : Ext) : Bool :=
  r.home == e.home && r.ext == e.eid && r.serves.isAccess

/-- Requests admitted at this module for the extent and not yet complete; a prefetch in flight counts in the drain (R88, R150). -/
def inflight (s : State) (e : Ext) : Nat :=
  (if e.kind = .home then
    (s.pool.waits.filter (fun w => e.holds w.2)).length
      + (s.pool.mirr.filter (fun m => decide (e.base ≤ m.addr) && decide (m.addr < e.base + e.bytes) && m.access.isSome)).length
   else 0)
  + (s.fab.reqs.filter (fun r => r.2.names e)).length

/-- Prefetches in flight for the extent. -/
def pfInflight (s : State) (e : Ext) : Nat := (s.qs.pf.filter (fun x => x.2.home == e.home && x.2.ext == e.eid)).length

/-! ### The end of an outstanding request -/

/-- An operation of a queue that waits for one answer ends (ATOMIC, SIGNAL), or a data operation fails as a whole. -/
def opEnd (q idx st result : Nat) (s : State) : State :=
  match (que s q).op idx with
  | none => s
  | some o =>
    if isData o.d then
      let x := que s q
      let s := setQue s q { x with pieces := x.pieces.filter (fun p => p.idx != idx) }
      tryFinish q idx (onOp q idx (fun o => { o with open_ := 0 }) (failOp q idx st result s))
    else checkFences q (complete q idx st (if D.opcode o.d = 4 ∧ st = 0 then atomWidth (D.atomType o.d) else 0) result s)

/-- The address that RESULT holds for a failed operation (R134): of the word of an ATOMIC, the counter and EPID of a SIGNAL, the given
address of a data operation; zero for a status without one. -/
def failAddr (d : Desc) (st a : Nat) : Nat :=
  if st = 0 ∨ 6 < st then 0
  else if D.opcode d = 4 then D.atomAddr d
  else if D.opcode d = 7 then ctrResult (D.counter d) (D.sigEpid d)
  else a

/-- An outstanding request ends with a status and no answer (R34, R84, R88 step 4, R328, R503). -/
def endReq (wid st : Nat) (s : State) : State :=
  match s.fab.reqs.find wid with
  | none => s
  | some r =>
    let s := delReq wid s
    match r.serves with
    | .load m _ _ p _ => hostFail m true (some p) st s
    | .store m _ p _ => hostFail m false (some p) st s
    | .piece q idx off => pieceFail q idx off st (match (que s q).op idx with | some o => failAddr o.d st (srcAt o off) | none => 0) s
    | .op q idx => opEnd q idx st (match (que s q).op idx with | some o => failAddr o.d st (D.dstAddr o.d) | none => 0) s
    | .mirrorRead a n => fetchOver wid a n s
    | .mirrorWrite => if st = St.aborted then mirrorDone wid s else mirrorFailed wid st s
    | .rebuild n _ => rebuildFail n s
    | .mctl _ => s
    | .result _ _ => s
    | .debug k => debugDone k st [] s
    | .prefetch => { s with qs := { s.qs with pf := s.qs.pf.del wid } }

/-- The requests for an extent end (R88 step 4); answers how many. -/
def endInflight (n : Nat) (st : Nat) (s : State) : State × Nat :=
  let e := extRec s n
  let w := if e.kind = .home then s.pool.waits.filter (fun w => e.holds w.2) else []
  let m := if e.kind = .home then s.pool.mirr.filter (fun m => m.ext == n) else []
  let s := { s with pool := { s.pool with waits := s.pool.waits.filter (fun x => !w.contains x),
                                          mirr := s.pool.mirr.filter (fun x => !m.contains x) } }
  let s := w.foldl (fun s x => finish x.2 st [] [] x.2.addr s) s
  let s := m.foldl (fun s x => match x.access with | some (a, _) => finish a st [] [] a.addr (delReq x.wid s) | none => delReq x.wid s) s
  let rs := s.fab.reqs.filter (fun r => r.2.names e)
  (rs.foldl (fun s r => endReq r.1 st s) s, w.length + (m.filter (fun x => x.access.isSome)).length + rs.length)

/-! ### Revocation (R82, R88 to R91, R306) -/

/-- The attachments of a record receive the Forced Capacity Release event (R306). -/
def releaseEvents (e : Ext) (s : State) : State := (maskList e.mask).foldl (fun s a => event a 1 [extTag e, e.fva, e.log2] s) s

/-- Every snoop-filter entry of an extent is back-invalidated (R82). -/
def biExtent (e : Ext) (s : State) : State :=
  (s.pool.snoop.filter (fun x => decide (e.base ≤ 64 * x.1) && decide (64 * x.1 < e.base + e.bytes))).foldl
    (fun s x => snoopLine true x.1 s) s

/-- Lines of the extent that hosts still hold (R82). -/
def linesHeld (s : State) (e : Ext) : Bool :=
  e.kind == .home && e.coherent && s.pool.snoop.any (fun x => decide (e.base ≤ 64 * x.1) && decide (64 * x.1 < e.base + e.bytes))

/-- The revocation has run to its end: the record becomes FREE, and the home reports REVOKE_DONE (R88 step 6). A copy that is still being
set up at a target is answered for first. -/
def revokeEnd (n : Nat) (s : State) : State :=
  let e := extRec s n
  match e.kind with
  | .home =>
    if mctlOpen s n isCreate then s
    else if e.retain then report 0x8008 e.eid e.ended (setExtSt n { e with st := .retained, mask := 0, accepted := 0, asked := 0 } s)
    else if !e.scrubbing && !mctlOpen s n isRevoke then report 0x8008 e.eid e.ended (freeExt n s)
    else s
  | .mirror =>
    if e.scrubbing then s
    else if isLost s e.home then freeExt n s
    else mctlReply e.home e.job (part s e.part).gen (.revoked e.eid 0) (freeExt n s)
  | .present => freeExt n s

/-- The second copy has answered: a home whose drain and scrub are over has nothing left to wait for. -/
def revokeOn (n : Nat) (s : State) : State :=
  let e := extRec s n
  if e.st = .revoking ∧ e.drained then revokeEnd n s else s

/-- The drain is over (R88 steps 3 and 5): RETAIN keeps every byte; FREE scrubs the home's copy and has the mirror scrub its own. -/
def revokeDrained (n : Nat) (s : State) : State :=
  let s := setExt n { extRec s n with drained := true } s
  let e := extRec s n
  match e.kind with
  | .present => revokeEnd n s
  | .mirror => setExt n { e with scrubbing := true, scrub := 0 } s
  | .home =>
    if e.retain then revokeEnd n (if e.mv then mctlAsk n e e.mirror (.revoke e.eid false) s else s)
    else
      let s := setExt n { e with scrubbing := true, scrub := 0 } s
      if e.mv then mctlAsk n e e.mirror (.revoke e.eid true) s else s

/-- The drain is over where no line of the extent is held any more; a holder that does not answer is severed first (R82). -/
def revokeDrain (n : Nat) (s : State) : State := if linesHeld s (extRec s n) then s else revokeDrained n s

/-- The forced-revoke timeout expires with requests in flight (R88 step 4). -/
def revokeForce (n : Nat) (s : State) : State :=
  let e := extRec s n
  match endInflight n St.revoked s with
  | (s, k) =>
    let e' := { extRec s n with forced := true, ended := e.ended + k }
    revokeDrain n (faultAny 0xA 3 2 (some e.part) (setExt n e' s))

/-- A record enters REVOKING (R88 steps 1 and 2). `now`: the timeout of zero of a revocation that the module starts by itself (R89). -/
def revokeBegin (n : Nat) (retain : Bool) (us : Nat) (now : Bool) (s : State) : State :=
  let e := extRec s n
  let s := releaseEvents e s
  let s := if e.st = .rebuilding then mctlAsk n e e.target (.revoke e.eid true) (dropRebuild n s) else s
  let torn := e.torn || (retain && e.dbSeen)
  let e := { e with st := .revoking, retain := retain, forcedUs := us, torn := torn }
  let e := { e with accepted := 0, asked := 0, ended := 0, forced := false, locked := false, scrub := 0, drained := false }
  let s := setExtSt n e s
  let s := dropExt e.home e.eid s
  let s := if e.coherent ∧ e.kind = .home then biExtent e s else s
  if !now then s
  else if inflight s e = 0 then revokeDrain n (setExt n { extRec s n with forced := true } s)
  else revokeForce n s

/-- The lines that hosts hold of extents in revocation are called back, also those that an access admitted before has taken since; with
the last of them the drain of a forced revocation is over (R82). -/
def callBack (s : State) : State :=
  (s.pool.ext.filter (fun x => x.2.st == .revoking && x.2.kind == .home && x.2.coherent && !x.2.drained)).foldl (fun s x =>
    let s := biExtent x.2 s
    if x.2.forced then revokeDrain x.1 s else s) s

/-! ### Change of tenant (R73) -/

/-- A scrub of firmware in progress has come to some mark at or above the one that it had (R75, R88 step 5): how far is a free value (log
entry 103). What lies below the mark reads as zero. -/
def scrubOn (n : Nat) (s : State) : State :=
  let e := extRec s n
  if e.scrubbing then
    match freeVal (e.bytes / 2 ^ 20 + 1 - e.scrub) s with
    | (v, s) => scrubRange e.base ((e.scrub + v) * 2 ^ 20) (setExt n { e with scrub := e.scrub + v } s)
  else s

/-- EXT_SHACKLE has nothing left to wait for: the extent is bound to the new job (R68, R73). -/
def shackleEnd (n : Nat) (s : State) : State :=
  let e := extRec s n
  match e.want with
  | none => s
  | some (p, job, ten, fva) =>
    if e.scrubbing || mctlOpen s n isScrub then s
    else
      let e := { e with part := p, job := job, tenant := ten, fva := fva, want := none, dbSeen := false, retain := false }
      settle 2 n .ok [] (setExtSt n { e with st := (if e.mv then .mirrored else .shackled) } s)

/-- The rebinding is done or was not needed: another tenant's extent is scrubbed at the home and at the mirror first. -/
def shackleGo (n : Nat) (s : State) : State :=
  let e := extRec s n
  match e.want with
  | none => s
  | some (_, _, ten, _) =>
    if ten = e.tenant then shackleEnd n s
    else
      let s := setExt n { e with scrubbing := true, scrub := 0 } s
      if e.mv then mctlAsk n e e.mirror (.scrub e.eid) s else s

/-- EXT_SHACKLE is refused after the exchange: the extent stays RETAINED as it was (R73, R504); a scrub that had begun stops where it is. -/
def shackleFail (n : Nat) (st : Status) (s : State) : State :=
  let s := scrubOn n s
  settle 2 n st [] (setExt n { extRec s n with want := none, scrubbing := false } s)

/-! ### Promotion (R70, R108) -/

/-- A MIRROR record of a lost home with a complete copy becomes HOME, and the redirected requests that wait for it go on. -/
def promote (n : Nat) (s : State) : State :=
  let e := extRec s n
  let e := { e with kind := .home, origHome := e.home, origExt := e.eid, promoted := true, home := s.sys.moduleId, eid := n }
  setExtSt n { e with mv := false, want := none, scrubbing := false, st := (if e.retain then .retained else .shackled) } s

/-! ### Creating a MIRROR record (R505) -/

/-- The lowest range of the pool that is free for a copy (R505). -/
def freeRange (s : State) (log2 : Nat) : Option Nat :=
  let n := 2 ^ log2
  ((List.range ((poolTop s) / n)).map (fun k => k * n)).find? (fun b =>
    decide (b + n ≤ poolTop s) && !s.pool.ext.any (fun x => x.2.st != .free && x.2.kind != .present
      && decide (x.2.base < b + n) && decide (b < x.2.base + x.2.bytes)))

/-- The target's answer to a request to create a MIRROR record (R505). The record is not COHERENT (log entry 104), and keeps a TORN that the
index holds (R74). -/
def mirrorCreate (home job gen : Nat) (eid log2 fva tenant : Nat) (ret : Bool) (s : State) : State :=
  let ans (c : Nat) (s : State) : State := mctlReply home job gen (.created eid c) s
  if s.sys.spine then ans 7 s
  else
    match livePartOfJob s job with
    | none => ans 1 s
    | some p =>
      match Tab.free (s.pool.ext.filter (fun x => x.2.st != .free)) 16384, freeRange s log2 with
      | some n, some b =>
        let e := { Ext.init with st := .shackled, kind := .mirror, log2 := log2, retained := ret, eid := eid, home := home }
        ans 0 (setExtSt n { e with base := b, fva := fva, part := p, job := job, tenant := tenant, torn := (extRec s n).torn } s)
      | _, _ => ans 4 s

/-! ### A mirror control packet takes effect (R504) -/

/-- The MIRROR record of the asking home. -/
def mirrorOf (s : State) (home eid : Nat) : Option (Nat × Ext) := mirrorExt s home eid

/-- The answer to a request about record `n` of this home arrives. -/
def mctlAnswered (f : MirrorCtl → Bool) (eid : Nat) (g : Nat → State → State) (s : State) : State :=
  match s.fab.reqs.find? (fun r => match r.2.serves with | .mctl m => f m && (extRec s r.2.ext).eid == eid | _ => false) with
  | some r => g r.2.ext (delReq r.1 s)
  | none => s

/-- What a mirror control packet from module `src` does. -/
def mctlApply (src job gen : Nat) (m : MirrorCtl) (s : State) : State :=
  match m with
  | .create eid _ log2 fva ten ret => mirrorCreate src job gen eid log2 fva ten ret s
  | .created eid c => mctlAnswered (fun m => match m with | .create _ _ _ _ _ _ => true | _ => false) eid (fun n s =>
      let e := extRec s n
      if c ≠ 0 then revokeOn n (settle 6 n (statusOf c) [] s)
      else if e.st = .shackled then startRebuild n src (settle 6 n .ok [] s)
      else mctlAsk n e src (.revoke e.eid true) (settle 6 n .ok [] s)) s
  | .rebind eid j ten fva =>
    match mirrorOf s src eid, livePartOfJob s j with
    | some (n, e), some p =>
      let e := { e with part := p, job := j }
      mctlReply src job gen (.rebound eid 0)
        (setExt n (if ten = e.tenant then { e with fva := fva, retain := false } else { e with want := some (p, j, ten, fva) }) s)
    | _, _ => mctlReply src job gen (.rebound eid 1) s
  | .rebound eid c => mctlAnswered (fun m => match m with | .rebind _ _ _ _ => true | _ => false) eid (fun n s =>
      if c = 0 then shackleGo n s else shackleFail n .denied s) s
  | .scrub eid =>
    match mirrorOf s src eid with
    | some (n, e) => setExt n { e with scrubbing := true, scrub := 0 } s
    | none => mctlReply src job gen (.scrubbed eid 1) s
  | .scrubbed eid _ => mctlAnswered isScrub eid (fun n s => shackleEnd n s) s
  | .revoke eid free =>
    match mirrorOf s src eid with
    | some (n, e) =>
      if free then setExtSt n { e with st := .revoking, want := none, drained := true, scrubbing := true, scrub := 0 } s
      else mctlReply src job gen (.revoked eid 0) (setExt n { e with retain := true } s)
    | none => mctlReply src job gen (.revoked eid 1) s
  | .revoked eid _ => mctlAnswered isRevoke eid revokeOn s

/-- A mirror control request will have no answer: the module it went to is lost, or has refused it (R504). -/
def mctlGone (st : Status) (wid : Nat) (s : State) : State :=
  match s.fab.reqs.find wid with
  | some r =>
    let s := delReq wid s
    match r.serves with
    | .mctl (.create _ _ _ _ _ _) => revokeOn r.ext (settle 6 r.ext st [] s)
    | .mctl (.rebind _ _ _ _) => shackleFail r.ext st s
    | .mctl (.scrub _) => shackleFail r.ext st s
    | .mctl (.revoke _ _) => revokeOn r.ext s
    | _ => s
  | none => s

/-! ### Commands to one extent, in the order of their arrival (R68) -/

/-- A record in whose state the extent serves (R71). -/
def serving (e : Ext) : Bool := e.st == .shackled || e.st == .mirrored || e.st == .rebuilding

/-- A command to the home record is under way: the answer of a second module or a scrub is awaited (R73, R85). -/
def underWay (s : State) (n : Nat) : Bool :=
  (extRec s n).kind == .home && (mctlOpen s n isCreate || (extRec s n).want.isSome)

/-- Step 1 of R85: the target is asked to create a MIRROR record. -/
def askMirror (r : Req) (n target : Nat) (s : State) : State :=
  let e := extRec s n
  mctlAsk n e target (.create e.eid e.base e.log2 e.fva e.tenant e.retained) (owe r 6 n s)

/-- The change of tenant begins: an established mirror is bound to the new job first. -/
def shackleBegin (r : Req) (n p job ten fva : Nat) (s : State) : State :=
  let e := { extRec s n with want := some (p, job, ten, fva) }
  let s := owe r 2 n (setExt n e s)
  if e.mv then mctlAsk n e e.mirror (.rebind e.eid job ten fva) s else shackleGo n s

/-- EXT_REVOKE is not listed for the state of this home's record (R68, R69). -/
def revokeUnlisted (e : Ext) (disp : Nat) : Bool :=
  e.kind != .home || !(serving e || (e.st == .retained && disp != 1)) || (disp == 1 && !e.retained)

/-- A command behind one that is under way on the extent waits for it, and its port with it. -/
def later (r : Req) (n : Nat) (c : ExtCmd) (s : State) : State :=
  let e := extRec s n
  owe r 10 n (setExt n { e with later := e.later ++ [(r, c)] } s)

/-- The first command that waits for the extent takes effect, by the state that the extent now has. -/
def laterStep (n : Nat) (s : State) : State :=
  match (extRec s n).later with
  | [] => s
  | (r, c) :: rest =>
    if underWay s n then s
    else
      let s := setExt n { extRec s n with later := rest } s
      let s := { s with mgt := { s.mgt with owed := s.mgt.owed.filter (fun o => !(o.why == 10 && o.key == n && o.src == r.src && o.txn == r.txn)) } }
      let e := extRec s n
      match c with
      | .mirror t =>
        if e.kind ≠ .home ∨ e.st ≠ .shackled ∨ s.rep.leaving then answer r .state [] s
        else if isLost s t then answer r .lost [] s else askMirror r n t s
      | .revoke disp us => if revokeUnlisted e disp then answer r .state [] s else revokeBegin n (disp == 1) us false (answer r .ok [] s)
      | .shackle p job ten fva =>
        if e.kind ≠ .home ∨ e.st ≠ .retained then answer r .state [] s else shackleBegin r n p job ten fva s

/-- Commands that waited for an extent take effect. -/
def laterAll (s : State) : State :=
  (s.pool.ext.filter (fun x => !x.2.later.isEmpty)).foldl (fun s x => x.2.later.foldl (fun s _ => laterStep x.1 s) s) s

end Sys2Proof.Machine
end

