-- ==== Sys2Proof/Machine/FlowOps.lean ====
section
/-! DEFINITION. Source flows: what an acknowledgement or a reply does to the packets it covers (R332, R333, R336), and redirection to
a mirror (R338, R339). -/

namespace Sys2Proof.Machine

/-! ### Answers at the source -/

/-- The RESULT with which a remote failure completes an operation: the address its packet names (R134, log entry 26). -/
def remoteAddr (s : State) (q idx st a : Nat) : Nat :=
  match (que s q).op idx with
  | some o => failAddr o.d st a
  | none => 0

/-- The FVA of a home address that a tile of an operation was translated to; a device address stands for itself. -/
def destAddrOf (o : Op) : Dest → Nat
  | .device a => a
  | .home a e =>
    match o.tr.findSome? (fun t => match t.x with
        | .leaf lv l =>
          if Leaf.extentId l = e ∧ Leaf.homeAddr l ≤ a ∧ a < Leaf.homeAddr l + 65536 * pagesAt lv then some (65536 * t.page + (a - Leaf.homeAddr l))
          else none
        | _ => none) with
    | some v => v
    | none => D.dstAddr o.d

/-- The address that a write packet of an operation names, as its descriptor names addresses (R134). -/
def pktDest (o : Op) (p : Pkt) : Nat := match p.body with | .write b => destAddrOf o b.dest | _ => D.dstAddr o.d

/-- The packet of an operation that a refusal has answered: the one before the expected number, else the first not covered (log entry 26). -/
def refusedPkt (s : State) (k wid seq : Nat) : Option Pkt :=
  match s.fab.sflow.find k with
  | some f =>
    let mine := f.recs.filter (fun p => p.h.wid == wid)
    (match mine.find? (fun p => (p.h.seq + 1) % 2 ^ 32 == seq) with
     | some p => some p
     | none => mine.head?)
  | none => none

/-- A status other than OK has named a request of flow `k`: it fails, and what is still on its way of it is awaited (R32, R33). RESULT is the
faulting address of the packet refused (R134). -/
def reqFailed (k wid st seq : Nat) (s : State) : State :=
  match s.fab.reqs.find wid with
  | none => s
  | some r =>
    match r.serves with
    | .op q idx =>
      (match (que s q).op idx with
       | some o =>
         if isData o.d ∨ D.opcode o.d = 8 then
           let a := match refusedPkt s k wid seq with | some p => pktDest o p | none => D.dstAddr o.d
           failOp q idx st (failAddr o.d st a) s
         else endReq wid st s
       | none => s)
    | .mctl _ => mctlGone .denied wid s
    | .result _ _ => s
    | .rebuild _ _ => s
    | .mirrorWrite => s
    | _ => endReq wid st s

/-- A recorded packet of an operation has been acknowledged (R333, R50, R84, R85 step 4, R174). -/
def covered (p : Pkt) (s : State) : State :=
  if p.h.mc then s else
  match s.fab.reqs.find p.h.wid with
  | none => s
  | some r =>
    match r.serves with
    | .op q idx =>
      (match (que s q).op idx with
       | some o =>
         if isData o.d ∨ D.opcode o.d = 8 then opAnswered q idx 1 St.ok 0 s
         else if D.opcode o.d = 7 then opEnd q idx St.ok 0 (delReq p.h.wid s) else s
       | none => s)
    | .store m _ _ _ => hostDone m .noOp false [] (delReq p.h.wid s)
    | .debug k => (match p.body with | .write _ => debugDone k St.ok [] (delReq p.h.wid s) | _ => s)
    | .mirrorWrite => mirrorDone p.h.wid s
    | .rebuild n _ => rebuildAck p.h.wid n s
    | .result ctx seq => if p.h.last then topAck ctx seq (delReq p.h.wid s) else s
    | _ => s

/-- A packet of a flow is covered by an acknowledgement whose SEQ is `seq` and whose WID is `wid` (R332, R333). -/
def coveredBy (vc seq wid : Nat) (p : Pkt) : Bool :=
  if vc = 1 then wid != 0 && p.h.wid == wid
  else decide (0 < (seq + 2 ^ 32 - p.h.seq) % 2 ^ 32) && decide ((seq + 2 ^ 32 - p.h.seq) % 2 ^ 32 ≤ 2 ^ 31)

/-- The cumulative acknowledgement of a flow with these packets left. -/
def ackedOf (next : Nat) : List Pkt → Nat
  | [] => next
  | p :: _ => p.h.seq

/-- The packets of a flow that an answer covers leave the store; the entry of a closed flow is freed, and what has waited behind the
CLOSE begins a new flow (R331, R333, R334). -/
def ackFlow (k vc seq wid : Nat) (echo : Bool) (s : State) : State :=
  match s.fab.sflow.find k with
  | none => s
  | some f =>
    let cov := f.recs.filter (coveredBy vc seq wid)
    let rest := f.recs.filter (fun p => !coveredBy vc seq wid p)
    let acked := ackedOf f.next rest
    let retx := if acked = f.acked then f.retxUs else nowUs s + retxUs s
    let f' := { f with recs := rest, acked := acked, lastUs := nowUs s, retxUs := retx, gotAck := true, gotEcho := f.gotEcho || echo }
    let s := cov.foldl (fun s p => covered p s) (setFlow s k f')
    if cov.any (fun p => p.h.close) then
      let q := ((s.fab.sflow.find k).getD f').queue
      q.foldl (fun s p => sendFlow p s) { s with fab := { s.fab with sflow := s.fab.sflow.del k } }
    else s

/-- An acknowledgement arrives, after the Ward (R332, R333, R336). -/
def ackArrive (h : Hdr) (st : Nat) (s : State) : State :=
  let s := if h.ackedVc = 2 ∧ h.wid ≠ 0 then
    { s with fab := { s.fab with dup := s.fab.dup.del (dupKey h.src h.wid) } } else s
  let k := flowKey h.dst h.src h.ackedVc
  let s := if st = St.ok then s else if h.ackedVc = 3 ∨ h.ackedVc = 5 then
      (match runFwd s h.wid with
       | some r => if r.branches.contains h.src then branchDone r h.src true h.echo s else s
       | none => reqFailed k h.wid st h.seq s)
    else reqFailed k h.wid st h.seq s
  let s := ackFlow k h.ackedVc h.seq h.wid h.echo s
  match s.fab.reqs.find h.wid with
  | some ⟨_, _, _, _, _, _, .op q idx⟩ => tryFinish q idx s
  | _ => s

/-- The requester of an ATOMIC acknowledges its reply by WID on VC2 (R336). -/
def ackReply (h : Hdr) (s : State) : State :=
  let q : Hdr := { h with dst := h.src, src := h.dst, vc := 2, hops := 0, detoured := false, ce := false, echo := false, len := 0,
                          ackedVc := 2, close := false, last := true }
  sendReply { h := q, rd := none, body := .ack 0, tr := .zero } s

/-- The valid bits of 256-byte stripes from those of their 64-byte lines (R147, R148). -/
def stripesOf (lines : List Bool) : List Bool :=
  (List.range 16).map (fun k => (List.range 4).all (fun j => (lines[4 * k + j]?).getD false))

/-- The reply to a prefetch fills its part of a segment, or is discarded (R147 to R150). -/
def prefetchFilled (id : Nat) (data : Bytes) (valid : List Bool) (s : State) : State :=
  match s.qs.pf.find id with
  | none => bump 0x280004 s
  | some f =>
    let s := { s with qs := { s.qs with pf := s.qs.pf.del id } }
    if f.cancelled then bump 0x280004 s
    else
      let d := (data ++ zeroBytes 4096).take 4096
      let v := (valid ++ List.replicate 16 false).take 16
      let fill (g : Seg) : Seg :=
        if g.q = f.q ∧ g.part = f.part ∧ g.page = f.page ∧ g.idx = f.idx then
          { g with data := g.data.take f.off ++ d ++ g.data.drop (f.off + 4096), valid := g.valid.take (f.off / 256) ++ v ++ g.valid.drop (f.off / 256 + 16) }
        else g
      { s with qs := { s.qs with segs := s.qs.segs.map fill } }

/-- A prefetch has had no reply (R150): no record is written and no Deadbolt starts. Its request leaves its flow. -/
def prefetchLate (id : Nat) (s : State) : State :=
  match s.qs.pf.find id with
  | none => s
  | some _ =>
    let drop (f : SFlow) : SFlow :=
      let rest := f.recs.filter (fun p => p.h.wid != id)
      if rest.length = f.recs.length then { f with queue := f.queue.filter (fun p => p.h.wid != id) }
      else { f with recs := rest, acked := ackedOf f.next rest, queue := f.queue.filter (fun p => p.h.wid != id) }
    let s := match s.fab.reqs.find id with
      | some r =>
        let k := flowKey r.src r.dst 1
        (match s.fab.sflow.find k with | some f => delReq id (setFlow s k (drop f)) | none => delReq id s)
      | none => s
    bump 0x280008 { s with qs := { s.qs with pf := s.qs.pf.del id } }

/-- A reply arrives, after the Ward (R25, R29, R32, R60). -/
def replyArrive (h : Hdr) (st : Nat) (data : Bytes) (valid : List Bool) (s : State) : State :=
  let r := s.fab.reqs.find h.wid
  let s := ackFlow (flowKey h.dst h.src 1) 1 0 h.wid h.echo s
  match r with
  | none => s
  | some r =>
    match r.serves with
    | .load m snp _ p _ =>
      let s := delReq h.wid s
      if st = St.ok then hostDone m snp true data s else hostFail m true (some p) st s
    | .store m _ p _ => if st = St.ok then hostDone m .noOp false [] (delReq h.wid s) else hostFail m false (some p) st (delReq h.wid s)
    | .piece q idx off =>
      let s := delReq h.wid s
      if st = St.ok then pieceData q idx off data s
      else pieceFail q idx off st (match (que s q).op idx with | some o => failAddr o.d st (srcAt o off) | none => 0) s
    | .op q idx =>
      let s := ackReply h (delReq h.wid s)
      if st = St.ok then opEnd q idx St.ok (leNat data) s else opEnd q idx st (remoteAddr s q idx st 0) s
    | .mirrorRead a n => if st = St.ok then mirrorRead h.wid a data valid s else fetchOver h.wid a n s
    | .prefetch =>
      let s := delReq h.wid s
      prefetchFilled h.wid data (if st = St.ok then stripesOf (if valid = [] then List.replicate 64 true else valid) else []) s
    | .debug k => debugDone k st data (delReq h.wid s)
    | _ => s

/-! ### Redirection to a mirror (R107, R338, R339) -/

/-- The extent that a request names at its home. -/
def extentOf : Body → Option Nat
  | .write b => (match b.dest with | .home _ e => some e | .device _ => none)
  | .read b => some b.ext
  | .atomic b => some b.ext
  | _ => none

/-- The pool EPID of the mirror that a packet for a lost home goes to, from the translation of its job (R107). -/
def mirrorEpid (s : State) (home : Nat) (p : Pkt) : Option Nat :=
  if p.h.mc then none else
  match p.rd, extentOf p.body, partOfJob s p.h.job with
  | none, some x, some n =>
    (match (leavesOf (part s n)).find? (fun e => Leaf.homeModule e.2.2.2 == home && Leaf.extentId e.2.2.2 == x && Leaf.mv e.2.2.2) with
     | some (_, _, _, l) => if isLost s (Leaf.mirrorModule l) then none else livePool s (Leaf.mirrorModule l)
     | none => none)
  | _, _, _ => none

/-- A packet as it goes to the mirror: with its redirect block, and as two packets where it would exceed 4,096 bytes (R339). -/
def redirected (home epid : Nat) (fresh : Bool) (p : Pkt) : List Pkt :=
  let blk (k : Nat) : Option Redirect := some ⟨if fresh then 0 else p.h.seq, home, k, fresh⟩
  match p.body with
  | .write b =>
    if 4088 < b.data.length then
      let d1 := b.data.take 4088
      let d2 := b.data.drop 4088
      let m1 := b.mask.map (List.take 4088)
      let m2 := b.mask.map (List.drop 4088)
      let dest2 := match b.dest with | .home a x => Dest.home (a + 4088) x | .device a => .device (a + 4088)
      [{ p with h := { p.h with dst := epid, len := 4096, last := false }, rd := blk 1, body := .write { b with data := d1, mask := m1 } },
       { p with h := { p.h with dst := epid, len := d2.length + 8 }, rd := blk 2,
                body := .write { b with data := d2, mask := m2, dest := dest2 } }]
    else [{ p with h := { p.h with dst := epid, len := p.h.len + 8 }, rd := blk 0 }]
  | _ => [{ p with h := { p.h with dst := epid, len := p.h.len + 8 }, rd := blk 0 }]

/-- An earlier redirected packet of the same source and channel, bound for another mirror, is not yet acknowledged (R338). -/
def otherMirrorOpen (s : State) (src vc home epid : Nat) : Bool :=
  s.fab.sflow.any (fun e => e.1 % 8 == vc && e.1 / 8 / 2 ^ 17 == src && e.1 / 8 % 2 ^ 17 != epid
    && (e.2.recs ++ e.2.queue).any (fun p => match p.rd with | some r => r.origHome == home | none => false))

/-- A request waits for its answer from another EPID than before. -/
def moveReq (wid epid : Nat) (s : State) : State :=
  match s.fab.reqs.find wid with
  | some r => { s with fab := { s.fab with reqs := s.fab.reqs.ins wid { r with dst := epid } } }
  | none => s

/-- One more packet of a data operation is on its way. -/
def opMore (wid : Nat) (s : State) : State :=
  match s.fab.reqs.find wid with
  | some ⟨_, _, _, _, _, _, .op q idx⟩ => onOp q idx (fun o => { o with open_ := o.open_ + 1 }) s
  | _ => s

/-- A packet that no mirror can take ends with ABORTED (R107, R328). -/
def lostPkt (p : Pkt) (s : State) : State :=
  if p.h.mc then s else
  match s.fab.reqs.find p.h.wid with
  | some ⟨_, _, _, _, _, _, .mctl _⟩ => mctlGone .lost p.h.wid s
  | some _ => endReq p.h.wid St.aborted s
  | none => s

/-- The packets of a flow toward a lost home go to their mirrors, in their order, as far as R338 lets them. -/
def redirectFlow (k home : Nat) : Nat → State → State
  | 0, s => s
  | n + 1, s =>
    match s.fab.sflow.find k with
    | none => s
    | some f =>
      match f.recs ++ f.queue with
      | [] => s
      | p :: _ =>
        let fresh := f.recs.isEmpty
        let f' := if fresh then { f with queue := f.queue.drop 1 } else { f with recs := f.recs.drop 1 }
        match mirrorEpid s home p with
        | none => redirectFlow k home n (lostPkt p (setFlow s k f'))
        | some e =>
          if otherMirrorOpen s p.h.src p.h.vc home e then s
          else
            let ps := redirected home e fresh p
            let s := moveReq p.h.wid e (setFlow s k f')
            let s := if ps.length = 2 then opMore p.h.wid s else s
            redirectFlow k home n (ps.foldl (fun s q => sendFlow q s) s)

/-- Every frozen flow that still holds packets goes on. -/
def redirectAll (s : State) : State :=
  s.fab.sflow.foldl (fun s e =>
    if e.2.frozen && !(e.2.recs ++ e.2.queue).isEmpty then
      redirectFlow e.1 (endpoint s (e.1 / 8 % 2 ^ 17)).home (e.2.recs.length + e.2.queue.length) s
    else s) s

/-- A flow's destination is lost: it is frozen, and its packets are redirected or end (R328, R338). -/
def freezeFlows (home : Nat) (s : State) : State :=
  s.fab.sflow.foldl (fun s e =>
    let d := endpoint s (e.1 / 8 % 2 ^ 17)
    if d.v && d.home == home && !d.isLocal then
      match s.fab.sflow.find e.1 with
      | some f => redirectFlow e.1 home (f.recs.length + f.queue.length) (setFlow s e.1 { f with frozen := true, closing := false })
      | none => s
    else s) s

end Sys2Proof.Machine
end

