-- ==== Sys2Proof/Machine/Recovery.lean ====
section
/-! DEFINITION. Deadbolt (R351 to R356), partition reset and its dossier (R358 to R363), loss of a module (R328). -/

namespace Sys2Proof.Machine

/-! ### The Deadbolt message (R353, R354) -/

/-- The EPID field that names none. -/
def noEpid : Nat := 2 ^ 17 - 1

/-- A message goes out on every up port but one. -/
def relayDb (d : Deadbolt) (arrival : Option Nat) (s : State) : State :=
  ((List.range 64).filter (fun p => portUp s p && some p != arrival)).foldl (fun s p => sendCtl p (.deadbolt d 0) s) s

/-- A pair has been seen within the last second. -/
def seenDb (s : State) (d : Deadbolt) : Bool :=
  s.rep.seen.any (fun x => x.1 == d.origin && x.2.1 == d.seq && decide (s.now < x.2.2 + 1000000000))

/-- A pair is entered; the store holds 4,096, and drops the oldest. -/
def noteDb (d : Deadbolt) (s : State) : State :=
  { s with rep := { s.rep with seen := ((d.origin, d.seq, s.now) :: s.rep.seen).take 4096 } }

/-! ### Teardown of a partition (R355) -/

/-- A job tag leaves the consent list of the analysis port, with its copies still queued there (R239). -/
def dropConsent (job : Nat) (s : State) : State :=
  let a := s.fab.ana
  { s with fab := { s.fab with ana := { a with jobs := a.jobs.filter (· != job), queue := a.queue.filter (fun x => x.1 != job) } } }

/-- RESULT of a COLL that ends by teardown or epoch close: its sequence number (R134). -/
def colSeqResult (seq : Nat) : Nat := fld 32 seq

/-- Step 2 of R355 for one queue: it halts, and every started descriptor completes with ABORTED. -/
def tearQueue (q : Nat) (s : State) : State :=
  let x := que s q
  let s := setQue s q { x with flight := x.ops.length }
  let s := if x.st = .running then halt q x.head St.aborted s else s
  x.ops.foldl (fun s o =>
    match s.col.mems.find? (fun m => m.q == q && m.idx == o.idx) with
    | some m => complete q o.idx St.aborted m.got (colSeqResult m.seq) s
    | none => complete q o.idx St.aborted o.moved 0 s) s

/-- An access that a job's host waits for fails (R32, R355). -/
def hostAborted (acc : Access) (p : Nat) (s : State) : State :=
  match acc.who, acc.what with
  | .host m _ _ _, .read _ _ => hostFail m true (some p) St.aborted s
  | .host m _ _ _, _ => hostFail m false (some p) St.aborted s
  | .debug n, _ => debugDone n St.aborted [] s
  | _, _ => s

/-- The access belongs to a partition or its job. -/
def accOfPart (s : State) (p job : Nat) (a : Access) : Bool :=
  match a.who with
  | .fabric h _ => h.job == job
  | .coll h _ _ _ _ => h.job == job
  | .host _ _ _ _ => (homeExt s a.addr 1).any (fun x => x.2.part == p)
  | .queue q _ _ => (que s q).part == p
  | .debug _ => (homeExt s a.addr 1).any (fun x => x.2.part == p)

/-- The accesses of a partition that wait end: those of hosts fail, the others are dropped with their flows. -/
def tearAccesses (p job : Nat) (s : State) : State :=
  let ws := s.pool.waits.filter (fun w => accOfPart s p job w.2)
  let ms := s.pool.mirr.filter (fun m => (extRec s m.ext).part == p)
  let ww := s.xlt.walks.filter (fun w => w.part == p)
  let rs := s.fab.reqs.filter (fun r => r.2.part == p && (match r.2.serves with | .load _ _ _ _ _ => true | .store _ _ _ _ => true | .debug _ => true | _ => false))
  let s := { s with
    pool := { s.pool with waits := s.pool.waits.filter (fun w => !ws.contains w), mirr := s.pool.mirr.filter (fun m => !ms.contains m) },
    xlt := { s.xlt with walks := s.xlt.walks.map (fun w => if w.part = p then { w with loads := [], ops := [] } else w) } }
  let s := ws.foldl (fun s w => hostAborted w.2 p s) s
  let s := ms.foldl (fun s m => match m.access with | some (a, _) => hostAborted a p s | none => s) s
  let s := ww.foldl (fun s w => w.loads.foldl (fun s a => hostFail a.m a.store.isNone (some p) St.aborted s) s) s
  rs.foldl (fun s r => endReq r.1 St.aborted s) s

/-- A flow that carries a mirror control packet (R504). -/
def ctlFlow (f : SFlow) : Bool := (f.recs ++ f.queue).any (fun p => clearBody p.body)

/-- Step 3 of R355: flows, requests, duplicate-suppression entries, engines, prefetchers, segments. -/
def tearFlows (p job : Nat) (s : State) : State :=
  let fab := { s.fab with
    sflow := s.fab.sflow.keep (fun _ f => f.job != job || ctlFlow f)
    dflow := s.fab.dflow.keep (fun _ f => f.job != job)
    shadow := s.fab.shadow.keep (fun _ f => f.2 != job)
    dup := s.fab.dup.keep (fun _ d => d.2.2 != job)
    runs := s.fab.runs.filter (fun r => r.job != job)
    reqs := s.fab.reqs.keep (fun _ r => r.part != p || (match r.serves with | .mctl _ => true | _ => false))
    redirWait := s.fab.redirWait.filter (fun x => x.1.h.job != job)
    waitFlow := s.fab.waitFlow.filter (fun x => x.h.job != job) }
  let dma := s.cxl.dma.keep (fun _ x => match x.2 with
    | .piece q _ _ _ => (que s q).part != p
    | .fence q _ => (que s q).part != p
    | .landed _ _ n _ _ _ => n != p
    | .result _ n _ _ _ _ _ _ _ => n != p)
  let qs := { s.qs with engines := s.qs.engines.keep (fun _ e => (que s e.q).part != p),
                        fetchers := s.qs.fetchers.keep (fun q _ => (que s q).part != p) }
  dropPart p { s with fab := fab, qs := qs, cxl := { s.cxl with dma := dma } }

/-- Step 4 of R355: the job's group contexts are FENCED, and nothing of their collectives is left here. -/
def tearGroups (p : Nat) (s : State) : State :=
  s.col.grps.foldl (fun s e =>
    if e.2.p.part = p then
      let g := if e.2.st = .fenced then e.2 else { e.2 with st := .fenced, fencedBy := colResult noRank s.sys.moduleId 0 }
      let s := colUnoffer (· == e.1) (setGrp e.1 g s)
      { s with col := { s.col with mems := s.col.mems.filter (fun m => m.ctx != e.1), verts := s.col.verts.filter (fun v => v.ctx != e.1),
                                   tops := s.col.tops.filter (fun t => t.ctx != e.1) } }
    else s) s

/-- The bytes a queue's operations have moved. -/
def movedOf (x : Que) : Nat := match x.ops.getLast? with | some o => o.moved | none => 0

/-- The engines at work for a partition: tile engines with their queues, then Tumbler sequencers with their groups, from number 32 on (R362). -/
def enginesOf (s : State) (p : Nat) : List (Nat × Nat × Nat) :=
  (s.qs.engines.filter (fun e => (que s e.2.q).part == p)).map (fun e => (e.1, e.2.q, movedOf (que s e.2.q)))
    ++ ((s.col.verts.filter (fun v => (s.col.grps.find v.ctx).any (fun g => g.p.part == p))).zipIdx).map (fun x => (32 + x.2, x.1.ctx, x.1.done_))

/-- R355 at this module (R350), for partition `p`. The caller sets the partition's state. -/
def teardown (p : Nat) (d : Deadbolt) (s : State) : State :=
  let x := part s p
  let job := x.prm.jobTag
  let qs := (s.qs.ctx.filter (fun e => e.2.part == p && e.2.st != .disabled)).map Prod.fst
  let engs := enginesOf s p
  let s := setPart s p { x with closing := none, engs := engs, cause := d.cause }
  let s := qs.foldl (fun s q => tearQueue q s) s
  let s := tearGroups p (tearFlows p job (tearAccesses p job s))
  let s := dropConsent job s
  let s := { s with pool := { s.pool with ext := s.pool.ext.map (fun e => (e.1, if e.2.part = p then { e.2 with dbSeen := true } else e.2)),
                                          journal := s.pool.journal.map (fun e => (e.1, if e.2.part = p then { e.2 with dbSeen := true } else e.2)) } }
  let s := bump 0x380008 (fault 0x13 7 (some p) d.epid d.cause s)
  let s := reportRaw 0x8002 (deadboltBytes d) s
  (x.binds.map Prod.fst).foldl (fun s a => event a 2 [0x13, d.epid, d.cause] s) s

/-- The first Deadbolt for a job tears its partition here down (R355); a partition in another state takes no further change. -/
def actDb (d : Deadbolt) (s : State) : State :=
  match livePartOfJob s d.job with
  | none => s
  | some p =>
    if (part s p).st = .idle ∨ (part s p).st = .active then
      let s := teardown p d s
      setPart s p { part s p with st := .torn }
    else s

/-- This module originates Deadbolt for a job (R351). -/
def originateMsg (job cause subject epid : Nat) (s : State) : Deadbolt × State :=
  let d : Deadbolt := { origin := s.sys.moduleId, seq := s.rep.dbSeq, job, cause, subject, epid }
  (d, relayDb d none (noteDb d { s with rep := { s.rep with dbSeq := (s.rep.dbSeq + 1) % 2 ^ 32 } }))

def originate (job cause subject epid : Nat) (s : State) : State :=
  match originateMsg job cause subject epid s with
  | (d, s) => actDb d s

/-- A Deadbolt message arrives on a port (R354). -/
def dbArrive (port : Nat) (d : Deadbolt) (s : State) : State :=
  if seenDb s d then s else actDb d (relayDb d (some port) (noteDb d s))

/-- Originates for the partitions whose job is still whole, each with one cause. -/
def originateParts (ps : List Nat) (cause subject : Nat) (s : State) : State :=
  ps.foldl (fun s p =>
    if (part s p).st = .idle ∨ (part s p).st = .active then originate (part s p).prm.jobTag cause subject noEpid s else s) s

/-! ### A request's timer (R34) -/

/-- The block that detects a request's timeout (R370). -/
def reqBlock : For → Nat
  | .load _ _ _ _ _ => 9
  | .store _ _ _ _ => 9
  | .piece _ _ _ => 2
  | .op _ _ => 2
  | _ => 3

/-- A request's timer has expired: it ends with TIMEOUT, a record is written, and Deadbolt tears its job down (R34). A packet of a rebuild
waits for the target (R87), a mirror control exchange for its answer (R504): neither ends by time. -/
def reqExpired (wid : Nat) (r : OutReq) (s : State) : State :=
  match r.serves with
  | .mctl _ => s
  | .rebuild n k => rebuildLate wid r n k s
  | w =>
    let live := (part s r.part).st = .idle ∨ (part s r.part).st = .active
    let s := endReq wid St.timeout (faultAt 3 (reqBlock w) (some r.part) r.dst s)
    if live then originate (part s r.part).prm.jobTag 1 s.sys.moduleId r.src s else s

/-- The requests whose timer expired during the hold of a repair: the timer restarts where the repair has changed the path set toward the
destination, and has expired elsewhere (R34). `old`: the endpoint table before the repair. -/
def lateRequests (old : Tab Ep) (s : State) : State :=
  let ws := s.rep.late
  ws.foldl (fun s w =>
    match s.fab.reqs.find w with
    | some r => if (endpoint s r.dst).members = (old.get Ep.init r.dst).members then reqExpired w r s else s
    | none => s) { s with rep := { s.rep with late := [] } }

/-! ### The reset dossier (R362) -/

/-- A section: the records that fit, padded, and the number that did not. -/
def dossierSec (size n : Nat) (recs : List Bytes) : Bytes × Nat :=
  (((recs.take n).flatten ++ zeroBytes (size * n)).take (size * n), recs.length - n)

def dossierQueues (s : State) (p : Nat) : List Bytes :=
  (s.qs.ctx.filter (fun e => e.2.part == p && e.2.st != .disabled && (e.2.flight != 0 || !e.2.ops.isEmpty || e.2.head != e.2.tail))).map (fun e =>
    let x := e.2
    leBytes 2 e.1 ++ leBytes 1 (match x.st with | .disabled => 0 | .running => 1 | .halted => 2) ++ leBytes 1 x.cls ++ leBytes 2 x.head
      ++ leBytes 2 x.tail ++ leBytes 2 x.cqHead ++ leBytes 2 x.cqTail ++ leBytes 4 (Nat.max x.flight x.ops.length))

def dossierCtrs (s : State) (p : Nat) : List Bytes :=
  let m := (part s p).prm
  (s.ctrs.filter (fun e => decide (m.cBase ≤ e.1) && decide (e.1 < m.cBase + m.cCount) && e.2 != 0)).map (fun e => leBytes 4 e.1 ++ leBytes 8 e.2)

def dossierGroups (s : State) (p : Nat) : List Bytes :=
  (s.col.grps.filter (fun e => e.2.p.part == p)).map (fun e =>
    let g := e.2
    leBytes 4 e.1 ++ leBytes 4 g.p.groupTag ++ leBytes 4 (match g.st with | .building => 1 | .active => 2 | .fenced => 3)
      ++ leBytes 4 (g.seqs.foldl (fun a x => Nat.max a x.2) 0)
      ++ (match g.abort with | some (n, c, r) => leBytes 4 n ++ leBytes 4 c ++ leBytes 8 r | none => zeroBytes 16))

def dossierEngines (s : State) (p : Nat) : List Bytes :=
  (part s p).engs.map (fun e => leBytes 4 e.1 ++ leBytes 4 e.2.1 ++ leBytes 8 e.2.2 ++ zeroBytes 16)

def dossierExts (s : State) (p : Nat) : List Bytes :=
  (s.pool.ext.filter (fun e => e.2.part == p && e.2.st != .free)).map (fun e =>
    leBytes 2 e.2.home ++ leBytes 2 e.2.eid ++ leBytes 1 e.2.st.code ++ zeroBytes 3 ++ leBytes 8 (inflight s e.2))

/-- The 16,384 bytes of a partition's dossier. The manual gives the sections; the packing of their records is the model's (log
entry 27). -/
def dossierOf (s : State) (p : Nat) (incomplete : Bool) : Bytes :=
  let x := part s p
  let q := dossierSec 16 256 (dossierQueues s p)
  let c := dossierSec 12 512 (dossierCtrs s p)
  let g := dossierSec 32 64 (dossierGroups s p)
  let e := dossierSec 32 32 (dossierEngines s p)
  let t := dossierSec 16 64 (dossierExts s p)
  let head := leBytes 4 p ++ leBytes 4 x.prm.jobTag ++ leBytes 1 x.gen ++ leBytes 1 (x.gen + 1) ++ leBytes 1 x.cause ++ leBytes 1 (bit incomplete)
    ++ leBytes 4 x.epoch ++ leBytes 8 s.now ++ leBytes 4 q.2 ++ leBytes 4 c.2 ++ leBytes 4 g.2 ++ leBytes 4 e.2 ++ leBytes 4 t.2 ++ zeroBytes 20
  head ++ q.1 ++ c.1 ++ g.1 ++ e.1 ++ t.1 ++ zeroBytes (16384 - 0x3840)

/-- Firmware writes the dossier, where it runs (R359 step 3). -/
def writeDossier (p : Nat) (incomplete : Bool) (s : State) : State :=
  if fwRuns s then { s with dossiers := s.dossiers.ins p (dossierOf s p incomplete) } else s

/-! ### Partition reset (R358 to R361) -/

/-- Generation tags retired within the last 100 ms (R360). -/
def retiredNow (s : State) (x : Part) : List (Nat × Nat) := x.retired.filter (fun r => decide (s.now < r.2 + 100000000))

/-- Raising the generation tag would bring back a value retired within 100 ms. -/
def genBlocked (s : State) (x : Part) : Bool := (retiredNow s x).any (fun r => r.1 == (x.gen + 1) % 256)

/-- The generation tag rises by 1 (R11, R360). -/
def raiseGen (s : State) (x : Part) : Part :=
  { x with gen := (x.gen + 1) % 256, retired := (x.gen, s.now) :: retiredNow s x }

/-- The group contexts of a partition are freed. -/
def freeGroups (p : Nat) (s : State) : State :=
  let s := tearGroups p s
  { s with col := { s.col with grps := s.col.grps.keep (fun _ g => g.p.part != p) } }

/-- The queues of a partition become DISABLED; what was started completes with ABORTED first (R359 step 5). -/
def disableQueues (p : Nat) (s : State) : State :=
  let qs := (s.qs.ctx.filter (fun e => e.2.part == p && e.2.st != .disabled)).map Prod.fst
  let s := qs.foldl (fun s q => tearQueue q s) s
  { s with qs := { s.qs with ctx := s.qs.ctx.keep (fun _ x => x.part != p || x.st == .disabled),
                             engines := s.qs.engines.keep (fun _ e => !qs.contains e.q),
                             fetchers := s.qs.fetchers.keep (fun q _ => !qs.contains q) } }

/-- The key slots, the consent token and the trace mask of a partition are cleared; the invocation counts of its EPIDs begin again with
the next key (R360, R385, R397). -/
def clearKeys (p : Nat) (s : State) : State :=
  freshCounts p (setPart s p { part s p with cur := none, nxt := none, consent := none, trace := [] })

/-- The pool follows the SCRUB policy (R72): every extent homed here that is not retained is revoked with disposition FREE. -/
def scrubExtents (p : Nat) (s : State) : State :=
  (s.pool.ext.filter (fun e => e.2.kind == .home && e.2.part == p && !e.2.retained
      && (e.2.st == .shackled || e.2.st == .mirrored || e.2.st == .rebuilding))).foldl
    (fun s e => revokeBegin e.1 false 0 true s) s

/-- What step 5 of R359 clears. -/
def clearPart (p : Nat) (s : State) : State :=
  let m := (part s p).prm
  let s := { s with ctrs := s.ctrs.clearRange m.cBase m.cCount }
  disableQueues p (freeGroups p (dropConsent m.jobTag (dropPart p (clearKeys p s))))

/-- Steps 4 to 6 of R359. `pol`: bit 0 the policy, 1 for SCRUB. -/
def resetTail (p pol : Nat) (s : State) : State :=
  let s := setPart s p (raiseGen s (part s p))
  let s := clearPart p s
  let s := if pol % 2 = 1 then scrubExtents p s else s
  let s := setPart s p { part s p with st := .idle, rst := none, closing := none, engs := [] }
  settle 4 p .ok [] (report 0x8004 p (part s p).gen (faultAny 0x14 10 0 (some p) s))

/-- Step 3 of R359 and what follows; step 4 waits where the tag may not rise yet (R360). -/
def resetGo (p pol : Nat) (s : State) : State :=
  let s := writeDossier p false s
  if genBlocked s (part s p) then setPart s p { part s p with rst := some (pol % 2 + 2) } else resetTail p pol s

/-- Steps 1 and 2 of R359: the partition enters RESETTING, and its module originates Deadbolt where it is not already torn down. -/
def resetBegin (p cause : Nat) (s : State) : State :=
  let x := part s p
  let s := if x.st = .torn then s
    else
      let s := memCauses (memOfPart s p) 0x42 s
      match originateMsg x.prm.jobTag cause s.sys.moduleId noEpid s with
      | (d, s) => teardown p d s
  setPart s p { part s p with st := .resetting }

/-- A partition reset with a policy (R358): a second trigger before step 6 adds nothing (R361). While the Hinge pause runs firmware's
steps wait (R368). -/
def partReset (p pol : Nat) (s : State) : State :=
  match (part s p).st with
  | .free => s
  | .releasing => s
  | .resetting => s
  | _ =>
    let s := resetBegin p 4 s
    if s.fw.hinge.isSome then setPart s p { part s p with rst := some (pol % 2) } else resetGo p pol s

/-- The policy that a trigger without a policy of its own uses (R359). -/
def defaultPolicy (s : State) (p : Nat) : Nat := bit (part s p).prm.scrub

/-- The resets that the Hinge pause has held go on (R368). -/
def resumeResets (s : State) : State :=
  s.parts.foldl (fun s e =>
    match (part s e.1).rst with
    | some k => if (part s e.1).st = .resetting ∧ k < 2 then resetGo e.1 k s else s
    | none => s) s

/-! ### Loss of a module (R328) -/

/-- Job tags whose partition here touches an attachment EPID or tree branch of a lost module (R351 MEMBER_LOST). -/
def touchesLost (s : State) (p h : Nat) : Bool :=
  let job := (part s p).prm.jobTag
  let there (e : Nat) : Bool := (endpoint s e).v && (endpoint s e).kind == 0 && (endpoint s e).home == h && !(endpoint s e).isLocal
  s.fab.sflow.any (fun f => f.2.job == job && there (f.1 / 8 % 2 ^ 17))
    || s.fab.dflow.any (fun f => f.2.job == job && there (f.1 / 8 / 2 ^ 17))
    || s.col.grps.any (fun g => g.2.p.part == p && g.2.members.any (fun m => there m.2))
    || s.fab.trees.any (fun t => t.2.v && t.2.jobTag == job && (usedBranches t.2).any (fun b => (endpoint s b.1).v && (endpoint s b.1).home == h))

/-- A partition's translations name a mirror of an extent (R70). DESIGN CHOICE: any leaf that names the extent with MV 1 (log entry 104). -/
def hasMirror (s : State) (p home eid : Nat) : Bool :=
  (leavesOf (part s p)).any (fun e => Leaf.homeModule e.2.2.2 == home && Leaf.extentId e.2.2.2 == eid && Leaf.mv e.2.2.2)

/-- The partitions here for which the loss of a module is HOME_LOST: by a PRESENT record of an unmirrored extent, or a MIRROR record of
an incomplete copy (R351). -/
def homeLost (s : State) (h : Nat) : List Nat :=
  ((s.pool.ext.filter (fun e => e.2.home == h && e.2.st != .free && !e.2.promoted
      && ((e.2.kind == .present && !hasMirror s e.2.part h e.2.eid) || (e.2.kind == .mirror && !e.2.mv)))).map (fun e => e.2.part)).eraseDups

/-- The forwarded writes of an extent that wait for its second copy complete (R84). -/
def releaseMirror (n : Nat) (s : State) : State :=
  (s.pool.mirr.filter (fun m => m.ext == n)).foldl (fun s m => mirrorDone m.wid s) s

/-- The records of this module when a module is lost (R70, R84, R87). -/
def lostExt (h : Nat) (n : Nat) (s : State) : State :=
  let e := extRec s n
  if e.kind = .mirror ∧ e.home = h ∧ e.st ≠ .free then
    if e.mv ∧ e.st ≠ .revoking then wake (.promote h e.eid) false (promote n s)
    else if e.st = .revoking then s
    else setExtSt n { e with st := .revoking, want := none, drained := true, scrubbing := true, scrub := 0 } s
  else if e.kind = .home ∧ e.st = .rebuilding ∧ e.target = h then rebuildFail n (releaseMirror n s)
  else if e.kind = .home ∧ e.mv ∧ e.mirror = h ∧ e.st ≠ .free then
    let st := if e.st = .mirrored then ExtSt.shackled else e.st
    let s := releaseMirror n (setExtSt n { e with mv := false, mirror := 0, st := st } s)
    faultAny 0x1D 3 2 (some e.part) (report 0x800B e.eid h s)
  else s

/-- The branches of trees toward a lost module count as reported with EXCLUDED, with a record for each tree (R230). -/
def lostTrees (h : Nat) (s : State) : State :=
  let bad (b : Nat × Nat) : Bool := (endpoint s b.1).v && (endpoint s b.1).home == h && !(endpoint s b.1).isLocal
  let s := s.fab.trees.foldl (fun s t => if t.2.v && (usedBranches t.2).any bad then faultAt 0x11 7 (some t.2.part) t.1 s else s) s
  s.fab.runs.foldl (fun s r =>
    (r.branches.filter (fun e => bad (e, 0))).foldl (fun s e =>
      match runFwd s r.fwd with | some r' => branchDone r' e true false s | none => s) s) s

/-- The module is declared lost (R328). -/
def declareLost (h : Nat) (s : State) : State :=
  if isLost s h || h == s.sys.moduleId then s
  else
    let homes := homeLost s h
    let members := ((s.parts.filter (fun e => touchesLost s e.1 h)).map Prod.fst)
    let nb := s.rep.nbr.any (fun e => e.2.1 == h)
    let s := { s with fab := { s.fab with homeMap := s.fab.homeMap.ins h ((poolEpid s h).getD (2 ^ 17), true) } }
    let s := s.pool.ext.foldl (fun s e => lostExt h e.1 s) s
    let s := lostTrees h s
    let s := s.col.grps.foldl (fun s e => match s.col.grps.find e.1 with | some g => vertexLost e.1 g h s | none => s) s
    let ctl := (s.fab.reqs.filter (fun r => (endpoint s r.2.dst).home == h && (match r.2.serves with | .mctl _ => true | _ => false))).map Prod.fst
    let s := ctl.foldl (fun s w => mctlGone .lost w s) s
    let s := freezeFlows h s
    let old := s.fab.noRoute.filter (fun q => (endpoint s q.load.dst).home == h)
    let s := rechoose true old { s with fab := { s.fab with noRoute := s.fab.noRoute.filter (fun q => (endpoint s q.load.dst).home != h) } }
    let s := if nb then report 0x8011 h 0 s else s
    originateParts members 3 h (originateParts homes 2 h s)

end Sys2Proof.Machine
end

