-- ==== Sys2Proof/Machine/ModReset.lean ====
section
/-! DEFINITION. Module resets and the module fault (R364 to R368, R479). -/

namespace Sys2Proof.Machine

/-- A port whose lasers go off: its training, its swaps and its link state are gone; its retired wavelengths stay retired. -/
def offPort (o : OptPort) : OptPort :=
  let still (d : Dir) : Dir := { d with swap := none, cal := none, lost := [] }
  { OptPort.init with told := o.told, rx := still o.rx, tx := still o.tx, pll := o.pll, nbr := o.nbr }

/-- Steps 1 and 2 of R365 for one partition. -/
def resetStart (p cause : Nat) (s : State) : State :=
  match (part s p).st with
  | .free => s
  | .releasing => s
  | .resetting => s
  | _ => resetBegin p cause s

/-- Step 3 of R365 for one partition: a dossier already complete stands. -/
def resetDossier (p : Nat) (s : State) : State :=
  match (part s p).st, (part s p).rst with
  | .resetting, some k => if k < 2 then writeDossier p false s else s
  | .resetting, none => writeDossier p false s
  | _, _ => s

/-- Steps 4 and 6 of R365 for one partition. -/
def resetFinish (p : Nat) (s : State) : State :=
  match (part s p).st with
  | .resetting =>
    let s := clearPart p s
    let s := if (part s p).prm.scrub then scrubExtents p s else s
    setPart s p { part s p with st := .idle, rst := none, closing := none, engs := [] }
  | .releasing => let s := clearKeys p s; setPart s p { part s p with rst := none }
  | _ => s

/-- What a soft reset leaves of an extent record: a locked rebuild step is copied again, a scrub goes on from its mark, also that of a change
of tenant, which is given up before its scrub; commands that wait are gone (R66, R87, R91). -/
def resetExt (e : Ext) : Ext :=
  { e with want := if e.scrubbing then e.want else none, locked := false, later := [] }

/-- The lease has no holder after a module reset (R381). -/
def clearLease (s : State) : State :=
  match s.mgt.holder with
  | none => s
  | some l => report 0x8003 0 (match l with | .a => 1 | .b => 2) { s with mgt := { s.mgt with holder := none } }

/-- Steps 4 and 5 of R365 for what is not a partition's. -/
def resetBlocks (full : Bool) (s : State) : State :=
  let st := if full then PwrSt.standby else PwrSt.held
  { s with
    xlt := { cache := [], ptrs := [], walks := [], invals := [] }
    qs := { ctx := [], engines := [], fetchers := [], segs := [], pf := [], pointer := [] }
    pool := { s.pool with waits := [], mirr := [], ext := s.pool.journal.map (fun e => (e.1, resetExt e.2)),
                          journal := s.pool.journal.map (fun e => (e.1, resetExt e.2)) }
    cxl := { s.cxl with dma := [], ports := s.cxl.ports.mapD CxlPort.init (fun _ c => { c with dmaq := [] }) }
    mgt := { s.mgt with owed := [] }
    fw := { s.fw with img := none, session := none, timedOut := none, hinge := none, record := [], held := [], log := [] }
    dbg := { s.dbg with halted := [], bps := [], regs := [], runs := [], mem := [], busy := none, used := none }
    regs := { s.regs with armed := false, accs := s.regs.accs.mapD AccSt.init (fun _ a => { a with ind := 0, view := false, unlocked := false }) }
    hlt := { s.hlt with plan := false }
    pwr := { s.pwr with st := st, starting := false }
    opt := if full then s.opt.mapD OptPort.init (fun _ o => offPort o) else s.opt }

/-- A RETAIN-FABRIC reset acts as FULL where no link is lit (R364). -/
def actsFull (s : State) : Bool := s.pwr.st == .standby || s.pwr.st == .dark || s.pwr.st == .darkening

/-- A soft reset (R365). `full`: kind FULL. `cause`: 5 MODULE_RESET or 6 MODULE_FAULT. `dossiers`: the fault was not in control memory. -/
def softReset (full : Bool) (cause : Nat) (dossiers : Bool) (s : State) : State :=
  let full := full || actsFull s
  let s := { s with fw := { s.fw with hinge := none, record := [], held := [] } }
  let ps := s.parts.map Prod.fst
  let s := ps.foldl (fun s p => resetStart p cause s) s
  let s := if dossiers then ps.foldl (fun s p => resetDossier p s) s else s
  let s := (List.range 64).foldl (fun s p => setPart s p (raiseGen s (part s p))) s
  let s := ps.foldl (fun s p => resetFinish p s) s
  let s := s.pool.ext.foldl (fun s e => scrubOn e.1 s) s
  let s := clearLease (resetBlocks full s)
  report 0x8005 (bit full) 0 (faultAny 0x15 10 0 none s)

/-- A hard reset: the state that follows step 1 of the start-up sequence; the levels of the pins are as they are (R365, R479). -/
def hardReset (s : State) : State :=
  let ports := s.cxl.ports.mapD CxlPort.init (fun _ c => { CxlPort.init with perst := c.perst })
  { State.reset with
    pending := s.pending, out := s.out, seed := s.seed,
    cxl := { State.reset.cxl with ports := ports },
    pwr := { State.reset.pwr with pin := s.pwr.pin },
    rep := { State.reset.rep with leaving := s.rep.leaving },
    dbg := { State.reset.dbg with en := s.dbg.en } }

end Sys2Proof.Machine
end

