-- ==== Sys2Proof/Machine/Receive.lean ====
section
/-! DEFINITION. A packet for an EPID of this module: the Ward (R10, R212, R342, R374), authentication (R387, R503), its place in its flow
(R225, R335), and what it does (R25, R35, R42, R44, R108, R229, R337, R340). -/

namespace Sys2Proof.Machine

/-! ### The Ward -/

/-- What the Ward says of a packet: it passes for a partition; it passes without one and without authentication (R504); it is dropped
late; it is refused with DENIED. -/
inductive Verdict where
  | pass (p : Nat)
  | clear
  | late
  | deny
deriving DecidableEq, Repr

/-- An answer, whose generation tag step 3 of R10 checks. -/
def isAnswer : Body → Bool
  | .reply _ _ _ => true
  | .ack _ => true
  | .report _ => true
  | _ => false

/-- A request that would start an operation at an EPID of a module under tray release (R342). -/
def startsOp : Body → Bool
  | .write _ => true
  | .read _ => true
  | .atomic _ => true
  | .signal _ _ => true
  | _ => false

/-- The record that a request to a pool EPID concerns (R71, R108, R212). -/
def poolRec (s : State) (h : Hdr) (rd : Option Redirect) (b : Body) : Option (Nat × Ext) :=
  let home := (endpoint s h.src).home
  match b, rd with
  | .mirror m, _ => if m.home = home then mirrorExt s m.home m.ext else none
  | .rebuild m, _ => if m.home = home then mirrorExt s m.home m.ext else none
  | .write w, none => (match w.dest with | .home a _ => homeExt s a w.data.length | .device _ => none)
  | .read r, none => if h.vc = 7 then mirrorExt s home r.ext else homeExt s r.addr r.len
  | .atomic x, none => homeExt s x.addr (atomWidth x.ty)
  | _, some r =>
    (match extentOf b with
     | some x => (match promotedExt s r.origHome x with | some e => some e | none => mirrorExt s r.origHome x)
     | none => none)
  | _, _ => none

/-- The request is one that R71 judges by a record. -/
def byRecord : Body → Bool
  | .write _ => true
  | .read _ => true
  | .atomic _ => true
  | .mirror _ => true
  | .rebuild _ => true
  | _ => false

/-- The partition behind the destination of a packet (R212); of a multicast leg, the one that the tree entry it names holds (R228). -/
def packetPart (s : State) (h : Hdr) (rd : Option Redirect) (b : Body) : Option Nat :=
  let e := endpoint s h.dst
  if h.mc then
    let t := tree s h.tree
    if t.v ∧ t.vc = h.vc ∧ t.jobTag = h.job then some t.part else none
  else if e.kind = 0 then
    (s.parts.find? (fun x => x.2.st != .free && x.2.prm.jobTag == h.job && x.2.binds.any (fun y => y.1 == e.attach))).map Prod.fst
  else if e.kind = 1 ∧ byRecord b then (poolRec s h rd b).map (fun x => x.2.part)
  else partOfJob s h.job

/-- The packet's number lies below the one its flow expects. -/
def isDup (s : State) (h : Hdr) : Bool :=
  match s.fab.dflow.find (hdrKey h) with
  | some d => decide (2 ^ 31 ≤ (h.seq + 2 ^ 32 - d.next) % 2 ^ 32)
  | none => false

/-- The packet continues the operation that its flow is in (R342). -/
def continues (s : State) (h : Hdr) : Bool :=
  match s.fab.dflow.find (hdrKey h) with
  | some d => d.op == some h.wid || d.held.any (fun x => match x.2 with | some (p, _) => p.h.wid == h.wid | none => false)
  | none => false

/-- Steps 2 and 3 of R10, with R329, R342, R355 and R374. -/
def ward (s : State) (h : Hdr) (rd : Option Redirect) (b : Body) : Verdict :=
  match b with
  | .mctl _ => .clear
  | _ =>
    if (match b with | .ack _ => h.ackedVc == 7 && (endpoint s h.dst).kind == 2 | _ => false) then .clear
    else
      match packetPart s h rd b with
      | none => .deny
      | some p =>
        let x := part s p
        if x.prm.jobTag ≠ h.job then .deny
        else if x.st = .resetting ∨ x.st = .torn then .late
        else if x.st ≠ .active then .deny
        else if isAnswer b then (if h.gen = x.gen then .pass p else .late)
        else if s.rep.out.contains h.dst then .deny
        else if s.rep.leaving ∧ h.vc ≠ 7 ∧ startsOp b ∧ !isDup s h ∧ !continues s h ∧ !h.mc then .deny
        else .pass p

/-- A packet authenticates under the key of its PHASE (R387). -/
def authOk (s : State) (p : Nat) (q : Pkt) : Bool :=
  match q.tr with
  | .zero => false
  | .tagged c ph tag =>
    let ok (k : Option Key) : Bool := match k with
      | some k => bitOf k.id 0 == ph && Config.gcmTag k.key q.h.src c (pktText q) == tag
      | none => false
    ok (part s p).cur || ok (part s p).nxt

/-- A packet that does not authenticate is discarded (R387). -/
def authFail (p : Option Nat) (h : Hdr) (s : State) : State := faultAt 0x1C 0 p h.src (bump 0x40010 s)

/-- A packet dropped late (R10 step 3, R355, R374). -/
def dropLate (s : State) : State := bump 0x380004 s

/-! ### The flow (R225, R331, R335) -/

/-- The flow of a packet has its entry; none where the table is full (R331). -/
def openFlow (h : Hdr) (s : State) : Option State :=
  match s.fab.dflow.find (hdrKey h) with
  | some _ => some s
  | none =>
    if flowEntries s < 327680 then some (setDFlow (hdrKey h) { DFlow.init with lastUs := nowUs s, job := h.job } s) else none

/-- A packet refused by the Ward: it is answered at once, and its flow passes its number (R10, R225). -/
def wardDeny (h : Hdr) (b : Body) (s : State) : State :=
  let s := faultAt 0 0 none h.dst s
  if isAnswer b ∧ h.vc = 2 then s
  else if !sequenced h.vc b then s
  else
    match openFlow h s with
    | none => s
    | some s =>
      let d := dflow s (hdrKey h)
      let off := (h.seq + 2 ^ 32 - d.next) % 2 ^ 32
      if off = 0 ∧ !d.open_ then refused h St.denied s
      else if 0 < off ∧ off ≤ 255 then
        sendAck h St.denied false (noteRefused h St.denied (setDFlow (hdrKey h) { d with held := d.held.ins h.seq none } s))
      else sendAck h St.denied false s

/-! ### What a packet does in its turn -/

/-- The counter that a packet names is not its partition's (R32, R42). -/
def ctrBad (s : State) (p : Nat) (c : Option Nat) : Bool :=
  match c with
  | some c => partOfCtr s c != some p
  | none => false

/-- The home's refusal of a request (R71). -/
def poolRefuse (h : Hdr) (b : Body) (st : Nat) (s : State) : State :=
  let s := if st = St.denied then fault 0 3 none h.dst St.denied s else s
  match b with
  | .read _ => sendData h 2 st [] [] (flowDone h (noteRefused h st s))
  | .atomic _ => sendData h 2 st [] [] (flowDone h (noteRefused h st s))
  | _ => refused h st s

/-- A partition in steps 2 to 6 of an epoch close refuses arriving writes (R52). -/
def closing (s : State) (p : Nat) : Bool := (part s p).closing.isSome

/-- The access that a request makes at its home. -/
def accessOf (h : Hdr) (port : Option (Fin 64)) (rd : Option Redirect) (addr : Nat) : Body → Option Access
  | .write b => some { who := .fabric h port, addr, ext := (extentOf (.write b)).getD 0, redirect := rd.map Redirect.origHome,
                       what := .write b.data b.mask b.ctr b.total }
  | .read b => some { who := .fabric h port, addr, ext := b.ext, redirect := rd.map Redirect.origHome, what := .read b.len b.kind }
  | .atomic b => some { who := .fabric h port, addr, ext := b.ext, redirect := rd.map Redirect.origHome,
                        what := .atomic b.op b.ty b.operand b.compare b.ctr }
  | _ => none

/-- The address that a request names at its home. -/
def addrOf : Body → Nat
  | .write b => (match b.dest with | .home a _ => a | .device a => a)
  | .read b => b.addr
  | .atomic b => b.addr
  | _ => 0

/-- The counter that a request names. -/
def ctrOf : Body → Option Nat
  | .write b => b.ctr
  | .atomic b => b.ctr
  | .signal c _ => some c
  | _ => none

/-- A write or an ATOMIC, which a closing partition refuses. -/
def isWrite : Body → Bool
  | .write _ => true
  | .atomic _ => true
  | .signal _ _ => true
  | _ => false

/-- A request of the pool in its turn: epoch, counter, admission, then the access. -/
def poolRequest (p : Nat) (h : Hdr) (port : Option (Fin 64)) (rd : Option Redirect) (b : Body) (addr : Nat) (s : State) : State :=
  match accessOf h port rd addr b with
  | none => landed h false s
  | some acc =>
    if isWrite b ∧ closing s p then poolRefuse h b St.closed s
    else if ctrBad s p (ctrOf b) then poolRefuse h b St.counter s
    else
      match admitAt s h.job addr acc.what.size (some acc.ext) acc.redirect with
      | .error st => poolRefuse h b st s
      | .ok (i, e) => access i e acc false s

/-- A write to accelerator memory (R26): posted writes, then a zero-length read after which the bytes are visible. -/
def deviceWrite (p att : Nat) (h : Hdr) (port : Option (Fin 64)) (b : WriteBody) (a : Nat) (s : State) : State :=
  dmaFence att a b.data.length (.landed h port p att b.ctr b.total) (dmaWrite att a b.data s)

/-- The mirror's answer to a read of words that the home cannot read (R60): its bytes, and which words it holds; a record tells of those that
it cannot read either (R59). -/
def mirrorAnswer (h : Hdr) (b : ReadBody) (e : Ext) (s : State) : State :=
  let a := e.base + b.addr
  let s := checkRead (some e.part) a b.len s
  let s := match badIn s a b.len with
    | [] => s
    | w :: ws => fault 6 3 (some e.part) (8 * w) (ws.length + 1) s
  sendData h 2 St.ok (poolBytes s a b.len) ((wordsOf a b.len).map (fun w => !badWord s w)) (flowDone h s)

/-- The number of a SHADOW entry: original source, channel, home (R337). -/
def shadowKey (src vc home : Nat) : Nat := (src * 8 + vc) * 8192 + home

/-- `a` is above `b`, modulo 2^32. -/
def seqAbove (a b : Nat) : Bool := decide (0 < (a + 2 ^ 32 - b) % 2 ^ 32) && decide ((a + 2 ^ 32 - b) % 2 ^ 32 < 2 ^ 31)

/-- The SHADOW entry of a flow passes a number (R337, R340). -/
def passShadow (create : Bool) (src vc home seq job : Nat) (s : State) : State :=
  let k := shadowKey src vc home
  let n := (seq + 1) % 2 ^ 32
  match s.fab.shadow.find k with
  | some (m, _) => if seqAbove n m then { s with fab := { s.fab with shadow := s.fab.shadow.ins k (n, job) } } else s
  | none => if create then { s with fab := { s.fab with shadow := s.fab.shadow.ins k (n, job) } } else s

/-- The mirror has room for what a forwarded write leaves there: an entry of the flow table for a flow whose SHADOW entry it begins, an entry
of the duplicate-suppression table for an ATOMIC (R331, R336, R337). -/
def mirrorRoom (s : State) (h : Hdr) (b : MirrorBody) : Bool :=
  match b.origin.src with
  | none => true
  | some x =>
    b.data = [] || !h.last ||
      (((s.fab.shadow.find (shadowKey x b.origin.vc b.home)).isSome || decide (flowEntries s < 327680))
        && (b.origin.old.isNone || decide (s.fab.dup.length < 131072)))

/-- The expected packet of a flow is discarded without acknowledgement; its source sends it again (R331). -/
def turnAway (h : Hdr) (s : State) : State := setDFlow (hdrKey h) { dflow s (hdrKey h) with open_ := false } s

/-- A mirror write in its turn (R83, R337): the bytes are written, and the SHADOW entry and the old value of an ATOMIC are kept. An origin
block without data is the forwarded CLOSE of a flow (log entry 28). -/
def mirrorApply (h : Hdr) (b : MirrorBody) (e : Ext) (s : State) : State :=
  let o := b.origin
  if b.data = [] then
    landed h false (match o.src with
      | some x => { s with fab := { s.fab with shadow := s.fab.shadow.del (shadowKey x o.vc b.home) } }
      | none => s)
  else
    let s := writeMem (e.base + b.off) b.data none s
    let s := match o.src with
      | some x => if h.last then passShadow true x o.vc b.home o.seq h.job s else s
      | none => s
    let s := match o.old with
      | some v => (match o.src with | some x => if h.last then addDup x o.wid v (s.now + 2 * reqTimeoutNs s e.part) h.job s else s | none => s)
      | none => s
    landed h false s

/-- A packet of a rebuild step in its turn (R85): words sent as poison are marked. With the last packet of the extent the copy is
whole. -/
def rebuildApply (h : Hdr) (b : RebuildBody) (n : Nat) (e : Ext) (s : State) : State :=
  let a := e.base + b.step * 2 ^ 20 + b.off
  let s := poisonWords (b.poisoned.map (fun o => (a + o) / 8)) (writeMem a b.data none s)
  let s := if (b.step + 1) * 2 ^ 20 = e.bytes ∧ b.off + b.data.length = 2 ^ 20 then setExt n { extRec s n with mv := true } s else s
  landed h false s

/-- The counter of a redirected operation rises at the new home with its LAST packet, applied or acknowledged (R340), where it is one of the
partition's (R32). -/
def redirDup (p : Nat) (h : Hdr) (b : Body) (s : State) : State :=
  let s := bump 0x60050 s
  if ctrBad s p (ctrOf b) then refused h St.counter s
  else match b with
  | .atomic x =>
    (match s.fab.dup.find (dupKey h.src h.wid) with
     | some (old, _, _) =>
       sendData h 2 St.ok (leBytes 8 old) [] (flowDone h (match x.ctr with | some c => raiseCtr c (atomWidth x.ty) s | none => s))
     | none => landed h false s)
  | .write w => landed h false (landCounter h w.ctr w.total s)
  | _ => landed h false s

/-- A redirected request in its turn (R108, R340): it waits while its record is still a mirror; what the mirror had applied before the loss is
a duplicate. -/
def redirectApply (p : Nat) (q : Pkt) (port : Option (Fin 64)) (r : Redirect) (s : State) : State :=
  match extentOf q.body with
  | none => refused q.h St.denied s
  | some x =>
    match promotedExt s r.origHome x with
    | none => { s with fab := { s.fab with redirWait := s.fab.redirWait ++ [(q, port)] } }
    | some (_, e) =>
      let old := match s.fab.shadow.find (shadowKey q.h.src q.h.vc r.origHome) with
        | some (n, _) => !r.fresh && seqAbove n r.origSeq
        | none => false
      let dupRead := match q.body with | .read _ => true | _ => false
      if old && !dupRead then redirDup p q.h q.body s
      else
        let s := if r.fresh ∨ r.piece = 1 then s else passShadow false q.h.src q.h.vc r.origHome r.origSeq q.h.job s
        poolRequest p q.h port q.rd q.body (e.base + addrOf q.body % e.bytes) s

/-- The modules that hold second copies for a job's extents homed here. -/
def secondsOf (s : State) (job : Nat) : List (Nat × Ext) :=
  let es := s.pool.ext.filter (fun e => e.2.kind == .home && e.2.job == job && (e.2.mirrored || e.2.st == .rebuilding))
  es.foldl (fun l e => if l.any (fun x => x.2.second == e.2.second) then l else l ++ [e]) []

/-- A CLOSE in its turn: the entry is freed, and the home forwards the CLOSE to the mirrors (R331, R337). -/
def closeApply (h : Hdr) (s : State) : State :=
  let s := landed h false s
  let s := { s with fab := { s.fab with dflow := s.fab.dflow.del (hdrKey h) } }
  if (endpoint s h.dst).kind = 1 then
    (secondsOf s h.job).foldl (fun s e =>
      let (wid, s) := takeWid s
      mirrorSend e.2.part e.2.second wid 24 true
        (.mirror ⟨e.2.home, e.2.eid, 0, [], ⟨some h.src, h.vc, h.seq, h.wid, true, none⟩⟩) s) s
  else s

/-! ### Multicast legs (R228, R229) -/

/-- An attachment of the mask takes the data: its partition is ACTIVE and bound, its ports are not in reset, the module admits. -/
def legTakes (s : State) (p a : Nat) : Bool :=
  (part s p).st == .active && boundTo s p a && !s.rep.leaving && !(attachPorts s a).any (fun n => (cxlPort s n).perst) && !closing s p

/-- The local deliveries of a leg of a multicast PUT. -/
def legPut (p : Nat) (h : Hdr) (port : Option (Fin 64)) (t : TreeEntry) (b : WriteBody) (s : State) : State :=
  let all := maskList t.attachMask
  let takes := if ctrBad s p b.ctr then [] else all.filter (legTakes s p)
  let s := if takes.length = all.length then s else legExcluded h s
  let s := if takes = [] then breakOp h s else s
  match runOf s h.tree h.src h.wid with
  | none => landed h false s
  | some r =>
    let s := setRun { r with localOpen := 1 + Nat.max 1 takes.length } s
    if takes = [] then legLanded h s else takes.foldl (fun s a => deviceWrite p a h port b (addrOf (.write b)) s) s

/-- Nothing to deliver, or a record that takes effect at once: the leg has landed. -/
def legNow (h : Hdr) (s : State) : State :=
  match runOf s h.tree h.src h.wid with
  | none => landed h false s
  | some r => legLanded h (setRun { r with localOpen := 2 } s)

/-- The run of a leg that has come: an old one, or a new one whose own legs take a WID of this module (R228, R332). -/
def legRun (h : Hdr) (t : TreeEntry) (s : State) : State :=
  if (runOf s h.tree h.src h.wid).isSome then s
  else
    let live := (usedBranches t).filter (fun x => !isLost s (endpoint s x.1).home)
    let (w, s) := takeWid s
    addRun { tree := h.tree, wid := h.wid, fwd := w, job := h.job, gen := h.gen, vc := h.vc, src := h.src, branches := live.map Prod.fst,
             localOpen := 1, excluded := live.length != (usedBranches t).length, echo := h.ce, q := none, rate := 64 * s.fab.ccMax,
             gotAck := false, gotEcho := false } s

/-- A leg's copy goes out on each branch that is not lost (R228). -/
def legCopies (p : Nat) (h : Hdr) (t : TreeEntry) (b : Body) (s : State) : State :=
  let own := (ownEpid s 2 0).getD 0
  let w := match runOf s h.tree h.src h.wid with | some r => r.fwd | none => h.wid
  ((usedBranches t).filter (fun x => !isLost s (endpoint s x.1).home)).foldl (fun s x =>
    sendFlow { h := { mkHdr s p own x.1 h.vc h.len w h.last with mc := true, tree := x.2, gen := h.gen }, rd := none, body := b, tr := .zero } s) s

/-- A leg in its turn: a copy on each branch, and the local deliveries. The Ward has judged it by its tree entry. -/
def legApply (p : Nat) (h : Hdr) (port : Option (Fin 64)) (b : Body) (s : State) : State :=
  let t := tree s h.tree
  let s := legRun h t s
  let s := if t.root then s else legCopies p h t b s
  match b with
  | .write w => legPut p h port t w s
  | .result w => if t.col then resultArrive h w s else legNow h s
  | b => legNow h (if t.col then recArrive h.job b s else s)

/-- A delivery report in its turn (R229, R233). -/
def reportApply (h : Hdr) (excluded : Bool) (s : State) : State :=
  let s := match s.fab.runs.find? (fun r => r.fwd == h.wid && r.branches.contains h.src) with
    | some r => branchDone r h.src excluded h.echo s
    | none => s
  landed h false s

/-! ### A packet in its turn -/

/-- The expected packet of its flow takes effect; `p` is the partition that the Ward found. -/
def applyPkt (p : Nat) (q : Pkt) (port : Option (Fin 64)) (s : State) : State :=
  let h := q.h
  match q.body, q.rd with
  | _, some r => redirectApply p q port r s
  | b, none =>
    if h.mc then legApply p h port b s
    else
      match b with
      | .write w =>
        (match w.dest with
         | .home a _ => poolRequest p h port none b a s
         | .device a =>
           if closing s p then refused h St.closed s
           else if ctrBad s p w.ctr then refused h St.counter s
           else deviceWrite p (endpoint s h.dst).attach h port w a s)
      | .read r =>
        if h.vc = 7 then (match mirrorExt s (endpoint s h.src).home r.ext with
          | some (_, e) => mirrorAnswer h r e s
          | none => poolRefuse h b St.denied s)
        else poolRequest p h port none b r.addr s
      | .atomic x => poolRequest p h port none b x.addr s
      | .signal c v =>
        if closing s p then refused h St.closed s
        else if ctrBad s p (some c) then refused h St.counter s
        else landed h false (raiseCtr c v s)
      | .reply st d v => landed h false (replyArrive h st d v s)
      | .report x => reportApply h x s
      | .close => closeApply h s
      | .mirror m =>
        (match mirrorExt s m.home m.ext with
         | some (_, e) => if mirrorRoom s h m then mirrorApply h m e s else turnAway h s
         | none => refused h St.denied s)
      | .rebuild m =>
        (match mirrorExt s m.home m.ext with
         | some (n, e) => rebuildApply h m n e s
         | none => refused h St.denied s)
      | .mctl m => mctlApply (endpoint s h.src).home h.job h.gen m (landed h true s)
      | .header k i l r c => landed h false (vertHeader h k i l r c s)
      | .chunk c => landed h false (vertChunk h c s)
      | .result r => resultArrive h r s
      | .a2aReport r => landed h false (a2aReported h r s)
      | .cause r => landed h false (causeArrive h r s)
      | .done r => landed h false (recArrive h.job (.done r) s)
      | .go r => landed h false (recArrive h.job (.go r) s)
      | .abort r => landed h false (recArrive h.job (.abort r) s)
      | .ack _ => s

/-- The expected packet of a flow is taken up. -/
def takeUp (p : Nat) (q : Pkt) (port : Option (Fin 64)) (s : State) : State :=
  let s := handOver port q.h s
  let d := dflow s (hdrKey q.h)
  applyPkt p q port (setDFlow (hdrKey q.h) { d with open_ := true, more := 0, lastUs := nowUs s, job := q.h.job } s)

/-- A duplicate of a packet that its flow has passed (R335). -/
def dupPkt (p : Nat) (q : Pkt) (port : Option (Fin 64)) (s : State) : State :=
  let h := q.h
  let s := bump 0x60050 s
  match (dflow s (hdrKey h)).refused.find h.seq with
  | some st =>
    (match q.body with
     | .read _ => sendData h 2 st [] [] s
     | .atomic _ => sendData h 2 st [] [] s
     | _ => sendAck h st false s)
  | none =>
    match q.body with
    | .read r =>
      (match q.rd with
       | some d => (match promotedExt s d.origHome r.ext with
         | some (_, e) => poolRequest p h port q.rd q.body (e.base + r.addr % e.bytes) s
         | none => s)
       | none =>
         if h.vc = 7 then (match mirrorExt s (endpoint s h.src).home r.ext with
           | some (_, e) => mirrorAnswer h r e s
           | none => s)
         else poolRequest p h port none q.body r.addr s)
    | .atomic _ =>
      (match s.fab.dup.find (dupKey h.src h.wid) with
       | some (old, _, _) => sendData h 2 St.ok (leBytes 8 old) [] s
       | none => s)
    | .mctl _ => sendAck h 0 true s
    | _ => sendAck h 0 false s

/-- A packet finds its place in its flow (R225, R252, R335). -/
def seqArrive (p : Nat) (q : Pkt) (port : Option (Fin 64)) (s : State) : State :=
  let h := q.h
  if h.close ∧ (s.fab.dflow.find (hdrKey h)).isNone ∧ h.seq ≠ 0 then
    sendReply { h := { answerHdr s h 2 0 h.wid with seq := (h.seq + 1) % 2 ^ 32 }, rd := none, body := .ack 0, tr := .zero } (bump 0x60050 s)
  else
    match openFlow h s with
    | none => s
    | some s =>
      let d := dflow s (hdrKey h)
      let off := (h.seq + 2 ^ 32 - d.next) % 2 ^ 32
      if 2 ^ 31 ≤ off then dupPkt p q port s
      else if 255 < off then bump 0x60020 s
      else if off = 0 ∧ !d.open_ then takeUp p q port (setDFlow (hdrKey h) { d with ce := if h.ce then d.ce ++ [h.seq] else d.ce } s)
      else if off = 0 ∨ (d.held.find h.seq).isSome then bump 0x60050 s
      else if reorderSize < pktCells q + reorderCells s then bump 0x80014 s
      else setDFlow (hdrKey h) { d with held := d.held.ins h.seq (some (q, port)), ce := if h.ce then d.ce ++ [h.seq] else d.ce } s

/-- A flow whose expected packet is held and may be taken up. -/
def heldReady (s : State) : Option (Nat × DFlow) :=
  s.fab.dflow.find? (fun e => !e.2.open_ && (e.2.held.find e.2.next).isSome)

/-- The held packet of a flow comes up: steps 2 and 3 of R10 judge it again (R225). -/
def heldStep (k : Nat) (d : DFlow) (s : State) : State :=
  let s := setDFlow k { d with held := d.held.del d.next } s
  match d.held.find d.next with
  | some (some (q, port)) =>
    (match ward s q.h q.rd q.body with
     | .pass p => takeUp p q port s
     | .clear => takeUp 0 q port s
     | .late => flowDone q.h (dropLate s)
     | .deny => refused q.h St.denied (fault 0 0 none q.h.dst St.denied s))
  | _ => setDFlow k { (dflow s k) with next := (d.next + 1) % 2 ^ 32 } s

/-- Held packets come up one after another, up to `n` of them. -/
def heldAll : Nat → State → State
  | 0, s => s
  | n + 1, s => match heldReady s with | some (k, d) => heldAll n (heldStep k d s) | none => s

/-- The packets held. -/
def heldCount (s : State) : Nat := s.fab.dflow.foldl (fun a e => a + e.2.held.length) 0

/-- Redirected requests whose record has been promoted go on (R108). -/
def redirGo (s : State) : State :=
  let due := s.fab.redirWait.filter (fun x => match x.1.rd, extentOf x.1.body with
    | some r, some e => (promotedExt s r.origHome e).isSome
    | _, _ => false)
  due.foldl (fun s x =>
    match x.1.rd, packetPart s x.1.h x.1.rd x.1.body with
    | some r, some p => redirectApply p x.1 x.2 r s
    | _, _ => s) { s with fab := { s.fab with redirWait := s.fab.redirWait.filter (fun x => !due.contains x) } }

/-! ### Arrival -/

/-- An unprotected refusal ends the operation whose WID it names on the flow that it answers (R503). -/
def unprotected (h : Hdr) (st : Nat) (s : State) : State :=
  match s.fab.reqs.find h.wid with
  | some r =>
    if h.vc = 2 ∧ h.len = 0 ∧ st = St.denied ∧ h.wid ≠ 0 ∧ r.src = h.dst ∧ r.dst = h.src then
      let k := flowKey h.dst h.src h.ackedVc
      let s := match s.fab.sflow.find k with
        | some f =>
          let rest := f.recs.filter (fun p => p.h.wid != h.wid)
          setFlow s k { f with recs := rest, acked := ackedOf f.next rest, queue := f.queue.filter (fun p => p.h.wid != h.wid) }
        | none => s
      let s := faultAt 0x1C 0 (some r.part) h.src s
      (match r.serves with
       | .mctl _ => mctlGone .denied h.wid s
       | .rebuild _ _ => s
       | _ => endReq h.wid St.denied s)
    else authFail (partOfJob s h.job) h s
  | none => authFail (partOfJob s h.job) h s

/-- A packet that has passed the Ward and its authentication. -/
def admitted (p : Nat) (q : Pkt) (port : Option (Fin 64)) (s : State) : State :=
  match q.body with
  | .ack st => ackArrive q.h st (handOver port q.h s)
  | .reply st d v => if q.h.vc = 2 then replyArrive q.h st d v (handOver port q.h s) else seqArrive p q port s
  | _ => seqArrive p q port s

/-- A packet of a fabric port, or of this module, for one of this module's EPIDs: the Ward, authentication, its flow. A packet for another
module is forwarded. One for an EPID that no entry holds is discarded in transit (R211); where it comes from this module, its Ward refuses it
(R24). -/
def arrive (q : Pkt) (port : Option (Fin 64)) (s : State) : State :=
  let s := match port with | some n => anaCopy n.val false q s | none => s
  if !(endpoint s q.h.dst).v then (if port.isSome then bump 0x60024 s else wardDeny q.h q.body s)
  else if !(endpoint s q.h.dst).isLocal then forward q s
  else
    match ward s q.h q.rd q.body with
    | .late => dropLate s
    | .deny => wardDeny q.h q.body s
    | .clear => if q.tr = .zero then admitted 0 q port s else authFail none q.h s
    | .pass p =>
      (match q.tr, q.body with
       | .zero, .ack st => unprotected q.h st s
       | _, _ => if authOk s p q then admitted p q port s else authFail (some p) q.h s)

end Sys2Proof.Machine
end

