-- ==== Sys2Proof/Machine/QuePump.lean ====
section
/-! DEFINITION. How bytes move: readiness and the scheduling contract (R138 to R142), demand walks (R102), tiles and their pre-check (R110,
R111, R143), pieces and their data (R144, R145, R309), their packets (R37, R130, R145), prefetch (R112, R146 to R148), and the module settling
after a command. -/

namespace Sys2Proof.Machine

/-! ### What a queue has to do (R37, R138) -/

/-- The tile engine that a queue holds. -/
def engineOf (s : State) (q : Nat) : Option (Nat × Engine) := s.qs.engines.find? (fun e => e.2.q == q)

/-- The member of a COLL. -/
def memOf (s : State) (q idx : Nat) : Option CMem := s.col.mems.find? (fun m => m.q == q && m.idx == idx)

/-- An ALL_TO_ALL that waits for GO (R177). -/
def awaitsGo (s : State) (q : Nat) (o : Op) : Bool :=
  match memOf s q o.idx with | some m => m.cop.collop == 6 && !m.going | none => false

/-- A descriptor that sends one packet and moves no bytes: ATOMIC or SIGNAL. -/
def Op.single (o : Op) : Bool := D.opcode o.d == 4 || D.opcode o.d == 7

/-- A started descriptor still has bytes to cut into packets, or its one packet to make. -/
def Op.moves (o : Op) : Bool := if o.single then !o.sent && o.fail.isNone else decide (o.cur < o.limit)

/-- A started descriptor has work for a tile engine now. -/
def works (s : State) (q : Nat) (o : Op) : Bool := o.moves && !awaitsGo s q o

/-- The blocks of an ALL_TO_ALL that waits for GO go on flows that a later descriptor may use (R37): those to its members' EPIDs, on VC3. -/
def blocksFlow (s : State) (q : Nat) (a o : Op) : Bool :=
  match memOf s q a.idx with
  | none => false
  | some m =>
    match s.col.grps.find m.ctx with
    | none => false
    | some g =>
      let theirs (e : Nat) : Bool := g.members.any (fun x => x.2 == e)
      match D.opcode o.d with
      | 7 => theirs (D.sigEpid o.d)
      | 8 => (match memOf s q o.idx with | some n => n.cop.collop == 6 | none => false)
      | 4 => false
      | _ => D.dstKind o.d == 2 && theirs (D.dstEpid o.d)

/-- The operation of a queue whose packets are made next: the first in ring order with work, but for one behind an ALL_TO_ALL that waits for GO
and shares a flow with it (R37, R177). -/
def nextOp (s : State) (q : Nat) : Option Op :=
  let x := que s q
  x.ops.find? (fun o => works s q o
    && (x.ops.takeWhile (fun a => a.idx != o.idx)).all (fun a => !(a.moves && awaitsGo s q a && blocksFlow s q a o)))

/-- A started descriptor is not complete behind which none starts (R38). -/
def Op.holds (o : Op) : Bool := [5, 6, 9].contains (D.opcode o.d)

/-- R136 lets a descriptor start: a completion slot for it and for every one in flight, and fewer than 64 in flight. -/
def slotFree (x : Que) : Bool := decide (x.used + x.ops.length + 1 ≤ 2 ^ x.cqLog2) && decide (x.ops.length < 64)

/-- The queue may start its next descriptor (R38, R52, R122, R136, R138, R342). -/
def mayStart (s : State) (q : Nat) : Bool :=
  let x := que s q
  x.st == .running && x.head != x.tail && !x.ops.any Op.holds && slotFree x && (part s x.part).st == .active
    && (part s x.part).closing.isNone && !s.rep.leaving

/-- The queue is ready. -/
def queReady (s : State) (q : Nat) : Bool :=
  let x := que s q
  (x.st != .disabled && ((nextOp s q).isSome || !x.pieces.isEmpty)) || mayStart s q

/-- The ready queues that hold no engine. -/
def readyList (s : State) : List Nat :=
  ((s.qs.ctx.map Prod.fst).filter (fun q => queReady s q && (engineOf s q).isNone))

/-- The queue that the contract serves next: of the lowest class with a ready queue, the next in ascending number after the last served,
beginning again at the lowest (R140, R141). -/
def nextQueue (s : State) : Option Nat :=
  let rs := readyList s
  match (List.range 4).find? (fun c => rs.any (fun q => (que s q).cls == c)) with
  | none => none
  | some c =>
    let l := rs.filter (fun q => (que s q).cls == c)
    match s.qs.pointer.find c with
    | none => l.head?
    | some p => (match l.find? (fun q => decide (p < q)) with | some q => some q | none => l.head?)

/-- Bytes of a quantum (R139). -/
def quantum (x : Que) : Nat := x.weight * 65536

/-- `n` bytes count against the quantum that a queue holds. -/
def spend (q n : Nat) (s : State) : State :=
  match engineOf s q with
  | some (e, g) => { s with qs := { s.qs with engines := s.qs.engines.ins e { g with left := g.left - n } } }
  | none => s

/-- Bytes of a queue cut into packets and not yet sent. -/
def unsent (x : Que) : Nat := x.pieces.foldl (fun n p => n + p.len) 0

/-! ### Demand walks (R102) -/

/-- A demand for a page waits for a walk: it joins one in flight, or starts one where a slot is free. -/
def askWalk (p page : Nat) (join : Walk → Walk) (s : State) : State :=
  if s.xlt.walks.any (fun w => w.part == p && w.page == page) then
    { s with xlt := { s.xlt with walks := s.xlt.walks.map (fun w => if w.part = p ∧ w.page = page then join { w with pf := false } else w) } }
  else if 256 ≤ s.xlt.walks.length then s
  else
    emit (.walk p (page * 65536))
      { s with xlt := { s.xlt with walks := s.xlt.walks ++ [join ⟨p, page, (part s p).invSeq, false, [], []⟩] } }

/-- A descriptor waits for a walk. -/
def opWalk (q idx p page : Nat) (s : State) : State :=
  askWalk p page (fun w => if w.ops.contains (q, idx) then w else { w with ops := w.ops ++ [(q, idx)] }) s

/-! ### Tiles (R110, R111, R143) -/

/-- The descriptor as its pre-check sees it: a COLL's destination is not a side of its tiles. -/
def tileDesc (d : Desc) : Desc := if D.opcode d = 8 then { d with w3 := d.w3 &&& ~~~(12#64) } else d

/-- The operation has another tile to pre-check. -/
def Op.moreTiles (o : Op) : Bool := !o.single && o.fail.isNone && decide (o.checked < o.total)

/-- The operation whose next tile the engine pre-checks: while one tile moves, the next of the same queue (R143). -/
def nextCheck (s : State) (q : Nat) : Option Op :=
  match nextOp s q with
  | none => none
  | some o =>
    if o.moreTiles then (if o.checked = o.tile then some o else none)
    else ((((que s q).ops.dropWhile (fun x => x.idx != o.idx)).drop 1).find? (fun x => works s q x)).filter (fun x => x.moreTiles && x.checked == 0)

/-- What the pre-check of an operation's next tile knows. -/
def checkLook (s : State) (q : Nat) (o : Op) : Look := lookOf s (que s q).part o.tr

/-- The page whose translation the pre-check still lacks. -/
def checkNeeds (s : State) (q : Nat) (o : Op) : Option Nat := tileNeeds (checkLook s q o) (tileDesc o.d) o.total o.checked

/-- The cached translations that a tile uses are the most recent, and prefetched no more. -/
def hitTile (s : State) (p : Nat) (gs : List Pg) : State :=
  gs.foldl (fun s g => match cached s p (g.base / 65536) with | some c => hitLeaf c s | none => s) s

/-- The next tile of an operation is pre-checked (R110, R111): a tile that fails moves no byte, and an operation that has moved none counts 64
(R139). -/
def checkTile (q : Nat) (o : Op) (s : State) : State :=
  let p := (que s q).part
  let look := checkLook s q o
  let d := tileDesc o.d
  let home := match o.home with | some m => some m | none => if D.cnt o.d then destHome look d else none
  let n := tileLen look d o.total o.checked
  match precheck look s.sys.moduleId d o.total o.checked n home with
  | some (st, a) =>
    let s := if st = St.rights then fault 1 0 (some p) a st s else s
    let s := if o.checked = 0 then spend q 64 s else s
    tryFinish q o.idx (failOpAt q o.idx o.checked st a s)
  | none =>
    let b := bothSides look (shapeOf d o.total) d o.checked n
    let hi := o.checked + n
    let tr := o.tr.filter (fun t => t.hi != 0) ++ (b.1 ++ b.2).flatMap (fun g => g.keep s p hi o.tr)
    setOp q { o with checked := hi, tile := if o.cur = o.tile then hi else o.tile, tr := tr, home := home } (hitTile s p (b.1 ++ b.2))

/-! ### Pieces (R145) -/

/-- Where the source of byte `c` of an operation lies. -/
def pieceSrc (o : Op) (c : Nat) : Nat := if D.opcode o.d = 8 then D.srcAddr o.d + c else srcAt o c

/-- The length of the packet that begins at byte `c`: at most 4,096 bytes, within its tile, its row and its destination's 4 KiB; a collective's,
within its chunk or block. -/
def pieceLen (m : Option CMem) (o : Op) (c : Nat) : Nat :=
  let n := Nat.min 4096 (Nat.min o.tile o.limit - c)
  match m with
  | some m =>
    if m.cop.collop = 6 then (let b := Nat.max 1 (collBytes m.cop m.cop.elements); Nat.min n (b - c % b))
    else (let k := Nat.max 1 (collChunk m.cop); Nat.min n (k - c % k))
  | none =>
    let g := shapeOf o.d o.total
    Nat.min (Nat.min n (g.x - c % g.x)) (4096 - dstAt o c % 4096)

/-- The reads that bring bytes `c` to `c + n − 1` of an operation: within one 4 KiB block of accelerator memory (R309), or one 64 KiB page. -/
def readsOf (o : Op) : Nat → Nat → Nat → List SrcRead
  | 0, _, _ => []
  | k + 1, c, n =>
    if n = 0 then []
    else
      let u := if D.srcKind o.d = 1 then 65536 else 4096
      let m := Nat.min n (u - pieceSrc o c % u)
      ⟨c, m, none⟩ :: readsOf o k (c + m) (n - m)

/-- A segment of the queue that holds a range of a source (R147, R149). -/
def segData (s : State) (q p a n : Nat) : Option Bytes :=
  match s.qs.segs.find? (fun x => x.q == q && x.part == p && x.page == a / 65536) with
  | none => none
  | some g =>
    let o := a % 65536
    if (List.range ((o + n - 1) / 256 + 1 - o / 256)).all (fun k => (g.valid[o / 256 + k]?).getD false) then some ((g.data.drop o).take n)
    else none

/-- The attachment EPID of a queue (R37). -/
def queEpid (s : State) (x : Que) : Option Nat := ownEpid s 0 x.attach

/-- Source bytes are read: from accelerator memory, from a segment, from the local pool, or by a request (R145), with the translation of the
pre-check (R12). -/
def fetchPiece (q : Nat) (o : Op) (off len : Nat) (s : State) : State :=
  let x := que s q
  let a := pieceSrc o off
  if D.srcKind o.d = 0 then dmaRead x.attach a len (.piece q o.idx off a) s
  else
    match (if D.opcode o.d = 2 ∨ D.opcode o.d = 3 then segData s q x.part a len else none) with
    | some d => pieceData q o.idx off d s
    | none =>
      match tileLeaf o off a with
      | some (lv, l) =>
        (match targetOf s a lv l with
         | .error st => pieceFail q o.idx off st (failAddr o.d st a) s
         | .ok t =>
           if t.mod = s.sys.moduleId ∧ t.rd = none then
             (match admitAt s (part s x.part).prm.jobTag t.addr len (some t.ext) none with
              | .ok (i, e) =>
                access i e { who := .queue q o.idx off, addr := t.addr, ext := t.ext, redirect := none, what := .read len .get } false s
              | .error st => pieceFail q o.idx off st (failAddr o.d st a) (fault 0 3 (some x.part) t.addr st s))
           else
             (let (wid, s) := takeWid s
              let src := (queEpid s x).getD 0
              let s := addReq wid ⟨src, t.epid, 1, x.part, t.mod, t.ext, .piece q o.idx off⟩ s
              sendFlow { h := mkHdr s x.part src t.epid 1 (if t.rd.isSome then 8 else 0) wid true, rd := t.rd,
                         body := .read ⟨t.addr, t.ext, len, .get⟩, tr := .zero } s))
      | none => pieceFail q o.idx off St.unmapped a s

/-- The next piece of an operation is cut and its source read; with the last of its tile the next tile begins. -/
def cutPiece (q : Nat) (o : Op) (s : State) : State :=
  let n := pieceLen (memOf s q o.idx) o o.cur
  let x := que s q
  let reads := readsOf o 4097 o.cur n
  let o' := { o with cur := o.cur + n, tile := if o.cur + n = o.tile then o.checked else o.tile }
  let s := setOp q o' (setQue s q { x with pieces := x.pieces ++ [⟨o.idx, o.cur, n, reads⟩] })
  reads.foldl (fun s r => fetchPiece q o r.off r.len s) s

/-! ### Packets -/

/-- Bytes handed on. -/
def opMoved (q idx n : Nat) (s : State) : State := onOp q idx (fun o => { o with moved := o.moved + n }) s

/-- A packet of a PUT or COPY-TILE goes out. -/
def putPacket (q : Nat) (o : Op) (src dst home ext : Nat) (rd : Option Redirect) (dest : Dest) (off : Nat) (data : Bytes) (s : State) : State :=
  let x := que s q
  let ctr := if D.cnt o.d then some (D.counter o.d) else none
  let len := data.length + (if rd.isSome then 8 else 0)
  let h := mkHdr s x.part src dst 3 len o.wid (off + data.length == o.total)
  let s := addReq o.wid ⟨src, dst, 3, x.part, home, ext, .op q o.idx⟩ s
  let s := onOp q o.idx (fun o => { o with open_ := o.open_ + 1, moved := o.moved + data.length }) s
  let p : Pkt := { h, rd, body := .write ⟨dest, data, none, ctr, o.total⟩, tr := .zero }
  match rd with
  | some r =>
    let ps := redirected r.origHome dst true { p with rd := none, h := { h with len := data.length } }
    let s := if ps.length = 2 then opMore o.wid s else s
    ps.foldl (fun s p => sendFlow p s) s
  | none => sendFlow p s

/-- A piece whose data is here moves on (R130). -/
def sendBytes (q : Nat) (o : Op) (off : Nat) (data : Bytes) (s : State) : State :=
  let x := que s q
  let src := (queEpid s x).getD 0
  match memOf s q o.idx with
  | some m =>
    (match s.col.grps.find m.ctx with
     | some g =>
       let s := setMem { m with sent := m.sent + data.length } s
       if m.cop.collop = 6 then
         let s := addReq o.wid ⟨src, 0, 3, x.part, s.sys.moduleId, 0, .op q o.idx⟩ s
         blockOut m g o.wid off data (onOp q o.idx (fun o => { o with open_ := o.open_ + 1 }) s)
       else contribute m g off data s
     | none => s)
  | none =>
    let a := dstAt o off
    match D.dstKind o.d with
    | 0 =>
      let s := opMoved q o.idx data.length (dmaWrite x.attach a data s)
      let ps := dmaPorts s x.attach a data.length
      onOp q o.idx (fun o => { o with ports := o.ports ++ ps.filter (fun p => !o.ports.contains p) }) s
    | 1 =>
      (match tileLeaf o off a with
       | some (lv, l) =>
         (match targetOf s a lv l with
          | .error st => failOpAt q o.idx off st (failAddr o.d st a) s
          | .ok t =>
            if D.opcode o.d = 2 then
              (match admitAt s (part s x.part).prm.jobTag t.addr data.length (some t.ext) none with
               | .ok (i, e) =>
                 let s := onOp q o.idx (fun o => { o with open_ := o.open_ + 1, moved := o.moved + data.length }) s
                 access i e { who := .queue q o.idx off, addr := t.addr, ext := t.ext, redirect := none, what := .write data none none 0 } false s
               | .error st => failOpAt q o.idx off st (failAddr o.d st a) (fault 0 3 (some x.part) t.addr st s))
            else putPacket q o src t.epid t.mod t.ext t.rd (.home t.addr t.ext) off data s)
       | none => failOpAt q o.idx off St.unmapped a s)
    | 2 =>
      let e := endpoint s (D.dstEpid o.d)
      if !e.v then failOpAt q o.idx off St.denied (failAddr o.d St.denied a) s
      else if isLost s e.home then failOpAt q o.idx off St.aborted 0 s
      else putPacket q o src (D.dstEpid o.d) e.home 0 none (.device a) off data s
    | _ =>
      let s := onOp q o.idx (fun o => { o with open_ := 1, moved := o.moved + data.length }) s
      let ctr := if D.cnt o.d then some (D.counter o.d) else none
      let last := off + data.length == o.total
      let s := addReq o.wid ⟨src, 0, 3, x.part, s.sys.moduleId, 0, .op q o.idx⟩ s
      let s := mcSend sendFlow (D.treeNo o.d) x.part src 3 data.length o.wid last (.write ⟨.device a, data, none, ctr, o.total⟩) (some (q, o.idx)) s
      if last then (match runOf s (D.treeNo o.d) src o.wid with | some r => runCheck r s | none => s) else s

/-- A SIGNAL's packet goes out on VC3 (R25, R211). -/
def sendSignal (q : Nat) (o : Op) (s : State) : State :=
  let x := que s q
  let src := (queEpid s x).getD 0
  let dst := D.sigEpid o.d
  let e := endpoint s dst
  if !e.v then checkFences q (complete q o.idx St.denied 0 (ctrResult (D.counter o.d) dst) s)
  else if isLost s e.home then checkFences q (complete q o.idx St.aborted 0 0 s)
  else
    let s := addReq o.wid ⟨src, dst, 3, x.part, e.home, 0, .op q o.idx⟩ s
    sendFlow { h := mkHdr s x.part src dst 3 0 o.wid true, rd := none, body := .signal (D.counter o.d) (D.value o.d), tr := .zero } s

/-- An ATOMIC's request goes to the home on VC1 (R25, R29, R107), with the translation of its pre-check. -/
def sendAtomic (q : Nat) (o : Op) (s : State) : State :=
  let x := que s q
  let src := (queEpid s x).getD 0
  let a := D.atomAddr o.d
  match tileLeaf o 0 a with
  | none => checkFences q (complete q o.idx St.unmapped 0 a s)
  | some (lv, l) =>
    match targetOf s a lv l with
    | .error st => checkFences q (complete q o.idx st 0 (failAddr o.d st a) s)
    | .ok t =>
      let ctr := if D.cnt o.d then some (D.counter o.d) else none
      let s := addReq o.wid ⟨src, t.epid, 1, x.part, t.mod, t.ext, .op q o.idx⟩ s
      let b : AtomBody := { addr := t.addr, ext := t.ext, op := D.atomOp o.d, ty := D.atomType o.d, operand := D.operand o.d,
                            compare := D.compare o.d, ctr }
      let len := if t.rd.isSome then 24 else 16
      sendFlow { h := mkHdr s x.part src t.epid 1 len o.wid true, rd := t.rd, body := .atomic b, tr := .zero } s

/-- A piece goes out. -/
def sendPiece (q : Nat) (o : Op) (off : Nat) (data : Bytes) (s : State) : State :=
  match D.opcode o.d with
  | 4 => sendAtomic q o s
  | 7 => sendSignal q o s
  | _ => sendBytes q o off data s

/-- The pieces of a queue go out in ring order while its quantum lasts and their data is here (R37, R139). -/
def flushQueue (q : Nat) : Nat → State → State
  | 0, s => s
  | n + 1, s =>
    let x := que s q
    match x.pieces, engineOf s q with
    | p :: ps, some (_, g) =>
      if g.left = 0 then s
      else
        (match x.op p.idx, p.data with
         | none, _ => flushQueue q n (setQue s q { x with pieces := ps })
         | some o, some d => flushQueue q n (tryFinish q p.idx (sendPiece q o p.off d (spend q p.len (setQue s q { x with pieces := ps }))))
         | some _, none => s)
    | _, _ => s

/-- An ATOMIC's page is checked as a tile is, and then its request is made (R25, R29, R111, R132); a SIGNAL needs no check. -/
def makeSingle (q : Nat) (o : Op) (s : State) : State :=
  let x := que s q
  let made (o : Op) (s : State) : State := setOp q { o with sent := true } (setQue s q { x with pieces := x.pieces ++ [⟨o.idx, 0, 0, []⟩] })
  if D.opcode o.d = 7 then made o s
  else
    let a := D.atomAddr o.d
    let g := pageOf (checkLook s q o) a
    match g.xl with
    | some (.leaf _ l) =>
      if !Leaf.a l then checkFences q (complete q o.idx St.rights 0 a (fault 1 0 (some x.part) a St.rights s))
      else made { o with tr := g.keep s x.part 1 o.tr } (hitTile s x.part [g])
    | some .unmapped => checkFences q (complete q o.idx St.unmapped 0 a s)
    | some .poison => checkFences q (complete q o.idx St.poison 0 a s)
    | none => s

/-- The page that an ATOMIC still has to look up. -/
def singleNeeds (s : State) (q : Nat) (o : Op) : Option Nat :=
  if D.opcode o.d = 4 ∧ (checkLook s q o (D.atomAddr o.d / 65536)).isNone then some (D.atomAddr o.d / 65536) else none

/-- One step of a queue's engine, if there is one to take: a packet's worth is cut, the one packet of an ATOMIC or SIGNAL made, or the next tile
pre-checked. -/
def pumpStep (q : Nat) (s : State) : Option State :=
  match engineOf s q, nextOp s q with
  | some (_, g), some o =>
    if g.left = 0 then none
    else if o.single then (if (singleNeeds s q o).isNone then some (makeSingle q o s) else none)
    else if o.cur < o.tile ∧ unsent (que s q) < g.left then some (cutPiece q o s)
    else match nextCheck s q with
      | some c => if (checkNeeds s q c).isNone then some (checkTile q c s) else none
      | none => none
  | _, _ => none

/-- The page that a queue's engine waits for, and for which descriptor. -/
def pumpNeeds (s : State) (q : Nat) : Option (Nat × Nat) :=
  match engineOf s q, nextOp s q with
  | some (_, g), some o =>
    if g.left = 0 then none
    else if o.single then (singleNeeds s q o).map (fun n => (o.idx, n))
    else match nextCheck s q with
      | some c => (checkNeeds s q c).map (fun n => (c.idx, n))
      | none => none
  | _, _ => none

/-- A queue moves bytes while its quantum lasts (R139); then it asks for the walk that it waits for. -/
def pumpQueue (q : Nat) : Nat → State → State
  | 0, s => s
  | n + 1, s =>
    let s := flushQueue q ((que s q).pieces.length + 1) s
    match pumpStep q s with
    | some s => pumpQueue q n s
    | none => match pumpNeeds s q with | some (idx, page) => opWalk q idx (que s q).part page s | none => s

/-! ### Prefetch (R112, R146 to R148) -/

/-- Segments that a queue's prefetcher holds. -/
def segCount (s : State) (q : Nat) : Nat := (s.qs.segs.filter (fun x => x.q == q)).length

/-- A segment ahead is requested, where its translation is at hand: 4,096 bytes a request on VC1 (R147). No queue holds more than DATA_DEPTH
segments, and the module no more than 6,144 (R13). -/
def prefetchSeg (q : Nat) (o : Op) (page : Nat) (s : State) : State :=
  let x := que s q
  if segCount s q < dataDepth s ∧ s.qs.segs.length < 6144 ∧ !s.qs.segs.any (fun g => g.q == q && g.part == x.part && g.page == page) then
    match cached s x.part page, queEpid s x with
    | some c, some src =>
      (match targetOf s (page * 65536) c.level c.leaf with
       | .ok t =>
         if t.rd.isSome ∨ !Leaf.r c.leaf then s
         else
           let g : Seg := { q, idx := o.idx, part := x.part, page, home := t.mod, ext := t.ext, data := zeroBytes 65536,
                            valid := List.replicate 256 false }
           let s := hitLeaf c { s with qs := { s.qs with segs := s.qs.segs ++ [g] } }
           (List.range 16).foldl (fun s k =>
             let (wid, s) := takeWid s
             let s := addReq wid ⟨src, t.epid, 1, x.part, t.mod, t.ext, .prefetch⟩ s
             let f : Prefetch := { q, idx := o.idx, part := x.part, page, off := 4096 * k, home := t.mod, ext := t.ext, cancelled := false }
             sendFlow { h := mkHdr s x.part src t.epid 1 0 wid true, rd := none,
                        body := .read ⟨t.addr + 4096 * k, t.ext, 4096, .prefetch⟩, tr := .zero }
               { s with qs := { s.qs with pf := s.qs.pf.ins wid f } }) s
       | .error _ => s)
    | _, _ => s
  else s

/-- Walks that prefetchers hold in flight. -/
def pfWalkCount (s : State) : Nat := (s.xlt.walks.filter (fun w => w.pf)).length

/-- A translation ahead is walked (R112), in a slot that no demand wants (R114). -/
def prefetchWalk (p page : Nat) (s : State) : State :=
  if (cached s p page).isSome ∨ s.xlt.walks.any (fun w => w.part == p && w.page == page) ∨ pfWalks s ≤ pfWalkCount s ∨ 256 ≤ s.xlt.walks.length
  then s
  else emit (.walk p (page * 65536)) { s with xlt := { s.xlt with walks := s.xlt.walks ++ [⟨p, page, (part s p).invSeq, true, [], []⟩] } }

/-- The pages of the next `k` tiles of an operation from byte `c` on, and the tiles left: what is not yet known counts as 64 KiB pages. -/
def aheadPages (look : Look) (d : Desc) (total : Nat) : Nat → Nat → List Nat × Nat
  | 0, _ => ([], 0)
  | k + 1, c =>
    if total ≤ c then ([], k + 1)
    else
      let n := Nat.max 1 (tileLen look d total c)
      let b := bothSides look (shapeOf d total) d c n
      let (ps, left) := aheadPages look d total k (c + n)
      ((b.1 ++ b.2).map (fun g => g.base / 65536) ++ ps, left)

/-- The descriptors that a prefetcher runs ahead on: those started with bytes to move, none behind a WAIT, FENCE or EPOCH-CLOSE (R112, R147). -/
def aheadOps (x : Que) : List Op := (x.ops.takeWhile (fun o => !o.holds)).filter (fun o => o.moves && !o.single)

/-- The translations of the tiles to come, up to DEPTH tiles of a queue. -/
def prefetchTiles (q : Nat) (s : State) : State :=
  let x := que s q
  ((aheadOps x).foldl (fun (acc : State × Nat) o =>
    let look := lookOf acc.1 x.part o.tr
    let (ps, left) := aheadPages look (tileDesc o.d) o.total acc.2 o.checked
    (ps.foldl (fun s n => prefetchWalk x.part n s) acc.1, left)) (s, pfDepth s)).1

/-- The 64 KiB pages of an operation's source from byte `c` on, at most `k` of them. -/
def sourcePages (o : Op) (c k : Nat) : List Nat :=
  match srcFva o.d with
  | none => []
  | some b =>
    let g := shapeOf o.d o.total
    ((rowPages (fun _ => some .unmapped) g g.srcOff b ((o.total - c) / g.x + 2) c (o.total - c) []).map (fun x => x.base / 65536)).take k

/-- The stream prefetcher of a queue runs ahead of its tile engine: pool data for the FVA sources of GETs and COPY-TILEs, and translations. -/
def prefetch (q : Nat) (s : State) : State :=
  if !(s.qs.fetchers.find q).isSome then s
  else
    let x := que s q
    let s := ((aheadOps x).filter (fun o => D.opcode o.d == 2 || D.opcode o.d == 3)).foldl (fun s o =>
      (sourcePages o o.cur (dataDepth s)).foldl (fun s n => prefetchSeg q o n s) s) s
    prefetchTiles q s

/-- Prefetchers run in the order of their queues; one whose queue is no longer ready is free again (R146). -/
def prefetchAll (s : State) : State :=
  let s := { s with qs := { s.qs with fetchers := s.qs.fetchers.keep (fun q _ => queReady s q) } }
  s.qs.fetchers.foldl (fun s e => prefetch e.1 s) s

/-! ### The module settles -/

/-- Something that waited in the pool or in a flow can go on. -/
def stirs (s : State) : Bool :=
  (heldReady s).isSome || someReady s [] s.pool.waits
    || s.fab.redirWait.any (fun x => match x.1.rd, extentOf x.1.body with
        | some r, some e => (promotedExt s r.origHome e).isSome
        | _, _ => false)

/-- Accesses, held packets and redirected requests that can go on go on. -/
def react : Nat → State → State
  | 0, s => s
  | n + 1, s =>
    if stirs s then react n (redirGo (heldAll (heldCount s) (retryWaits s.pool.waits.length s))) else s

/-- What waits, and so how often something can go on. -/
def waiting (s : State) : Nat := s.pool.waits.length + heldCount s + s.fab.redirWait.length

/-- How many steps a queue's engine may take before its quantum or its work ends. -/
def pumpFuel (s : State) (e : Engine) : Nat := 4 * e.left + 2 * (que s e.q).ops.length + 4

/-- Every queue with an engine moves. -/
def pumpAll (s : State) : State := s.qs.engines.foldl (fun s e => pumpQueue e.2.q (pumpFuel s e.2) s) s

/-- After a command of the data path the module does all that has become possible. -/
def kick (s : State) : State :=
  let s := react (waiting s + 1) s
  let s := colKick (pumpAll (offerAll (pushAll (redirectAll s))))
  react (waiting s + 1) s

end Sys2Proof.Machine
end

