-- ==== Sys2Proof/Machine/HostOps.lean ====
section
/-! DEFINITION. What a host's accesses share: decoders (R300, R301), acceptance (R304), the demand walk (R102, R113), the access itself
(R10, R25, R40, R81, R107), requests held at a port (R294, R40), and the ends of CXL.io reads (R26, R137, R310). -/

namespace Sys2Proof.Machine

/-! ### Decoders (R300, R301) -/

/-- The bytes of a Dynamic Capacity region (R303). -/
def regionBytes : Nat := 2 ^ 50

/-- Decoder `r` of a port, where it is committed and covers an address. -/
def covers (d : Option Decoder) (hpa : Nat) : Bool :=
  match d with
  | some d => decide (d.base ≤ hpa) && decide (hpa < d.base + d.size)
  | none => false

/-- The first committed decoder of a port that covers a host physical address. -/
def decoderOf (s : State) (port hpa : Nat) : Option (Nat × Decoder) :=
  ((cxlPort s port).dec.zipIdx.find? (fun d => covers d.1 hpa)).bind (fun d => d.1.map (fun x => (d.2, x)))

/-- The interleave bits of a request select the port's own position (R301). -/
def onPosition (d : Decoder) (hpa : Nat) : Bool := hpa / d.gran % d.ways == d.pos

/-- The record by which an extent is presented at this module to an attachment, at an FVA of a partition (R304). -/
def presentedAt (s : State) (p att fva : Nat) : Option (Nat × Ext) :=
  s.pool.ext.find? (fun e => e.2.st != .free && e.2.kind != .mirror && e.2.part == p && bitOf e.2.mask att && decide (e.2.fva ≤ fva)
    && decide (fva < e.2.fva + e.2.bytes))

/-- The host of the attachment has accepted the extent at the FVA (R304). -/
def acceptedAt (s : State) (p att fva : Nat) : Bool :=
  match presentedAt s p att fva with
  | some (_, e) => bitOf e.accepted att
  | none => false

/-! ### A request's operands -/

/-- The load or store of a waiting CXL.mem request. -/
def HostAcc.isLoad (a : HostAcc) : Bool := a.store.isNone

/-- The first address of the line that a request names (R25). -/
def lineAddr (hpa : Nat) : Nat := hpa / 64 * 64

/-- The bytes of a store's line. -/
def StoreArgs.bytes (x : StoreArgs) : Bytes := (x.data ++ zeroBytes 64).take 64

/-- The byte mask of a partial store; a full line has none (R25). -/
def StoreArgs.part (x : StoreArgs) : Option (List Bool) :=
  if x.mask = [] ∨ x.mask = List.replicate 64 true then none else some ((x.mask ++ List.replicate 64 false).take 64)

/-- What a request does at its home. -/
def HostAcc.what (a : HostAcc) : What :=
  match a.store with
  | none => .read 64 .load
  | some x => .write x.bytes x.part none 64

/-- The command of a request, as a port holds it. -/
def HostAcc.cmd (a : HostAcc) : Instr :=
  match a.store with
  | none => .cxlMemLoad a.m a.snp
  | some x => .cxlMemStore a.m x.mask x.data x.mv

def HostAcc.meta (a : HostAcc) : MetaVal := match a.store with | some x => x.mv | none => .any

/-- A request waits at its port: while the link retrains (R294), for credit (R40, R411), or for a walk (R102). -/
def hostHold (a : HostAcc) (s : State) : State :=
  let c := cxlPort s a.m.port.val
  setCxl s a.m.port.val { c with held := c.held ++ [a.cmd] }

/-- A request fails (R32). -/
def hostRefuse (a : HostAcc) (p : Option Nat) (st : Nat) (s : State) : State := hostFail a.m a.isLoad p st s

/-! ### The access -/

/-- The CXL.mem requests of a port whose home is remote and that are outstanding (R40). -/
def remoteOpen (s : State) (port : Fin 16) : Nat :=
  (s.fab.reqs.filter (fun r => match r.2.serves with
    | .load m _ _ _ _ => m.port == port
    | .store m _ _ _ => m.port == port
    | _ => false)).length

/-- A request goes to its remote home (R25, R40, R107). -/
def hostRemote (a : HostAcc) (p att : Nat) (u : Use) (t : Target) (s : State) : State :=
  match ownEpid s 0 att with
  | none => hostRefuse a (some p) St.denied s
  | some src =>
    if 1024 ≤ remoteOpen s a.m.port then hostHold a s
    else
      let (wid, s) := takeWid s
      let serves := if a.isLoad then For.load a.m a.snp att p u else For.store a.m att p u
      let s := addReq wid ⟨src, t.epid, 1, p, t.mod, t.ext, serves⟩ s
      let body := match a.store with
        | none => Body.read ⟨t.addr, t.ext, 64, .load⟩
        | some x => Body.write ⟨.home t.addr t.ext, x.bytes, x.part, none, 64⟩
      let len := (if a.isLoad then 0 else 64) + (if t.rd.isSome then 8 else 0)
      sendFlow { h := mkHdr s p src t.epid 1 len wid true, rd := t.rd, body, tr := .zero } s

/-- A request at its home in this module: admission (R71), a severed attachment (R81), the access. -/
def hostLocal (a : HostAcc) (p att : Nat) (u : Use) (t : Target) (s : State) : State :=
  match admitAt s (part s p).prm.jobTag t.addr 64 (some t.ext) none with
  | .error st => hostRefuse a (some p) st (if st = St.denied then fault 0 3 (some p) t.addr St.denied s else s)
  | .ok (i, e) =>
    if e.coherent && s.pool.severed.contains att then severedAccess a.m a.isLoad s
    else
      access i e { who := .host a.m att a.snp a.meta, addr := t.addr, ext := t.ext, redirect := none, what := a.what, used := some u } false s

/-- A request with its translation (R10 step 4, R107). -/
def hostLeaf (a : HostAcc) (p att fva lv : Nat) (l : BitVec 128) (seq : Nat) (s : State) : State :=
  if !(if a.isLoad then Leaf.r l else Leaf.w l) then hostRefuse a (some p) St.rights (fault 1 0 (some p) fva St.rights s)
  else
    match targetOf s fva lv l with
    | .error st => hostRefuse a (some p) st s
    | .ok t =>
      let u : Use := ⟨p, fva / 65536 - fva / 65536 % pagesAt lv, lv, seq⟩
      if t.mod = s.sys.moduleId ∧ t.rd = none then hostLocal a p att u t s else hostRemote a p att u t s

/-- A request that its Ward has admitted: the translation cache, or a demand walk that it starts or waits for (R102). -/
def hostTranslate (a : HostAcc) (p att fva : Nat) (s : State) : State :=
  let page := fva / 65536
  match cached s p page with
  | some c => hostLeaf a p att fva c.level c.leaf c.seq (hitLeaf c s)
  | none =>
    if s.xlt.walks.any (fun w => w.part == p && w.page == page) || decide (s.xlt.walks.length < 256) then
      askWalk p page (fun w => { w with loads := w.loads ++ [a] }) s
    else hostHold a s

/-- The Ward of a CXL port (R10 steps 1 to 3, R52, R301, R302, R304, R374). DEDUCED: a close refuses a store here wherever its home lies (log
entry 114). -/
def hostServe (a : HostAcc) (s : State) : State :=
  match attachOf s a.m.port.val, decoderOf s a.m.port.val a.m.hpa with
  | some att, some (r, d) =>
    if !onPosition d a.m.hpa then hostRefuse a none St.denied s
    else
      match partInSlot s att r with
      | none => hostRefuse a none St.denied s
      | some p =>
        let fva := lineAddr (a.m.hpa - d.base)
        if (part s p).st ≠ .active then hostRefuse a (some p) St.denied s
        else if !acceptedAt s p att fva then hostRefuse a (some p) St.denied s
        else if !a.isLoad && closing s p then hostRefuse a (some p) St.closed s
        else hostTranslate a p att fva s
  | _, _ => hostRefuse a none St.denied s

/-- A port takes CXL.mem requests; in L1 it leaves it (R294, R295). -/
def memUp (c : CxlPort) : Bool := c.st == .up && c.mem

/-- A request is held at its port: the link retrains (R294), or the brake keeps back its credit (R411). -/
def mustHold (s : State) (c : CxlPort) : Bool := (c.st == .training && c.trained != 0) || braked s

/-- A CXL.mem request arrives on its port. -/
def hostArrive (a : HostAcc) (s : State) : State :=
  let c := cxlPort s a.m.port.val
  if (attachOf s a.m.port.val).isNone then s
  else if !c.mem then s
  else if mustHold s c then hostHold a s
  else if c.st = .up then hostServe a (setCxl s a.m.port.val { c with l1 := false })
  else s

/-! ### Held requests -/

/-- A request that a port holds. -/
def heldAcc : Instr → Option HostAcc
  | .cxlMemLoad m snp => some ⟨m, snp, none⟩
  | .cxlMemStore m mask data mv => some ⟨m, .noOp, some ⟨mask, data, mv⟩⟩
  | _ => none

/-- The requests that a port holds try again, in their order. -/
def retryPort (p : Nat) (s : State) : State :=
  let c := cxlPort s p
  if c.held = [] ∨ !memUp c ∨ mustHold s c then s
  else (c.held.filterMap heldAcc).foldl (fun s a => hostServe a s) (setCxl s p { c with held := [] })

/-- Some port's held requests can try again. -/
def someHeld (s : State) : Bool := s.cxl.ports.any (fun e => !e.2.held.isEmpty && memUp e.2 && !mustHold s e.2)

/-- The domain of a unit (`domainUnits`). -/
def unitDomain (u : Nat) : Nat := if u < 192 then 0 else if u < 752 then 1 else if u < 816 then 2 else if u < 832 then 3 else 4

/-- A domain has work after a command of the data path (R8, R417): every such command passes SWITCH; ARITH, FABRIC-MAC, CTRL and MEMC where
their blocks hold some (log entry 35). -/
def domainWork (s : State) (d : Nat) : Bool :=
  if d = 0 then !(s.col.mems.isEmpty && s.col.verts.isEmpty && s.col.tops.isEmpty)
  else if d = 2 then s.opt.any (fun o => !o.2.sent.isEmpty)
  else if d = 3 then !s.mgt.owed.isEmpty
  else if d = 4 then anyActive s || !s.pool.waits.isEmpty
  else d == 1

/-- Work has arrived: the domains that have it open, with the unit gates below them (R416, R417). -/
def openGates (s : State) : State :=
  if s.clk.gated = 0 ∧ s.clk.closed = [] then s
  else
    { s with clk := { s.clk with gated := (List.range 5).foldl (fun a d => if bitOf s.clk.gated d && !domainWork s d then a + 2 ^ d else a) 0,
                                 closed := s.clk.closed.filter (fun u => !domainWork s (unitDomain u)) } }

/-- After a command of the data path: all that has become possible, the held requests of hosts among it; the prefetchers take what walk slots
demand has left (R114). -/
def settled (s : State) : State :=
  let s := kick (openGates s)
  let s := if someHeld s then kick ((List.range 16).foldl (fun s p => retryPort p s) s) else s
  let s := laterAll (callBack s)
  if s.qs.fetchers.isEmpty then s else pushAll (prefetchAll s)

/-- The requests that a port holds fail with the request timeout (R294, R34): one record and one Deadbolt for each partition. -/
def heldTimeout (p : Nat) (s : State) : State :=
  let c := cxlPort s p
  (c.held.filterMap heldAcc).foldl (fun s a =>
    let owner := match attachOf s p, decoderOf s p a.m.hpa with
      | some att, some (r, _) => partInSlot s att r
      | _, _ => none
    let s := fault 3 9 owner a.m.hpa St.timeout (hostRefuse a owner St.timeout s)
    match owner with
    | some n => originateParts [n] 1 s.sys.moduleId s
    | none => s) (setCxl s p { c with held := [] })

/-! ### Walks (R102, R103, R113) -/

/-- The CXL.mem request that waited for a walk goes on with what the walk found. -/
def hostWalked (p : Nat) (x : Xl) (seq : Nat) (a : HostAcc) (s : State) : State :=
  match attachOf s a.m.port.val, decoderOf s a.m.port.val a.m.hpa with
  | some att, some (_, d) =>
    (match x with
     | .leaf lv l => hostLeaf a p att (lineAddr (a.m.hpa - d.base)) lv l seq s
     | .unmapped => hostRefuse a (some p) St.unmapped s
     | .poison => hostRefuse a (some p) St.poison s)
  | _, _ => hostRefuse a (some p) St.denied s

/-! ### The end of a CXL.io read (R26, R137, R309, R310) -/

/-- A zero-length read of R26 has completed: the bytes that a packet wrote to accelerator memory are visible. A multicast PUT raises its
counter once, when the last local delivery of its LAST packet has landed (R42). -/
def deviceLanded (h : Hdr) (ctr : Option Nat) (total : Nat) (s : State) : State :=
  if h.mc then
    (if h.vc = 3 then
      match runOf s h.tree h.src h.wid with
      | some r => legLanded h (if r.localOpen ≤ 2 then landCounter h ctr total s else s)
      | none => legLanded h (landCounter h ctr total s)
     else legLanded h (landCounter h ctr total s))
  else landed h false (landCounter h ctr total s)

/-- A read of R137 has completed; with the last of them the descriptor's record is written. -/
def fenceDone (q idx : Nat) (s : State) : State :=
  let s := onOp q idx (fun o => { o with open_ := o.open_ - 1 }) s
  match (que s q).op idx with
  | none => s
  | some o =>
    if isData o.d then tryFinish q idx s
    else if o.open_ = 0 then
      (match o.fail with
       | some (st, r) => complete q idx st o.moved r s
       | none => complete q idx St.ok o.moved o.result s)
    else s

/-- A CXL.io read has completed with its data. -/
def dmaDone (f : DmaFor) (data : Bytes) (s : State) : State :=
  match f with
  | .piece q idx off _ =>
    let n := match ((que s q).pieces.flatMap (fun p => if p.idx = idx then p.parts else [])).find? (fun r => r.off == off) with
      | some r => r.len
      | none => 0
    pieceData q idx off ((data ++ zeroBytes n).take n) s
  | .fence q idx => fenceDone q idx s
  | .landed h _ _ _ ctr total => deviceLanded h ctr total s
  | .result h _ ctr total ctx seq rank _ n => collLanded h ctr total ctx seq rank n s

/-- A CXL.io read has failed: the error is logged at the port, and its tile ends with DENIED at the device address (R137, R310). A packet
for accelerator memory is refused; a result that a member cannot take is a fault of the member (R178). DESIGN CHOICE: RESULT after a failed
zero-length read is DST_ADDR (log entry 112). -/
def dmaFail (port : Nat) (f : DmaFor) (s : State) : State :=
  let s := setCxl s port { cxlPort s port with aer := true }
  let part := match f with
    | .piece q _ _ _ => some (que s q).part
    | .fence q _ => some (que s q).part
    | .landed _ _ p _ _ _ => some p
    | .result _ p _ _ _ _ _ _ _ => some p
  let s := faultAtSev 0x10 9 2 part port s
  match f with
  | .piece q idx off a => pieceFail q idx off St.denied a s
  | .fence q idx =>
    let bad (o : Op) : Op := match o.fail with
      | some (0, _) => { o with fail := some (St.denied, D.dstAddr o.d) }
      | some _ => o
      | none => { o with fail := some (St.denied, D.dstAddr o.d) }
    fenceDone q idx (onOp q idx bad s)
  | .landed h _ _ _ _ _ => if h.mc then legLanded h (legExcluded h s) else refused h St.denied s
  | .result h _ _ _ ctx seq rank a _ => collFailed h ctx seq rank St.denied a s

end Sys2Proof.Machine
end

