-- ==== Sys2Proof/Machine/RepairOps.lean ====
section
/-! DEFINITION. Link state, path sets and what repair does with them (R322 to R329, R342 to R346). -/

namespace Sys2Proof.Machine

/-! ### Link-state advertisements (R322 to R324) -/

/-- The port records of this module: its ports that are up, each with the neighbour it found (R322, R323, R327, R345). -/
def ownRecs (s : State) : List PortRec :=
  ((List.range 64).filter (fun p => portUp s p)).filterMap (fun p =>
    (optPort s p).nbr.map (fun n => ⟨p, n.1, n.2, 15 * (optPort s p).tx.map.length / 8, s.rep.drain.contains p⟩))

/-- This module's own advertisement, with a sequence number. -/
def ownLsa (s : State) (seq : Nat) : Lsa :=
  { origin := s.sys.moduleId, seq, leaving := s.rep.leaving, spine := s.sys.spine, ports := ownRecs s }

/-- The content of two LSAs is the same: FLAGS and port records (R326 phase 4). -/
def sameLsa (a b : Lsa) : Bool := a.leaving == b.leaving && a.spine == b.spine && a.ports == b.ports

/-- A new LSA starts the hold of a repair, or falls into the one in progress (R326). -/
def startHold (s : State) : State :=
  if s.rep.hold.isSome then s else { s with rep := { s.rep with hold := some s.now } }

/-- An LSA enters the database (R324). -/
def storeLsa (l : Lsa) (s : State) : State :=
  let fresh := match s.rep.lsdb.find l.origin with | some o => !sameLsa o l | none => true
  let s := { s with rep := { s.rep with lsdb := s.rep.lsdb.ins l.origin l } }
  if fresh then startHold s else s

/-- An LSA goes out on every up port but one (R323, R324). -/
def floodLsa (l : Lsa) (arrival : Option Nat) (s : State) : State :=
  ((List.range 64).filter (fun p => portUp s p && some p != arrival)).foldl (fun s p => sendCtl p (.lsa l 0) s) s

/-- The module originates an LSA (R323). -/
def originateLsa (s : State) : State :=
  let l := ownLsa s s.rep.lsaSeq
  floodLsa l none (storeLsa l { s with rep := { s.rep with lsaSeq := (s.rep.lsaSeq + 1) % 2 ^ 32 } })

/-- The module originates an LSA where its ports, flags or weights have changed since the last (R323). -/
def changeLsa (s : State) : State :=
  match s.rep.lsdb.find s.sys.moduleId with
  | some l => if sameLsa l (ownLsa s 0) then s else originateLsa s
  | none => originateLsa s

/-- An LSA sequence number is higher than another, modulo 2^32 (R324). -/
def newerSeq (a b : Nat) : Bool :=
  let d := (a + 2 ^ 32 - b % 2 ^ 32) % 2 ^ 32
  decide (0 < d) && decide (d < 2 ^ 31)

/-- An LSA arrives on a port (R324). One that names this module as its origin is discarded (log entry 31). -/
def lsaArrive (port : Nat) (l : Lsa) (s : State) : State :=
  if l.origin = s.sys.moduleId then s
  else
    let news := match s.rep.lsdb.find l.origin with | some o => newerSeq l.seq o.seq | none => true
    if news then floodLsa l (some port) (storeLsa l s) else s

/-- The whole database goes out on a port whose link has come up (R324). -/
def exchangeDb (port : Nat) (s : State) : State := s.rep.lsdb.foldl (fun s e => sendCtl port (.lsa e.2 0) s) s

/-! ### The graph (R322, R327) -/

/-- The port records that count for a module: this module's own as they stand, another's as its LSA holds them. -/
def recsOf (s : State) (m : Nat) : List PortRec :=
  if m = s.sys.moduleId then ownRecs s else match s.rep.lsdb.find m with | some l => l.ports | none => []

/-- A link counts as up when both ends report it (R322). -/
def linkBoth (s : State) (m : Nat) (r : PortRec) : Bool :=
  (recsOf s r.nbr).any (fun q => q.port == r.nbrPort && q.nbr == m && q.nbrPort == r.port)

/-- The modules that a module has an up link to. -/
def neighbours (s : State) (m : Nat) : List Nat := (((recsOf s m).filter (linkBoth s m)).map (fun r => r.nbr)).eraseDups

/-- A module has LEAVING set. -/
def isLeaving (s : State) (m : Nat) : Bool :=
  if m = s.sys.moduleId then s.rep.leaving else match s.rep.lsdb.find m with | some l => l.leaving | none => false

/-- Hop distance from the modules of `front`, `k` hops away, to `dst`; a module for which `block` holds is reached and not crossed. -/
def hops (s : State) (block : Nat → Bool) (dst : Nat) : Nat → List Nat → List Nat → Nat → Option Nat
  | 0, _, _, _ => none
  | n + 1, seen, front, k =>
    if front.contains dst then some k
    else
      let next := (((front.filter (fun m => !block m)).flatMap (neighbours s)).eraseDups).filter (fun m => !seen.contains m)
      if next = [] then none else hops s block dst n (seen ++ next) next (k + 1)

/-- Hop distance between two modules over the links that are up. -/
def distance (s : State) (block : Nat → Bool) (a b : Nat) : Option Nat := hops s block b (s.rep.lsdb.length + 2) [a] [a] 0

/-- A module is reachable from this one. -/
def reachable (s : State) (h : Nat) : Bool := (distance s (fun _ => false) s.sys.moduleId h).isSome

/-! ### Path sets (R327) -/

/-- The port records of this module through which `h` is one hop closer; through a module that leaves only where no other path of the
same length exists. -/
def minimalRecs (s : State) (h d : Nat) : List PortRec :=
  let me := (recsOf s s.sys.moduleId).filter (linkBoth s s.sys.moduleId)
  let closer := me.filter (fun r => distance s (fun _ => false) r.nbr h == some (d - 1))
  let clean := closer.filter (fun r => r.nbr == h || distance s (isLeaving s) r.nbr h == some (d - 1))
  if clean = [] then closer else clean

/-- The ports with DRAIN set leave the set where another remains. -/
def undrained (rs : List PortRec) : List PortRec :=
  let keep := rs.filter (fun r => !r.drain)
  if keep = [] then rs else keep

/-- A record goes before another: higher weight first, then lower port. -/
def before (a b : PortRec) : Bool := decide (b.weight < a.weight) || (a.weight == b.weight && decide (a.port < b.port))

/-- The eight records of highest weight, listed by port. -/
def bestEight (rs : List PortRec) : List PortRec :=
  rs.filter (fun r => decide ((rs.filter (fun q => before q r)).length < 8))

/-- The path set toward a home module: its members, and its DETOUR bit. -/
def pathSet (s : State) (h : Nat) : List (Nat × Nat) × Bool :=
  match distance s (fun _ => false) s.sys.moduleId h with
  | none => ([], false)
  | some d =>
    if d = 0 then ([], false)
    else
      let ms := (bestEight (undrained (minimalRecs s h d))).map (fun r => (r.port, r.weight))
      (ms, d == 1 && (List.range 64).any (fun p => detourMask s p && portUp s p && !ms.any (fun m => m.1 == p)))

/-- One endpoint entry is installed: PATH_VER rises with a change, and the flows toward it send again (R214, R215, R334). -/
def installPath (e : Nat) (s : State) : State :=
  let x := endpoint s e
  if !x.v || x.isLocal then s
  else
    let ps := pathSet s x.home
    if ps.1 = x.members ∧ ps.2 = x.detour then s
    else
      let x' : Ep := { x with members := ps.1, detour := ps.2, pathVer := (x.pathVer + 1) % 65536 }
      let s := { s with fab := { s.fab with ep := s.fab.ep.put Ep.init e x' } }
      (s.fab.sflow.filter (fun f => f.1 / 8 % 2 ^ 17 == e)).foldl (fun s f => resend f.1 s) s

/-- The packets without a route try again (R223). -/
def retryRoutes (s : State) : State :=
  let qs := s.fab.noRoute
  rechoose true qs { s with fab := { s.fab with noRoute := [] } }

/-- Every endpoint entry is installed (R326 phase 6). -/
def installAll (s : State) : State := retryRoutes ((s.fab.ep.map Prod.fst).foldl (fun s e => installPath e s) s)

/-! ### Lost modules (R328) -/

/-- The module has an up link. -/
def linked (s : State) : Bool := (List.range 64).any (fun p => portUp s p && (optPort s p).nbr.isSome)

/-- The modules of the database that are unreachable are declared lost; a module without an up link declares none. -/
def loseUnreachable (s : State) : State :=
  if linked s then
    (s.rep.lsdb.map Prod.fst).foldl (fun s h => if h != s.sys.moduleId && !reachable s h then declareLost h s else s) s
  else s

/-! ### Isolation (R329) -/

/-- Every module that this one knows of: in its database, its endpoint table or its home map. -/
def knownModules (s : State) : List Nat :=
  ((s.rep.lsdb.map Prod.fst ++ (s.fab.ep.filter (fun e => e.2.v)).map (fun e => e.2.home) ++ s.fab.homeMap.map Prod.fst).eraseDups).filter
    (fun m => m != s.sys.moduleId)

/-- A HOME or MIRROR record of an isolated module passes to REVOKING: no second copy takes part (R329, R89). -/
def isolateExt (n : Nat) (s : State) : State :=
  let e := extRec s n
  if e.st = .free ∨ e.kind = .present then s
  else
    let s := if e.kind = .home ∧ e.st = .rebuilding then rebuildFail n s else s
    let s := releaseMirror n s
    let e := extRec s n
    revokeBegin n false 0 true (setExtSt n { e with mv := false, mirror := 0 } s)

/-- The module has had no up link for longer than the domain repair bound. -/
def isolate (s : State) : State :=
  if linked s || s.rep.isolated then s
  else
    let own := (s.fab.ep.filter (fun e => e.2.v && e.2.isLocal)).map Prod.fst
    let s := { s with rep := { s.rep with isolated := true, out := own } }
    let s := (s.pool.ext.map Prod.fst).foldl (fun s n => isolateExt n s) s
    let s := originateParts (s.parts.map Prod.fst) 7 s.sys.moduleId s
    (knownModules s).foldl (fun s h => declareLost h s) s

end Sys2Proof.Machine
end

