-- ==== Sys2Proof/Machine/PortOps.lean ====
section
/-! DEFINITION. A Biria port: its states (R280), link-level retry (R274 to R276), link messages (R277), credit (R251), training (R278),
swaps and lane reductions (R281 to R284), spare rotation (R285). -/

namespace Sys2Proof.Machine

/-! ### States (R280) -/

/-- A direction has a spare; a freed wavelength in calibration serves as one (R283). -/
def Dir.hasSpare (d : Dir) : Bool := d.spare.isSome || d.cal.isSome

/-- The working wavelengths of a direction; the lane that a failure swap moves keeps its place (R280, R282). -/
def Dir.working (d : Dir) : Nat :=
  (d.map.filter (fun w => !d.lost.contains w || (match d.swap with | some x => x.failed && x.src == w | none => false))).length

/-- The state that a port's two directions give it. -/
def portState (s : State) (o : OptPort) : OptSt :=
  let n := Nat.min o.rx.working o.tx.working
  if n < minLanes s then .down
  else if n < 8 then .degraded
  else if o.rx.hasSpare && o.tx.hasSpare then .up else .spareless

/-- Lasers may be lit (R432). -/
def lasersOn (s : State) : Bool := s.pwr.st == .lighting || s.pwr.st == .lit || s.pwr.st == .held

/-- A port may train: EN is set, the lasers may be lit, its PHY PLL is locked (R288, R432). -/
def trainable (s : State) (p : Nat) : Bool := optEn s p && lasersOn s && (optPort s p).pll

/-- The link layer of a port starts anew: sequence numbers, credit, reassembly, swaps, and the scramblers of its lanes (R273). -/
def dropLink (o : OptPort) : OptPort :=
  { o with step := 0, rx := { o.rx with swap := none, cal := none, lost := [] }, tx := { o.tx with swap := none, cal := none, lost := [] }, expect := 0,
           nak := false, next := 0, sent := [], data := [], links := [], ret := [], pos := 0, scr := freshScr, replays := 0, asm := none,
           credit := [], shared := 0, granted := 0, stall := false, idle := false }

/-- A packet is abandoned: counted and recorded (R257). -/
def noteAbandon (dst : Nat) (s : State) : State := bump 0x80018 (faultAt 0xE 6 none dst s)

/-- The end of a packet under way by cut-through that will not come whole: the output's next flit is its abandoned end, and the cells not
yet sent leave (R257). -/
def abandonCut (c : Cut) (s : State) : State :=
  let s := leave c.own (c.cells - c.k) { s with fab := { s.fab with cuts := s.fab.cuts.filter (fun x => x.inp != c.inp) } }
  match c.outp with
  | none => s
  | some o => frameOut o [dataFrame false true true [] none c.h.dst] s

/-- The packets whose first cell has crossed on a port, and which are not acknowledged, are abandoned when its link ends; their cells leave
(R257, R258). -/
def abandonSent (p : Nat) (s : State) : State :=
  let fs := (optPort s p).sent ++ (optPort s p).data
  let s := fs.foldl (fun s f => match f.own with | some o => leave o 1 s | none => s) s
  let s := (fs.filter (fun f => f.eop && !f.abandon && f.own.isSome)).foldl (fun s f => noteAbandon f.dst s) s
  let gone := s.fab.cuts.filter (fun c => c.outp == some p)
  gone.foldl (fun s c => noteAbandon c.h.dst s)
    { s with fab := { s.fab with cuts := s.fab.cuts.map (fun c => if c.outp = some p then { c with outp := none } else c) } }

/-- A port's link ends: what it was sending and what came in by cut-through is abandoned (R257, R258). -/
def endLink (p : Nat) (s : State) : State :=
  let s := abandonSent p s
  (s.fab.cuts.filter (fun c => c.inp == p)).foldl (fun s c =>
    abandonCut c (if c.outp.isSome then noteAbandon c.h.dst s else s)) s

/-- The port goes DOWN, which counts against its health (R424). -/
def goDown (p : Nat) (s : State) : State :=
  let o := optPort s p
  if o.st = .off ∨ o.st = .down then s
  else
    health (576 + p) 1 1 (setOpt (endLink p s) p { dropLink o with st := .down })

/-! ### Training starts (R278, R288) -/

/-- Biases that wait for a training apply (R421). -/
def applyBias (p : Nat) (s : State) : State :=
  (List.range 9).foldl (fun s w =>
    match s.hlt.rebias.find (9 * p + w) with
    | some b => { s with hlt := { s.hlt with bias := s.hlt.bias.put 0 (9 * p + w) b, rebias := s.hlt.rebias.del (9 * p + w) } }
    | none => s) s

/-- A training starts: full from step 1, where retired wavelengths and what health has laid on the port end (R278, R347); quick from
step 4. -/
def startTrain (p : Nat) (full : Bool) (s : State) : State :=
  let o := dropLink (optPort s p)
  let fresh (d : Dir) : Dir := if full then { d with retired := [] } else d
  let s := setOpt (endLink p s) p { o with st := .training, step := if full then 1 else 4, nbr := none, rx := fresh o.rx, tx := fresh o.tx }
  if full then
    applyBias p { s with rep := { s.rep with drain := s.rep.drain.filter (fun x => x != p), retire := s.rep.retire.filter (fun x => x != p) } }
  else s

/-- A quick retrain of a port that is lit or down. One that follows a DOWN is no second event of health (R424). -/
def quickRetrain (p : Nat) (s : State) : State :=
  if trainable s p then
    startTrain p false (if (optPort s p).st = .down then s else health (576 + p) 1 1 s)
  else s

/-! ### Sending link messages (R277) -/

/-- A lane map as a message carries it: 0xF for a lane not in use. -/
def packMap (m : List Nat) : Nat := (List.range 8).foldl (fun a l => a + fld (4 * l) ((m[l]?).getD 15)) 0

/-- The wavelengths of the first `n` lanes of a packed map. -/
def lanesOf (n v : Nat) : List Nat := (List.range n).map (fun l => bitsOf v (4 * l + 3) (4 * l))

/-- The port advertises 18 cells for each channel and hop class, less those still held, and shared credit (R251). -/
def advertise (p : Nat) (s : State) : State :=
  let s := (List.range 64).foldl (fun s k =>
    pushRet p (k / 8) (k % 8) false (18 - cellsHeld s (fun o => o == .fabRes p (k / 8) (k % 8))) s) s
  txPort p (grantShared p s)

/-! ### Replay (R274 to R276) -/

/-- Every unacknowledged flit of a port goes out again; the port leaves idle power first (R266). -/
def resendFlits (p : Nat) (s : State) : State :=
  let s := setOpt s p { optPort s p with idle := false }
  (optPort s p).sent.foldl (fun s f => putFlit p (txHdr (optPort s p) f) f.msg s) s

/-- A failure swap runs in the sending direction. -/
def swapping (d : Dir) : Bool := match d.swap with | some x => x.failed | none => false

/-- A replay from the oldest unacknowledged flit, over at once (log entry 96). `counted`: it is one of the consecutive replays of R276. A
transmitter that has stopped DATA flits for a failure swap replays at the swap's step 4 (R282). -/
def replay (p : Nat) (counted : Bool) (s : State) : State :=
  let o := optPort s p
  if o.sent.isEmpty || o.stall then s
  else if counted ∧ replayLimit s ≤ o.replays then goDown p s
  else resendFlits p (health (576 + p) 0 1 (bump (0xC1014 + 0x40 * p) (setOpt s p { o with replays := o.replays + bit counted })))

/-- An ACK arrives: the flits below it are acknowledged, and their cells leave (R274, R275). -/
def ackTo (p a : Nat) (s : State) : State :=
  let o := optPort s p
  match o.sent with
  | [] => s
  | f :: _ =>
    let n := (a + 16384 - f.seq) % 16384
    if n = 0 ∨ o.sent.length < n then s
    else
      (o.sent.take n).foldl (fun s f => match f.own with | some x => leave x 1 s | none => s)
        (setOpt s p { o with sent := o.sent.drop n, replays := 0 })

/-! ### State after a change of lanes -/

/-- The port takes the state of its directions; it goes DOWN where too few lanes are left. Changed weights are advertised (R323). -/
def restate (p : Nat) (s : State) : State :=
  let o := optPort s p
  if !o.lit then s
  else if portState s o = .down then changeLsa (goDown p s)
  else changeLsa (setOpt s p { o with st := portState s o })

/-- A failure swap or a lane reduction has happened (R290, R424). -/
def laneEvent (p : Nat) (s : State) : State := health (576 + p) 2 1 (bump (0xC1018 + 0x40 * p) s)

/-- Wavelengths in ascending order. -/
def rising (ws : List Nat) : List Nat := (List.range 9).filter (fun w => ws.contains w)

/-- A wavelength is retired. -/
def retire (w : Nat) (d : Dir) : Dir :=
  { d with retired := rising (w :: d.retired), spare := if d.spare = some w then none else d.spare,
           cal := if d.cal = some w then none else d.cal }

/-- A lane moves to a wavelength, which is the spare no more. -/
def moveLane (x : Swap) (d : Dir) : Dir := { d with map := d.map.set x.lane x.dst, spare := none, swap := none }

def setRx (p : Nat) (d : Dir) (s : State) : State := setOpt s p { optPort s p with rx := d }
def setTx (p : Nat) (d : Dir) (s : State) : State := setOpt s p { optPort s p with tx := d }

/-! ### Lane reductions (R284) -/

/-- The transmitting end takes a failed wavelength out of its direction. -/
def reduceLanes (p w : Nat) (s : State) : State :=
  let o := optPort s p
  let m := rising (o.tx.map.filter (fun x => x != w))
  let s := setOpt s p { o with tx := { retire w o.tx with map := m, swap := none }, stall := false }
  if m.length < minLanes s then goDown p s
  else restate p (laneEvent p (sendLink p 7 [0, m.length, packMap m, (optPort s p).next] s))

/-- LANES arrives: the direction's map from now on (R277, R284). -/
def lanesMsg (p : Nat) (dir : Bool) (count map : Nat) (s : State) : State :=
  let o := optPort s p
  let m := lanesOf (Nat.min count 8) map
  let cut (d : Dir) : Dir := { d with map := m, swap := none, retired := rising (d.retired ++ d.map.filter (fun w => !m.contains w)) }
  if !o.lit then s
  else restate p (laneEvent p (if dir then setTx p (cut o.tx) s else setRx p (cut o.rx) s))

/-! ### Swaps (R282, R283, R286) -/

/-- The receiving end takes a wavelength out: a failure swap, fewer lanes, or a lost spare (R281, R283, R284). -/
def wlOut (p w : Nat) (s : State) : State :=
  let o := optPort s p
  if !o.lit then s
  else
    match o.rx.map.idxOf? w with
    | some lane =>
      let o := { o with rx := { o.rx with lost := w :: o.rx.lost } }
      if swapping o.rx then restate p (sendLink p 4 [1, lane, 0] (setRx p o.rx s))
      else
        let s := match o.rx.swap with | some x => sendLink p 4 [1, x.lane, 2] s | none => s
        let sp := match o.rx.spare with | some d => some d | none => o.rx.cal
        (match sp with
         | some d =>
           let rx : Dir := { o.rx with swap := some ⟨lane, w, d, true⟩, spare := some d, cal := none }
           sendLink p 2 [1, lane, w, d, 1] (setRx p rx s)
         | none => restate p (sendLink p 4 [1, lane, 0] (setRx p o.rx s)))
    | none =>
      if o.rx.spare = some w then
        let s := match o.rx.swap with | some x => sendLink p 4 [1, x.lane, 0] s | none => s
        restate p (setRx p { retire w o.rx with swap := none } s)
      else s

/-- The receiving end detects a failed wavelength, which is an event of its health (R281, R424). -/
def wlFail (p w : Nat) (s : State) : State :=
  if (optPort s p).lit then wlOut p w (health (9 * p + w) 1 1 s) else s

/-- SWAP_REQ arrives. DIR 1: the far receiver asks this transmitter; DIR 0: the far transmitter starts a planned swap. -/
def swapReqMsg (p : Nat) (dir : Bool) (lane src dst : Nat) (failed : Bool) (s : State) : State :=
  let o := optPort s p
  if !o.lit then s
  else if dir then
    if o.tx.map[lane]? ≠ some src ∨ swapping o.tx then s
    else
      let s := match o.tx.swap with | some x => if failed then sendLink p 4 [0, x.lane, 2] s else s | none => s
      let sp := match o.tx.cal with | some c => some c | none => o.tx.spare
      if sp ≠ some dst ∨ (o.tx.swap.isSome ∧ !failed) then s
      else
        let o := optPort s p
        setOpt s p { o with tx := { o.tx with swap := some ⟨lane, src, dst, failed⟩, spare := some dst, cal := none }, stall := failed }
  else if o.rx.swap.isNone ∧ o.rx.map[lane]? = some src ∧ o.rx.spare = some dst then
    setRx p { o.rx with swap := some ⟨lane, src, dst, failed⟩ } s
  else s

/-- A wavelength has reached its pre-emptive threshold, by receiver or laser (R286, R425). -/
def doomed (s : State) (part : Nat) : Bool := decide (2 ≤ s.hlt.crossed.get 0 part)

/-- The receiver's check of a lane on the spare has ended. -/
def swapChecked (p : Nat) (ok : Bool) (s : State) : State :=
  let o := optPort s p
  match o.rx.swap with
  | none => s
  | some x =>
    if !o.lit then s
    else if ok then
      let d := moveLane x o.rx
      let s := setRx p (if x.failed then retire x.src d else { d with cal := some x.src }) s
      restate p (sendLink p 3 [1, x.lane, x.dst, o.expect] (if x.failed then laneEvent p s else s))
    else restate p (sendLink p 4 [1, x.lane, 0] (setRx p { retire x.dst o.rx with swap := none } s))

/-- A bias that waits for the rotation step of a laser applies (R421). -/
def applyBiasOf (i : Nat) (s : State) : State :=
  match s.hlt.rebias.find i with
  | some b => { s with hlt := { s.hlt with bias := s.hlt.bias.put 0 i b, rebias := s.hlt.rebias.del i } }
  | none => s

/-- SWAP_DONE arrives: the transmitter leaves the old wavelength; after a failure it replays from the current ACK. A freed wavelength is
calibrated, or retired where its laser is to be. -/
def swapDoneMsg (p : Nat) (dir : Bool) (lane dst : Nat) (s : State) : State :=
  let o := optPort s p
  match o.tx.swap with
  | none => s
  | some x =>
    if !o.lit ∨ !dir ∨ x.lane ≠ lane ∨ x.dst ≠ dst then s
    else
      let d := moveLane x o.tx
      if x.failed then restate p (replay p false (laneEvent p (setOpt s p { o with tx := retire x.src d, stall := false })))
      else if doomed s (1186 + 9 * p + x.src) then restate p (sendLink p 6 [x.src, 1] (setTx p (retire x.src d) s))
      else restate p (sendLink p 5 [x.src] (applyBiasOf (9 * p + x.src) (setTx p { d with cal := some x.src } s)))

/-- SWAP_ABORT arrives. Reason 0 tells the transmitter that the spare has failed, or that none was left for the lane. -/
def swapAbortMsg (p : Nat) (dir : Bool) (lane reason : Nat) (s : State) : State :=
  let o := optPort s p
  if !o.lit then s
  else if dir then
    match o.tx.swap with
    | some x =>
      if x.lane ≠ lane then s
      else if reason = 0 then
        let s := setOpt s p { o with tx := { retire x.dst o.tx with swap := none }, stall := false }
        if x.failed then reduceLanes p x.src s else restate p s
      else if reason = 1 ∧ x.failed then goDown p (setTx p (retire x.src o.tx) s)
      else setOpt s p { o with tx := { o.tx with swap := none }, stall := false }
    | none =>
      match o.tx.map[lane]? with
      | some w => if reason = 0 then reduceLanes p w (setTx p { o.tx with spare := none } s) else s
      | none => s
  else
    match o.rx.swap with
    | some x => if x.lane = lane ∧ !x.failed then setRx p { o.rx with swap := none } s else s
    | none => s

/-- A failure swap has not completed within 50 µs: the port goes DOWN with the failed wavelengths retired (R282, R283). -/
def swapLate (p : Nat) (s : State) : State :=
  let o := optPort s p
  if o.lit && (swapping o.rx || swapping o.tx) then
    let bury (d : Dir) : Dir := match d.swap with | some x => if x.failed then retire x.src d else d | none => d
    let lane := match o.rx.swap, o.tx.swap with | some x, _ => x.lane | none, some x => x.lane | none, none => 0
    let s := sendLink p 4 [bit (swapping o.rx), lane, 1] s
    goDown p (setOpt s p { optPort s p with rx := bury o.rx, tx := bury o.tx })
  else s

/-! ### Spare rotation (R285) -/

/-- The first working wavelength above the spare, counting cyclically. -/
def rotateNext (m : List Nat) (sp : Nat) : Option Nat := ((List.range 8).map (fun i => (sp + 1 + i) % 9)).find? (fun w => m.contains w)

/-- A planned swap of a wavelength to the spare starts at the transmitting end (R282, R286). -/
def plannedSwap (p w : Nat) (s : State) : State :=
  let o := optPort s p
  match o.tx.map.idxOf? w, o.tx.spare with
  | some lane, some d =>
    if o.lit ∧ o.tx.swap = none ∧ o.tx.cal = none then
      sendLink p 2 [0, lane, w, d, 0] (setTx p { o.tx with swap := some ⟨lane, w, d, false⟩ } s)
    else s
  | _, _ => s

/-- The sending end takes a wavelength out, because its laser is worn out (R425): a failure swap that this end asks for, or fewer lanes. -/
def laserOut (p w : Nat) (s : State) : State :=
  let o := optPort s p
  if !o.lit then s
  else
    match o.tx.map.idxOf? w with
    | some lane =>
      if swapping o.tx then s
      else
        let sp := match o.tx.spare with | some d => some d | none => o.tx.cal
        (match sp with
         | some d =>
           let tx : Dir := { o.tx with swap := some ⟨lane, w, d, true⟩, spare := some d, cal := none }
           sendLink p 2 [0, lane, w, d, 1] (setOpt s p { o with tx := tx, stall := true })
         | none => reduceLanes p w s)
    | none => if o.tx.spare = some w ∨ o.tx.cal = some w then restate p (sendLink p 6 [w, 1] (setTx p (retire w o.tx) s)) else s

/-- One step of spare rotation. -/
def rotate (p : Nat) (s : State) : State :=
  let o := optPort s p
  match o.tx.spare with
  | some d => (match rotateNext o.tx.map d with | some w => plannedSwap p w s | none => s)
  | none => s

/-- CAL_START arrives: the far transmitter calibrates a freed wavelength of this receiver; one that health retires ends so (R286). -/
def calStartMsg (p w : Nat) (s : State) : State :=
  let o := optPort s p
  if !o.lit then s
  else if doomed s (9 * p + w) then restate p (sendLink p 6 [w, 1] (setRx p (retire w o.rx) s))
  else setRx p { o.rx with cal := some w } s

/-- A calibration of a direction ends: the wavelength becomes the spare, or is retired. -/
def calOver (w : Nat) (retired : Bool) (d : Dir) : Dir := if retired then retire w d else { d with cal := none, spare := some w }

/-- CAL_END arrives. -/
def calEndMsg (p w : Nat) (retired : Bool) (s : State) : State :=
  let o := optPort s p
  if !o.lit then s
  else if o.rx.cal = some w then restate p (setRx p (calOver w retired o.rx) s)
  else if o.tx.cal = some w ∧ retired then restate p (setTx p (calOver w true o.tx) s)
  else if retired ∧ o.rx.spare = some w then restate p (setRx p (retire w o.rx) s)
  else s

/-- The measurement of a calibrated wavelength has ended at the transmitting end. -/
def calMeasured (p : Nat) (ok : Bool) (s : State) : State :=
  let o := optPort s p
  match o.tx.cal with
  | some w => if o.lit then restate p (sendLink p 6 [w, bit (!ok)] (setTx p (calOver w (!ok) o.tx) s)) else s
  | none => s

/-! ### Training (R278) -/

/-- The wavelengths that are not retired. -/
def alive (d : Dir) : List Nat := (List.range 9).filter (fun w => !d.retired.contains w)

/-- The spare among nine wavelengths that pass: the smallest margin, the highest number among equals. -/
def spareOf (margins : List Nat) : Nat :=
  (List.range 9).foldl (fun b w => if (margins[w]?).getD 0 ≤ (margins[b]?).getD 0 then w else b) 0

/-- A direction after step 6: lane L takes the L-th passing wavelength that is not the spare. -/
def measured (passing margins : List Nat) (d : Dir) : Dir :=
  let ok := (alive d).filter (fun w => passing.contains w)
  let sp := if ok.length = 9 then some (spareOf margins) else none
  { d with map := ok.filter (fun w => some w != sp), spare := sp, retired := (List.range 9).filter (fun w => !ok.contains w) }

/-- A direction as the far end's TRAIN message proposes it. -/
def proposed (lanes map : Nat) (d : Dir) : Dir :=
  let m := lanesOf (Nat.min lanes 8) map
  let rest := (List.range 9).filter (fun w => !m.contains w)
  if lanes = 9 then { d with map := m, spare := rest.head?, retired := [] } else { d with map := m, spare := none, retired := rest }

/-- This module's TRAIN message; it goes before the first sequenced flit. -/
def sendTrain (p : Nat) (d : Dir) (s : State) : State :=
  let f := linkFlit 1 [s.sys.moduleId, p, d.map.length + bit d.spare.isSome, minLanes s, packMap d.map]
  putFlit p (txHdr (optPort s p) f) f.msg s

/-- Step 7, once this end has measured and the far end has named itself. -/
def enterUp (p : Nat) (s : State) : State :=
  let o := optPort s p
  if o.st = .training ∧ o.step = 7 ∧ o.nbr.isSome then
    (if portState s o = .down then setOpt s p { o with step := 6 }
     else
      let s := { setOpt s p { o with st := portState s o, step := 0 } with rep := { s.rep with isolated := false } }
      advertise p s)
  else s

/-- A step of training has passed. Steps 1 to 5 lead to the next; step 6 measures. -/
def trainStep (p : Nat) (passing margins : List Nat) (s : State) : State :=
  let o := optPort s p
  if o.st ≠ .training then s
  else if o.step = 4 then
    let m := alive o.rx
    sendTrain p { o.rx with map := m.take 8, spare := if m.length = 9 then m.getLast? else none } (setOpt s p { o with step := 5 })
  else if o.step = 5 then (if o.nbr.isSome then setOpt s p { o with step := 6 } else s)
  else if o.step = 6 then
    let d := measured passing margins o.rx
    if d.map.length < minLanes s then setRx p d s
    else enterUp p (sendTrain p d (setOpt s p { o with rx := d, step := 7 }))
  else if o.step < 4 then setOpt s p { o with step := o.step + 1 }
  else s

/-- The neighbour found at step 5: one that differs from the last training's is reported (R278, R322). -/
def foundNbr (p m q : Nat) (s : State) : State :=
  let s := match s.rep.nbr.find p with
    | some n => if n = (m, q) then s else report 0x800F p (m + fld 16 q) s
    | none => s
  { s with rep := { s.rep with nbr := s.rep.nbr.ins p (m, q) } }

/-- TRAIN arrives. -/
def trainMsg (p nbr nbrPort lanes map : Nat) (s : State) : State :=
  let o := optPort s p
  if o.st = .training ∧ 5 ≤ o.step then
    enterUp p (foundNbr p nbr nbrPort (setOpt s p { o with nbr := some (nbr, nbrPort), tx := proposed lanes map o.tx }))
  else if o.lit then restate p (setTx p (proposed lanes map o.tx) s)
  else s

/-! ### Changes of state (R258, R280) -/

/-- The packets queued at a port choose again (R258). -/
def evictPort (p : Nat) (s : State) : State :=
  let mine := s.fab.voq.filter (fun e => voqOut e.1 == p)
  let s := { s with fab := { s.fab with voq := s.fab.voq.filter (fun e => voqOut e.1 != p) } }
  rechoose false (mine.flatMap (fun e => e.2)) ((List.range 8).foldl (fun s vc => zeroDrr p vc s) s)

/-- What follows DOWN: a quick retrain where the port may train, OFF where EN is 0 or the lasers are off. -/
def afterDown (p : Nat) (s : State) : State :=
  if !optEn s p || !lasersOn s then setOpt s p (offPort (optPort s p)) else quickRetrain p s

/-- A change of state is told to repair and recorded; what was queued at a port that went down chooses again. -/
def tellState (p : Nat) (s : State) : State :=
  let o := optPort s p
  if o.st = o.told then s
  else
    let was := o.told == .up || o.told == .spareless || o.told == .degraded
    let s := setOpt s p { o with told := o.st }
    let s := faultSev 0xF 8 (bit (o.st == .degraded || o.st == .down)) none p o.st.code s
    let s := if o.lit && !was then (if portUp s p then exchangeDb p s else flushCopies s) else s
    let s := changeLsa (if was && !o.lit then evictPort p s else s)
    if o.st = .down then afterDown p s else s

/-! ### The PHY PLL (R288) -/

/-- A PHY PLL loses lock: its port goes DOWN. -/
def pllLost (p : Nat) (s : State) : State :=
  let o := optPort s p
  let a := 0x05000000 + 0x40 * p
  let n := Nat.min ((s.regs.ind.get 0#32 a).toNat / 65536 + bit o.pll) 65535
  let s := { s with regs := { s.regs with ind := s.regs.ind.put 0#32 a (BitVec.ofNat 32 (n * 65536)) } }
  let s := goDown p s
  setOpt s p { optPort s p with pll := false }

/-- It relocks: the port trains from step 4. -/
def pllBack (p : Nat) (s : State) : State :=
  let s := setOpt s p { optPort s p with pll := true }
  if (optPort s p).st = .down ∧ optEn s p then quickRetrain p s else s

/-! ### Registers of a port (R278, R290, R432) -/

/-- EN has been written: the port trains, or goes DOWN on its way to OFF. -/
def enablePort (p : Nat) (s : State) : State :=
  let o := optPort s p
  if optEn s p then (if o.st = .off ∧ trainable s p then startTrain p true s else s)
  else if o.st = .down then setOpt s p (offPort o)
  else goDown p s

/-- RETRAIN has been written: a quick retrain of a port whose lasers are lit. -/
def retrainPort (p : Nat) (s : State) : State :=
  let o := optPort s p
  if o.lit ∨ o.st = .down then quickRetrain p s else s

/-! ### The end of a repair (R326, R346) -/

/-- The ports that health has retired, once out of every path set, are turned off by firmware and reported (R346). -/
def retirePorts (s : State) : State :=
  let gone := s.rep.retire.filter (fun p => fwRuns s && !s.fab.ep.any (fun e => e.2.v && e.2.members.any (fun m => m.1 == p)))
  let s := { s with rep := { s.rep with retire := s.rep.retire.filter (fun p => !gone.contains p) } }
  gone.foldl (fun s p =>
    let off := 0xC1000 + 0x40 * p
    let s := setCfg s off (cfgReg s off &&& 0xFFFFFFFE#32)
    let s := { s with regs := { s.regs with armed := false } }
    report 0x8014 p (scoreOf s (576 + p)) (enablePort p s)) s

/-- The hold of a repair ends: phases 5 and 6 of R326. -/
def repairEnd (s : State) : State :=
  match s.rep.hold with
  | none => s
  | some t =>
    let s := { s with rep := { s.rep with hold := none, lastUs := Nat.min ((s.now - t) / 1000) 16383 } }
    lateRequests s.fab.ep (retirePorts (bump 0x60048 (installAll (loseUnreachable s))))

end Sys2Proof.Machine
end

