-- ==== Sys2Proof/Machine/CxlOps.lean ====
section
/-! DEFINITION. A CXL port: training, loss and width of its link (R293 to R295), decoders (R300), reset of a port (R313, R314). -/

namespace Sys2Proof.Machine

/-- A port of a valid attachment, which R297 and the spine role do not hold in reset. -/
def cxlFree (s : State) (p : Nat) : Bool := (attachOf s p).isSome

/-- CXL.io is up on a port. -/
def ioUp (c : CxlPort) : Bool := c.st == .ioOnly || c.st == .up

/-- Some decoder of a port is committed. -/
def committed (c : CxlPort) : Bool := c.dec.any Option.isSome

/-- A port starts to train, where nothing holds it in reset (R297, R313, R425, R431). -/
def cxlTrain (p : Nat) (s : State) : State :=
  let c := cxlPort s p
  if cxlFree s p && !c.perst && !c.dead && c.st == .reset then setCxl s p { c with st := .training, trained := 0, width := 0 } else s

/-- A training has ended at a width (R294): DOWN below the narrowest width, IO_ONLY below full rate, else UP, with CXL.mem where it was enabled
before, or where firmware runs and the host has committed a decoder (R313). -/
def cxlTrained (p width : Nat) (full : Bool) (s : State) : State :=
  let c := cxlPort s p
  if width < minWidth s then heldTimeout p (setCxl s p { c with st := .down, width := 0, trained := 0, dmaq := [] })
  else if full then
    flushDma p (setCxl s p { c with st := .up, width := width, trained := width, low := false, l1 := false, mem := c.mem || (fwRuns s && committed c) })
  else fault 0x10 9 none p width (setCxl s p { c with st := .ioOnly, width := width, trained := width, low := true, mem := false, l1 := false, dmaq := [] })

/-- A retrain or a loss of width is counted (R317, R424). -/
def cxlRetrainEvent (p : Nat) (s : State) : State := health (896 + p) 2 1 (bump (0x101014 + 0x40 * p) s)

/-- A retrain of a trained link: its requests are held until the link is back (R294). -/
def cxlRetrain (p : Nat) (s : State) : State :=
  let c := cxlPort s p
  if ioUp c then cxlRetrainEvent p (setCxl s p { c with st := .training }) else s

/-- A trained link leaves its state: into a retraining (width 0), or to a width at which it is back (R294). -/
def cxlLost (p width : Nat) (s : State) : State :=
  let c := cxlPort s p
  if !ioUp c then s
  else if width = 0 then cxlRetrain p s
  else if width < minWidth s then heldTimeout p (cxlRetrainEvent p (setCxl s p { c with st := .down, width := 0, trained := 0, dmaq := [] }))
  else cxlRetrainEvent p (setCxl s p { c with width := width, trained := width })

/-! ### Decoders (R300) -/

/-- A decoder agrees with one that another port of the attachment has committed, but for the target position. -/
def agrees (d : Decoder) (o : Option Decoder) : Bool :=
  match o with
  | some x => x.base == d.base && x.size == d.size && x.ways == d.ways && x.gran == d.gran
  | none => true

/-- A decoder meets the rules of R300. -/
def decoderOk (s : State) (p r : Nat) (d : Decoder) : Bool :=
  let ps := attachPorts s (mapOf s p)
  decide (d.size = 2 ^ 50) && d.ways == ps.length && [256, 512, 1024, 2048, 4096, 8192, 16384].contains d.gran && decide (d.pos < d.ways)
    && ps.all (fun q => q == p || agrees d (((cxlPort s q).dec[r]?).join))

/-- A decoder is committed, or reports a commit error and serves nothing. -/
def commitDecoder (p r : Nat) (d : Decoder) (s : State) : State :=
  let c := cxlPort s p
  if !ioUp c then s
  else if decoderOk s p r d then
    let on := c.st == .up && fwRuns s
    setCxl s p { c with dec := c.dec.set r (some d), decErr := c.decErr.set r false, mem := c.mem || on }
  else setCxl s p { c with dec := c.dec.set r none, decErr := c.decErr.set r true }

/-! ### Port reset (R313, R314) -/

/-- The partitions bound to an attachment. -/
def partsAt (s : State) (a : Nat) : List Nat := (s.parts.filter (fun e => e.2.binds.any (fun b => b.1 == a))).map Prod.fst

/-- What a reset leaves of a port. `down`: its link goes down with it. -/
def resetPort (down : Bool) (c : CxlPort) : CxlPort :=
  let c' := { c with dec := CxlPort.init.dec, decErr := CxlPort.init.decErr, bi := false, ide := false, spdm := false, mem := false, held := [], dmaq := [] }
  if down then { c' with st := .reset, width := 0, trained := 0, low := false, l1 := false } else c'

/-- Steps 1 to 4 of R313. -/
def portReset (p : Nat) (down : Bool) (s : State) : State :=
  match attachOf s p with
  | none => s
  | some a =>
    let s := setCxl s p (resetPort down (cxlPort s p))
    match resolveAttach a s with
    | (s, n) =>
      let s := { s with pool := { s.pool with severed := s.pool.severed.filter (fun x => x != a) } }
      let s := if n = 0 then s else fault 9 3 none a n s
      (partsAt s a).foldl (fun s n => partReset n (defaultPolicy s n) s) s

/-- Every trained port rests in L1 (R295, R401). -/
def restPorts (s : State) : State :=
  { s with cxl := { s.cxl with ports := s.cxl.ports.mapD CxlPort.init (fun _ c => { c with l1 := ioUp c }) } }

end Sys2Proof.Machine
end

