-- ==== Sys2Proof/Machine/PlanOps.lean ====
section
/-! DEFINITION. The margin plan (R421, R422), the retraining of GDDR7 channels (R423), the ageing record (R441), CXL.mem at the end of the
start-up (R431). -/

namespace Sys2Proof.Machine

/-! ### What the sensors say -/

/-- The worst ring-oscillator slowdown in whole percent (R419): pairs that have been measured. -/
def worstSlowdown (s : State) : Nat :=
  (List.range 96).foldl (fun m k =>
    let st := (s.regs.ind.get 0#32 (0x03100000 + 8 * k)).toNat
    let un := (s.regs.ind.get 0#32 (0x03100004 + 8 * k)).toNat
    Nat.max m (if un = 0 then 0 else 100 * (un - st) / un)) 0

/-- The slice with the highest minimum voltage, and that voltage (R420). -/
def worstSlice (s : State) : Nat × Nat := s.hlt.vmin.foldl (fun w e => if w.2 < e.2 then e else w) (0, 0)

/-- `v` rounded up to a multiple of 5 mV. -/
def up5 (v : Nat) : Nat := (v + 4) / 5 * 5

/-- The core voltage that the plan asks for (R421): by slowdown, and by the worst slice. -/
def wantVcore (s : State) : Nat := up5 (Nat.max (750 + 10 * worstSlowdown s) (if (worstSlice s).2 = 0 then 0 else (worstSlice s).2 + 50))

/-- The windows of a channel at its last training are below half of those at its first (R421): any of the four. -/
def marginFallen (s : State) (c : Nat) : Bool :=
  let cut (a b hi lo : Nat) : Bool := decide (2 * bitsOf a hi lo < bitsOf b hi lo)
  let t := (s.regs.ind.get 0#32 (0x04000000 + 0x100 * c)).toNat
  let v := (s.regs.ind.get 0#32 (0x04000004 + 0x100 * c)).toNat
  let t0 := s.hlt.firstTr.get 0 (2 * c)
  let v0 := s.hlt.firstTr.get 0 (2 * c + 1)
  cut t t0 7 0 || cut t t0 15 8 || cut v v0 9 0 || cut v v0 19 10

/-! ### Retraining -/

/-- A GDDR7 channel is trained: MEM_TR_COUNT rises; its windows come with the sensor's next update (R474). -/
def trainChannel (c : Nat) (s : State) : State :=
  let a := 0x04000008 + 0x100 * c
  { s with regs := { s.regs with ind := s.regs.ind.put 0#32 a (BitVec.ofNat 32 (satAdd cntMax (s.regs.ind.get 0#32 a).toNat 1)) } }

/-- The channels that the next plan retrains: a margin that has fallen, or the pre-emptive threshold (R421, R425). -/
def needTraining (s : State) : List Nat :=
  if s.sys.spine then [] else (List.range 18).filter (fun c => marginFallen s c || s.hlt.replan.get 0 c != 0)

/-- They are retrained; a retraining that a fall of margin forced counts against the channel (R424). -/
def retrainFallen (s : State) : State :=
  let cs := needTraining s
  let s := cs.foldl (fun s c => trainChannel c (if marginFallen s c then health (912 + c) 2 1 s else s)) s
  { s with hlt := { s.hlt with replan := [], deferred := false } }

/-! ### The actions of the plan -/

/-- Step 1: the core voltage, which only rises, up to 850 mV (R421, R422). Where ring oscillators alone ask for more than the limit, the
manual names no part: the report's subject is a free value (log entry 36). -/
def planVcore (s : State) : State :=
  let v := wantVcore s
  let s :=
    if v ≤ 850 then s
    else if 850 < up5 ((worstSlice s).2 + 50) then report 0x8016 (930 + (worstSlice s).1) 850 s
    else
      let (x, s) := freeVal (2 ^ 64) s
      report 0x8016 x 850 s
  { s with hlt := { s.hlt with vcore := Nat.max s.hlt.vcore (Nat.min v 850) } }

/-- OMA of +1.0 dBm, in nW. -/
def omaNw : Nat := 1258925

/-- The limit of laser bias, 120 mA, in 10 µA. -/
def biasMax : Nat := 12000

/-- The bias that a laser has: as set by a plan, else as its sensor reads (R291). -/
def biasOf (s : State) (i : Nat) : Nat :=
  match s.hlt.bias.find i with
  | some b => b
  | none => bitsOf (s.regs.ind.get 0#32 (0x01000004 + 0x1000 * (i / 9) + 0x100 * (i % 9))).toNat 15 0

/-- Step 2 for one laser (R421, R422, R424). -/
def planBias (i slope : Nat) (s : State) : State :=
  let want := omaNw / slope
  let b := Nat.min want biasMax
  let old := biasOf s i
  let far := old != 0 && decide (old < 20 * (Nat.max b old - Nat.min b old))
  let s := if far then health (1186 + i) 0 1 s else s
  let s := if biasMax ≤ want then health (1186 + i) 1 1 s else s
  let s := if biasMax < want then report 0x8016 (1186 + i) biasMax s else s
  if b = old then s else { s with hlt := { s.hlt with rebias := s.hlt.rebias.ins i b } }

/-- A row of a slice is copied to a spare row and remapped, while spare rows last (R17, R421, R424). -/
def remapRow (row : Nat) (s : State) : State :=
  let sl := row / 2 ^ 20
  if s.hlt.remaps.get 0 sl < Config.spareRows then
    health (930 + sl) 2 1 { s with hlt := { s.hlt with remaps := s.hlt.remaps.put 0 sl (s.hlt.remaps.get 0 sl + 1), srErr := s.hlt.srErr.put 0 row 0 } }
  else s

/-- Step 3: every row with more than 4 corrected errors since the last plan is remapped (R421, R424). -/
def planRows (s : State) : State :=
  let s := (s.hlt.srErr.filter (fun e => decide (4 < e.2))).foldl (fun s e => remapRow e.1 s) s
  { s with hlt := { s.hlt with srErr := [] } }

/-- Every row of a slice with a corrected error is remapped at once (R425). -/
def remapSlice (sl : Nat) (s : State) : State :=
  (s.hlt.srErr.filter (fun e => e.1 / 2 ^ 20 == sl)).foldl (fun s e => remapRow e.1 s) s

/-- Step 4: lasers past the pre-emptive threshold are moved off; a port past it is already drained (R286, R345). -/
def planSpares (s : State) : State :=
  (s.opt.filter (fun e => e.2.st == .up)).foldl (fun s e =>
    match e.2.tx.map.find? (fun w => doomed s (1186 + 9 * e.1 + w)) with
    | some w => plannedSwap e.1 w s
    | none => s) s

/-- Step 5: retraining at once, or later where a partition is ACTIVE (R421, R423). -/
def planMemory (s : State) : State :=
  if needTraining s = [] then s
  else if intrusiveBusy s then { s with hlt := { s.hlt with deferred := true } }
  else retrainFallen s

/-- The device serial number (R299). -/
def serial : Bytes := shake256 8 Config.identityPk

/-- The ageing record (R422, R441): the serial number, VCORE, the plan count, the penalties, the laser biases, the minimum voltages, the
ring oscillators, the remapped rows. The manual leaves its layout to the module (log entry 37). -/
def ageingRecord (s : State) : Bytes :=
  serial ++ leBytes 4 s.hlt.vcore ++ leBytes 4 s.hlt.plans ++ (List.range 1762).flatMap (fun i => leBytes 8 (s.hlt.pen.get 0 i))
    ++ (List.range 576).flatMap (fun i => leBytes 2 (biasOf s i)) ++ (List.range 256).flatMap (fun i => leBytes 2 (s.hlt.vmin.get 0 i))
    ++ (List.range 192).flatMap (fun k => leBytes 4 (s.regs.ind.get 0#32 (0x03100000 + 4 * k)).toNat)
    ++ (List.range 256).flatMap (fun i => leBytes 4 (s.hlt.remaps.get 0 i))

/-- The penalties of an ageing history, if it comes from this module (R441, R424). -/
def loadHistory (h : Bytes) (s : State) : State :=
  let ps : Tab Nat := (List.range 1762).foldl (fun t i => t.put 0 i (leNat ((h.drop (16 + 8 * i)).take 8))) []
  { s with hlt := { s.hlt with pen := if h.take 8 = serial then ps else [], events := [], crossed := [] } }

/-- A plan begins: firmware runs it, one at a time (R421, R429). -/
def startPlan (s : State) : State :=
  if fwRuns s && !s.hlt.plan then { s with hlt := { s.hlt with plan := true } } else s

/-! ### After the plan of the start-up -/

/-- Step 10 of R431: firmware enables CXL.mem on every UP port of a valid attachment. -/
def enableMem (s : State) : State :=
  (List.range 16).foldl (fun s p =>
    let c := cxlPort s p
    if c.st == .up && (attachOf s p).isSome then setCxl s p { c with mem := true } else s) s

/-- The module enters LIGHTING: every port with EN set trains (R402, R431). -/
def lightUp (s : State) : State :=
  (List.range 64).foldl (fun s p => if trainable s p && (optPort s p).st == .off then startTrain p true s else s)
    { s with pwr := { s.pwr with st := .lighting } }

/-- The start-up goes on once its plan has ended (R431 step 8). -/
def startGoesOn (s : State) : State :=
  if !s.pwr.starting then s
  else
    let s := { s with pwr := { s.pwr with starting := false } }
    if s.pwr.st = .lighting then lightUp s
    else if s.pwr.st = .dark then (if s.sys.startDark then s else lightUp s)
    else if s.pwr.st = .lit then enableMem s
    else s

/-- The plan ends (R421, R422). -/
def planEnd (s : State) : State :=
  if !s.hlt.plan then s
  else
    let s := planVcore s
    let s := s.hlt.slope.foldl (fun s e => if e.2 = 0 then s else planBias e.1 e.2 s) s
    let s := planMemory (planSpares (planRows s))
    let s := { s with hlt := { s.hlt with plan := false, planned := true, ageMin := 0, plans := s.hlt.plans + 1 } }
    let r := ageingRecord s
    startGoesOn (report 0x8017 r.length s.hlt.plans { s with hlt := { s.hlt with record := r } })

end Sys2Proof.Machine
end

