-- ==== Sys2Proof/Machine/PowerOps.lean ====
section
/-! DEFINITION. Power states (R401 to R403), the brake (R411), the governor (R405 to R410), clock gates (R416, R417). -/

namespace Sys2Proof.Machine

/-! ### Changes of power state (R402) -/

/-- Every port has finished step 6 of R278. -/
def portsLit (s : State) : Bool :=
  (List.range 64).all (fun p => !optEn s p || (optPort s p).lit || ((optPort s p).st == .training && (optPort s p).step == 7))

/-- LIGHTING ends. The start-up enables CXL.mem once the ports are lit (R431 step 10). -/
def lit (s : State) : State :=
  if s.pwr.st = .lighting ∧ portsLit s then enableMem { s with pwr := { s.pwr with st := .lit } } else s

/-- A port is turned off: its lasers go dark, what its link carried is abandoned. -/
def darkPort (p : Nat) (s : State) : State :=
  if (optPort s p).st = .off then s else setOpt (endLink p s) p (offPort (optPort s p))

/-- DARKENING begins: the ports are turned off. -/
def darken (s : State) : State :=
  (s.opt.map Prod.fst).foldl (fun s p => darkPort p s) { s with pwr := { s.pwr with st := .darkening } }

/-- DARKENING ends: every port is OFF, and the CXL links come to rest (R295). -/
def dark (s : State) : State :=
  if s.pwr.st = .darkening ∧ s.opt.all (fun e => e.2.st == .off) then restPorts { s with pwr := { s.pwr with st := .dark } } else s

/-- POWER_LIT has been accepted. While the plan of the start-up runs, the ports light when it ends (R421). -/
def powerLit (s : State) : State :=
  if s.pwr.starting then { s with pwr := { s.pwr with st := .lighting } } else lightUp s

/-! ### The brake (R400, R411, R412) -/

/-- An assertion of the brake from any cause: counted, recorded; fill ends. -/
def brakeOn (s : State) : State := faultAny 0x17 11 0 none (bump 0x20020 { s with pwr := { s.pwr with fill := 0 } })

/-! ### Ramps (R406, R407) -/

/-- The stagger offset of ramp `n` in µs (R407). -/
def staggerUs (s : State) (n : Nat) : Nat :=
  if !staggerEn s then 0
  else if s.sys.idOk then leNat (shake256 4 (Config.identityPk ++ leBytes 8 n)) % 8001
  else if s.sys.imgErr ≠ 0 then s.now / 40 % 8001
  else leNat (shake256 4 (s.sys.helper ++ leBytes 8 n)) % 8001

/-- A ramp starts, after its offset. -/
def startRamp (up : Bool) (s : State) : State :=
  let us := staggerUs s s.pwr.rampN
  { s with pwr := { s.pwr with ramp := if us = 0 then .moving up else .waiting up, rampN := s.pwr.rampN + 1, lastUs := us } }

/-- The side of the allowance on which a target lies. -/
def above (a target : Nat) : Option Bool := if a = target then none else some (decide (a < target))

/-- A ramp that moves takes its step of this tick: hundredths of a watt are the slew limit in W/ms over 10 µs. -/
def moveRamp (target : Nat) (s : State) : State :=
  match s.pwr.ramp with
  | .moving true =>
    let a := Nat.min target (s.pwr.a + slewUp s)
    { s with pwr := { s.pwr with a := a, ramp := if a = target then .none else .moving true } }
  | .moving false =>
    let a := Nat.max target (s.pwr.a - slewDn s)
    { s with pwr := { s.pwr with a := a, ramp := if a = target then .none else .moving false } }
  | _ => s

/-- The direction of a ramp that runs. -/
def rampDir : Ramp → Option Bool
  | .none => none
  | .waiting up => some up
  | .moving up => some up

/-- The ramp rules toward a target (R406): a ramp whose target has crossed to the other side of the allowance ends, and a new one starts. -/
def rampTo (target : Nat) (s : State) : State :=
  let side := above s.pwr.a target
  let s := if rampDir s.pwr.ramp = side then s else { s with pwr := { s.pwr with ramp := .none } }
  match s.pwr.ramp, side with
  | .none, some up => moveRamp target (startRamp up s)
  | _, _ => moveRamp target s

/-! ### The tick (R409) -/

/-- The highest floor fill, in hundredths of a watt (R405). -/
def fillMax : Nat := 38000

/-- The ceiling (R409, R412), in hundredths of a watt. -/
def ceiling (s : State) : Nat := 100 * (if s.pwr.thermal then litIdle s else Nat.max (Nat.min (capWatts s) (maxDraw s)) (litIdle s))

/-- The allowance comes down to the ceiling at once, at SLEW_DN, or at 100 W/ms for the thermal ceiling (R406, R410, R412). The ramp has no
offset. -/
def lowerTo (c : Nat) (s : State) : State :=
  let step := if s.pwr.thermal then 100 else slewDn s
  let fresh := s.pwr.ramp != .moving false
  let s := { s with pwr := { s.pwr with a := Nat.max c (s.pwr.a - step), capLag := true, ramp := .moving false } }
  if fresh then { s with pwr := { s.pwr with rampN := s.pwr.rampN + 1, lastUs := 0 } } else s

/-- What the tick does with the difference of demand and allowance. A floor of 0 turns fill off (R408). -/
def fillTo (d : Nat) (s : State) : State :=
  if s.pwr.a < d then { s with pwr := { s.pwr with fill := 0 } }
  else
    let gap := s.pwr.a - d
    let s := { s with pwr := { s.pwr with fill := if floorWatts s = 0 then 0 else Nat.min gap fillMax } }
    if fillMax < gap then bump 0x20024 { s with pwr := { s.pwr with slewShort := true } } else s

/-- The lull of R408: it starts when demand is below the floor and ends when demand reaches it, whatever else holds. -/
def lullStep (d : Nat) (s : State) : State :=
  if d < 100 * floorWatts s then { s with pwr := { s.pwr with lull := true } }
  else { s with pwr := { s.pwr with lull := false, lullHeld := false } }

/-- One tick of the governor at demand `d` in hundredths of a watt. -/
def govern (d : Nat) (s : State) : State :=
  let s := lullStep d s
  if braked s then { s with pwr := { s.pwr with a := 100 * litIdle s, fill := 0, ramp := .none } }
  else
    let c := ceiling s
    let target := if s.pwr.lull && !s.pwr.lullHeld then Nat.min (100 * floorWatts s) c else Nat.min d c
    let s :=
      if c < s.pwr.a then lowerTo c s
      else rampTo target { s with pwr := { s.pwr with capLag := decide (c < 100 * s.pwr.draw) } }
    fillTo d s

/-- One tick: 10 µs of local time, the measurements, the governor (R400, R409, R427). -/
def tick (demand draw vin tj gddr : Nat) (s : State) : State :=
  let s := { s with now := s.now + 10000,
                    pwr := { s.pwr with demand := demand, draw := draw, vin := vin, tj := tj, gddr := gddr } }
  govern demand s

/-- A cap below lit-idle is clamped (R410). -/
def clampCap (v : Word) (s : State) : Word × State :=
  if bitsOf v.toNat 10 0 < litIdle s then
    ((v &&& ~~~0x7FF#32) ||| BitVec.ofNat 32 (litIdle s), faultAny 0x17 11 0 none { s with pwr := { s.pwr with capClamped := true } })
  else (v, s)

/-! ### Gates (R416, R417) -/

/-- The units whose gates hang under a domain, by R8 and R413: 0 ARITH (64 Tumbler engines, 128 scratchpad slices), 1 SWITCH (32 tile
engines, 512 prefetchers, 16 CXL ports), 2 FABRIC-MAC (64 optical ports), 3 CTRL (16 cores), 4 MEMC (18 channels). DESIGN CHOICE: the numbers
run on in that order (log entry 35). -/
def domainUnits (d : Nat) : List Nat :=
  if d = 0 then List.range 192
  else if d = 1 then (List.range 560).map (192 + ·)
  else if d = 2 then (List.range 64).map (752 + ·)
  else if d = 3 then (List.range 16).map (816 + ·)
  else if d = 4 then (List.range 18).map (832 + ·)
  else []

/-- A unit holds work: a tile engine or a prefetcher that a queue holds, an optical port with flits not acknowledged (R416). -/
def unitBusy (s : State) (u : Nat) : Bool :=
  (decide (192 ≤ u) && decide (u < 224) && (s.qs.engines.find (u - 192)).isSome)
    || (decide (224 ≤ u) && decide (u < 736) && s.qs.fetchers.any (fun f => f.2 == u - 224))
    || (decide (752 ≤ u) && decide (u < 816) && (match s.opt.find (u - 752) with | some o => !o.sent.isEmpty | none => false))

/-- Every gate below a domain is closed, and no partition is ACTIVE. -/
def mayGate (s : State) (d : Nat) : Bool := (domainUnits d).all (fun u => s.clk.closed.contains u) && !anyActive s

/-- OFF_REQ has been written: each domain asked for is gated or the refusal counted; one whose bit is clear opens. -/
def gateDomains (req : Nat) (s : State) : State :=
  (List.range 5).foldl (fun s d =>
    if !bitOf req d then { s with clk := { s.clk with gated := if bitOf s.clk.gated d then s.clk.gated - 2 ^ d else s.clk.gated } }
    else if bitOf s.clk.gated d then s
    else if mayGate s d then { s with clk := { s.clk with gated := s.clk.gated + 2 ^ d } }
    else bump 0x1000C s) s

end Sys2Proof.Machine
end

