-- ==== Sys2Proof/Machine/Clocks.lean ====
section
/-! DEFINITION. Clocks (R414 to R416) and the start-up of the module (R389, R390, R431 to R436). -/

namespace Sys2Proof.Machine

/-! ### The clock sources (R414, R415) -/

/-- REFERENCE_PRESENT: the AON domain runs on the reference. -/
def execReferencePresent (s : State) : Result :=
  runAon (fun s => { s with clk := { s.clk with refOk := true, src := if s.clk.src = 0 then 1 else s.clk.src } }) s

/-- ROOT_PLL_LOCK: the root locks to the reference, and the AON domain runs on it. After a loss the relock is ROOT_RELOCK. -/
def execRootPllLock (s : State) : Result :=
  runAon (fun s => if s.clk.refOk && !s.clk.stopped then { s with clk := { s.clk with rootLock := true, src := 2 } } else s) s

/-- A clock is lost: every domain but AON stops, and AON falls back to its oscillator. -/
def clockLost (s : State) : State :=
  faultAny 0x18 11 3 none (bump 0x10010 { s with clk := { s.clk with refOk := false, rootLock := false, src := 0, stopped := true } })

/-- REFERENCE_LOSS, of the reference or of root lock. -/
def execReferenceLoss (s : State) : Result :=
  runAon (fun s => if (s.clk.refOk || s.clk.rootLock) && !s.clk.stopped then clockLost s else s) s

/-- ROOT_RELOCK: a hard reset. -/
def execRootRelock (s : State) : Result := runAon (fun s => if s.clk.stopped then hardReset s else s) s

/-- UNIT_GATE_IDLE (R416): the gate of a unit that holds work stays open. -/
def execUnitGateIdle (unit : Nat) (s : State) : Result :=
  run (fun s => if s.clk.closed.contains unit || unitBusy s unit then s
    else { s with clk := { s.clk with closed := s.clk.closed.filter (· < unit) ++ [unit] ++ s.clk.closed.filter (unit < ·) } }) s

/-! ### The Woquel image (R433 to R437) -/

/-- Bytes `a` to `a + n - 1` of an image, as a number. -/
def field (b : Bytes) (a n : Nat) : Nat := leNat ((b.drop a).take n)

/-- The directory's used entries: type, offset, size (R434). -/
def sections (b : Bytes) : List (Nat × Nat × Nat) :=
  ((List.range 15).map (fun i => (field b (16 + 16 * i) 2, field b (20 + 16 * i) 4, field b (24 + 16 * i) 4))).filter (fun e => e.1 != 0)

/-- Two sections share no byte. -/
def apart (x y : Nat × Nat × Nat) : Bool := decide (x.2.1 + x.2.2 ≤ y.2.1) || decide (y.2.1 + y.2.2 ≤ x.2.1)

/-- No two of a list overlap. -/
def allApart : List (Nat × Nat × Nat) → Bool
  | [] => true
  | x :: xs => xs.all (apart x) && allApart xs

/-- The section of a type. -/
def sectionOf (b : Bytes) (ty : Nat) : Option Bytes :=
  ((sections b).find? (fun e => e.1 == ty)).map (fun e => (b.drop e.2.1).take e.2.2)

/-- The size that R435 gives a section. -/
def sizeOk (e : Nat × Nat × Nat) : Bool :=
  match e.1 with
  | 1 => e.2.2 == 4096 && e.2.1 == 0x100
  | 2 => e.2.2 == 64
  | 3 => e.2.2 % 8 == 0 && decide (e.2.2 ≤ 8192)
  | 4 => decide (e.2.2 ≤ 32768)
  | 5 => e.2.2 == 1793
  | 6 => decide (e.2.2 ≤ 256)
  | _ => true

/-- The rules of R435. -/
def directoryOk (b : Bytes) (len : Nat) : Bool :=
  let es := sections b
  es.all (fun e => decide (e.2.1 + e.2.2 ≤ len) && sizeOk e && (es.filter (fun x => x.1 == e.1)).length == 1) && allApart es
    && (sectionOf b 1).isSome && (sectionOf b 2).isSome

/-- The rules of R436. -/
def configOk (c : Bytes) (hasKey : Bool) : Bool :=
  let flags := field c 1 1
  decide (field c 0 1 ≤ 1) && decide (flags ≤ 3) && (!bitOf flags 1 || hasKey) && decide (field c 2 2 ≤ 8191) && decide (field c 4 1 ≤ 16)
    && field c 5 3 == 0 && ((List.range 16).all (fun p => decide (field c (8 + p) 1 ≤ 15) || field c (8 + p) 1 == 31))
    && ((c.drop 24).all (fun x => x == 0#8))

/-- The reason for which an image is rejected, 0 for none (R433, R460). -/
def imageErr (flash : Option Bytes) : Nat :=
  match flash with
  | none => 1
  | some f =>
    let len := field f 8 4
    let b := f.take len
    if f.length < 256 then 1
    else if f.take 4 ≠ [0x57#8, 0x4F#8, 0x51#8, 0x4C#8] ∨ field f 4 2 ≠ 1 then 2
    else if 4194304 < len ∨ len < 256 then 3
    else if f.length < len then 1
    else if crc32c (b.drop 16) ≠ BitVec.ofNat 32 (field f 12 4) then 4
    else if !directoryOk b len then 5
    else if !configOk ((sectionOf b 2).getD []) (sectionOf b 5).isSome then 6
    else 0

/-- The presets: offset and value (R437). -/
def presetsOf (b : Bytes) : List (Nat × Nat) :=
  let p := (sectionOf b 3).getD []
  (List.range (p.length / 8)).map (fun i => (field p (8 * i) 4, field p (8 * i + 4) 4))

/-- What an accepted image sets (R431 step 3, R436). -/
def imageSys (b : Bytes) (y : Sys) : Sys :=
  let c := (sectionOf b 2).getD []
  { y with imgRead := true, imgOk := true, imgErr := 0, spine := field c 0 1 == 1, moduleId := field c 2 2,
           reserveGiB := if field c 4 1 = 0 then 4 else field c 4 1, attachMap := (List.range 16).map (fun p => field c (8 + p) 1),
           startDark := bitOf (field c 1 1) 0, reqCosign := bitOf (field c 1 1) 1, opKey := sectionOf b 5, helper := (sectionOf b 1).getD [],
           presets := presetsOf b, certChain := (sectionOf b 4).getD [], wqDigest := shake256 64 b }

/-- The ports of a node-role module that R297 holds in reset are recorded; the others start to train (R431 step 3). -/
def startPorts (s : State) : State :=
  (List.range 16).foldl (fun s p => if cxlFree s p then cxlTrain p s else if s.sys.spine then s else faultAt 0x10 9 none p s) s

/-- The boot ROM has read the flash, which it does once (R431 step 2, R433). -/
def imageRead (flash : Option Bytes) (s : State) : State :=
  if s.sys.imgRead then s
  else
    match imageErr flash, flash with
    | 0, some f => startPorts { s with sys := imageSys (f.take (field f 8 4)) s.sys }
    | e, _ => faultAny 0x1B 10 2 none { s with sys := { s.sys with imgRead := true, imgErr := e, idOk := false } }

/-- WOQUEL_IMAGE_READ. -/
def execWoquelImageRead (flash : Option Bytes) (s : State) : Result := runAon (imageRead flash) s

/-- IDENTITY_REGENERATED (R389, R390): it ends once at each start, and leaves ID_OK at 0 where the image was rejected. -/
def execIdentityRegenerated (ok : Bool) (s : State) : Result :=
  runAon (fun s =>
    if s.sys.idDone || s.sys.imgErr != 0 then s
    else
      let s := { s with sys := { s.sys with idDone := true, idOk := ok } }
      if ok then s else faultAny 0x1C 11 2 none s) s

end Sys2Proof.Machine
end

