-- ==== Sys2Proof/Machine/Mgmt.lean ====
section
/-! DEFINITION. Messages of the lease, of reports, of attestation and of resets (R364, R381, R393, R394, R444, R448), the log and the ageing
record (R441, R454), and the download session (R440, R441). -/

namespace Sys2Proof.Machine

/-! ### Version, lease, reports -/

/-- GET_VERSION (R444): SERVER, COUNT, and the pair of major 1. -/
def execGetVersion (r : Req) (s : State) : Result :=
  run (message r ⟨1, false, true, true, true⟩ none (.getVersion r) (fun _ => []) (fun s =>
    (s, some (leBytes 1 (bit (fwRuns s)) ++ leBytes 1 1 ++ leBytes 1 1
      ++ leBytes 1 (match s.fw.img with | some i => i.msgMinor | none => 0))))) s

/-- MGT_HEARTBEAT (R381). -/
def execMgtHeartbeat (r : Req) (s : State) : Result :=
  run (message r ⟨2, false, true, false, true⟩ none (.mgtHeartbeat r) (fun _ => []) done) s

/-- The number of a lease holder (R399). -/
def holderCode : Option Link → Nat
  | none => 0
  | some .a => 1
  | some .b => 2

/-- The lease is free for a link: it has no holder, the link holds it, or the holder has been silent for LEASE_MS (R381). -/
def leaseFree (s : State) (l : Link) : Bool :=
  match s.mgt.holder with
  | none => true
  | some h => h == l || decide (s.mgt.heardNs + s.mgt.leaseMs * 1000000 ≤ s.now)

/-- The lease changes hands, and both managers are told. -/
def giveLease (l : Option Link) (s : State) : State :=
  if s.mgt.holder = l then s
  else report 0x8003 (holderCode l) (holderCode s.mgt.holder) { s with mgt := { s.mgt with holder := l, heardNs := s.now } }

/-- A link takes the lease; the message that takes it is the holder's first. -/
def takeLease (l : Link) (s : State) : Answer :=
  let s := heard (.mgt l) (giveLease (some l) s)
  (s, some (leBytes 1 (holderCode (some l))))

/-- LEASE_TAKE (R381). -/
def execLeaseTake (r : Req) (s : State) : Result :=
  run (message r ⟨3, false, true, false, true⟩ none (.leaseTake r)
    (fun s => match r.src with | .mgt l => [(!leaseFree s l, .lease)] | .cxl _ => [])
    (fun s => match r.src with | .mgt l => takeLease l s | .cxl _ => done s)) s

/-- LEASE_RELEASE (R381): a mutation, so only its holder gives it up. -/
def execLeaseRelease (r : Req) (s : State) : Result :=
  run (message r ⟨4, true, true, false, true⟩ none (.leaseRelease r) (fun _ => []) (fun s => done (giveLease none s))) s

/-- `a` is at or below `b`, modulo 2^32. -/
def seqAtMost (a b : Nat) : Bool := decide ((b + 2 ^ 32 - a) % 2 ^ 32 < 2 ^ 31)

/-- The reports of a link up to a REPORT_SEQ are acknowledged (R448). -/
def ackReports (l : Link) (seq : Nat) (s : State) : State :=
  let rest (rs : List Report) : List Report := rs.filter (fun r => !seqAtMost r.seq seq)
  match l with
  | .a => { s with fw := { s.fw with repA := rest s.fw.repA } }
  | .b => { s with fw := { s.fw with repB := rest s.fw.repB } }

/-- REPORT_ACK (R448). -/
def execReportAck (r : Req) (seq : Nat) (s : State) : Result :=
  run (message r ⟨5, false, true, false, true⟩ none (.reportAck r seq) (fun _ => [])
    (fun s => match r.src with | .mgt l => done (ackReports l seq s) | .cxl _ => done s)) s

/-- The reports of a link that still wait are sent again (R448). -/
def resendReports (l : Link) (s : State) : State :=
  let rs : List Report := match l with | .a => s.fw.repA | .b => s.fw.repB
  rs.foldl (fun s r => emit (.report l r.seq r.code r.payload) s) s

/-- REPORT_RESEND (R448): the report engine needs no firmware. -/
def execReportResend (l : Link) (s : State) : Result := run (resendReports l) s

/-! ### Attestation (R393, R394) -/

def PartSt.code : PartSt → Nat
  | .free => 0 | .idle => 1 | .active => 2 | .resetting => 3 | .torn => 4 | .releasing => 5

/-- The identifier that a key slot shows: a RETIRED key shows as 0 (R394). -/
def keyId (k : Option Key) : Nat := match k with | some k => if k.retired.isSome then 0 else k.id | none => 0

/-- The flags of a partition entry. -/
def partFlags (x : Part) : Nat :=
  bit x.prm.privileged + fld 1 (bit (consents x 0)) + fld 2 (bit (consents x 1)) + fld 3 (bit (consents x 2)) + fld 4 (bit x.prm.scrub)
    + fld 5 (bit x.prm.poison)

/-- The 40 bytes of a partition entry; all zero for a FREE partition. -/
def partEntry (n : Nat) (x : Part) : Bytes :=
  if x.st = .free then zeroBytes 40
  else
    leBytes 1 n ++ leBytes 1 x.st.code ++ leBytes 1 (partFlags x) ++ leBytes 1 0 ++ leBytes 4 x.prm.jobTag ++ leBytes 8 x.prm.tenant
      ++ leBytes 4 (keyId x.cur) ++ leBytes 4 (keyId x.nxt) ++ (match x.consent with | some t => shake256 16 t | none => zeroBytes 16)

/-- The partitions that a report shows to a port: all for a manager, those of its attachment for a host. -/
def attestParts (s : State) (src : Src) : List Nat :=
  (List.range 64).filter (fun n => (part s n).st != .free && (match srcAttach s src with | some a => boundTo s n a | none => true))

/-- The attestation report, up to its signature. -/
def attestBody (s : State) (src : Src) (nonce : Bytes) : Bytes :=
  let ps := attestParts s src
  let fw := match s.fw.img with | some i => i.digest | none => zeroBytes 64
  let ver := match s.fw.img with | some i => i.version | none => 0
  let cos := match s.fw.img with | some i => i.cosigned | none => false
  leBytes 2 1 ++ leBytes 2 0 ++ leBytes 2 s.sys.moduleId ++ leBytes 1 (bit s.sys.spine) ++ leBytes 1 ps.length
    ++ (nonce ++ zeroBytes 32).take 32 ++ leBytes 8 s.now ++ (fw ++ zeroBytes 64).take 64 ++ leBytes 4 ver
    ++ leBytes 1 (bit cos + fld 1 (bit s.fw.hinged) + fld 2 (bit s.sys.debugSeen)) ++ leBytes 1 Config.romVersion.toNat ++ zeroBytes 2
    ++ (s.sys.wqDigest ++ zeroBytes 64).take 64
    ++ shake256 8 ((List.range 64).flatMap (fun n => partEntry n (part s n)))
    ++ ps.flatMap (fun n => partEntry n (part s n))

/-- The attestation report with its signature. -/
def attest (s : State) (src : Src) (nonce : Bytes) : Bytes :=
  let b := attestBody s src nonce
  b ++ (Config.falconSign (shake256 64 b) ++ zeroBytes 1280).take 1280

/-- ATTEST_GET (R390, R393). -/
def execAttestGet (r : Req) (nonce : Bytes) (s : State) : Result :=
  run (message r ⟨6, false, true, true, true⟩ none (.attestGet r nonce) (fun s => [(!s.sys.idOk, .identity)])
    (fun s => (s, some (attest s r.src nonce)))) s

/-! ### Module resets (R364, R365) -/

/-- A module reset of a kind: 0 soft RETAIN-FABRIC, 1 soft FULL, 2 hard. -/
def resetKind (k : Nat) (s : State) : State := if k = 2 then hardReset s else softReset (k == 1) 5 true s

/-- MOD_RESET (R364, R447): the response goes before the reset begins. -/
def execModReset (r : Req) (kind : Nat) (s : State) : Result :=
  run (message r ⟨7, true, true, false, true⟩ none (.modReset r kind) (fun _ => [(decide (2 < kind), .range)])
    (fun s => (resetKind kind (answer r .ok [] s), none))) s

/-- The slice of an SRAM address, of 6 MiB (R13, R419). -/
def sramSlice (addr : Nat) : Nat := addr / (6 * 2 ^ 20) % 256

/-- A word of the SRAM read with a single wrong bit: it is corrected, written back and counted for its slice and its row (R14, R421, R424). -/
def sramCorrected (addr : Nat) (s : State) : State :=
  let row := 2 ^ 20 * sramSlice addr + addr % (6 * 2 ^ 20) / 256
  health (930 + sramSlice addr) 0 1 { s with hlt := { s.hlt with srErr := s.hlt.srErr.put 0 row (s.hlt.srErr.get 0 row + 1) } }

/-- The operand of some vertex meets an uncorrectable word of the scratchpad, if one is staged where the word lies, which is free (R14, R206). -/
def stagedPoison (s : State) : State :=
  let vs := s.col.verts.filter (fun v => v.l ++ v.r != [])
  let (n, s) := freeVal (vs.length + 1) s
  match vs[n]? with
  | some v => (match s.col.grps.find v.ctx with | some g => vertPoison g v (v.l != []) s | none => s)
  | none => s

/-- The segment of the read cache that holds an uncorrectable word is dropped; its data is read again from pool memory. Which word of
the cache a segment holds is free (R14). -/
def dropSegment (s : State) : State :=
  let (n, s) := freeVal (s.qs.segs.length + 1) s
  { s with qs := { s.qs with segs := s.qs.segs.eraseIdx n } }

/-- An uncorrectable word in a data region (R14): the record, the slice's score, and poison for its consumer. Region 128 is the scratchpad, 129
the packet buffer, for whose words the manual gives no consumer of the poison; the others are the read cache. -/
def sramData (addr region : Nat) (s : State) : State :=
  let s := health (930 + sramSlice addr) 1 1 (faultAt 4 (if region = 128 then 5 else if region = 129 then 6 else 3) none addr s)
  if region = 128 then settled (stagedPoison s) else if region = 129 then s else dropSegment s

/-- A module fault (R366): the record, the report, the reset kind that its region asks for. Regions 1, 2 and 3 are the endpoint table, the
multicast trees and flow state; region 0 is control memory, whose fault leaves the dossiers unwritten. -/
def moduleFault (addr region : Nat) (s : State) : State :=
  let full := decide (1 ≤ region) && decide (region ≤ 3)
  let kind := bit (full || actsFull s)
  softReset full 6 (region != 0) (report 0x8006 addr kind (health (930 + sramSlice addr) 1 1 (faultAt 5 10 none addr s)))

/-- An error in the SRAM (R14): from region 128 on an uncorrectable word of a data region, regions 64 to 127 a word that was corrected,
others an uncorrectable word of tables or control memory, the module fault (log entry 91). -/
def sramError (addr region : Nat) (s : State) : State :=
  if 128 ≤ region then sramData addr region s else if 64 ≤ region then sramCorrected addr s else moduleFault addr region s

/-- MODULE_FAULT (R14, R366, R368). -/
def execModuleFault (addr : Nat) (region : Nat) (s : State) : Result := run (sramError addr region) s

/-! ### Log and ageing record -/

/-- The entries of the log ring from `ENTRY` on that have been written; one that has been overwritten, or cleared, shows SEQ all ones
(R454). -/
def logEntries (s : State) (entry count : Nat) : Bytes :=
  ((List.range count).filter (fun k => decide (entry + k < s.fw.logSeq))).flatMap (fun k =>
    let e := (s.fw.log.find ((entry + k) % 65536)).getD (zeroBytes 64)
    if s.fw.log.find ((entry + k) % 65536) = none ∨ entry + k + 65536 < s.fw.logSeq + 1 then leBytes 8 (2 ^ 64 - 1) ++ e.drop 8 else e)

/-- LOG_READ (R454). -/
def execLogRead (r : Req) (entry count : Nat) (s : State) : Result :=
  run (message r ⟨0x801, false, true, false, false⟩ none (.logRead r entry count)
    (fun _ => [(count == 0 || decide (63 < count), .range)]) (fun s => (s, some (logEntries s entry count)))) s

/-- AGE_READ (R441). -/
def execAgeRead (r : Req) (off : Nat) (s : State) : Result :=
  run (message r ⟨0x802, false, true, false, false⟩ none (.ageRead r off) (fun _ => [])
    (fun s => (s, some ((s.hlt.record.drop off).take 4032)))) s

/-! ### The download session (R440, R441) -/

/-- The boot ROM waits for a download: no image runs. -/
def romWaits (s : State) : Bool := !fwRuns s

/-- A host may not open a session while an image runs (R440). -/
def fwDenied (s : State) (r : Req) : Bool := match r.src with | .cxl _ => fwRuns s | .mgt _ => false

/-- The session of this port. -/
def mySession (s : State) (r : Req) : Option Session :=
  match s.fw.session with | some x => if x.src = r.src then some x else none | none => none

/-- FW_STATUS (R447). -/
def execFwStatus (r : Req) (s : State) : Result :=
  run (message r ⟨8, false, true, true, true⟩ none (.fwStatus r) (fun _ => []) (fun s =>
    let got := match s.fw.session with | some x => x.img.length + x.hist.length | none => 0
    (s, some (leBytes 4 (fwState s + fld 3 (bit s.sys.imgOk) + fld 4 (bit s.fw.hinged))
      ++ leBytes 4 (match s.fw.img with | some i => i.version | none => 0) ++ leBytes 1 Config.romVersion.toNat ++ leBytes 4 got)))) s

/-- FW_BEGIN (R19, R433, R440, R441). -/
def execFwBegin (r : Req) (imageLen histLen : Nat) (s : State) : Result :=
  run (message r ⟨0x101, true, true, true, true⟩ none (.fwBegin r imageLen histLen)
    (fun s => [(fwDenied s r, .denied), (s.sys.imgRead && !s.sys.imgOk, .image),
      ((match s.fw.session with | some x => x.src != r.src | none => false), .busy),
      (decide (imageLen < 4096) || decide (1048576 < histLen) || (fwRuns s && histLen != 0), .range),
      (decide (12582912 < imageLen), .tooLarge)])
    (fun s => done { s with fw := { s.fw with session := some ⟨r.src, imageLen, histLen, [], []⟩, timedOut := none } })) s

/-- Bytes listed in staging from an offset on. -/
def stage (m : Tab Byte) (off : Nat) : Bytes → Tab Byte
  | [] => m
  | b :: bs => stage (m.ins off b) (off + 1) bs

/-- FW_DATA (R440, R441). -/
def execFwData (r : Req) (region off : Nat) (data : Bytes) (s : State) : Result :=
  run (message r ⟨0x102, true, true, true, true⟩ none (.fwData r region off data)
    (fun s => [(fwDenied s r, .denied), ((mySession s r).isNone, .state),
      ((match mySession s r with
        | some x => decide (1 < region) || decide (4032 < data.length) || decide ((if region = 0 then x.imgLen else x.histLen) < off + data.length)
        | none => false), .range)])
    (fun s => match mySession s r with
      | some x =>
        let x' : Session := if region = 0 then { x with img := stage x.img off data } else { x with hist := stage x.hist off data }
        done { s with fw := { s.fw with session := some x' } }
      | none => done s)) s

/-- FW_ABORT (R440). -/
def execFwAbort (r : Req) (s : State) : Result :=
  run (message r ⟨0x104, true, true, true, true⟩ none (.fwAbort r)
    (fun s => [(fwDenied s r, .denied), ((mySession s r).isNone, .state)])
    (fun s => done { s with fw := { s.fw with session := none } })) s

/-- FW_SESSION_TIMEOUT (R441). -/
def execFwSessionTimeout (s : State) : Result :=
  run (fun s => match s.fw.session with
    | some x => { s with fw := { s.fw with session := none, timedOut := some x.src } }
    | none => s) s

end Sys2Proof.Machine
end

