-- ==== Sys2Proof/Machine/Partition.lean ====
section
/-! DEFINITION. The partition commands (R375 to R398), JOB_ABORT (R352), DOSSIER_READ (R363), TRACE_SET (R455). -/

namespace Sys2Proof.Machine

/-- A module has 64 partitions (R374). -/
def noPart (p : Nat) : Bool := decide (63 < p)

/-- A partition is in one of the states of a list. -/
def partIn (s : State) (p : Nat) (l : List PartSt) : Bool := l.contains (part s p).st

/-! ### PART_SETUP (R376) -/

/-- Two ranges of numbers meet. -/
def meet (b1 n1 b2 n2 : Nat) : Bool := decide (0 < n1) && decide (0 < n2) && decide (b1 < b2 + n2) && decide (b2 < b1 + n1)

/-- The request timeout in force, in µs (R34). -/
def reqUs (m : PartParams) : Nat := if m.reqTimeout = 0 then 50 else m.reqTimeout

/-- The back-invalidation timeout in force, in µs (R80). -/
def biUs (m : PartParams) : Nat := if m.biTimeout = 0 then 10 else m.biTimeout

/-- A parameter lies outside its range. -/
def setupRange (m : PartParams) : Bool :=
  decide (65535 < m.qBase) || decide (65536 < m.qBase + m.qCount) || decide (65535 < m.cBase) || decide (65536 < m.cBase + m.cCount)
    || decide (2 ^ 20 ≤ m.budget) || decide (2 ^ 32 ≤ m.jobTag) || decide (reqUs m < 5) || decide (10000 < reqUs m)
    || decide (1000 < biUs m) || decide (reqUs m < 4 * biUs m) || (m.tenantKey.length != 0 && m.tenantKey.length != 1793)

/-- The job tag, the queue numbers or the counters belong to another partition. -/
def setupOverlap (s : State) (m : PartParams) : Bool :=
  s.parts.any (fun e => e.2.st != .free && e.1 != m.part
    && (e.2.prm.jobTag == m.jobTag || meet e.2.prm.qBase e.2.prm.qCount m.qBase m.qCount
      || meet e.2.prm.cBase e.2.prm.cCount m.cBase m.cCount))

/-- The table budgets of the other partitions, in 8 KiB units. -/
def budgets (s : State) (p : Nat) : Nat := s.parts.foldl (fun a e => if e.1 = p ∨ e.2.st = .free then a else a + e.2.prm.budget) 0

/-- The budget exceeds the free pool reserve (R97). -/
def setupFull (s : State) (m : PartParams) : Bool :=
  decide (s.sys.reserveGiB * 2 ^ 30 < m.budget * 8192 + 2 * 2 ^ 20 + budgets s m.part * 8192)

/-- The partition is set up: its generation tag, the tags that it has retired and its invalidation number stay (R398). -/
def setup (m : PartParams) (s : State) : State :=
  let x := part s m.part
  setPart s m.part { Part.init with st := .idle, gen := x.gen, retired := x.retired, invSeq := x.invSeq, prm := m }

/-- PART_SETUP (R375, R376). -/
def execPartSetup (r : Req) (p : PartParams) (s : State) : Result :=
  run (message r ⟨0x201, true, true, false, false⟩ none (.partSetup r p)
    (fun s => [(s.sys.spine && (p.qCount != 0 || p.budget != 0), .role), (noPart p.part, .range),
      (!partIn s p.part [.free, .releasing], .state), (partIn s p.part [.releasing], .busy), (setupRange p, .range),
      (setupOverlap s p, .overlap), (setupFull s p, .full)])
    (fun s => done (setup p s))) s

/-! ### Bindings (R302, R375, R378) -/

/-- A slot of an attachment is in use, or the partition has a slot there already. -/
def bindOverlap (s : State) (p a slot : Nat) : Bool := (partInSlot s a slot).isSome || boundTo s p a

/-- A partition is bound; its bindings stand in the order of the attachments. -/
def bind (p a slot : Nat) (s : State) : State :=
  let x := part s p
  setPart s p { x with binds := x.binds.filter (fun b => b.1 < a) ++ [(a, slot)] ++ x.binds.filter (fun b => a < b.1) }

/-- PART_BIND (R375, R376, R378). -/
def execPartBind (r : Req) (part attach slot : Nat) (s : State) : Result :=
  run (message r ⟨0x202, true, true, false, false⟩ none (.partBind r part attach slot)
    (fun s => [(s.sys.spine, .role), (noPart part, .range), (!partIn s part [.idle, .active], .state),
      (decide (3 < slot) || !attachValid s attach, .range), (bindOverlap s part attach slot, .overlap)])
    (fun s => done (bind part attach slot s))) s

/-- A record of this module presents an extent of the partition to an attachment. -/
def presents (s : State) (p a : Nat) : Bool :=
  s.pool.ext.any (fun e => e.2.st != .free && e.2.kind != .mirror && e.2.part == p && bitOf e.2.mask a)

/-- A binding is removed. -/
def unbind (p a slot : Nat) (s : State) : State :=
  let x := part s p
  setPart s p { x with binds := x.binds.filter (fun b => b != (a, slot)) }

/-- PART_UNBIND (R375, R378). -/
def execPartUnbind (r : Req) (part attach slot : Nat) (s : State) : Result :=
  run (message r ⟨0x203, true, true, false, false⟩ none (.partUnbind r part attach slot)
    (fun s => [(noPart part, .range),
      (!partIn s part [.idle] || !(Machine.part s part).binds.contains (attach, slot), .state), (presents s part attach, .busy)])
    (fun s => done (unbind part attach slot s))) s

/-! ### KEY_LOAD (R384, R385) -/

/-- The job key that WRAPPED holds, if its tag holds (R384). -/
def unwrap (s : State) (p kid : Nat) (ct wrapped : Bytes) : Option Bytes :=
  let b := leBytes 2 s.sys.moduleId ++ leBytes 1 p ++ leBytes 4 (part s p).prm.jobTag ++ leBytes 4 kid
  Config.gcmOpen (shake256 32 (Config.mlkemDecaps ct ++ b)) b wrapped

/-- The next slot holds a key that retired less than 100 ms ago. -/
def retiredRecently (s : State) (p : Nat) : Bool :=
  match (part s p).nxt with
  | some k => (match k.retired with | some t => decide (s.now < t + 100000000) | none => false)
  | none => false

/-- Bit 0 of the identifier equals that of the current key. -/
def samePhase (s : State) (p kid : Nat) : Bool :=
  match (part s p).cur with | some k => bitOf k.id 0 == bitOf kid 0 | none => false

/-- A key enters a slot. Slot 0 makes the partition ACTIVE; a rebuild of its extents goes on under the key. -/
def loadKey (p slot kid : Nat) (key : Bytes) (s : State) : State :=
  let x := part s p
  if slot = 0 then
    let s := freshCounts p (setPart s p { x with cur := some ⟨kid, key, none⟩, st := .active })
    let es := s.pool.ext.filter (fun e => e.2.kind == .home && e.2.st == .rebuilding && e.2.part == p && !rebuildOpen s e.1)
    es.foldl (fun s e => rebuildStep e.1 s) s
  else setPart s p { x with nxt := some ⟨kid, key, none⟩ }

/-- KEY_LOAD (R375, R384, R385, R390). -/
def execKeyLoad (r : Req) (part slot keyId : Nat) (ct wrapped : Bytes) (s : State) : Result :=
  run (message r ⟨0x204, true, true, false, false⟩ none (.keyLoad r part slot keyId ct wrapped)
    (fun s => [(!s.sys.idOk, .identity), (noPart part, .range),
      ((slot == 0 && !partIn s part [.idle]) || (slot == 1 && !partIn s part [.active]), .state),
      (slot == 1 && retiredRecently s part, .busy), (decide (1 < slot) || keyId == 0, .range),
      ((slot == 1 && samePhase s part keyId) || (unwrap s part keyId ct wrapped).isNone, .key)])
    (fun s => match unwrap s part keyId ct wrapped with
      | some k => done (settled (loadKey part slot keyId k s))
      | none => done s)) s

/-! ### Reset and release (R358 to R361, R397, R398) -/

/-- PART_RESET (R358, R359, R446): the response goes once it is accepted. -/
def execPartReset (r : Req) (part policy : Nat) (s : State) : Result :=
  run (message r ⟨0x205, true, true, false, false⟩ none (.partReset r part policy)
    (fun s => [(noPart part, .range), (!partIn s part [.idle, .active, .torn], .state), (decide (2 < policy), .range)])
    (fun s => (settled (partReset part (if policy = 2 then defaultPolicy s part else policy) (answer r .ok [] s)), none))) s

/-- A HOME record names the partition in a state other than FREE or RETAINED. -/
def stillHome (s : State) (p : Nat) : Bool :=
  s.pool.ext.any (fun e => e.2.kind == .home && e.2.part == p && e.2.st != .free && e.2.st != .retained)

/-- PART_RELEASE (R375, R398, R446). -/
def execPartRelease (r : Req) (part : Nat) (s : State) : Result :=
  run (message r ⟨0x206, true, true, false, false⟩ none (.partRelease r part)
    (fun s => [(noPart part, .range), (!partIn s part [.idle, .torn] || stillHome s part, .state)])
    (fun s =>
      let s := clearPart part (answer r .ok [] s)
      (settled (setPart s part { Machine.part s part with st := .releasing, rst := none }), none))) s

/-- The trace records of a partition in the log ring read as zero (R397). -/
def scrubLog (p : Nat) (s : State) : State :=
  let mine (e : Bytes) : Bool := leNat ((e.drop 16).take 1) == 1 && leNat ((e.drop 18).take 1) == p
  { s with fw := { s.fw with log := s.fw.log.map (fun e => (e.1, if mine e.2 then zeroBytes 64 else e.2)) } }

/-- The last step of R398: the tag rises, and the partition is FREE. -/
def releaseEnd (p : Nat) (s : State) : State :=
  let x := raiseGen s (part s p)
  let s := setPart s p { Part.init with gen := x.gen, retired := x.retired, invSeq := x.invSeq }
  let s := { s with dossiers := s.dossiers.del p,
                    xlt := { s.xlt with cache := s.xlt.cache.filter (fun c => c.part != p), ptrs := s.xlt.ptrs.filter (fun c => c.part != p),
                                        walks := s.xlt.walks.filter (fun w => w.part != p) } }
  report 0x8007 p 0 (scrubLog p s)

/-- The scrubs of a release have ended: the tag may have to wait (R360, R398). -/
def releaseScrubbed (p : Nat) (s : State) : State :=
  let x := part s p
  if x.st = .releasing ∧ x.rst = none then
    (if genBlocked s x then setPart s p { x with rst := some 2 } else releaseEnd p s)
  else s

/-- PART_RELEASE_SCRUB_DONE (R397, R398). -/
def execPartReleaseScrubDone (part : Nat) (s : State) : Result := run (releaseScrubbed part) s

/-- The 100 ms of a retired tag have passed: the reset or the release that waits goes on (R360, R398). -/
def tagFree (p : Nat) (s : State) : State :=
  let x := part s p
  match x.rst with
  | none => s
  | some k =>
    if k < 2 then s
    else
      let s := setPart s p { x with retired := x.retired.filter (fun t => t.1 != (x.gen + 1) % 256) }
      if x.st = .resetting then settled (resetTail p k s)
      else if x.st = .releasing then releaseEnd p s
      else s

/-- GEN_TAG_REUSE_WAIT_END (R360). -/
def execGenTagReuseWaitEnd (part : Nat) (s : State) : Result := run (tagFree part) s

/-! ### Consent (R395, R396) -/

/-- A field of a consent token. -/
def tokenField (t : Bytes) (at_ n : Nat) : Nat := leNat ((t.drop at_).take n)

/-- The token holds for a partition (R396). -/
def tokenOk (s : State) (x : Part) (t : Bytes) : Bool :=
  x.prm.tenantKey != [] && t.length == 1312
    && Config.falconVerify x.prm.tenantKey (shake256 64 (t.take 32)) (t.drop 32)
    && tokenField t 4 4 == x.prm.jobTag && tokenField t 8 8 == x.prm.tenant
    && (tokenField t 16 2 == s.sys.moduleId || tokenField t 16 2 == 0xFFFF)
    && decide (0 < tokenField t 2 1) && decide (tokenField t 2 1 < 8)

/-- A token is refused: DENIED, with a record of class SECURITY (R396). -/
def tokenRefused (r : Req) (p : Nat) (s : State) : Answer := (answer r .denied [] (faultAny 0x1C 0 0 (some p) s), none)

/-- Consent ends: the trace mask clears, and copying of the job stops (R239, R396, R455). -/
def endConsent (p : Nat) (s : State) : State :=
  let s := setPart s p { part s p with consent := none, trace := [] }
  dropConsent (part s p).prm.jobTag s

/-- A token becomes the partition's: a scope without TRACE clears the mask. -/
def setConsent (p : Nat) (t : Bytes) (s : State) : State :=
  let x := part s p
  let x' : Part := { x with consent := some t }
  setPart s p { x' with trace := if consents x' 1 then x.trace else [] }

/-- CONSENT_SET (R375, R396). -/
def execConsentSet (r : Req) (part : Nat) (token : Bytes) (s : State) : Result :=
  run (message r ⟨0x207, true, true, true, false⟩ (some part) (.consentSet r part token) (fun _ => [])
    (fun s =>
      if !tokenOk s (Machine.part s part) token then tokenRefused r part s
      else if !partIn s part [.idle, .active] then (answer r .state [] s, none)
      else done (setConsent part token s))) s

/-- CONSENT_CLEAR (R375, R396). -/
def execConsentClear (r : Req) (part : Nat) (s : State) : Result :=
  run (message r ⟨0x208, true, true, true, false⟩ (some part) (.consentClear r part)
    (fun s => [(noPart part, .range), (!partIn s part [.idle, .active], .state)]) (fun s => done (endConsent part s))) s

/-! ### Queries and the rest -/

/-- The payload of PART_QUERY (R447): the entry of R394, the parameters without the tenant's key, the bindings. -/
def partReport (s : State) (p : Nat) : Bytes :=
  let x := part s p
  let m := x.prm
  partEntry p x ++ leBytes 1 p ++ leBytes 4 m.jobTag ++ leBytes 8 m.tenant ++ leBytes 1 (bit m.privileged) ++ leBytes 2 m.qBase
    ++ leBytes 4 m.qCount ++ leBytes 2 m.cBase ++ leBytes 4 m.cCount ++ leBytes 4 m.budget ++ leBytes 2 m.reqTimeout
    ++ leBytes 2 m.biTimeout ++ leBytes 1 (bit m.poison) ++ leBytes 1 (bit m.scrub)
    ++ (List.range 16).flatMap (fun a => leBytes 1 (match x.binds.find? (fun b => b.1 == a) with | some b => b.2 | none => 255))

/-- PART_QUERY (R375, R447). -/
def execPartQuery (r : Req) (part : Nat) (s : State) : Result :=
  run (message r ⟨0x209, false, true, true, false⟩ (some part) (.partQuery r part) (fun _ => [(noPart part, .range)])
    (fun s => (s, some (partReport s part)))) s

/-- DOSSIER_READ (R363): a slot that holds no dossier reads as zero. -/
def execDossierRead (r : Req) (part off : Nat) (s : State) : Result :=
  run (message r ⟨0x20A, false, true, false, false⟩ none (.dossierRead r part off)
    (fun _ => [(noPart part || decide (16384 ≤ off), .range)])
    (fun s => (s, some ((((s.dossiers.find part).getD (zeroBytes 16384)).drop off).take 4032)))) s

/-- JOB_ABORT (R351, R352). -/
def execJobAbort (r : Req) (job : Nat) (s : State) : Result :=
  run (message r ⟨0x20B, true, true, false, false⟩ none (.jobAbort r job) (fun _ => [])
    (fun s => done (settled (originate job 8 s.sys.moduleId noEpid s)))) s

/-- TRACE_SET (R455). -/
def execTraceSet (r : Req) (part : Nat) (mask : Bytes) (s : State) : Result :=
  run (message r ⟨0x803, true, true, false, false⟩ none (.traceSet r part mask)
    (fun s => [(!consents (Machine.part s part) 1, .denied)])
    (fun s => done (setPart s part { Machine.part s part with trace := mask.take 32 }))) s

end Sys2Proof.Machine
end

