-- ==== Sys2Proof/Machine/Extent.lean ====
section
/-! DEFINITION. The extent commands (R63 to R74, R85, R88, R89, R304, R504 to R506) and the events of a revocation and of a scrub (R88). -/

namespace Sys2Proof.Machine

/-- The partition is FREE or RELEASING here, or belongs to another job (R506). -/
def extDenied (s : State) (p job : Nat) : Bool := partIn s p [.free, .releasing] || (part s p).prm.jobTag != job

/-- An extent identifier is an index of the record table (R64). -/
def noExt (n : Nat) : Bool := decide (16384 ≤ n)

/-- Size and alignment of an extent's FVA range (R63). -/
def fvaBad (log2 fva : Nat) : Bool :=
  decide (log2 < 26) || decide (36 < log2) || fva % 2 ^ log2 != 0 || decide (2 ^ 50 < fva + 2 ^ log2)

/-! ### EXT_ADD (R63, R64, R68, R506) -/

/-- The range of an extent breaks a condition of R63. -/
def addRange (s : State) (a : ExtAddArgs) : Bool :=
  noExt a.ext || fvaBad a.sizeLog2 a.fva || a.base % 2 ^ a.sizeLog2 != 0 || decide (poolTop s < a.base + 2 ^ a.sizeLog2)

/-- The range overlaps another extent of this pool. -/
def addOverlap (s : State) (a : ExtAddArgs) : Bool :=
  s.pool.ext.any (fun x => x.2.st != .free && x.2.kind != .present && decide (x.2.base < a.base + 2 ^ a.sizeLog2)
    && decide (a.base < x.2.base + x.2.bytes))

/-- The HOME record of a new extent. -/
def addExt (a : ExtAddArgs) (s : State) : State :=
  let e := { Ext.init with st := .shackled, kind := .home, log2 := a.sizeLog2, retained := a.retained, coherent := a.coherent }
  let e := { e with eid := a.ext, home := s.sys.moduleId, base := a.base, fva := a.fva }
  setExtSt a.ext { e with part := a.part, job := a.job, tenant := a.tenant } s

/-- EXT_ADD (R3, R63, R64, R67, R68, R342, R506). -/
def execExtAdd (r : Req) (a : ExtAddArgs) (s : State) : Result :=
  run (message r ⟨0x301, true, true, false, false⟩ none (.extAdd r a)
    (fun s => [(extDenied s a.part a.job, .denied), (s.sys.spine, .role), ((extRec s a.ext).st != .free || s.rep.leaving, .state),
      (addRange s a, .range), (addOverlap s a, .overlap)])
    (fun s => done (addExt a s))) s

/-! ### EXT_PRESENT (R64, R304, R506) -/

/-- The record that presents the extent here already. -/
def presentRec (s : State) (home ext : Nat) : Option (Nat × Ext) :=
  if home = s.sys.moduleId then
    (let e := extRec s ext
     if e.kind = .home ∧ e.st ≠ .free then some (ext, e) else none)
  else recOf s .present home ext

/-- The attachments of a mask that ATTACH_MAP defines. -/
def definedIn (s : State) (mask : Nat) : List Nat := (maskList mask).filter (fun a => attachValid s a)

/-- The extent is not in a state in which it can be presented. -/
def presentState (s : State) (a : ExtPresentArgs) : Bool :=
  s.rep.leaving ||
  (match presentRec s a.home a.ext with
   | some (_, e) => !serving e
   | none => a.home == s.sys.moduleId && !noExt a.ext)

/-- A parameter of EXT_PRESENT lies outside its range. -/
def presentRange (s : State) (a : ExtPresentArgs) : Bool :=
  noExt a.ext || decide (8192 ≤ a.home) || fvaBad a.sizeLog2 a.fva || a.base % 2 ^ a.sizeLog2 != 0 || decide (2 ^ 37 < a.base + 2 ^ a.sizeLog2)
    || decide (2 ^ 16 ≤ a.mask) || (maskList a.mask).any (fun n => !attachValid s n)

/-- The command names other data than the record. -/
def presentOverlap (s : State) (a : ExtPresentArgs) : Bool :=
  match presentRec s a.home a.ext with
  | some (_, e) => e.part != a.part || e.job != a.job || e.base != a.base || e.log2 != a.sizeLog2 || e.fva != a.fva || e.coherent != a.coherent
  | none => false

/-- The lowest-numbered free record (R64). -/
def freeRec (s : State) : Option Nat := Tab.free (s.pool.ext.filter (fun x => x.2.st != .free)) 16384

/-- The extents that a region of an attachment holds: those of its partition presented to it (R303). -/
def regionUsed (s : State) (p att : Nat) : Nat :=
  (s.pool.ext.filter (fun x => x.2.st != .free && x.2.kind != .mirror && x.2.part == p && bitOf x.2.mask att)).length

/-- No record is free, or a region of an attachment named anew already holds its 4,096 extents (R64, R303; log entry 109). -/
def presentFull (s : State) (a : ExtPresentArgs) : Bool :=
  let had (att : Nat) : Bool := match presentRec s a.home a.ext with | some (_, e) => bitOf e.mask att | none => false
  ((presentRec s a.home a.ext).isNone && (freeRec s).isNone) || (maskList a.mask).any (fun x => !had x && decide (4096 ≤ regionUsed s a.part x))

/-- Attachments enter a record: each new one gets its event, and its answer is awaited (R304). -/
def offer (n mask : Nat) (s : State) : State :=
  let e := extRec s n
  let new := (maskList mask).filter (fun a => !bitOf e.mask a)
  let bits := new.foldl (fun b a => b + 2 ^ a) 0
  let asked := (new.filter (fun a => !bitOf e.asked a)).foldl (fun b a => b + 2 ^ a) e.asked
  new.foldl (fun s a => event a 0 [extTag e, e.fva, e.log2] s) (setExt n { e with mask := e.mask + bits, asked := asked } s)

/-- The extent is presented here. -/
def present (a : ExtPresentArgs) (s : State) : State :=
  match presentRec s a.home a.ext with
  | some (n, _) => offer n a.mask s
  | none =>
    match freeRec s with
    | none => s
    | some n =>
      let e := { Ext.init with st := .shackled, kind := .present, log2 := a.sizeLog2, coherent := a.coherent, torn := (extRec s n).torn }
      let e := { e with eid := a.ext, home := a.home, base := a.base, fva := a.fva }
      offer n a.mask (setExtSt n { e with part := a.part, job := a.job } s)

/-- EXT_PRESENT (R3, R64, R67, R304, R342, R506). -/
def execExtPresent (r : Req) (a : ExtPresentArgs) (s : State) : Result :=
  run (message r ⟨0x302, true, true, false, false⟩ none (.extPresent r a)
    (fun s => [(extDenied s a.part a.job || (definedIn s a.mask).any (fun n => !boundTo s a.part n), .denied), (s.sys.spine, .role),
      (presentState s a, .state), (presentRange s a, .range), (presentOverlap s a, .overlap),
      (presentFull s a, .full)])
    (fun s => done (present a s))) s

/-! ### EXT_MIRROR (R85, R505) -/

/-- EXT_MIRROR (R3, R67, R68, R85, R342, R505). -/
def execExtMirror (r : Req) (ext target : Nat) (s : State) : Result :=
  run (message r ⟨0x303, true, true, false, false⟩ none (.extMirror r ext target)
    (fun s => [(s.sys.spine, .role), (noExt ext, .range),
      ((extRec s ext).kind != .home || (!underWay s ext && (extRec s ext).st != .shackled) || s.rep.leaving, .state),
      (target == s.sys.moduleId || decide (8192 ≤ target), .range), (isLost s target, .lost)])
    (fun s => (settled (if underWay s ext then later r ext (.mirror target) s else askMirror r ext target s), none))) s

/-! ### EXT_REVOKE (R68, R69, R88, R89, R506) -/

/-- The record that EXT_REVOKE names is in no state for it. -/
def revokeState (s : State) (home ext disp : Nat) : Bool :=
  if home = s.sys.moduleId then !noExt ext && !underWay s ext && revokeUnlisted (extRec s ext) disp
  else match recOf s .present home ext with
    | some (_, e) => e.st != .shackled
    | none => true

/-- The index of the record that EXT_REVOKE names. -/
def revokeIdx (s : State) (home ext : Nat) : Nat :=
  if home = s.sys.moduleId then ext else match recOf s .present home ext with | some (n, _) => n | none => ext

/-- EXT_REVOKE takes effect, and the response goes; behind a command under way it waits (R68, R446). -/
def revokeNow (r : Req) (n disp us : Nat) (s : State) : State :=
  if underWay s n then later r n (.revoke disp us) s else revokeBegin n (disp == 1) us false (answer r .ok [] s)

/-- EXT_REVOKE (R67 to R69, R88, R89, R446, R506): the response goes once it is accepted. -/
def execExtRevoke (r : Req) (home ext disp forcedUs : Nat) (s : State) : Result :=
  run (message r ⟨0x304, true, true, false, false⟩ none (.extRevoke r home ext disp forcedUs)
    (fun s => [(revokeState s home ext disp, .state),
      (noExt ext || decide (1 < disp) || (forcedUs != 0 && (decide (forcedUs < 100) || decide (1000000 < forcedUs))), .range)])
    (fun s => (settled (revokeNow r (revokeIdx s home ext) disp (if forcedUs = 0 then 1000 else forcedUs) s), none))) s

/-! ### EXT_SHACKLE (R68, R73, R506) -/

/-- EXT_SHACKLE (R67, R68, R73, R506). -/
def execExtShackle (r : Req) (ext part job tenant fva : Nat) (s : State) : Result :=
  run (message r ⟨0x305, true, true, false, false⟩ none (.extShackle r ext part job tenant fva)
    (fun s => [(extDenied s part job, .denied), (s.sys.spine, .role), (noExt ext, .range),
      ((extRec s ext).kind != .home || (!underWay s ext && (extRec s ext).st != .retained), .state),
      (fvaBad (extRec s ext).log2 fva, .range)])
    (fun s => (settled (if underWay s ext then later r ext (.shackle part job tenant fva) s else shackleBegin r ext part job tenant fva s), none))) s

/-! ### EXT_QUERY (R65) -/

/-- The 128 bytes of a record (R65). -/
def extBytes (s : State) (e : Ext) : Bytes :=
  leBytes 8 (e.st.code + fld 4 e.kind.code + fld 6 e.log2 + fld 12 (bit e.retained) + fld 13 (bit e.coherent) + fld 14 (bit e.torn)
      + fld 15 (bit e.mv) + fld 16 e.eid + fld 30 e.home + fld 43 e.mirror)
    ++ leBytes 8 e.base ++ leBytes 8 e.fva ++ leBytes 8 (e.part + fld 32 e.job) ++ leBytes 8 e.tenant
    ++ leBytes 8 (e.mask + fld 16 e.target) ++ leBytes 8 e.hw ++ leBytes 8 (inflight s e + fld 32 e.forcedUs) ++ leBytes 8 e.scrub
    ++ leBytes 8 (e.origHome + fld 13 e.origExt + fld 27 (bit e.promoted)) ++ zeroBytes 48

/-- The record that EXT_QUERY returns; where there is none, a FREE one. -/
def queryRec (s : State) (home ext kind : Nat) : Ext :=
  match kind with
  | 0 => if home = s.sys.moduleId ∧ (extRec s ext).kind = .home then extRec s ext else Ext.init
  | 1 => match recOf s .mirror home ext with | some (_, e) => e | none => Ext.init
  | _ => match recOf s .present home ext with | some (_, e) => e | none => Ext.init

/-- The index of the record that EXT_QUERY returns. -/
def queryIdx (s : State) (home ext kind : Nat) : Option Nat :=
  match kind with
  | 0 => if home = s.sys.moduleId then some ext else none
  | 1 => (recOf s .mirror home ext).map Prod.fst
  | _ => (recOf s .present home ext).map Prod.fst

/-- A scrub of the record has gone on until EXT_QUERY reads its mark. -/
def scrubSeen (s : State) (home ext kind : Nat) : State :=
  match queryIdx s home ext kind with | some n => scrubOn n s | none => s

/-- EXT_QUERY (R65, R67). -/
def execExtQuery (r : Req) (home ext kind : Nat) (s : State) : Result :=
  run (message r ⟨0x306, false, true, false, false⟩ none (.extQuery r home ext kind)
    (fun _ => [(noExt ext || decide (2 < kind) || decide (8192 ≤ home), .range)])
    (fun s =>
      let s := scrubSeen s home ext kind
      (s, some (extBytes s (queryRec s home ext kind))))) s

/-! ### Events of a revocation and of a scrub (R88) -/

/-- Record `n` drains: step 3 of R88 has not ended. -/
def draining (e : Ext) (kind : Nat) : Bool := e.st == .revoking && e.kind.code == kind && !e.forced && !e.drained

/-- Requests and prefetches in flight for the record. -/
def stillOpen (s : State) (e : Ext) : Bool := inflight s e != 0 || pfInflight s e != 0

/-- The timeout of a revocation expires (R88 step 4). -/
def forcedTimeout (kind n : Nat) (s : State) : State :=
  let e := extRec s n
  if draining e kind && stillOpen s e then settled (revokeForce n s) else s

/-- FORCED_REVOKE_TIMEOUT (R88, R89). -/
def execForcedRevokeTimeout (kind ext : Nat) (s : State) : Result := run (forcedTimeout kind ext) s

/-- The drain has ended (R88 steps 3 and 5). -/
def drainDone (kind n : Nat) (s : State) : State :=
  let e := extRec s n
  if draining e kind && !stillOpen s e && !linesHeld s e then settled (revokeDrained n s) else s

/-- REVOKE_DRAIN_DONE (R88). -/
def execRevokeDrainDone (kind ext : Nat) (s : State) : Result := run (drainDone kind ext) s

/-- A scrub of firmware has covered the record's copy: it reads as zero (R73, R88 steps 5 and 6). -/
def scrubEnd (n : Nat) (s : State) : State :=
  let e := extRec s n
  let s := scrubRange e.base e.bytes s
  let s := setExt n { e with scrubbing := false, scrub := e.bytes / 2 ^ 20 } s
  if e.st = .revoking then revokeEnd n s
  else if e.kind = .mirror then
    mctlReply e.home e.job (part s e.part).gen (.scrubbed e.eid 0)
      (match e.want with
       | some (_, _, ten, fva) => setExt n { extRec s n with tenant := ten, fva := fva, retain := false, want := none } s
       | none => s)
  else shackleEnd n s

/-- SCRUB_DONE (R73, R75, R88). -/
def execScrubDone (kind ext : Nat) (s : State) : Result :=
  run (fun s => if (extRec s ext).scrubbing && (extRec s ext).kind.code == kind then settled (scrubEnd ext s) else s) s

end Sys2Proof.Machine
end

