-- ==== Sys2Proof/Machine/CxlMailbox.lean ====
section
/-! DEFINITION. The CXL memory device mailbox and Data Object Exchange of a port (R303 to R305, R312, R315, R392). The command codes' meaning is
the manual's; the layout of an answer is the CXL standard's, which the manual does not repeat (log entry 33). -/

namespace Sys2Proof.Machine

/-- The code of a status (R445). -/
def Status.code : Status → Nat
  | .ok => 0 | .denied => 1 | .range => 2 | .overlap => 3 | .full => 4 | .state => 5 | .busy => 6 | .role => 7 | .key => 8 | .lease => 9
  | .lost => 10 | .identity => 11 | .tooLarge => 12 | .signature => 13 | .version => 14 | .opcode => 15 | .length => 16 | .noFw => 17
  | .image => 18 | .rejected => 19

/-- A mailbox answer. -/
def mailbox (port : Fin 16) (st : Status) (payload : Bytes) (s : State) : State := emit (.mailbox port st.code payload) s

/-- A mailbox command of a port: one at a time (R312); held while a Hinge handover pauses firmware (R450); firmware serves it (R446). The
effect gets the port's attachment. -/
def mailCmd (port : Fin 16) (c : Instr) (f : Nat → State → State) (s : State) : State :=
  if !srcUp s (.cxl port) then s
  else if busyPort s (.cxl port) then mailbox port .busy [] s
  else if s.fw.hinge.isSome then
    owe ⟨.cxl port, 0, 1, 0, 0, true⟩ 9 0 { s with fw := { s.fw with held := s.fw.held ++ [c] } }
  else if !fwRuns s then mailbox port .noFw [] s
  else
    match attachOf s port.val with
    | some a => f a s
    | none => s

/-- IDENTIFY (R312). -/
def execIdentify (port : Fin 16) (s : State) : Result :=
  run (mailCmd port (.identify port) (fun _ => mailbox port .ok (Config.cxlLog 0))) s

/-- GET_SUPPORTED_LOGS (R312). -/
def execGetSupportedLogs (port : Fin 16) (s : State) : Result :=
  run (mailCmd port (.getSupportedLogs port) (fun _ => mailbox port .ok (Config.cxlLog 1))) s

/-- GET_LOG (R312). -/
def execGetLog (port : Fin 16) (s : State) : Result := run (mailCmd port (.getLog port) (fun _ => mailbox port .ok (Config.cxlLog 2))) s

/-- The event records of an attachment's log. -/
def eventLog (s : State) (a : Nat) : List CxlEvt := match evtPort s a with | some p => (cxlPort s p).evts | none => []

/-- An event record as Get Event Records returns it: handle, kind, arguments. -/
def evtBytes (e : CxlEvt) : Bytes := leBytes 2 e.handle ++ leBytes 1 e.kind ++ e.args.flatMap (fun x => leBytes 8 x)

/-- The oldest event records that a payload of `n` bytes holds (R312). -/
def evtsIn : Nat → List CxlEvt → Bytes
  | _, [] => []
  | n, e :: l => if (evtBytes e).length ≤ n then evtBytes e ++ evtsIn (n - (evtBytes e).length) l else []

/-- GET_EVENT_RECORDS (R312): as many as the 4 KiB payload holds; the others follow once these are cleared. -/
def execGetEventRecords (port : Fin 16) (s : State) : Result :=
  run (mailCmd port (.getEventRecords port) (fun a s => mailbox port .ok (evtsIn 4096 (eventLog s a)) s)) s

/-- The event records with some handles leave an attachment's log. -/
def clearEvents (a : Nat) (hs : List Nat) (s : State) : State :=
  match evtPort s a with
  | some p => setCxl s p { cxlPort s p with evts := (cxlPort s p).evts.filter (fun e => !hs.contains e.handle) }
  | none => s

/-- CLEAR_EVENT_RECORDS (R312). -/
def execClearEventRecords (port : Fin 16) (handles : List Nat) (s : State) : Result :=
  run (mailCmd port (.clearEventRecords port handles) (fun a s => mailbox port .ok [] (clearEvents a handles s))) s

/-- The four Dynamic Capacity regions: base, length, block size (R303). -/
def dcRegions : Bytes := (List.range 4).flatMap (fun r => leBytes 8 (r * 2 ^ 50) ++ leBytes 8 (2 ^ 50) ++ leBytes 8 (2 ^ 26))

/-- GET_DYNAMIC_CAPACITY_CONFIGURATION (R303). -/
def execGetDynamicCapacityConfiguration (port : Fin 16) (s : State) : Result :=
  run (mailCmd port (.getDynamicCapacityConfiguration port) (fun _ => mailbox port .ok dcRegions)) s

/-- A bit of a mask becomes 0. -/
def clearBit (m a : Nat) : Nat := if bitOf m a then m - 2 ^ a else m

/-- A bit of a mask becomes 1. -/
def setBit (m a : Nat) : Nat := if bitOf m a then m else m + 2 ^ a

/-- The host of an attachment declines an extent, or does not answer: PRESENT_DECLINED (R304). -/
def declined (n a : Nat) (s : State) : State :=
  let e := extRec s n
  if bitOf e.asked a then report 0x800D (extTag e) a (setExt n { e with asked := clearBit e.asked a } s) else s

/-- The host accepts. -/
def accepted (n a : Nat) (s : State) : State :=
  let e := extRec s n
  setExt n { e with accepted := setBit e.accepted a, asked := clearBit e.asked a } s

/-- The record that presents an extent to an attachment. -/
def offered (s : State) (home ext a : Nat) : Option Nat :=
  match presentRec s home ext with
  | some (n, e) => if bitOf e.mask a ∧ e.st ≠ .revoking then some n else none
  | none => none

/-- ADD_DYNAMIC_CAPACITY_RESPONSE (R304). -/
def execAddDynamicCapacityResponse (port : Fin 16) (home ext : Nat) (accept : Bool) (s : State) : Result :=
  run (mailCmd port (.addDynamicCapacityResponse port home ext accept) (fun a s =>
    match offered s home ext a with
    | some n => mailbox port .ok [] (if accept then accepted n a s else declined n a s)
    | none => mailbox port .range [] s)) s

/-- PRESENT_ANSWER_TIMEOUT (R304). -/
def execPresentAnswerTimeout (attach home ext : Nat) (s : State) : Result :=
  run (fun s => match offered s home ext attach with | some n => declined n attach s | none => s) s

/-- The host gives up an extent: HOST_RELEASED; one that it does not hold is accepted and ignored (R305, R306). -/
def hostRelease (home ext a : Nat) (s : State) : State :=
  match offered s home ext a with
  | some n =>
    let e := extRec s n
    if bitOf e.accepted a then report 0x800E (extTag e) a (setExt n { e with accepted := clearBit e.accepted a } s) else s
  | none => s

/-- RELEASE_DYNAMIC_CAPACITY (R305, R306). -/
def execReleaseDynamicCapacity (port : Fin 16) (home ext : Nat) (s : State) : Result :=
  run (mailCmd port (.releaseDynamicCapacity port home ext) (fun a s => mailbox port .ok [] (hostRelease home ext a s))) s

/-! ### SPDM and IDE (R315, R390, R392) -/

/-- The SPDM responder: without identity it refuses key exchange; a requester must offer Falcon-1024 and ML-KEM-1024. It presents the vendor
chain. -/
def spdm (port : Fin 16) (falcon mlkem : Bool) (s : State) : State :=
  if !ioUp (cxlPort s port.val) then s
  else if !s.sys.idOk then mailbox port .identity [] s
  else if falcon && mlkem then mailbox port .ok s.sys.certChain (setCxl s port.val { cxlPort s port.val with spdm := true })
  else mailbox port .denied [] s

/-- SPDM_REQUEST (R390, R392). -/
def execSpdmRequest (port : Fin 16) (falcon mlkem : Bool) (s : State) : Result := run (spdm port falcon mlkem) s

/-- IDE keys are set within an SPDM session; the stream is active from then on, or no more. -/
def ideKeys (port : Fin 16) (enable : Bool) (s : State) : State :=
  let c := cxlPort s port.val
  if !ioUp c then s
  else if !c.spdm then mailbox port .denied [] s
  else mailbox port .ok [] (setCxl s port.val { c with ide := enable })

/-- IDE_KEY_MANAGEMENT (R315). -/
def execIdeKeyManagement (port : Fin 16) (enable : Bool) (s : State) : Result := run (ideKeys port enable) s

end Sys2Proof.Machine
end

