-- ==== Sys2Proof/Machine/CxlPort.lean ====
section
/-! DEFINITION. The rows of a CXL port (R293 to R295, R300, R308, R313 to R315). -/

namespace Sys2Proof.Machine

/-- HDM_DECODER_COMMIT (R300). -/
def execHdmDecoderCommit (port : Fin 16) (r : Fin 4) (d : Decoder) (s : State) : Result := run (commitDecoder port.val r.val d) s

/-- BI_ENABLE (R308). -/
def execBiEnable (port : Fin 16) (on : Bool) (s : State) : Result :=
  run (fun s => if ioUp (cxlPort s port.val) then setCxl s port.val { cxlPort s port.val with bi := on } else s) s

/-- PERST_N_ASSERT (R313, R314). -/
def execPerstNAssert (port : Fin 16) (s : State) : Result :=
  run (fun s => settled (portReset port.val true (setCxl s port.val { cxlPort s port.val with perst := true }))) s

/-- PERST_N_RELEASE (R313, R431). -/
def execPerstNRelease (port : Fin 16) (s : State) : Result :=
  run (fun s => cxlTrain port.val (setCxl s port.val { cxlPort s port.val with perst := false })) s

/-- HOT_RESET (R313): the link goes down and trains again. -/
def execHotReset (port : Fin 16) (s : State) : Result :=
  run (fun s => if ioUp (cxlPort s port.val) then settled (cxlTrain port.val (portReset port.val true s)) else s) s

/-- FUNCTION_LEVEL_RESET (R313). -/
def execFunctionLevelReset (port : Fin 16) (s : State) : Result :=
  run (fun s => if ioUp (cxlPort s port.val) then settled (portReset port.val false s) else s) s

/-- CXL_RESET (R313). -/
def execCxlReset (port : Fin 16) (s : State) : Result :=
  run (fun s => if ioUp (cxlPort s port.val) then settled (portReset port.val false s) else s) s

/-- CXL_LINK_UP (R294). -/
def execCxlLinkUp (port : Fin 16) (width : Nat) (fullRate : Bool) (s : State) : Result :=
  run (fun s =>
    let c := cxlPort s port.val
    if cxlFree s port.val && !c.perst && c.st == .training then settled (cxlTrained port.val width fullRate s) else s) s

/-- CXL_TRAIN_RETRY (R294): a port that is DOWN trains again. -/
def execCxlTrainRetry (port : Fin 16) (width : Nat) (fullRate : Bool) (s : State) : Result :=
  run (fun s =>
    let c := cxlPort s port.val
    if cxlFree s port.val && !c.perst && !c.dead && c.st == .down then settled (cxlTrained port.val width fullRate s) else s) s

/-- CXL_LINK_DOWN (R294). -/
def execCxlLinkDown (port : Fin 16) (width : Nat) (s : State) : Result := run (fun s => settled (cxlLost port.val width s)) s

/-- The partner's width request is followed, within the trained width and down to x4 (R295). -/
def followWidth (p width : Nat) (s : State) : State :=
  let c := cxlPort s p
  if c.st == .up && l0pEn s && [4, 8, 16].contains width && decide (width ≤ c.trained) then setCxl s p { c with width := width } else s

/-- L0P_REQUEST (R295). -/
def execL0pRequest (port : Fin 16) (width : Nat) (s : State) : Result := run (followWidth port.val width) s

/-- ASPM_L1_EXIT (R295). -/
def execAspmL1Exit (port : Fin 16) (s : State) : Result := run (leaveL1 port.val) s

/-- A direction into Loopback is refused: the port returns to Detect, and its training begins again (R293). -/
def refuseLoopback (p : Nat) (s : State) : State :=
  let c := cxlPort s p
  if c.st = .training then bump (0x101014 + 0x40 * p) s else s

/-- LOOPBACK_DIRECTED (R293). -/
def execLoopbackDirected (port : Fin 16) (s : State) : Result := run (refuseLoopback port.val) s

/-- An IDE integrity failure takes the link down (R315). -/
def ideFailed (p : Nat) (s : State) : State :=
  let c := cxlPort s p
  if c.ide then
    heldTimeout p (faultAtSev 0x10 9 2 none p (setCxl s p { c with st := .down, ide := false, ideErr := true, width := 0, trained := 0, dmaq := [] }))
  else s

/-- IDE_INTEGRITY_FAILURE (R315). -/
def execIdeIntegrityFailure (port : Fin 16) (s : State) : Result := run (fun s => settled (ideFailed port.val s)) s

end Sys2Proof.Machine
end

