-- ==== Sys2Proof/Machine/HealthOps.lean ====
section
/-! DEFINITION. Health scores (R424) and what their thresholds start (R425, R286, R344 to R346). -/

namespace Sys2Proof.Machine

/-- The kinds of part, by index (R430). -/
inductive PartKind where
  | wavelength (p w : Nat)
  | port (p : Nat)
  | lane (p n : Nat)
  | cxlPort (p : Nat)
  | channel (c : Nat)
  | slice (n : Nat)
  | laser (p w : Nat)
deriving DecidableEq, Repr

/-- Part `i` of R430. -/
def partKind (i : Nat) : PartKind :=
  if i < 576 then .wavelength (i / 9) (i % 9)
  else if i < 640 then .port (i - 576)
  else if i < 896 then .lane ((i - 640) / 16) ((i - 640) % 16)
  else if i < 912 then .cxlPort (i - 896)
  else if i < 930 then .channel (i - 912)
  else if i < 1186 then .slice (i - 930)
  else .laser ((i - 1186) / 9) ((i - 1186) % 9)

/-- The allowance per second and the weight in hundredths of a kind of event (R424). -/
def weightOf : PartKind → Nat → Nat × Nat
  | .wavelength _ _, 0 => (1000, 1)
  | .wavelength _ _, _ => (0, 15000)
  | .port _, 0 => (1, 200)
  | .port _, 1 => (0, 5000)
  | .port _, _ => (0, 10000)
  | .lane _ _, _ => (10, 100)
  | .cxlPort _, 0 => (1000, 1)
  | .cxlPort _, 1 => (1, 200)
  | .cxlPort _, _ => (0, 10000)
  | .channel _, 0 => (10, 10)
  | .channel _, 1 => (0, 20000)
  | .channel _, _ => (0, 5000)
  | .slice _, 0 => (10, 50)
  | .slice _, 1 => (0, 30000)
  | .slice _, _ => (0, 2000)
  | .laser _ _, 0 => (0, 2500)
  | .laser _ _, _ => (0, 40000)

/-- The penalties after one second's events (R424). -/
def addEvents (s : State) : State :=
  let pen := s.hlt.events.foldl (fun t e =>
    let i := e.1 / 16
    let (free, w) := weightOf (partKind i) (e.1 % 16)
    t.put 0 i (t.get 0 i + w * (e.2 - free))) s.hlt.pen
  { s with hlt := { s.hlt with pen := pen, events := [] } }

/-- The thresholds that a score has reached (R425): 1 at 700, 2 at 400, 3 at 200. -/
def reachedLevel (score : Nat) : Nat := if score ≤ 200 then 3 else if score ≤ 400 then 2 else if score ≤ 700 then 1 else 0

/-- The score of a threshold. -/
def threshold (lv : Nat) : Nat := if lv = 1 then 700 else if lv = 2 then 400 else 200

/-- A report of class HEALTH (R449). -/
def healthReport (i lv : Nat) (s : State) : State := report 0x8015 i (threshold lv) s

/-- A receive wavelength past its pre-emptive threshold (R286): a spare is retired; one at work is moved off by the far end's rotation and
then retired instead of calibrated (log entry 38). -/
def spareDoomed (p w : Nat) (s : State) : State :=
  let o := optPort s p
  if !o.lit then s
  else if o.rx.cal = some w then restate p (sendLink p 6 [w, 1] (setRx p (retire w o.rx) s))
  else if o.rx.spare = some w ∧ o.rx.swap = none then restate p (setRx p (retire w o.rx) s)
  else s

/-- A transmit wavelength whose laser is past its pre-emptive threshold (R286). -/
def laserDoomed (p w : Nat) (s : State) : State :=
  let o := optPort s p
  if o.lit ∧ o.tx.spare = some w ∧ o.tx.swap = none then restate p (sendLink p 6 [w, 1] (setTx p (retire w o.tx) s)) else plannedSwap p w s

/-- What reaching a threshold starts (R425). -/
def act (i lv : Nat) (s : State) : State :=
  match partKind i, lv with
  | .wavelength p w, 2 => healthReport i lv (spareDoomed p w s)
  | .wavelength p w, 3 => healthReport i lv (wlOut p w (spareDoomed p w s))
  | .laser p w, 2 => healthReport i lv (laserDoomed p w s)
  | .laser p w, 3 => healthReport i lv (laserOut p w s)
  | .port p, 1 => report 0x8013 p (scoreOf s i) s
  | .port p, 2 => changeLsa (healthReport i lv { s with rep := { s.rep with drain := s.rep.drain.filter (fun x => x != p) ++ [p] } })
  | .port p, 3 => retirePorts { s with rep := { s.rep with retire := s.rep.retire.filter (fun x => x != p) ++ [p] } }
  | .lane p _, 3 => healthReport i lv (cxlRetrain p s)
  | .cxlPort p, 3 =>
    let c := cxlPort s p
    heldTimeout p (healthReport i lv (setCxl s p { c with dead := true, st := if c.st = .reset then .reset else .down, width := 0, trained := 0, dmaq := [] }))
  | .channel c, 2 => healthReport i lv { s with hlt := { s.hlt with replan := s.hlt.replan.put 0 c 1 } }
  | .channel c, 3 => report 0x800C c (scoreOf s i) s
  | .slice n, 2 => healthReport i lv (remapSlice n s)
  | .slice _, 3 => report 0x8018 i (scoreOf s i) s
  | _, _ => healthReport i lv s

/-- Each threshold that a part has newly reached starts its action once, with a fault record (R425). -/
def crossPart (i : Nat) (s : State) : State :=
  let was := s.hlt.crossed.get 0 i
  let lv := reachedLevel (scoreOf s i)
  if lv ≤ was then s
  else
    let s := { s with hlt := { s.hlt with crossed := s.hlt.crossed.put 0 i lv } }
    ([1, 2, 3].filter (fun k => decide (was < k) && decide (k ≤ lv))).foldl (fun s k => act i k (faultAny 0x19 10 0 none s)) s

/-- One second has passed (R424). -/
def secondOver (s : State) : State :=
  let s := addEvents s
  (s.hlt.pen.map Prod.fst).foldl (fun s i => crossPart i s) s

/-- One hour has passed: each penalty falls by a sixty-fourth; the age of the plan in minutes saturates (R424, R429). -/
def hourOver (s : State) : State :=
  { s with hlt := { s.hlt with pen := s.hlt.pen.mapD 0 (fun _ p => p - p / 64),
                               ageMin := if s.hlt.planned then Nat.min (s.hlt.ageMin + 60) 65535 else s.hlt.ageMin } }

end Sys2Proof.Machine
end

