-- ==== Sys2Proof/Machine/HingeOps.lean ====
section
/-! DEFINITION. Firmware images and the end of a Hinge handover (R438, R439, R450 to R453). -/

namespace Sys2Proof.Machine

/-- The image of a session as it stands in staging. -/
def stagedImage (x : Session) : Bytes := x.img.map Prod.snd

/-- The operator's signature is there. -/
def hasCosign (b : Bytes) : Bool := !((b.drop 1376).take 1280).all (fun x => x == 0#8)

/-- The operator's signature is there and verifies under the operator's key (R439). -/
def cosignOk (s : State) (b : Bytes) : Bool :=
  match s.sys.opKey with
  | some k => hasCosign b && Config.falconVerify k (shake256 64 (b.take 1376)) ((b.drop 1376).take 1280)
  | none => false

/-- The check of R439 that fails first; the last one is a handover's. -/
def imageFault (s : State) (x : Session) : Option Status :=
  let b := stagedImage x
  firstFail [
    (x.img.length != x.imgLen || field b 8 4 != x.imgLen || decide (x.imgLen ≤ field b 12 4), .length),
    (b.take 4 != [0x5A#8, 0x46#8, 0x57#8, 0x31#8], .image),
    (shake256 64 (b.drop 4096) != (b.drop 32).take 64, .signature),
    (!Config.falconVerify Config.vendorKey (shake256 64 (b.take 96)) ((b.drop 96).take 1280), .signature),
    ((hasCosign b && s.sys.opKey.isSome || s.sys.reqCosign) && !cosignOk s b, .signature),
    ((match s.fw.img with
      | some old => decide (old.recWrite < field b 18 2) || decide (field b 20 2 < old.recWrite)
      | none => false), .version)]

/-- What the header of an image tells (R438). -/
def imageOf (s : State) (x : Session) : Image :=
  let b := stagedImage x
  { version := field b 4 4, digest := shake256 64 b, recWrite := field b 16 2, recMin := field b 18 2, recMax := field b 20 2,
    msgMinor := field b 22 2, cosigned := cosignOk s b }

/-! ### The handover record (R451) -/

/-- A section of the record: its identifier, its length, its content, which is cut at the largest size that R451 gives. -/
def recSection (id largest : Nat) (b : Bytes) : Bytes := leBytes 4 id ++ leBytes 4 (b.take largest).length ++ b.take largest

/-- Bytes padded with zeros. -/
def padTo (n : Nat) (b : Bytes) : Bytes := b.take n ++ zeroBytes (n - b.length)

/-- What the record holds of a partition: the parameters of R376, the tenant's key, the consent token, the trace mask. -/
def recPart (n : Nat) (x : Part) : Bytes :=
  let p := x.prm
  padTo 128 (leBytes 1 n ++ leBytes 4 p.jobTag ++ leBytes 8 p.tenant ++ leBytes 1 (bit p.privileged) ++ leBytes 2 p.qBase ++ leBytes 4 p.qCount
      ++ leBytes 2 p.cBase ++ leBytes 4 p.cCount ++ leBytes 4 p.budget ++ leBytes 2 p.reqTimeout ++ leBytes 2 p.biTimeout ++ leBytes 1 (bit p.poison)
      ++ leBytes 1 (bit p.scrub))
    ++ padTo 1800 p.tenantKey ++ padTo 1312 (x.consent.getD []) ++ padTo 32 x.trace

/-- What the record holds of the scheduler: for each queue in a quantum what is left of it, then the round pointer of each class. -/
def recScheduler (s : State) : Bytes :=
  s.qs.engines.flatMap (fun e => leBytes 4 e.2.q ++ leBytes 4 e.2.left) ++ (List.range 4).flatMap (fun c => leBytes 16 (s.qs.pointer.get 0 c))

/-- The scrubs of firmware under way: partitions that RELEASING or a reset scrubs, extents with their marks. -/
def recScrubs (s : State) : Bytes :=
  s.parts.flatMap (fun e => if e.2.st = .releasing ∨ e.2.st = .resetting then leBytes 8 e.1 ++ zeroBytes 8 else [])
    ++ s.pool.ext.flatMap (fun e => if e.2.scrubbing then leBytes 8 (64 + e.1) ++ leBytes 8 e.2.scrub else [])

/-- Sections 2 to 9. -/
def recBody (s : State) (old : Image) : Bytes :=
  recSection 2 209408 (s.parts.flatMap (fun e => if e.2.st = .free then [] else recPart e.1 e.2))
    ++ recSection 3 524352 (recScheduler s) ++ recSection 4 14096 ((List.range 1762).flatMap (fun i => leBytes 8 (s.hlt.pen.get 0 i)))
    ++ recSection 5 8192 (leBytes 4 s.hlt.vcore ++ leBytes 4 s.hlt.ageMin ++ leBytes 1 (bit s.hlt.deferred)
        ++ s.hlt.bias.flatMap (fun e => leBytes 2 e.1 ++ leBytes 2 e.2) ++ s.hlt.record)
    ++ recSection 6 73728 [] ++ recSection 7 4096 (recScrubs s) ++ recSection 8 64 (leBytes 8 (s.fw.logSeq % 65536) ++ leBytes 8 s.fw.logSeq)
    ++ recSection 9 214440 (Config.imageState old.recWrite)

/-- The record that the old image writes in step 2 of R450, before any request is held: its HEADER, with the digest of every byte that
follows, and the other sections (R451; log entry 108). -/
def handoverRecord (s : State) (old : Image) : Bytes :=
  let b := recBody s old
  recSection 1 128 (leBytes 4 old.recWrite ++ leBytes 4 (88 + b.length) ++ leBytes 4 9 ++ leBytes 4 old.version ++ shake256 64 b) ++ b

/-- A run of sections in the order of their identifiers, and nothing after them. -/
def sectionsOk : Nat → Nat → Bytes → Bool
  | 0, _, b => b.isEmpty
  | n + 1, id, b => field b 0 4 == id && decide (8 + field b 4 4 ≤ b.length) && sectionsOk n (id + 1) (b.drop (8 + field b 4 4))

/-- Step 3 of R450: the version within the new image's range, the lengths, the digest. -/
def recordOk (i : Image) (b : Bytes) : Bool :=
  decide (i.recMin ≤ field b 8 4) && decide (field b 8 4 ≤ i.recMax) && field b 12 4 == b.length && field b 16 4 == 9 && sectionsOk 9 1 b
    && (b.drop 24).take 64 == shake256 64 (b.drop 88)

/-! ### The end of the pause -/

/-- A FW_BEGIN held during the pause is refused with BUSY (R453). -/
def refuseHeldBegins (s : State) : State :=
  s.fw.held.foldl (fun s c =>
    match c with
    | .fwBegin r _ _ =>
      let owed := s.mgt.owed.eraseP (fun o => o.src == r.src && o.why == 9)
      answer r .busy [] { s with mgt := { s.mgt with owed := owed }, fw := { s.fw with held := s.fw.held.filter (fun x => x != c) } }
    | _ => s) s

/-- The pause ends (R450 step 4, R452): firmware's work goes on where it was held. -/
def pauseEnds (old new : Nat) (st : Status) (s : State) : State :=
  let s := refuseHeldBegins { s with fw := { s.fw with hinge := none, session := none } }
  let s := settle 3 0 st [] s
  let s := (s.parts.map Prod.fst).foldl (fun s p => if (part s p).st = .free then s else tracePoint 7 p (leBytes 8 old ++ leBytes 8 new) s) s
  settled (resumeResets s)

/-- The version of the running image. -/
def fwVersion (s : State) : Nat := match s.fw.img with | some i => i.version | none => 0

/-- The new image rejects the record, or the Hinge timer ends: the old image goes on. -/
def hingeReject (s : State) : State :=
  match s.fw.hinge with
  | none => s
  | some i => pauseEnds (fwVersion s) i.version .rejected { s with fw := { s.fw with rejCount := Nat.min (s.fw.rejCount + 1) 255 } }

/-- The new image takes over (R450 step 4), after its check of the record, which R452 has it reject where it fails. -/
def hingeAccept (s : State) : State :=
  match s.fw.hinge with
  | none => s
  | some i =>
    if !recordOk i s.fw.record then hingeReject s
    else
      let old := fwVersion s
      let s := { s with fw := { s.fw with img := some i, hinged := true, okCount := Nat.min (s.fw.okCount + 1) 255 } }
      report 0x8019 i.version 1 (pauseEnds old i.version .ok s)

end Sys2Proof.Machine
end

