-- ==== Sys2Proof/Machine/RegOps.lean ====
section
/-! DEFINITION. Writes and reads of registers: access types, aliases, lock, reserved bits, ranges, what a write starts (R463 to R478,
R124). -/

namespace Sys2Proof.Machine

/-- A write at an offset, or at an alias of it (R467). -/
inductive WriteKind where
  | plain | set | clr | tgl
deriving DecidableEq, Repr

/-- The bits of a register that an alias reaches (R467). -/
def RegDef.aliasMask (r : RegDef) : Word := BitVec.ofNat 32 r.rw ||| BitVec.ofNat 32 r.rwl

/-- Some bit of a register can be written (R466). -/
def RegDef.writable (r : RegDef) : Bool := r.rw != 0 || r.rwl != 0 || r.w1c != 0 || r.wo != 0

/-- The stored bits of a register as accessor `x` holds them. -/
def heldBits (s : State) (x off : Nat) : Word :=
  if off = 0x10 then (cfgReg s off &&& 0xFFF8#32) ||| BitVec.ofNat 32 (2 * bit (acc s x).view)
  else if off = 0x1C then BitVec.ofNat 32 (acc s x).ind
  else if off = 0x28 then s.regs.ref
  else cfgReg s off

/-- The value that a write makes of a register's stored bits, before ranges (R466, R467). -/
def newBits (r : RegDef) (k : WriteKind) (v d : Word) : Word :=
  let m := r.aliasMask
  let all := m ||| BitVec.ofNat 32 r.rsvp
  match k with
  | .plain => (d &&& all) ||| (v &&& ~~~all)
  | .set => v ||| (d &&& m)
  | .clr => v &&& ~~~(d &&& m)
  | .tgl => v ^^^ (d &&& m)

/-- A field outside its range takes the nearest value in range (R241, R428 and their sisters): the value, and whether a field did. -/
def clampField (f : Nat × Nat × Nat × Nat) (v : Word × Bool) : Word × Bool :=
  let (lo, w, mn, mx) := f
  let x := bitsOf v.1.toNat (lo + w - 1) lo
  let y := clampNat mn mx x
  if x = y then v
  else ((v.1 &&& ~~~(BitVec.ofNat 32 ((2 ^ w - 1) * 2 ^ lo))) ||| BitVec.ofNat 32 (y * 2 ^ lo), true)

/-- Every field in range. CAL_PERIOD_S 0, which stops rotation, is in range (R289). -/
def clampAll (r : RegDef) (v : Word) : Word × Bool := r.fields.foldl (fun v f => clampField f v) (v, false)

/-- A snapshot (R476). -/
def snapshot (s : State) : State :=
  { s with regs := { s.regs with held := some (liveSnap s), latchSeq := (s.regs.latchSeq + 1) % 65536, latchNs := s.now } }

/-- TOP_IND_ADDR rises by 4 after an access to TOP_IND_DATA (R472). -/
def advanceInd (x : Nat) (s : State) : State :=
  let a := acc s x
  setAcc s x { a with ind := (a.ind / 4 * 4 + 4) % 2 ^ 32 + a.ind % 4 }

/-- A write of TOP_UNLOCK.KEY (R469). -/
def unlockWith (x : Nat) (key : Word) (s : State) : State :=
  let ok := key == 0x4C4F434B#32
  let s := setAcc s x { acc s x with unlocked := ok }
  if ok then s else bump 0x2C s

/-- The oldest fault record leaves the queue (R373). -/
def popOldest (s : State) : State := { s with flt := { s.flt with q := s.flt.q.drop 1 } }

/-- LOST and the overflow counters are cleared (R373). -/
def clearLost (s : State) : State :=
  let cnt := s.regs.cnt.keep (fun o _ => decide (o < 0x380100 ∨ 0x380200 ≤ o))
  { s with flt := { s.flt with lost := false }, regs := { s.regs with cnt := cnt } }

/-- The stored bits of a register become `v`, in the home that they have for accessor `x`. -/
def storeBits (x off : Nat) (v : Word) (s : State) : State :=
  if off = 0x10 then
    setCfg (setAcc s x { acc s x with view := bitOf v.toNat 1 }) off (v &&& 0xFFF8#32)
  else if off = 0x1C then setAcc s x { acc s x with ind := v.toNat }
  else if off = 0x28 then { s with regs := { s.regs with ref := v } }
  else if off = 0x20 then s
  else setCfg s off v

/-- What a write of 1 clears (R466). -/
def clearW1c (off : Nat) (d : Word) (s : State) : State :=
  let b := fun i => bitOf d.toNat i
  if off = 0x8 then
    { s with regs := { s.regs with cfgErr := s.regs.cfgErr && !b 0, rsvp := s.regs.rsvp && !b 2 } }
  else if off = 0x2000C then
    { s with pwr := { s.pwr with capClamped := s.pwr.capClamped && !b 4, slewShort := s.pwr.slewShort && !b 7,
                                 inputLow := s.pwr.inputLow && !b 9, inputHigh := s.pwr.inputHigh && !b 10 } }
  else if off = 0x380000 then (if b 13 then clearLost s else s)
  else s

/-- What a write starts: the actions of WO fields, and the effects of new values. `old`, `v`: the stored bits before and after; `d`: the
data of a write at the offset itself. -/
def writeActs (x off : Nat) (old v : Word) (d : Option Word) (s : State) : State :=
  let wo := fun i => match d with | some d => bitOf d.toNat i | none => false
  if off = 0x10 then (if wo 0 then snapshot s else s)
  else if off = 0x28 then { s with regs := { s.regs with armed := true } }
  else if off = 0x10008 then gateDomains (bitsOf v.toNat 4 0) s
  else if off = 0x30000 then (if wo 0 then startPlan s else s)
  else if 0xC1000 ≤ off ∧ off < 0xC2000 then
    let p := (off - 0xC1000) / 0x40
    let s := if bitOf old.toNat 0 != bitOf v.toNat 0 then enablePort p s else s
    if wo 2 then retrainPort p s else s
  else if 0x101000 ≤ off ∧ off < 0x101400 then (if wo 0 then cxlRetrain ((off - 0x101000) / 0x40) s else s)
  else if off = 0x38000C then (if wo 0 then popOldest s else s)
  else if off = 0x3C0010 then
    let s := if wo 0 then hingeAccept s else s
    if wo 1 then hingeReject s else s
  else if off = 0xC then unlockWith x (d.getD 0#32) s
  else if off = 0x20 then advanceInd x s
  else s

/-- A write that has changed reserved bits (R471). -/
def reserved (off : Nat) (diff : Word) (s : State) : State :=
  if diff = 0#32 then s
  else faultSev 0x1E 10 2 none off diff.toNat (bump 0x30 { s with regs := { s.regs with rsvp := true } })

/-- A write that reaches a register of the configuration class ends the comparison of the configuration CRC (R478). -/
def disarm (r : RegDef) (s : State) : State := if r.cfg then { s with regs := { s.regs with armed := false } } else s

/-- A write that reaches a register (R466 to R471). `unlocked`: RW-L fields may change. -/
def writeReg (who : Acc) (x off : Nat) (k : WriteKind) (d : Word) (unlocked : Bool) (s : State) : Status × State :=
  match regDef off with
  | none => (.ok, s)
  | some r =>
    let old := heldBits s x off
    let s := disarm r s
    if !r.writable ∨ (off = 0x3C0010 ∧ (who ≠ .ctrl ∨ s.fw.hinge = none)) then (.ok, s)
    else if k ≠ .plain ∧ off = 0x20 then (.ok, advanceInd x s)
    else if k ≠ .plain ∧ r.aliasMask = 0#32 then (.ok, s)
    else
      let raw := newBits r k old d
      let (v, out) := clampAll r raw
      if (v ^^^ old) &&& BitVec.ofNat 32 r.rwl ≠ 0#32 ∧ !unlocked then (.denied, faultAt 0 10 none off (bump 0x2C s))
      else
        let (v, s) := if off = 0x20004 then clampCap v s else (v, s)
        let s := storeBits x off v s
        let s := if out then faultAt 0xD 10 none off s else s
        let plain := if k = .plain then some d else none
        let s := match plain with | some d => clearW1c off d s | none => s
        let s := reserved off ((v ^^^ old) &&& BitVec.ofNat 32 r.rsvp) s
        (.ok, writeActs x off old v plain s)

/-- The offset that an access addresses, and the alias it uses; none for an unused offset (R461). -/
def resolve (off : Nat) : Option (Nat × WriteKind) :=
  if off < 0x400000 then some (off, .plain)
  else if 0x1000000 ≤ off ∧ off < 0x1400000 then some (off - 0x1000000, .set)
  else if 0x2000000 ≤ off ∧ off < 0x2400000 then some (off - 0x2000000, .clr)
  else if 0x3000000 ≤ off ∧ off < 0x3400000 then some (off - 0x3000000, .tgl)
  else none

/-- The landing counter window (R46, R461). -/
def inCounters (off : Nat) : Bool := decide (0x400000 ≤ off) && decide (off < 0x480000)

/-- The doorbells (R123). -/
def inDoorbells (off : Nat) : Bool := decide (0x200000 ≤ off) && decide (off < 0x280000)

/-- A doorbell write that is dropped (R124). -/
def doorbellDropped (q : Nat) (s : State) : State := faultAt 0 2 none (0x200000 + 8 * q) (bump 0x28000C s)

/-- A doorbell write of an attachment's host that is dropped; a partition that is not bound to it refuses it as well (R382). -/
def hostDoorbellDropped (a q : Nat) (s : State) : State :=
  doorbellDropped q (if (match partOfQueue s q with | some n => boundTo s n a | none => false) then s else bump 0x40008 s)

/-- A write admitted at a window offset: it uses up the accessor's unlock (R469). -/
def windowWrite (who : Acc) (x off : Nat) (k : WriteKind) (d : Word) (s : State) : Status × State :=
  let u := (acc s x).unlocked
  let s := setAcc s x { acc s x with unlocked := false }
  if inDoorbells off then (.ok, doorbellDropped ((off - 0x200000) / 8) s)
  else
    let (st, s) := writeReg who x off k d u s
    (st, settled s)

/-- Registers that a manager may write without the lease (R465). -/
def leaseFreeReg (off : Nat) : Bool := off == 0x10 || off == 0x1C || off == 0x20

/-- The stored response of a link to a register transaction (R496). -/
def linkStored (s : State) (l : Link) (txn : Nat) : Option Out :=
  match s.mgt.last.find (linkIdx l) with
  | some (t, o) => if t = txn then some o else none
  | none => none

/-- A manager's register access, with its lease, its stored response, its answer (R381, R463, R465, R496). -/
def linkAccess (l : Link) (txn : Nat) (f : State → Status × Nat × State) (s : State) : State :=
  let s := heard (.mgt l) s
  match linkStored s l txn with
  | some o => emit o s
  | none =>
    if s.mgt.owed.any (fun w => w.src == .mgt l && w.txn == txn) then s
    else
      let (st, v, s) := f s
      let o : Out := .regResp (.mgt l) txn st v
      emit o { s with mgt := { s.mgt with last := s.mgt.last.ins (linkIdx l) (txn, o) } }

/-- A refusal by class: counted and recorded (R379, R382). -/
def classRefused (off : Nat) (s : State) : State := faultAt 0 0 none off (bump 0x40008 s)

/-- A manager's write. -/
def linkWrite (l : Link) (off : Nat) (d : Word) (s : State) : Status × Nat × State :=
  if off % 4 ≠ 0 then (.range, 0, s)
  else if inCounters off then (.denied, 0, classRefused off s)
  else
    match resolve off with
    | none => if s.mgt.holder != some l then (.lease, 0, bump 0x4000C s) else (.ok, 0, s)
    | some (o, k) =>
      if s.mgt.holder != some l && !leaseFreeReg o then (.lease, 0, bump 0x4000C s)
      else
        let (st, s) := windowWrite (.mgt l) (linkIdx l) o k d s
        (st, 0, s)

/-- A write of a host: only doorbells take one (R382), and one of 8 bytes at the doorbell itself, so that a register write at a doorbell,
or at an alias of one, is a doorbell write dropped (R124); the counter window answers none (R46). -/
def hostRegWrite (p : Fin 16) (off : Nat) (s : State) : State :=
  if !ioUp (cxlPort s p.val) then s
  else
    match attachOf s p.val, resolve off with
    | none, _ => s
    | some a, some (o, _) =>
      if inDoorbells o then hostDoorbellDropped a ((o - 0x200000) / 8) s else classRefused off s
    | some _, none => classRefused off (if inCounters off then emit (.unsupported p) s else s)

/-- A register write from any accessor (R463). The debug port writes by frames of its own, and so only while it is enabled. -/
def regWrite (a : RAcc) (off : Nat) (d : Word) (s : State) : State :=
  match a.who with
  | .mgt l => linkAccess l a.txn (linkWrite l off d) s
  | .host p => hostRegWrite p off s
  | w =>
    if (w = .debug ∧ !s.dbg.en) ∨ (w = .ctrl ∧ !fwRuns s) ∨ a.size ≠ 4 ∨ off % 4 ≠ 0 ∨ inCounters off then s
    else
      match resolve off with
      | none => s
      | some (o, k) => (windowWrite w (accOf s w) o k d s).2

/-! ### Reads -/

/-- What a read does beside returning a value (R472, R480). -/
def readSide (x off : Nat) (s : State) : State :=
  if off = 0x20 then advanceInd x s
  else if off = 0x34 then setAcc s x { acc s x with timeHi := s.now / 2 ^ 32 % 2 ^ 32 }
  else if off = 0x14 then setAcc s x { acc s x with latchHi := s.regs.latchNs / 2 ^ 32 % 2 ^ 32 }
  else s

/-- The value that a read at a register's offset returns. -/
def readVal (s : State) (x off : Nat) : Word := if off = 0x20 then readInd s x else readReg s x off

/-- A read by an accessor that reaches every register. -/
def windowRead (x off : Nat) (s : State) : Word × State :=
  match resolve off with
  | none => (0#32, s)
  | some (o, _) => (readVal s x o, readSide x o s)

/-- A host may read a register (R382, R482). -/
def hostMayRead (s : State) (p : Fin 16) (off : Nat) : Bool :=
  match regDef off with
  | none => false
  | some r => r.host && (decide (off < 0x101000) || decide (0x101400 ≤ off) || mapOf s ((off - 0x101000) / 0x40) == mapOf s p.val)

/-- A register as a host reads it. -/
def hostVal (s : State) (p : Fin 16) (off : Nat) : Nat := if hostMayRead s p off then (readReg s (accOf s (.host p)) off).toNat else 0

/-- A host's read: one register, or two of them by an aligned read of 8 bytes; another form is an Unsupported Request (R463). A read of
both halves of a 64-bit value takes both at one cycle (R480). -/
def hostRegRead (p : Fin 16) (txn off size : Nat) (s : State) : State :=
  if attachOf s p.val = none ∨ !ioUp (cxlPort s p.val) then s
  else
    let x := accOf s (.host p)
    let after := if hostMayRead s p off then readSide x off s else s
    if size = 4 ∧ off % 4 = 0 then emit (.regResp (.host p) txn .ok (hostVal s p off)) after
    else if size = 8 ∧ off % 4 = 0 ∧ (off % 8 = 0 ∨ off = 0x14 ∨ off = 0x34) then
      emit (.regResp (.host p) txn .ok (hostVal s p off + 2 ^ 32 * hostVal after p (off + 4))) after
    else faultAt 0 9 none off (emit (.unsupported p) s)

/-- A register read from any accessor. -/
def regRead (a : RAcc) (off : Nat) (s : State) : State :=
  match a.who with
  | .mgt l =>
    linkAccess l a.txn (fun s =>
      if off % 4 ≠ 0 then (.range, 0, s) else match windowRead (linkIdx l) off s with | (v, s) => (.ok, v.toNat, s)) s
  | .host p => hostRegRead p a.txn off a.size s
  | w =>
    if (w = .debug ∧ !s.dbg.en) ∨ (w = .ctrl ∧ !fwRuns s) ∨ a.size ≠ 4 then s
    else
      let (v, s) := windowRead (accOf s w) off s
      emit (.regResp w a.txn .ok v.toNat) s

end Sys2Proof.Machine
end

