-- ==== Sys2Proof/Machine/DebugOps.lean ====
section
/-! DEFINITION. The debug port: its frames, the control cores, control memory, partitions' data (R456 to R459). -/

namespace Sys2Proof.Machine

/-! ### Results and frames -/

/-- The result of an operation with a status and data. -/
def result (st data : Nat) (s : State) : State := { s with dbg := { s.dbg with lastSt := st, lastData := data } }

/-- The result of an operation that returns no data: DATA is a free value (log entry 40). -/
def resultSt (st : Nat) (s : State) : State :=
  let (v, s) := freeVal (2 ^ 32) s
  result st v s

/-- The result of an access to which the manual gives none: a core, register or address that does not exist (log entry 40). -/
def resultOpen (s : State) : State :=
  let (st, s) := freeVal 7 s
  resultSt st s

/-- A frame (R456, R458): the response is the result of the previous one, BUSY while an access has not finished; the frame's operation runs
where its CRC holds and nothing is unfinished. While DBG_EN is low, the port is deaf. -/
def frame (ok : Bool) (f : State → State) (s : State) : State :=
  if !s.dbg.en then s
  else if s.dbg.busy.isSome then
    let (v, s) := freeVal (2 ^ 32) s
    emit (.debug 2 v) s
  else
    let s := emit (.debug s.dbg.lastSt s.dbg.lastData) s
    if ok then f s else resultSt 4 s

/-! ### Control cores (R457) -/

/-- A core is halted. -/
def coreHalted (s : State) (c : Nat) : Bool := s.dbg.halted.contains c

/-- A core stops at its next instruction boundary. -/
def haltCore (c : Nat) (s : State) : State :=
  if coreHalted s c then s
  else { s with dbg := { s.dbg with halted := s.dbg.halted.filter (· < c) ++ [c] ++ s.dbg.halted.filter (c < ·) } }

/-- A core runs: what the port knew of its registers and of control memory holds no more. -/
def coreRuns (c : Nat) (s : State) : State :=
  { s with dbg := { s.dbg with regs := s.dbg.regs.keep (fun k _ => decide (k / 65536 ≠ c)), mem := [],
                               runs := s.dbg.runs.put 0 c (s.dbg.runs.get 0 c + 1) } }

/-- An operation on a core that exists. -/
def onCore (c : Nat) (f : State → State) (s : State) : State := if c < 16 then f s else resultOpen s

/-- An operation on a core that must be halted. -/
def onHalted (c : Nat) (f : State → State) (s : State) : State :=
  onCore c (fun s => if coreHalted s c then f s else resultSt 3 s) s

/-- A halted core goes on. -/
def resumeCore (c : Nat) (s : State) : State :=
  coreRuns c { s with dbg := { s.dbg with halted := s.dbg.halted.filter (fun x => x != c) } }

/-- A register number: integer, floating point, or CSR (R457). -/
def coreReg (a : Nat) : Bool := decide (a < 64) || (decide (0x1000 ≤ a) && decide (a < 0x2000))

/-- A register of a core: as the port wrote it since the core last ran, else a value that nothing constrains. -/
def coreVal (s : State) (c a : Nat) : Nat :=
  match s.dbg.regs.find (65536 * c + a) with
  | some v => v
  | none => Config.coreReg c (s.dbg.runs.get 0 c) a % 2 ^ 32

/-! ### Control memory -/

/-- Bytes of control memory (R18). -/
def ctlBytes : Nat := 2 ^ 25

/-- Bytes listed from an address on. -/
def listBytes (m : Tab Byte) (a : Nat) : Bytes → Tab Byte
  | [] => m
  | b :: bs => listBytes (m.ins a b) (a + 1) bs

/-- Every core is halted: what the port writes into control memory stays. -/
def coresStill (s : State) : Bool := s.dbg.halted.length == 16

/-- MEM_RD: what the port has written while the cores stand still, else a free value (log entry 40). -/
def memRead (a : Nat) (s : State) : State :=
  if a % 4 ≠ 0 then resultSt 6 s
  else if ctlBytes ≤ a then resultOpen s
  else if (s.dbg.mem.find a).isSome then result 0 (leNat (s.dbg.mem.bytes a 4)) s
  else resultSt 0 s

/-- MEM_WR. -/
def memWrite (a : Nat) (v : Word) (s : State) : State :=
  if a % 4 ≠ 0 then resultSt 6 s
  else if ctlBytes ≤ a then resultOpen s
  else resultSt 0 (if coresStill s then { s with dbg := { s.dbg with mem := listBytes s.dbg.mem a (leBytes 4 v.toNat) } } else s)

/-! ### Registers -/

/-- REG_RD. The landing counters are a partition's data, which this operation does not reach (R379). -/
def debugRegRead (off : Nat) (s : State) : State :=
  if off % 4 ≠ 0 then resultSt 6 s
  else if inCounters off then resultSt 1 (classRefused off s)
  else
    let (v, s) := windowRead (accIdx .debug 0) off s
    result 0 v.toNat s

/-- REG_WR. -/
def debugRegWrite (off : Nat) (v : Word) (s : State) : State :=
  if off % 4 ≠ 0 then resultSt 6 s
  else if inCounters off then resultSt 1 (classRefused off s)
  else
    match resolve off with
    | none => resultSt 0 s
    | some (o, k) =>
      let (st, s) := windowWrite .debug (accIdx .debug 0) o k v s
      resultSt (if st = .ok then 0 else 1) s

/-! ### A partition's data (R458) -/

/-- The access goes to its home: this module's pool, or a request from the control complex. -/
def debugAccess (n p : Nat) (t : Target) (data : Option Bytes) (s : State) : State :=
  if t.mod = s.sys.moduleId ∧ t.rd = none then
    match admitAt s (part s p).prm.jobTag t.addr 4 (some t.ext) none with
    | .error st => debugDone n st [] (if st = St.denied then fault 0 3 (some p) t.addr st s else s)
    | .ok (i, e) =>
      let what := match data with | none => What.read 4 .load | some d => What.write d none none 4
      access i e { who := .debug n, addr := t.addr, ext := t.ext, redirect := none, what := what } false s
  else
    match ownEpid s 2 0 with
    | none => debugDone n St.denied [] s
    | some src =>
      let (wid, s) := takeWid s
      let s := addReq wid ⟨src, t.epid, 1, p, t.mod, t.ext, .debug n⟩ s
      let body := match data with | none => Body.read ⟨t.addr, t.ext, 4, .load⟩ | some d => Body.write ⟨.home t.addr t.ext, d, none, none, 4⟩
      let len := (match data with | none => 0 | some d => d.length) + (if t.rd.isSome then 8 else 0)
      sendFlow { h := mkHdr s p src t.epid 1 len wid true, rd := t.rd, body, tr := .zero } s

/-- PART_RD and PART_WR: with consent, an access under the partition's translations; it is unfinished until its home answers. -/
def debugPart (p fva : Nat) (data : Option Bytes) (s : State) : State :=
  if 64 ≤ p ∨ !consents (part s p) 0 then resultSt 1 (classRefused fva s)
  else if 65536 < fva % 65536 + 4 then resultOpen s
  else
    let n := s.dbg.count
    let s := { s with dbg := { s.dbg with count := n + 1, busy := some n } }
    settled (match demand p fva s with
      | (s, .leaf lv l, seq) =>
        if !(if data.isNone then Leaf.r l else Leaf.w l) then debugDone n St.rights [] (fault 1 0 (some p) fva St.rights s)
        else
          (match targetOf s fva lv l with
           | .error st => debugDone n st [] s
           | .ok t =>
             let used : Option Use := some ⟨p, fva / 65536 - fva / 65536 % pagesAt lv, lv, seq⟩
             debugAccess n p t data { s with dbg := { s.dbg with used } })
      | (s, .unmapped, _) => debugDone n St.unmapped [] s
      | (s, .poison, _) => debugDone n St.poison [] s)

/-! ### The enable pin (R458, R459) -/

/-- DBG_EN rises. -/
def debugOn (s : State) : State := { s with dbg := { s.dbg with en := true }, sys := { s.sys with debugSeen := true } }

/-- The halted cores as DBG_STAT shows them. -/
def haltMask (s : State) : Nat := s.dbg.halted.foldl (fun a c => a + 2 ^ c) 0

/-- DBG_EN falls: the cores are released, which a record tells; an access under way ends unheard (log entry 41). -/
def debugOff (s : State) : State :=
  if !s.dbg.en then s
  else
    let (v, s) := freeVal (2 ^ 64) s
    let s := if s.dbg.halted = [] then s else fault 0x1B 10 none v (haltMask s) s
    let s := s.dbg.halted.foldl (fun s c => coreRuns c s) s
    settled { s with dbg := { s.dbg with en := false, halted := [], bps := [], busy := none, used := none } }

end Sys2Proof.Machine
end

