-- ==== Sys2Proof/Machine/Debug.lean ====
section
/-! DEFINITION. The debug port's commands (R456 to R459). -/

namespace Sys2Proof.Machine

/-- DBG_EN_RISE (R458). -/
def execDbgEnRise (s : State) : Result := run debugOn s

/-- DBG_EN_FALL (R459). -/
def execDbgEnFall (s : State) : Result := run debugOff s

/-- NOP: the previous frame's result stands. -/
def execDbgNop (frameOk : Bool) (s : State) : Result := run (frame frameOk (fun s => s)) s

/-- HALT. -/
def execHalt (frameOk : Bool) (target : Nat) (s : State) : Result :=
  run (frame frameOk (onCore target (fun s => resultSt 0 (haltCore target s)))) s

/-- RESUME. -/
def execResume (frameOk : Bool) (target : Nat) (s : State) : Result :=
  run (frame frameOk (onHalted target (fun s => resultSt 0 (resumeCore target s)))) s

/-- STEP: the core executes one instruction and stays halted; the instruction set is not in the manual. -/
def execStep (frameOk : Bool) (target : Nat) (s : State) : Result :=
  run (frame frameOk (onHalted target (fun s => resultSt 0 (coreRuns target s)))) s

/-- BP_SET. -/
def execBpSet (frameOk : Bool) (target addr data : Nat) (s : State) : Result :=
  run (frame frameOk (onCore target (fun s =>
    resultSt 0 { s with dbg := { s.dbg with bps := s.dbg.bps.ins (8 * target + data % 8) addr } }))) s

/-- BP_CLEAR. -/
def execBpClear (frameOk : Bool) (target data : Nat) (s : State) : Result :=
  run (frame frameOk (onCore target (fun s =>
    resultSt 0 { s with dbg := { s.dbg with bps := s.dbg.bps.del (8 * target + data % 8) } }))) s

/-- BREAKPOINT_HIT: a core that runs reaches a breakpoint that is set, and halts. -/
def execBreakpointHit (core : Fin 16) (n : Fin 8) (s : State) : Result :=
  run (fun s => if s.dbg.en && fwRuns s && (s.dbg.bps.find (8 * core.val + n.val)).isSome then haltCore core.val s else s) s

/-- CORE_RD. -/
def execCoreRd (frameOk : Bool) (target addr : Nat) (s : State) : Result :=
  run (frame frameOk (onHalted target (fun s => if coreReg addr then result 0 (coreVal s target addr) s else resultOpen s))) s

/-- CORE_WR. -/
def execCoreWr (frameOk : Bool) (target addr data : Nat) (s : State) : Result :=
  run (frame frameOk (onHalted target (fun s =>
    if coreReg addr then resultSt 0 { s with dbg := { s.dbg with regs := s.dbg.regs.ins (65536 * target + addr) (data % 2 ^ 32) } }
    else resultOpen s))) s

/-- MEM_RD. -/
def execMemRd (frameOk : Bool) (addr : Nat) (s : State) : Result := run (frame frameOk (memRead addr)) s

/-- MEM_WR. -/
def execMemWr (frameOk : Bool) (addr : Nat) (data : Word) (s : State) : Result := run (frame frameOk (memWrite addr data)) s

/-- REG_RD. -/
def execRegRd (frameOk : Bool) (addr : Nat) (s : State) : Result := run (frame frameOk (debugRegRead addr)) s

/-- REG_WR. -/
def execRegWr (frameOk : Bool) (addr : Nat) (data : Word) (s : State) : Result := runWrite (frame frameOk (debugRegWrite addr data)) s

/-- PART_RD. -/
def execPartRd (frameOk : Bool) (target addr : Nat) (s : State) : Result := run (frame frameOk (debugPart target addr none)) s

/-- PART_WR. -/
def execPartWr (frameOk : Bool) (target addr : Nat) (data : Word) (s : State) : Result :=
  run (frame frameOk (debugPart target addr (some (leBytes 4 data.toNat)))) s

end Sys2Proof.Machine
end

