-- ==== Sys2Proof/Machine/DescOps.lean ====
section
/-! DEFINITION. What starting a descriptor shares: when it may start (R38, R136, R139, R342, R411), the FORMAT checks (R127 to R133, R161,
R162), the source EPID (R37), and the steps of an epoch close (R52, R53, R386). -/

namespace Sys2Proof.Machine

/-! ### Starting -/

/-- The descriptor at the head of a queue may start now. A COLL starts under tray release, to be refused, for which it needs no engine
(R183, log entry 43); an EPOCH-CLOSE starts during a close, to join it (R53). -/
def canStart (s : State) (q : Nat) (d : Desc) : Bool :=
  let x := que s q
  let fetch := (dmaPort s x.attach (x.sqBase + 64 * x.head)).isSome
  let held := match engineOf s q with | some (_, g) => decide (0 < g.left) | none => s.rep.leaving && D.opcode d == 8
  held && fetch && x.st == .running && x.head != x.tail && !x.ops.any Op.holds && slotFree x && (part s x.part).st == .active
    && ((part s x.part).closing.isNone || D.opcode d == 9) && (!s.rep.leaving || D.opcode d == 8) && !braked s

/-- A descriptor that has just started. -/
def newOp (idx wid : Nat) (d : Desc) : Op :=
  { idx, d, total := 0, cur := 0, tile := 0, checked := 0, tr := [], sent := false, moved := 0, wid, open_ := 0, fail := none, stop := 0, home := none, result := 0, ports := [] }

/-! ### FORMAT (R127 to R133) -/

/-- An FVA has bits 63 to 50 zero. -/
def fvaOk (kind a : Nat) : Bool := kind != 1 || decide (a < 2 ^ 50)

/-- CNT stands as R128 says. -/
def cntOk (d : Desc) : Bool :=
  match D.opcode d with
  | 0 => !D.cnt d
  | 5 => D.cnt d
  | 6 => !D.cnt d
  | 7 => D.cnt d
  | 9 => !D.cnt d
  | _ => true

/-- The whole of word 0 above the common header, and every other word, is zero. -/
def bareOk (d : Desc) : Bool :=
  D.length d == 0 && d.w1 == 0#64 && d.w2 == 0#64 && d.w3 == 0#64 && d.w4 == 0#64 && d.w5 == 0#64 && d.w6 == 0#64 && d.w7 == 0#64

/-- The kinds of R130. -/
def kindsOk (d : Desc) : Bool :=
  match D.opcode d with
  | 1 => decide (D.srcKind d ≤ 1) && decide (1 ≤ D.dstKind d)
  | 2 => D.srcKind d == 1 && decide (D.dstKind d ≤ 1)
  | _ => (D.srcKind d == 1 && D.dstKind d == 0) || (decide (D.srcKind d ≤ 1) && (D.dstKind d == 1 || D.dstKind d == 2))

/-- The shape of R131. -/
def tileOk (d : Desc) : Bool :=
  let x := D.xBytes d
  let y := D.yRows d
  let z := D.zPlanes d
  decide (1 ≤ x) && decide (1 ≤ y) && decide (1 ≤ z) && decide (x * y * z ≤ 0xFFFFFFFF)
    && decide (x ≤ D.srcRow d) && decide (x ≤ D.dstRow d)
    && (decide (z ≤ 1) || (decide (y * D.srcRow d ≤ D.srcPlane d) && decide (y * D.dstRow d ≤ D.dstPlane d)))

/-- PUT, GET and COPY-TILE (R129 to R131). -/
def moveOk (d : Desc) : Bool :=
  kindsOk d && fvaOk (D.srcKind d) (D.srcAddr d) && fvaOk (D.dstKind d) (D.dstAddr d) && bitsOf d.w3.toNat 63 34 == 0
    && (if D.opcode d = 3 then D.length d == 0 && tileOk d && bitsOf d.w6.toNat 63 48 == 0 && bitsOf d.w7.toNat 63 48 == 0
        else decide (1 ≤ D.length d) && d.w4 == 0#64 && d.w5 == 0#64 && d.w6 == 0#64 && d.w7 == 0#64)

/-- The operand of a 32-bit ATOMIC has bits 63 to 32 zero. -/
def narrowOk (ty v : Nat) : Bool := atomWidth ty == 8 || decide (v < 2 ^ 32)

/-- ATOMIC (R132). -/
def atomOk (d : Desc) : Bool :=
  let op := D.atomOp d
  let ty := D.atomType d
  bitsOf d.w0.toNat 63 40 == 0 && decide (op ≤ 3) && decide (ty ≤ 5) && (op != 3 || ty == 1 || ty == 3) && bitsOf d.w1.toNat 63 50 == 0
    && narrowOk ty (D.operand d) && narrowOk ty (D.compare d) && d.w4 == 0#64 && d.w5 == 0#64 && d.w6 == 0#64 && d.w7 == 0#64

/-- WAIT (R132). -/
def waitOk (d : Desc) : Bool :=
  D.length d == 0 && bitsOf d.w2.toNat 63 17 == 0 && d.w3 == 0#64 && d.w4 == 0#64 && d.w5 == 0#64 && d.w6 == 0#64 && d.w7 == 0#64

/-- SIGNAL (R132, R133). -/
def signalOk (d : Desc) : Bool :=
  decide (1 ≤ D.value d) && bitsOf d.w1.toNat 63 17 == 0 && d.w2 == 0#64 && d.w3 == 0#64 && d.w4 == 0#64 && d.w5 == 0#64 && d.w6 == 0#64
    && d.w7 == 0#64

/-- The operation, operator and format of a COLL fit (R162). -/
def collFits (d : Desc) : Bool :=
  let k := D.collop d
  if k ≤ 2 then
    operFits (D.operator d) (D.fmt d) (D.sat d) && (k == 0 || D.operator d != 6)
      && (if D.operator d = 6 then decide (1 ≤ D.rowLen d) else D.rowLen d == 0)
  else if k = 5 then
    D.operator d == 0 && D.fmt d == 0 && !D.sat d && d.w1 == 0#64 && d.w2 == 0#64 && D.elements d == 0
  else D.operator d == 0 && fmtKnown (D.fmt d) && !D.sat d && D.rowLen d == 0

/-- COLL, apart from what its group decides (R132, R162). -/
def collOk (d : Desc) : Bool :=
  let c := D.chunkLog2 d
  let n := D.depth d
  bitsOf d.w0.toNat 63 58 == 0 && bitsOf d.w3.toNat 63 31 == 0 && bitsOf d.w4.toNat 63 40 == 0 && bitsOf d.w5.toNat 63 16 == 0
    && d.w6 == 0#64 && d.w7 == 0#64 && decide (D.srcKind d ≤ 1) && decide (D.dstKind d ≤ 1)
    && (c == 0 || (decide (14 ≤ c) && decide (c ≤ 20))) && (n == 0 || (decide (4 ≤ n) && decide (n ≤ 16)))
    && decide (D.collop d ≤ 6) && collFits d && (D.collop d == 5 || decide (1 ≤ D.elements d))
    && (fmtElems (D.fmt d) == 1 || D.elements d % 32 == 0) && (D.collop d == 1 || D.collop d == 4 || D.root d == 0)
    && fvaOk (D.srcKind d) (D.srcAddr d) && fvaOk (D.dstKind d) (D.dstAddr d)

/-- No rule refuses the descriptor with FORMAT before its operands are looked up (R128, R133). -/
def formatOk (d : Desc) : Bool :=
  decide (D.opcode d ≤ 9) && bitsOf d.w0.toNat 15 6 == 0 && cntOk d &&
    (match D.opcode d with
     | 1 => moveOk d
     | 2 => moveOk d
     | 3 => moveOk d
     | 4 => atomOk d
     | 5 => waitOk d
     | 7 => signalOk d
     | 8 => collOk d
     | _ => bareOk d)

/-! ### Common ends -/

/-- An operation that fails at its start completes at once. -/
def startFail (q : Nat) (o : Op) (st result : Nat) (s : State) : State := complete q o.idx st 0 result s

/-- The attachment of the queue holds no EPID (R37). No address is at fault, so that RESULT of a data operation or COLL is open (log entry
29). -/
def noEpidFail (q : Nat) (o : Op) (s : State) : State :=
  match D.opcode o.d with
  | 4 => startFail q o St.denied (D.atomAddr o.d) s
  | 7 => startFail q o St.denied (ctrResult (D.counter o.d) (D.sigEpid o.d)) s
  | _ => match freeVal (2 ^ 64) s with | (v, s) => startFail q o St.denied v s

/-- The read of the descriptor at the head of a ring (R120). -/
def ringRead (x : Que) (s : State) : State :=
  let a := x.sqBase + 64 * x.head
  match dmaPort s x.attach a with
  | some p => emit (.dmaRead s.cxl.nextId p a 64) { s with cxl := { s.cxl with nextId := s.cxl.nextId + 1 } }
  | none => s

/-- A descriptor starts: it leaves the ring for its queue's started operations, is judged for FORMAT, and then has the effect of its row. One
that moves no bytes counts 64 (R139). Its 64 bytes have been read from the ring, once (R120, R126, R309; log entry 100). -/
def startDesc (row q : Nat) (d : Desc) (eff : Nat → Op → State → State) (s : State) : State :=
  if canStart s q d && (D.opcode d == row || decide (10 ≤ D.opcode d)) then
    let x := que s q
    match takeWid (ringRead x s) with
    | (wid, s) =>
      let o := newOp x.head wid d
      let s := setQue s q { x with head := (x.head + 1) % 2 ^ x.sqLog2, ops := x.ops ++ [o] }
      let s := if formatOk d then eff q o s else startFail q o St.format 0 s
      let still := match (que s q).op o.idx with | some o => o.total == 0 | none => true
      settled (if still then spend q 64 s else s)
  else s

/-! ### PUT, GET, COPY-TILE -/

/-- The bytes of a data operation. -/
def moveTotal (d : Desc) : Nat := if D.opcode d = 3 then D.xBytes d * D.yRows d * D.zPlanes d else D.length d

/-- The pages of consecutive bytes at an FVA. -/
def pagesAll (s : State) (p a n : Nat) : List Pg := pagesOf (lookNow s p) (n / 65536 + 2) a n

/-- The first FVA of a range that is homed at another module. -/
def foreignPage (s : State) (p a n : Nat) : Option Nat := firstLack (pagesAll s p a n) (fun l => Leaf.homeModule l == s.sys.moduleId)

/-- What refuses the destination of a data operation at its start (R107, R130, R211, R227). -/
def moveRefused (s : State) (p : Nat) (d : Desc) (total : Nat) : Option (Nat × Nat) :=
  let a := D.dstAddr d
  if D.dstKind d = 2 then
    let e := endpoint s (D.dstEpid d)
    if !e.v then some (St.denied, a) else if e.kind ≠ 0 then some (St.format, 0) else if isLost s e.home then some (St.aborted, 0) else none
  else if D.dstKind d = 3 then
    let t := tree s (D.treeNo d)
    if !t.v || !t.root || t.vc != 3 then some (St.format, 0)
    else if t.part ≠ p ∨ t.jobTag ≠ (part s p).prm.jobTag then some (St.denied, a)
    else none
  else if D.opcode d = 2 ∧ D.dstKind d = 1 then (foreignPage s p a total).map (fun x => (St.denied, x))
  else none

/-- A PUT, GET or COPY-TILE starts (R37, R42, R130). -/
def startMove (q : Nat) (o : Op) (s : State) : State :=
  let x := que s q
  let n := moveTotal o.d
  if (queEpid s x).isNone then noEpidFail q o s
  else
    match moveRefused s x.part o.d n with
    | some (st, a) => startFail q o st a s
    | none =>
      if D.cnt o.d && landsHere o.d && partOfCtr s (D.counter o.d) != some x.part then startFail q o St.counter (D.dstAddr o.d) s
      else setOp q { o with total := n } s

/-! ### Epoch close (R52, R53, R386) -/

/-- Steps 1 and 2 of R52: the pending WAITs of the partition complete, and its collectives end. -/
def closeBegin (p : Nat) (s : State) : State :=
  let qs := s.qs.ctx.filter (fun e => e.2.part == p)
  let s := qs.foldl (fun s e => e.2.ops.foldl (fun s o => if D.opcode o.d = 5 then complete e.1 o.idx St.closed 0 0 s else s) s) s
  let s := memCauses (memOfPart s p) 0x46 s
  (s.col.mems.filter (memOfPart s p)).foldl (fun s m => colEnd m St.closed (colSeqResult m.seq) s) s

/-- An EPOCH-CLOSE starts a close, or joins the one in progress. -/
def startClose (q : Nat) (o : Op) (s : State) : State :=
  let p := (que s q).part
  match (part s p).closing with
  | some l => setPart s p { part s p with closing := some (l ++ [(q, o.idx)]) }
  | none => closeBegin p (setPart s p { part s p with closing := some [(q, o.idx)] })

/-- Step 3 of R52 is over: only the EPOCH-CLOSEs are left, no prefetch of the partition is in flight, and no request that used its
translations. -/
def drained (s : State) (p : Nat) : Bool :=
  s.qs.ctx.all (fun e => e.2.part != p || e.2.ops.all (fun o => D.opcode o.d == 9))
    && !s.qs.pf.any (fun x => x.2.part == p) && !s.xlt.walks.any (fun w => w.part == p)
    && !s.fab.reqs.any (fun r => r.2.part == p && r.2.serves.isAccess)

/-- Step 5 of R52: the key slots change over (R386). -/
def rotateKey (p : Nat) (s : State) : State :=
  let x := part s p
  match x.cur, x.nxt with
  | some c, some n =>
    if n.retired.isNone then
      tracePoint 4 p (leBytes 4 c.id ++ leBytes 4 n.id)
        (freshCounts p (setPart s p { x with cur := some n, nxt := some { c with retired := some s.now } }))
    else s
  | _, _ => s

/-- Steps 4 to 6 of R52; pool memory, extents, translations, rings and descriptors not yet started stay (R54). -/
def closeEnd (p : Nat) (l : List (Nat × Nat)) (s : State) : State :=
  let m := (part s p).prm
  let s := { s with ctrs := s.ctrs.clearRange m.cBase m.cCount }
  let mine (v : CVert) : Bool := match s.col.grps.find v.ctx with | some g => g.p.part == p | none => false
  let s := { s with col := { s.col with verts := s.col.verts.filter (fun v => !mine v) } }
  let s := rotateKey p (dropPart p s)
  let e := ((part s p).epoch + 1) % 2 ^ 32
  let s := setPart s p { part s p with epoch := e, closing := none }
  let s := l.foldl (fun s x => complete x.1 x.2 St.ok 0 e s) s
  tracePoint 3 p (leBytes 8 e) s

end Sys2Proof.Machine
end

