-- ==== Sys2Proof/Machine/Descriptor.lean ====
section
/-! DEFINITION. The descriptors (R25, R47 to R52, R127 to R133, R161 to R165). A row starts the descriptor at the head of queue `q`. -/

namespace Sys2Proof.Machine

/-- NOP (R128). -/
def execNop (q : Nat) (d : Desc) (s : State) : Result := run (startDesc 0 q d (fun q o s => complete q o.idx St.ok 0 0 s)) s

/-- PUT (R25, R129, R130). -/
def execPut (q : Nat) (d : Desc) (s : State) : Result := run (startDesc 1 q d startMove) s

/-- GET (R129, R130). -/
def execGet (q : Nat) (d : Desc) (s : State) : Result := run (startDesc 2 q d startMove) s

/-- COPY-TILE (R129 to R131, R144). -/
def execCopyTile (q : Nat) (d : Desc) (s : State) : Result := run (startDesc 3 q d startMove) s

/-- An ATOMIC starts: its alignment and its source EPID are checked; its tile engine translates its word and makes its request in its turn (R25,
R29, R37, R132). -/
def startAtomic (q : Nat) (o : Op) (s : State) : State :=
  let a := D.atomAddr o.d
  if (queEpid s (que s q)).isNone then noEpidFail q o s
  else if a % atomWidth (D.atomType o.d) ≠ 0 then startFail q o St.align a s
  else s

/-- ATOMIC (R29, R132). -/
def execAtomic (q : Nat) (d : Desc) (s : State) : Result := run (startDesc 4 q d startAtomic) s

/-- A WAIT starts (R47). -/
def startWait (q : Nat) (o : Op) (s : State) : State :=
  let x := que s q
  let c := D.counter o.d
  let r := ctrResult c (D.waitEpid o.d)
  let e := endpoint s (D.waitEpid o.d)
  if !(e.v && e.isLocal) then startFail q o St.align r s
  else if partOfCtr s c ≠ some x.part then startFail q o St.counter r s
  else checkWaits c s

/-- WAIT (R47, R132). -/
def execWait (q : Nat) (d : Desc) (s : State) : Result := run (startDesc 5 q d startWait) s

/-- FENCE (R50). -/
def execFence (q : Nat) (d : Desc) (s : State) : Result := run (startDesc 6 q d (fun q _ s => checkFences q s)) s

/-- A SIGNAL starts: one packet on VC3, made in its turn (R25, R37). -/
def startSignal (q : Nat) (o : Op) (s : State) : State := if (queEpid s (que s q)).isNone then noEpidFail q o s else s

/-- SIGNAL (R25, R42, R132). -/
def execSignal (q : Nat) (d : Desc) (s : State) : Result := run (startDesc 7 q d startSignal) s

/-! ### COLL -/

/-- The operation that a COLL names, in its group. -/
def collOpOf (g : Grp) (d : Desc) : CollOp :=
  { collop := D.collop d, operator := D.operator d, fmt := D.fmt d, sat := D.sat d, elements := D.elements d, root := D.root d,
    rowLen := D.rowLen d, chunkLog2 := if D.chunkLog2 d = 0 then g.chunk else D.chunkLog2 d }

/-- The rules of R162 and R163 that depend on the group and the rank refuse the COLL with FORMAT. -/
def collBad (g : Grp) (r : Nat) (c : CollOp) (d : Desc) : Bool :=
  let sn := collSrc c g.p.n r
  let dn := collDst c g.p.n r
  let same := decide (c.collop ≤ 1) && D.srcAddr d == D.dstAddr d
  let hit := D.srcKind d == D.dstKind d && decide (D.srcAddr d < D.dstAddr d + dn) && decide (D.dstAddr d < D.srcAddr d + sn)
    && decide (0 < sn) && decide (0 < dn)
  decide (g.p.n ≤ c.root) || decide (0xFFFFFFFF < sn) || decide (0xFFFFFFFF < dn)
    || (c.operator == 6 && decide (2 ^ c.chunkLog2 < rowBytes c.fmt c.rowLen)) || (hit && !same)

/-- The first page of a COLL's destination that the member cannot write (R111, R178). -/
def collDstFault (s : State) (p : Nat) (d : Desc) (n : Nat) : Option (Nat × Nat) :=
  if D.dstKind d ≠ 1 then none
  else
    let gs := pagesAll s p (D.dstAddr d) n
    match firstGap gs with
    | some f => some f
    | none => (firstLack gs Leaf.w).map (fun a => (St.rights, a))

/-- A COLL of a rank starts with its sequence number (R164, R165, R178, R181, R183). -/
def enterColl (q : Nat) (o : Op) (ctx : Nat) (g : Grp) (r : Nat) (c : CollOp) (s : State) : State :=
  let x := que s q
  let seq := g.seqs.get 0 r
  let g := { g with seqs := g.seqs.put 0 r ((seq + 1) % 2 ^ 32) }
  let s := setGrp ctx g s
  if g.st = .fenced then startFail q o 0x42 (g.fencedBy + fld 32 seq) s
  else if s.rep.leaving then
    let s := memCauses (fun m => (que s m.q).attach == x.attach && (que s m.q).part == x.part) 0x42 s
    startFail q o 0x42 (colResult r s.sys.moduleId seq) (colCause g seq 0x42 r s.sys.moduleId s)
  else
    match g.abort with
    | some (n, code, result) => if n = seq then startFail q o code result s else go x seq g s
    | none => go x seq g s
where
  /-- The member enters: its operation takes its source bytes, its header goes to its first vertex. -/
  go (x : Que) (seq : Nat) (g : Grp) (s : State) : State :=
    let m : CMem := { ctx, seq, rank := r, q, idx := o.idx, cop := c, sent := 0, got := 0, going := false, told := false }
    let s := setOp q { o with total := collSrc c g.p.n r } s
    let s := memberHeader m g { s with col := { s.col with mems := s.col.mems ++ [m] } }
    match collDstFault s x.part o.d (collDst c g.p.n r) with
    | some (st, a) => failOp q o.idx st a (if st = St.rights then fault 1 0 (some x.part) a St.rights s else s)
    | none => s

/-- A COLL starts (R37, R156, R161 to R163). Refused for its group it has no address at fault (log entry 29). -/
def startColl (q : Nat) (o : Op) (s : State) : State :=
  let x := que s q
  match queEpid s x with
  | none => noEpidFail q o s
  | some epid =>
    match s.col.grps.find (D.group o.d) with
    | none => noEpidFail q o s
    | some g =>
      match g.rank epid with
      | none => noEpidFail q o s
      | some r =>
        let c := collOpOf g o.d
        if g.st = .building ∨ g.p.part ≠ x.part then noEpidFail q o s
        else if collBad g r c o.d then startFail q o St.format 0 s
        else if D.cnt o.d && partOfCtr s (D.counter o.d) != some x.part then startFail q o St.counter (D.dstAddr o.d) s
        else
          match (if D.dstKind o.d = 1 then foreignPage s x.part (D.dstAddr o.d) (collDst c g.p.n r) else none) with
          | some a => startFail q o St.denied a s
          | none => enterColl q o (D.group o.d) g r c s

/-- COLL (R161 to R165). -/
def execColl (q : Nat) (d : Desc) (s : State) : Result := run (startDesc 8 q d startColl) s

/-- EPOCH-CLOSE (R52, R53). -/
def execEpochClose (q : Nat) (d : Desc) (s : State) : Result := run (startDesc 9 q d startClose) s

/-- The drain of a closing partition is over, where it is (R52). -/
def closeDrained (p : Nat) (s : State) : State :=
  match (part s p).closing with
  | some l => if drained s p then settled (closeEnd p l s) else s
  | none => s

/-- EPOCH_CLOSE_DRAIN_DONE (R52, R386). -/
def execEpochCloseDrainDone (part : Nat) (s : State) : Result := run (closeDrained part) s

/-! ### Quanta (R139 to R141, R146) -/

/-- Firmware gives a free engine to the queue that the contract serves next; the queue takes a prefetcher where one is free. -/
def grant (e q : Nat) (s : State) : State :=
  if fwRuns s && s.fw.hinge.isNone && s.dbg.halted.isEmpty && !braked s && (s.qs.engines.find e).isNone && nextQueue s == some q then
    let x := que s q
    let fetchers := if (s.qs.fetchers.find q).isSome then s.qs.fetchers
      else match (List.range 512).find? (fun k => !s.qs.fetchers.any (fun f => f.2 == k)) with
        | some k => s.qs.fetchers.ins q k
        | none => s.qs.fetchers
    let qs := { s.qs with engines := s.qs.engines.ins e ⟨q, quantum x⟩, pointer := s.qs.pointer.ins x.cls q, fetchers := fetchers }
    let s := tracePoint 0 x.part (leBytes 8 q ++ leBytes 8 e ++ leBytes 8 (quantum x)) { s with qs := qs }
    settled s
  else s

/-- QUANTUM_GRANT (R139 to R142, R146). -/
def execQuantumGrant (engine : Fin 32) (q : Nat) (s : State) : Result := run (grant engine.val q) s

/-- A quantum ends where it may: its bytes are spent, or its queue is no longer ready (R139, R146). -/
def quantumOver (e : Nat) (s : State) : State :=
  match s.qs.engines.find e with
  | none => s
  | some g =>
    if g.left = 0 ∨ !queReady s g.q then
      let x := que s g.q
      let fetchers := if queReady s g.q then s.qs.fetchers else s.qs.fetchers.del g.q
      tracePoint 1 x.part (leBytes 8 g.q ++ leBytes 8 (quantum x - g.left))
        { s with qs := { s.qs with engines := s.qs.engines.del e, fetchers := fetchers } }
    else s

/-- QUANTUM_END (R139, R146). -/
def execQuantumEnd (engine : Fin 32) (s : State) : Result := run (quantumOver engine.val) s

/-! ### Walks and prefetches (R102, R103, R112, R113, R147 to R150) -/

/-- A descriptor that waited for a walk keeps what it found, for its pre-check (R111). -/
def opWalked (page seq : Nat) (x : Xl) (w : Nat × Nat) (s : State) : State :=
  let base := match x with | .leaf lv _ => page - page % pagesAt lv | _ => page
  onOp w.1 w.2 (fun o => { o with tr := o.tr ++ [⟨base, x, seq, 0⟩] }) s

/-- A walk ends under the invalidation number under which it started: what it found goes into the cache and to everyone who waits for it (R102 to
R105). Where the command says that an entry was uncorrectable, it is the last that the walk has read (log entry 101). -/
def walkFound (w : Walk) (bad : Bool) (s : State) : State :=
  let mark (s : State) : State := match (walkOf s w.part w.page).path.getLast? with | some a => poisonWords [a / 8, a / 8 + 1] s | none => s
  let s := if bad then mark s else s
  let t := walkOf s w.part w.page
  let s := walkEnded w.part t s
  let known := w.pf && (cached s w.part w.page).isSome
  let s := match t.fin with | .leaf lv l => if known then s else cacheLeaf w.part w.page lv l w.seq w.pf s | _ => s
  let s := w.ops.foldl (fun s o => opWalked w.page w.seq t.fin.xl o s) s
  w.loads.foldl (fun s a => hostWalked w.part t.fin.xl w.seq a s) s

/-- A walk finishes (R102, R103, R113). -/
def walkDone (p fva : Nat) (bad : Bool) (s : State) : State :=
  let page := fva / 65536
  match s.xlt.walks.find? (fun w => w.part == p && w.page == page) with
  | none => s
  | some w =>
    let rest := { s with xlt := { s.xlt with walks := s.xlt.walks.erase w } }
    if w.seq = (part s p).invSeq then settled (walkFound w bad rest)
    else if w.pf then settled (bump 0x1C0008 rest)
    else
      let w' : Walk := { w with seq := (part s p).invSeq }
      emit (.walk p fva) { rest with xlt := { rest.xlt with walks := rest.xlt.walks ++ [w'] } }

/-- TABLE_WALK_DONE (R102, R103, R113). -/
def execTableWalkDone (part fva : Nat) (uncorrectable : Bool) (s : State) : Result := run (walkDone part fva uncorrectable) s

/-- The reply to a prefetch has come, as its queue's prefetcher meets it: its request is covered (R333). -/
def prefetchReplied (id : Nat) (data : Bytes) (valid : List Bool) (s : State) : State :=
  match s.fab.reqs.find id with
  | some ⟨src, dst, _, _, _, _, .prefetch⟩ => prefetchFilled id data valid (delReq id (ackFlow (flowKey src dst 1) 1 0 id false s))
  | _ => prefetchFilled id data valid s

/-- PREFETCH_REPLY (R147 to R150). -/
def execPrefetchReply (id : Nat) (data : Bytes) (valid : List Bool) (s : State) : Result :=
  run (fun s => settled (prefetchReplied id data valid s)) s

/-- PREFETCH_TIMEOUT (R150). -/
def execPrefetchTimeout (id : Nat) (s : State) : Result := run (prefetchLate id) s

end Sys2Proof.Machine
end

