-- ==== Sys2Proof/Machine/Fabric.lean ====
section
/-! DEFINITION. Messages on endpoints, multicast trees and the analysis port (R210 to R214, R227, R231, R235 to R239). -/

namespace Sys2Proof.Machine

/-! ### Endpoints (R210, R211, R213) -/

/-- The home of a new endpoint entry is this module. -/
def homeHere (s : State) (home : Nat) : Bool := home == s.sys.moduleId

/-- A parameter of EPID_ASSIGN is out of range. -/
def assignRange (s : State) (epid kind attach home : Nat) : Bool :=
  decide (131072 ≤ epid) || decide (2 < kind) || decide (15 < attach) || decide (8191 < home)
    || (homeHere s home && kind == 0 && !attachValid s attach)

/-- An endpoint entry is written; for a pool, the home map with it, whose LOST bit clears (R106). Repair computes its path set, and PATH_VER
rises where MEMBERS or DETOUR come to differ; an entry of this module has no members (R214). An EPID of this module is in service
again (R329). -/
def assign (epid kind attach home : Nat) (s : State) : State :=
  let old := endpoint s epid
  let here := homeHere s home
  let drops := here && (old.detour || !old.members.isEmpty)
  let e : Ep := { v := true, isLocal := here, kind, attach, home, detour := old.detour && !here,
                  pathVer := (old.pathVer + bit drops) % 65536, members := if here then [] else old.members }
  let hm := if kind = 1 then s.fab.homeMap.ins home (epid, false) else s.fab.homeMap
  let s := { s with fab := { s.fab with ep := s.fab.ep.put Ep.init epid e, homeMap := hm },
                    rep := { s.rep with out := s.rep.out.filter (fun x => x != epid) } }
  retryRoutes (installPath epid s)

/-- EPID_ASSIGN (R24, R210). -/
def execEpidAssign (r : Req) (epid kind attach home : Nat) (s : State) : Result :=
  run (message r ⟨0x601, true, true, false, false⟩ none (.epidAssign r epid kind attach home)
    (fun s => [(s.sys.spine && homeHere s home && decide (kind ≤ 1), .role), (assignRange s epid kind attach home, .range),
      ((endpoint s epid).v, .overlap)])
    (fun s => done (settled (assign epid kind attach home s)))) s

/-- The flow entries of an EPID are freed (R331). -/
def freeFlows (epid : Nat) (s : State) : State :=
  let mine (k : Nat) : Bool := k / 8 / 2 ^ 17 == epid || k / 8 % 2 ^ 17 == epid
  { s with fab := { s.fab with sflow := s.fab.sflow.keep (fun k _ => !mine k), dflow := s.fab.dflow.keep (fun k _ => !mine k) } }

/-- An endpoint entry becomes invalid; the home map keeps the EPID and its LOST bit. -/
def release (epid : Nat) (s : State) : State :=
  let e := endpoint s epid
  freeFlows epid { s with fab := { s.fab with ep := s.fab.ep.put Ep.init epid { e with v := false } } }

/-- EPID_RELEASE (R210, R331). -/
def execEpidRelease (r : Req) (epid : Nat) (s : State) : Result :=
  run (message r ⟨0x602, true, true, false, false⟩ none (.epidRelease r epid)
    (fun s => [(decide (131072 ≤ epid), .range), (!(endpoint s epid).v, .state)])
    (fun s => done (settled (release epid s)))) s

/-! ### Trees (R210, R227, R231) -/

/-- A leg of a tree entry is not yet acknowledged, or its delivery report is not yet sent (R231). -/
def treeBusy (s : State) (t : Nat) : Bool :=
  s.fab.runs.any (fun r => r.tree == t) || s.fab.legs.any (fun e => e.2 == t && legOpen s e.1)

/-- A tree entry breaks the layout of R227. -/
def treeRange (t : Nat) (e : TreeEntry) : Bool :=
  decide (8191 < t) || (e.vc != 3 && e.vc != 5) || decide (31 < e.nbranch) || decide (e.branches.length < e.nbranch) || !e.rsvZero
    || decide (63 < e.part)

/-- The named partition does not hold the entry's job tag (R210, R227). -/
def treeDenied (s : State) (e : TreeEntry) : Bool := partIn s e.part [.free] || (part s e.part).prm.jobTag != e.jobTag

/-- A branch names a module declared lost (R330). -/
def treeLost (s : State) (e : TreeEntry) : Bool := (usedBranches e).any (fun b => (endpoint s b.1).v && isLost s (endpoint s b.1).home)

/-- TREE_WRITE (R210, R227, R231, R330). -/
def execTreeWrite (r : Req) (tree : Nat) (e : TreeEntry) (s : State) : Result :=
  run (message r ⟨0x603, true, true, false, false⟩ none (.treeWrite r tree e)
    (fun s => [(treeDenied s e, .denied), (treeBusy s tree, .busy), (treeRange tree e, .range), (treeLost s e, .lost)])
    (fun s => done { s with fab := { s.fab with trees := s.fab.trees.put TreeEntry.init tree e } })) s

/-- A tree entry becomes invalid. -/
def clearTree (t : Nat) (s : State) : State :=
  { s with fab := { s.fab with trees := s.fab.trees.put TreeEntry.init t { tree s t with v := false } } }

/-- TREE_CLEAR (R210, R231). -/
def execTreeClear (r : Req) (tree : Nat) (s : State) : Result :=
  run (message r ⟨0x604, true, true, false, false⟩ none (.treeClear r tree)
    (fun s => [(decide (8191 < tree), .range), (treeBusy s tree, .busy)]) (fun s => done (clearTree tree s))) s

/-! ### The analysis port (R235 to R239) -/

/-- Copying starts: from now on repair treats the port as down, and it carries nothing but copies. -/
def setAna (a : AnaArgs) (s : State) : State :=
  let x : Ana := { en := true, port := a.port, flow := a.flow, src := a.src, dir := a.dir, srcEpid := a.srcEpid, dstEpid := a.dstEpid,
                   vc := a.vc, jobs := s.fab.ana.jobs, queue := [] }
  changeLsa (evictPort a.port { s with fab := { s.fab with ana := x } })

/-- A parameter of ANA_SET is out of range; the analysis port equals the copied port. -/
def anaRange (a : AnaArgs) : Bool :=
  decide (63 < a.port) || decide (7 < a.vc) || decide (131072 ≤ a.srcEpid) || decide (131072 ≤ a.dstEpid)
    || (!a.flow && (decide (63 < a.src) || decide (2 < a.dir) || a.src == a.port))

/-- ANA_SET (R235). -/
def execAnaSet (r : Req) (a : AnaArgs) (s : State) : Result :=
  run (message r ⟨0x605, true, true, false, false⟩ none (.anaSet r a)
    (fun s => [(s.fab.ana.en, .state), (anaRange a, .range)]) (fun s => done (settled (setAna a s)))) s

/-- The partition that a consent token for the analysis port names: the one that holds its job tag. -/
def anaPart (s : State) (t : Bytes) : Option Nat := livePartOfJob s (tokenField t 4 4)

/-- The token holds, and its scope includes ANALYSIS (R236, R396). -/
def anaTokenOk (s : State) (t : Bytes) : Bool :=
  match anaPart s t with
  | some p => tokenOk s (part s p) t && bitOf (tokenField t 2 1) 2
  | none => false

/-- A job tag enters the consent list. -/
def addJob (job : Nat) (s : State) : State :=
  let a := s.fab.ana
  if a.jobs.contains job then s else { s with fab := { s.fab with ana := { a with jobs := a.jobs ++ [job] } } }

/-- The list holds 16 job tags, and this is another. -/
def anaFull (s : State) (job : Nat) : Bool := !s.fab.ana.jobs.contains job && decide (16 ≤ s.fab.ana.jobs.length)

/-- ANA_CONSENT (R236, R396). -/
def execAnaConsent (r : Req) (token : Bytes) (s : State) : Result :=
  run (message r ⟨0x606, true, true, false, false⟩ none (.anaConsent r token) (fun _ => [])
    (fun s =>
      if !anaTokenOk s token then (answer r .denied [] (faultAny 0x1C 0 0 (anaPart s token) s), none)
      else if anaFull s (tokenField token 4 4) then (answer r .full [] s, none)
      else done (addJob (tokenField token 4 4) s))) s

/-- Copying is disabled: the port returns to service, and copies still queued there are discarded. -/
def stopAna (s : State) : State :=
  let a := s.fab.ana
  changeLsa { s with fab := { s.fab with ana := { a with en := false, queue := [] } } }

/-- ANA_CLEAR (R239). -/
def execAnaClear (r : Req) (all disable : Bool) (job : Nat) (s : State) : Result :=
  run (message r ⟨0x607, true, true, false, false⟩ none (.anaClear r all disable job) (fun _ => [])
    (fun s =>
      let s := if all then s.fab.ana.jobs.foldl (fun s j => dropConsent j s) s else dropConsent job s
      done (settled (if disable then stopAna s else s)))) s

/-! ### FAB_QUERY (R210, R214, R227) -/

/-- The 32 bytes of an endpoint entry. -/
def epBytes (e : Ep) : Bytes :=
  let mem := e.members.zipIdx.foldl (fun a m => a + fld (40 + 12 * m.2) (m.1.1 + fld 6 m.1.2)) 0
  leBytes 32 (bit e.v + fld 1 (bit e.isLocal) + fld 2 e.kind + fld 4 e.attach + fld 8 e.home + fld 21 (bit e.detour)
    + fld 24 e.pathVer + mem)

/-- The 128 bytes of a tree entry. -/
def treeBytes (e : TreeEntry) : Bytes :=
  let br := e.branches.zipIdx.foldl (fun a b => a + fld (82 + 30 * b.2) (b.1.1 + fld 17 b.1.2)) 0
  leBytes 128 (bit e.v + fld 1 (bit e.col) + fld 2 e.attachMask + fld 18 e.up + fld 35 e.part + fld 41 e.vc + fld 44 e.nbranch
    + fld 49 e.jobTag + fld 81 (bit e.root) + br)

/-- What FAB_QUERY returns. -/
def fabEntry (s : State) (kind idx : Nat) : Bytes :=
  match kind with
  | 0 => epBytes (endpoint s idx)
  | 1 => treeBytes (tree s idx)
  | _ => leBytes 4 (roReg s 0x60018) ++ s.fab.ana.jobs.flatMap (fun j => leBytes 4 j)

/-- FAB_QUERY (R210, R447). -/
def execFabQuery (r : Req) (kind idx : Nat) (s : State) : Result :=
  run (message r ⟨0x608, false, true, false, false⟩ none (.fabQuery r kind idx)
    (fun _ => [(decide (2 < kind) || (kind == 0 && decide (131072 ≤ idx)) || (kind == 1 && decide (8191 < idx)), .range)])
    (fun s => (s, some (fabEntry s kind idx)))) s

end Sys2Proof.Machine
end

