-- ==== Sys2Proof/Machine/Firmware.lean ====
section
/-! DEFINITION. Acceptance of firmware and the Hinge handover (R402, R431, R437 to R441, R450 to R453). -/

namespace Sys2Proof.Machine

/-! ### Acceptance in STANDBY or HELD (R431 steps 6 and 7) -/

/-- One preset: a write of the MGMT-A class without unlock, or skipped with a record where it names no writable register (R437). -/
def applyPreset (e : Nat × Nat) (s : State) : State :=
  match regDef e.1 with
  | some r =>
    if r.writable && decide (e.1 < 0x400000) then (writeReg (.mgt .a) 0 e.1 .plain (BitVec.ofNat 32 e.2) true s).2
    else faultAt 0x1B 10 none e.1 s
  | none => faultAt 0x1B 10 none e.1 s

/-- An image is accepted: the presets, the history, the state of R402, the margin plan, the report. -/
def accept (i : Image) (hist : Bytes) (s : State) : State :=
  let s := { s with fw := { s.fw with img := some i, hinged := false, session := none } }
  let s := s.sys.presets.foldl (fun s e => applyPreset e s) s
  let s := loadHistory hist s
  let st : PwrSt := if s.pwr.st = .held then .lit else .dark
  let s := { s with pwr := { s.pwr with st := st, starting := true } }
  startPlan (report 0x8019 i.version 0 (if st = .dark then restPorts s else s))

/-! ### FW_COMMIT (R439, R440, R450, R453) -/

/-- Steps 1 and 2 of R450: the Hinge timer runs, FW_COMMIT's response is owed, and the old image writes the record. -/
def hingeStart (r : Req) (i : Image) (s : State) : State :=
  owe r 3 0 { s with fw := { s.fw with hinge := some i, record := match s.fw.img with | some old => handoverRecord s old | none => [] } }

/-- The checks of the image, then its acceptance or its handover. A failure discards the staged image. -/
def commit (r : Req) (s : State) : Answer :=
  match mySession s r with
  | none => done s
  | some x =>
    match imageFault s x with
    | some st => (answer r st [] { s with fw := { s.fw with session := none } }, none)
    | none => if fwRuns s then (hingeStart r (imageOf s x) s, none) else done (settled (accept (imageOf s x) (x.hist.map Prod.snd) s))

/-- FW_COMMIT. In LIGHTING and DARKENING, where R440 opens no session, a commit meets STATE. -/
def execFwCommit (r : Req) (s : State) : Result :=
  run (message r ⟨0x103, true, true, true, true⟩ none (.fwCommit r)
    (fun s => [(fwDenied s r, .denied), ((mySession s r).isNone, .state),
      (fwRuns s && (s.pwr.st == .lighting || s.pwr.st == .darkening), .state),
      (fwRuns s && (!s.dbg.halted.isEmpty || s.hlt.plan), .busy)])
    (commit r)) s

/-! ### The end of the handover (R450, R452) -/

/-- FWM_HINGE_ACCEPT. -/
def execFwmHingeAccept (s : State) : Result := run hingeAccept s

/-- FWM_HINGE_REJECT. -/
def execFwmHingeReject (s : State) : Result := run hingeReject s

/-- HINGE_TIMEOUT. -/
def execHingeTimeout (s : State) : Result := run hingeReject s

end Sys2Proof.Machine
end

