-- ==== Sys2Proof/Machine/Flows.lean ====
section
/-! DEFINITION. The timers of packets, requests and flows (R34, R108, R223, R234, R253, R328, R331, R334, R336). -/

namespace Sys2Proof.Machine

/-- A source flow that is idle with everything acknowledged sends its CLOSE (R331). -/
def sendClose (src dst vc : Nat) (s : State) : State :=
  let k := flowKey src dst vc
  match s.fab.sflow.find k with
  | none => s
  | some f =>
    if f.recs = [] ∧ f.queue = [] ∧ !f.closing ∧ !f.frozen then
      match takeWid s with
      | (wid, s) =>
        let p := (partOfJob s f.job).getD 64
        let h := { mkHdr s p src dst vc 0 wid true with job := f.job, close := true }
        settled (sendFlow { h, rd := none, body := .close, tr := .zero } s)
    else s

/-- FLOW_IDLE_CLOSE (R331). -/
def execFlowIdleClose (src dst vc : Nat) (s : State) : Result := run (sendClose src dst vc) s

/-- RETX_DUE (R334). -/
def execRetxDue (src dst vc : Nat) (s : State) : Result := run (fun s => settled (resend (flowKey src dst vc) s)) s

/-- A rate after a window, in 1/64 GB/s (R234). -/
def newRate (s : State) (gotAck gotEcho : Bool) (rate : Nat) : Nat :=
  let r := if gotEcho then Nat.max (rate * 7 / 8) (64 * rateMin s)
    else if gotAck then Nat.min (rate + 64 * rateStep s) (64 * rateMax s) else rate
  Nat.min r (64 * rateMax s)

/-- A window ends for a flow under congestion control. -/
def windowFlow (s : State) (k : Nat) (f : SFlow) : SFlow :=
  { f with rate := if ccVc (k % 8) then newRate s f.gotAck f.gotEcho f.rate else f.rate, gotAck := false, gotEcho := false }

/-- A window ends for a multicast PUT at its root. -/
def windowRun (s : State) (r : McRun) : McRun := { r with rate := newRate s r.gotAck r.gotEcho r.rate, gotAck := false, gotEcho := false }

/-- A window ends: every rate is adjusted, and a new FAB_CC_RATE is in force from now on (R234, R241). -/
def windowEnd (s : State) : State :=
  { s with fab := { s.fab with sflow := s.fab.sflow.map (fun e => (e.1, windowFlow s e.1 e.2)), runs := s.fab.runs.map (windowRun s),
                               ccMax := rateMax s } }

/-- CC_WINDOW_END (R234). -/
def execCcWindowEnd (s : State) : Result :=
  run windowEnd s

/-- DUP_SUPPRESS_EXPIRY (R336). -/
def execDupSuppressExpiry (src wid : Nat) (s : State) : Result :=
  run (fun s => settled { s with fab := { s.fab with dup := s.fab.dup.del (dupKey src wid) } }) s

/-- A packet by the fields that name it. -/
def isPkt (src dst vc seq : Nat) (q : Pkt) : Bool := q.h.src == src && q.h.dst == dst && q.h.vc == vc && q.h.seq == seq

/-- A queued packet of these numbers. -/
def isQueued (src dst vc seq : Nat) (q : Queued) : Bool := match q.load with | .pkt p => isPkt src dst vc seq p | _ => false

/-- A record of a packet discarded for its age (R253). -/
def expired (dst : Nat) (s : State) : State := settled (faultAt 0xE 6 none dst (bump 0x80020 s))

/-- The copies of a packet that wait in a queue or without a route, each with the time of its sending (R253). -/
def waitingCopies (src dst vc seq : Nat) (s : State) : List Queued :=
  (s.fab.voq.flatMap (fun e => e.2) ++ s.fab.noRoute).filter (isQueued src dst vc seq)

/-- The copy that has waited longest. -/
def oldest (qs : List Queued) : Option Queued :=
  qs.foldl (fun b q => match b with | none => some q | some x => if q.since < x.since then some q else some x) none

/-- A queued packet leaves the switch without crossing. -/
def discardQueued (q : Queued) (s : State) : State :=
  let mine := s.fab.voq.filter (fun e => e.2.contains q)
  let voq := s.fab.voq.mapD [] (fun _ l => l.erase q)
  let s := dropQueued q { s with fab := { s.fab with voq := voq, noRoute := s.fab.noRoute.erase q } }
  mine.foldl (fun s e => zeroDrr (voqOut e.1) (voqVc e.1) s) s

/-- A packet has been at this module for 10 ms: in a queue or without a route, in the reorder store, or redirected and waiting (R253). -/
def packetOld (src dst vc seq : Nat) (s : State) : State :=
  match oldest (waitingCopies src dst vc seq s) with
  | some q => expired dst (discardQueued q s)
  | none =>
    match s.fab.dflow.find (flowKey src dst vc) with
    | some d =>
      (match d.held.find seq with
       | some (some _) => expired dst (setDFlow (flowKey src dst vc) { d with held := d.held.del seq } s)
       | _ => s)
    | none => s

/-- PACKET_EXPIRY (R253). -/
def execPacketExpiry (src dst vc seq : Nat) (s : State) : Result := run (packetOld src dst vc seq) s

/-- A packet has had no candidate for 10 ms (R223). -/
def routeOld (src dst vc seq : Nat) (s : State) : State :=
  match s.fab.noRoute.find? (isQueued src dst vc seq) with
  | some q => linkWork (faultAt 0xE 7 none dst (bump 0x60024 (dropQueued q { s with fab := { s.fab with noRoute := s.fab.noRoute.erase q } })))
  | none => s

/-- NO_ROUTE_EXPIRY (R223). -/
def execNoRouteExpiry (src dst vc seq : Nat) (s : State) : Result := run (routeOld src dst vc seq) s

/-- A redirected request has waited beyond the repair bound for its record's promotion (R108). -/
def redirOld (src dst vc seq : Nat) (s : State) : State :=
  let due := s.fab.redirWait.filter (fun x => isPkt src dst vc seq x.1)
  match due with
  | [] => s
  | _ =>
    let s := { s with fab := { s.fab with redirWait := s.fab.redirWait.filter (fun x => !isPkt src dst vc seq x.1) } }
    settled (due.foldl (fun s x => poolRefuse x.1.h x.1.body St.denied s) s)

/-- REDIRECT_WAIT_EXPIRY (R108). -/
def execRedirectWaitExpiry (src dst vc seq : Nat) (s : State) : Result := run (redirOld src dst vc seq) s

/-- A request's timer has expired (R34). While a repair runs at this module it is not yet known whether the path set toward the destination
changes: the expiry waits for the end of the hold (log entry 42). -/
def requestLate (src wid : Nat) (s : State) : State :=
  match s.fab.reqs.find wid with
  | none => s
  | some r =>
    if r.src ≠ src then s
    else if s.rep.hold.isSome then
      (if s.rep.late.contains wid then s else { s with rep := { s.rep with late := s.rep.late ++ [wid] } })
    else settled (reqExpired wid r s)

/-- REQUEST_TIMEOUT (R34). -/
def execRequestTimeout (src wid : Nat) (s : State) : Result := run (requestLate src wid) s

/-- 100 ms after a module was declared lost, the flow entries with an EPID of it are freed (R328). -/
def lostFlows (m : Nat) (s : State) : State :=
  if isLost s m then
    let there (e : Nat) : Bool := (endpoint s e).v && (endpoint s e).home == m && !(endpoint s e).isLocal
    let far (k : Nat) : Bool := there (k / 8 / 2 ^ 17) || there (k / 8 % 2 ^ 17)
    let fab := { s.fab with sflow := s.fab.sflow.keep (fun k _ => !far k), dflow := s.fab.dflow.keep (fun k _ => !far k) }
    settled { s with fab := { fab with shadow := s.fab.shadow.keep (fun k _ => !there (k / 8192 / 8)) } }
  else s

/-- LOST_FLOW_FREE (R328, R331). -/
def execLostFlowFree (module : Nat) (s : State) : Result := run (lostFlows module) s

end Sys2Proof.Machine
end

