-- ==== Sys2Proof/Machine/Group.lean ====
section
/-! DEFINITION. The group commands (R152 to R159, R173, R184, R342). -/

namespace Sys2Proof.Machine

/-- A context number that no module has. -/
def noCtx (c : Nat) : Bool := decide (4095 < c)

/-- The state of a group context; none for FREE. -/
def grpSt (s : State) (c : Nat) : Option GrpSt := (s.col.grps.find c).map Grp.st

/-! ### GRP_CREATE (R155, R159, R173) -/

/-- The partition is not the job's, or may not own a lattice group. -/
def grpDenied (s : State) (p : GrpParams) : Bool :=
  let x := part s p.part
  x.st == .free || x.prm.jobTag != p.jobTag || (p.lattice && !x.prm.privileged)

/-- A parameter lies outside its range. -/
def grpRange (p : GrpParams) : Bool :=
  noCtx p.ctx || (if p.lattice then decide (15 < p.latticeId) || p.share == 0 || decide (48 < p.share) else p.weight == 0 || decide (16 < p.weight))
    || p.n == 0 || decide (131072 < p.n) || (p.chunkLog2 != 0 && (decide (p.chunkLog2 < 14) || decide (20 < p.chunkLog2)))
    || (p.depth != 0 && (decide (p.depth < 4) || decide (16 < p.depth))) || p.budget == 0 || decide (512 < p.budget)
    || decide (60000 < p.arrivalMs) || decide (8191 < p.tree)

/-- The context is in use, or another group here has the lattice identifier. -/
def grpOverlap (s : State) (p : GrpParams) : Bool :=
  (s.col.grps.find p.ctx).isSome || (p.lattice && s.col.grps.any (fun e => e.2.p.lattice && e.2.p.latticeId == p.latticeId))

/-- The lattice shares reserved at this module (R159). -/
def shareSum (s : State) : Nat := s.col.grps.foldl (fun a e => if e.2.p.lattice then a + e.2.p.share else a) 0

/-- Shares, staging or entries of the member store are short (R153, R159, R173). -/
def grpFull (s : State) (p : GrpParams) : Bool :=
  (p.lattice && decide (48 < shareSum s + p.share)) || decide (704 < stageSum s + p.budget) || decide (3145728 < memberSum s + p.n)

/-- A context in BUILDING. -/
def createGrp (p : GrpParams) (s : State) : State :=
  let g : Grp := { st := .building, p, members := [], hosts := [], digest := 0, seqs := [], abort := none, fencedBy := 0, depth := 0 }
  setGrp p.ctx { g with depth := g.reqDepth } s

/-- GRP_CREATE (R153 to R155, R159, R173, R342). -/
def execGrpCreate (r : Req) (p : GrpParams) (s : State) : Result :=
  run (message r ⟨0x501, true, true, false, false⟩ none (.grpCreate r p)
    (fun s => [(grpDenied s p, .denied), (s.rep.leaving, .state), (grpRange p, .range), (grpOverlap s p, .overlap), (grpFull s p, .full)])
    (fun s => done (createGrp p s))) s

/-! ### GRP_MEMBERS and GRP_HOSTS (R153, R154, R156, R330) -/

/-- An EPID of this module that is not an attachment bound to the group's partition (R156). -/
def memberDenied (s : State) (ctx : Nat) (epids : List Nat) : Bool :=
  match s.col.grps.find ctx with
  | none => false
  | some g =>
    epids.any (fun e =>
      let x := endpoint s e
      x.v && x.isLocal && (x.kind != 0 || !boundTo s g.p.part x.attach))

/-- The member list with these ranks written. -/
def withMembers (g : Grp) (first : Nat) (epids : List Nat) : Tab Nat := epids.zipIdx.foldl (fun t x => t.ins (first + x.2) x.1) g.members

/-- A rank at or above N, or a count or EPID outside its range. -/
def memberRange (s : State) (ctx first : Nat) (epids : List Nat) : Bool :=
  match s.col.grps.find ctx with
  | none => false
  | some g => epids == [] || decide (960 < epids.length) || decide (g.p.n < first + epids.length) || epids.any (fun e => decide (2 ^ 17 ≤ e))

/-- An EPID would be listed twice. DESIGN CHOICE: a rank written again with its own EPID lists none twice (log entry 113). -/
def memberOverlap (s : State) (ctx first : Nat) (epids : List Nat) : Bool :=
  match s.col.grps.find ctx with
  | none => false
  | some g => let l := (withMembers g first epids).map Prod.snd; decide (l.eraseDups.length ≠ l.length)

/-- A change of a context that exists. -/
def onGrp (ctx : Nat) (f : Grp → Grp) (s : State) : State :=
  match s.col.grps.find ctx with | some g => setGrp ctx (f g) s | none => s

/-- GRP_MEMBERS (R154, R156). -/
def execGrpMembers (r : Req) (ctx first : Nat) (epids : List Nat) (s : State) : Result :=
  run (message r ⟨0x502, true, true, false, false⟩ none (.grpMembers r ctx first epids)
    (fun s => [(memberDenied s ctx epids, .denied), (noCtx ctx, .range), (grpSt s ctx != some .building, .state),
      (memberRange s ctx first epids, .range), (memberOverlap s ctx first epids, .overlap)])
    (fun s => done (onGrp ctx (fun g => { g with members := withMembers g first epids }) s))) s

/-- An entry names no vertex of the group or no module, or there are too many. DESIGN CHOICE: more than 256 in total is RANGE, not FULL (log
entry 113). -/
def hostsRange (s : State) (ctx : Nat) (es : List HostEntry) : Bool :=
  match s.col.grps.find ctx with
  | none => false
  | some g => es == [] || decide (64 < es.length) || decide (256 < g.hosts.length + es.length)
      || es.any (fun h => decide (17 < h.level) || decide (h.last < h.first) || decide (g.p.n ≤ h.last) || decide (8191 < h.host))

/-- GRP_HOSTS (R153, R154, R330). -/
def execGrpHosts (r : Req) (ctx : Nat) (entries : List HostEntry) (s : State) : Result :=
  run (message r ⟨0x503, true, true, false, false⟩ none (.grpHosts r ctx entries)
    (fun s => [(noCtx ctx, .range), (grpSt s ctx != some .building, .state), (hostsRange s ctx entries, .range),
      (entries.any (fun h => isLost s h.host), .lost), (decide (3145728 < memberSum s + 3 * entries.length), .full)])
    (fun s => done (onGrp ctx (fun g => { g with hosts := g.hosts ++ entries }) s))) s

/-! ### GRP_ARM (R157, R164, R167) -/

/-- A rank has not been written. -/
def armState (s : State) (ctx : Nat) : Bool :=
  match s.col.grps.find ctx with | some g => g.st != .building || decide (g.members.length < g.p.n) | none => true

/-- This module hosts a vertex by the map, without a current key. -/
def armKey (s : State) (ctx : Nat) : Bool :=
  match s.col.grps.find ctx with
  | some g => g.hosts.any (fun h => h.host == s.sys.moduleId) && (part s g.p.part).cur.isNone
  | none => false

/-- The group is ACTIVE under its digest; every local rank begins at 0. -/
def armGrp (ctx : Nat) (s : State) : Answer :=
  match s.col.grps.find ctx with
  | none => done s
  | some g =>
    let d := grpDigest g.p g.members g.hosts
    (setGrp ctx { g with st := .active, digest := d, seqs := [] } s, some (leBytes 8 d))

/-- GRP_ARM (R154, R157). -/
def execGrpArm (r : Req) (ctx : Nat) (s : State) : Result :=
  run (message r ⟨0x504, true, true, false, false⟩ none (.grpArm r ctx)
    (fun s => [(noCtx ctx, .range), (armState s ctx, .state), (armKey s ctx, .key)]) (armGrp ctx)) s

/-! ### GRP_DESTROY (R154, R184, R397) -/

/-- One running collective of a destroyed context: its members here end with GROUP_DESTROYED, which names no rank; the module field of
such a RESULT is free (R179). -/
def destroySeq (ctx n : Nat) (s : State) : State :=
  match s.col.grps.find ctx with
  | none => s
  | some g =>
    match freeVal 8192 s with
    | (m, s) =>
      let res := colResult noRank m n
      let s := if topMod s g = s.sys.moduleId then topAbort ctx g n 0x48 res s
        else colSend g (topMod s g) 4 32 0 true (.cause (plainRec g n res 0x48)) s
      match s.col.grps.find ctx with
      | some g => colAborted ctx g n 0x48 res s
      | none => s

/-- The context is freed with its staging budget, its share and its entries of the member store; records that wait at the COL block still
go. -/
def destroyGrp (ctx : Nat) (s : State) : State :=
  let s := (colRunning s ctx).foldl (fun s n => destroySeq ctx n s) s
  let c := s.col
  { s with col := { c with grps := c.grps.del ctx, mems := c.mems.filter (fun m => m.ctx != ctx),
                           verts := c.verts.filter (fun v => v.ctx != ctx), tops := c.tops.filter (fun t => t.ctx != ctx) } }

/-- GRP_DESTROY (R154, R184). -/
def execGrpDestroy (r : Req) (ctx : Nat) (s : State) : Result :=
  run (message r ⟨0x505, true, true, false, false⟩ none (.grpDestroy r ctx)
    (fun s => [(noCtx ctx, .range), ((s.col.grps.find ctx).isNone, .state)]) (fun s => done (settled (destroyGrp ctx s)))) s

/-! ### GRP_QUERY (R154) -/

def GrpSt.code : GrpSt → Nat
  | .building => 1 | .active => 2 | .fenced => 3

/-- The payload of GRP_QUERY; FREE is 0, the next sequence number is the lowest of the local ranks. -/
def grpReport (s : State) (ctx : Nat) : Bytes :=
  match s.col.grps.find ctx with
  | none => zeroBytes 41
  | some g =>
    let p := g.p
    let seqs := (g.members.filter (fun m => (endpoint s m.2).isLocal)).map (fun m => g.seqs.get 0 m.1)
    leBytes 1 g.st.code ++ leBytes 4 p.groupTag ++ leBytes 4 p.jobTag ++ leBytes 1 p.part ++ leBytes 2 p.ctx ++ leBytes 1 (bit p.lattice)
      ++ leBytes 1 p.weight ++ leBytes 1 p.latticeId ++ leBytes 1 p.share ++ leBytes 4 p.n ++ leBytes 1 p.chunkLog2 ++ leBytes 1 p.depth
      ++ leBytes 2 p.budget ++ leBytes 2 p.arrivalMs ++ leBytes 2 p.tree ++ leBytes 8 g.digest
      ++ leBytes 4 (match seqs with | [] => 0 | x :: l => l.foldl Nat.min x) ++ leBytes 1 g.depth

/-- GRP_QUERY (R154). -/
def execGrpQuery (r : Req) (ctx : Nat) (s : State) : Result :=
  run (message r ⟨0x506, false, true, false, false⟩ none (.grpQuery r ctx) (fun _ => [(noCtx ctx, .range)])
    (fun s => (s, some (grpReport s ctx)))) s

end Sys2Proof.Machine
end

