-- ==== Sys2Proof/Machine/Health.lean ====
section
/-! DEFINITION. Sensors, the margin plan, patrol reads and health, by their periods (R61, R419 to R424). -/

namespace Sys2Proof.Machine

/-! ### The margin plan (R421) -/

/-- MARGIN_PLAN_DAILY. -/
def execMarginPlanDaily (s : State) : Result := run startPlan s

/-- MARGIN_PLAN_DONE. -/
def execMarginPlanDone (s : State) : Result := run (fun s => settled (planEnd s)) s

/-- A deferred retraining runs once no partition is ACTIVE (R423). -/
def deferredRetrain (s : State) : State :=
  if s.hlt.deferred && !intrusiveBusy s then retrainFallen s else s

/-- GDDR_DEFERRED_RETRAIN. -/
def execGddrDeferredRetrain (s : State) : Result := run deferredRetrain s

/-! ### Patrol reads (R59 to R61) -/

/-- The extent that holds a word. -/
def extentAt (s : State) (word : Nat) : Option Ext :=
  (s.pool.ext.find? (fun e => e.2.st != .free && e.2.kind != .present && decide (e.2.base ≤ 8 * word) && decide (8 * word < e.2.base + e.2.bytes))).map
    Prod.snd

/-- A patrol read meets an uncorrectable word: the mirror's value is fetched, or the word keeps its poison marker, with a fault record. -/
def patrolBad (word : Nat) (s : State) : State :=
  match extentAt s word with
  | some e => if e.mirrored then (fetchMirror e [word] s).1 else faultAt 6 3 (some e.part) (8 * word) s
  | none => faultAt 6 3 none (8 * word) s

/-- The bits of the pool's cells that have gone wrong: word and bit of its 72. -/
def cellErrors (flips : List (Nat × Nat)) (s : State) : State :=
  flips.foldl (fun s f => if f.1 < 2 ^ 34 ∧ f.2 < 72 then flipBit f.1 f.2 s else s) s

/-- A patrol read of the stripe at `addr` (R56, R61). `flips`: the bits of the pool that have gone wrong since the last row told of any, in
this stripe or elsewhere; those elsewhere are met by the next read there (log entry 102). -/
def patrol (addr : Nat) (flips : List (Nat × Nat)) (s : State) : State :=
  if s.sys.spine || decide (2 ^ 37 ≤ addr) then s
  else
    let s := cellErrors flips s
    if !fwRuns s then s
    else
      let a := addr / 256 * 256
      let s := checkRead none a 256 s
      (badIn s a 256).foldl (fun s w => patrolBad w s) s

/-- PATROL_READ. -/
def execPatrolRead (addr : Nat) (flips : List (Nat × Nat)) (s : State) : Result := run (patrol addr flips) s

/-! ### Sensors (R419) -/

/-- SRAM_VMIN_TEST (R420): it runs in every state from DARK upward. -/
def execSramVminTest (slice : Fin 256) (mv : Nat) (s : State) : Result :=
  run (fun s => if s.pwr.st = .standby then s else { s with hlt := { s.hlt with vmin := s.hlt.vmin.put 0 slice.val (mv % 1024) } }) s

/-- A register of the indirect space that a sensor updates (R473, R291, R318, R430, R474). -/
def sensorReg (s : State) (a : Nat) : Bool :=
  (decide (0x01000000 ≤ a) && decide (a < 0x01040000) && decide (a % 0x1000 < 0x900) && decide (a % 0x100 ≤ 0x14) && a % 4 == 0)
    || (decide (0x02000000 ≤ a) && decide (a < 0x02010000) && decide (a % 0x1000 < 0x400) && decide (a % 0x40 ≤ 0x10) && a % 4 == 0)
    || (decide (0x03100000 ≤ a) && decide (a < 0x03100300) && a % 4 == 0)
    || (!s.sys.spine && decide (0x04000000 ≤ a) && decide (a < 0x04001200) && (a % 0x100 == 0 || a % 0x100 == 4))

/-- The reserved bits of such a register read zero. -/
def sensorMask (a : Nat) : Word :=
  if a < 0x02000000 then (if a % 0x100 = 0 then 0xFF#32 else if a % 0x100 = 4 then 0xFFFF#32 else if a % 0x100 = 0x14 then 0xFFFFFF#32 else 0xFFFFFFFF#32)
  else if a < 0x03000000 then (if a % 0x40 = 0 then 0xFFFF#32 else 0xFFFFFFFF#32)
  else if a < 0x04000000 then 0xFFFFFFFF#32
  else if a % 0x100 = 0 then 0xFFFF#32 else 0xFFFFF#32

/-- A count of bytes corrected has risen: events of its wavelength (R424). -/
def corrected (a old new : Nat) (s : State) : State :=
  if a < 0x02000000 ∧ a % 0x100 = 0xC then health (9 * ((a - 0x01000000) / 0x1000) + a % 0x1000 / 0x100) 0 (new - old) s else s

/-- The windows of the first training are kept (R421). -/
def firstTraining (a v : Nat) (s : State) : State :=
  if 0x04000000 ≤ a then
    let k := 2 * ((a - 0x04000000) / 0x100) + a % 0x100 / 4
    if s.hlt.firstTr.get 0 k = 0 then { s with hlt := { s.hlt with firstTr := s.hlt.firstTr.put 0 k v } } else s
  else s

/-- SENSOR_UPDATE: a register takes a new reading. Addresses 0x0600_0000 + 4 × laser, which name no register, stand for the slope
efficiency that the monitor photodiode gives (log entry 39). -/
def sensor (a : Nat) (v : Word) (s : State) : State :=
  if 0x06000000 ≤ a ∧ a < 0x06000000 + 4 * 576 then
    { s with hlt := { s.hlt with slope := s.hlt.slope.put 0 ((a - 0x06000000) / 4) v.toNat } }
  else if !sensorReg s a then s
  else
    let v := v &&& sensorMask a
    let old := s.regs.ind.get 0#32 a
    firstTraining a v.toNat (corrected a old.toNat v.toNat { s with regs := { s.regs with ind := s.regs.ind.put 0#32 a v } })

/-- SENSOR_UPDATE (R419). -/
def execSensorUpdate (addr : BitVec 32) (value : Word) (s : State) : Result := run (sensor addr.toNat value) s

/-! ### Scores (R424) -/

/-- HEALTH_SECOND. -/
def execHealthSecond (s : State) : Result := run (fun s => settled (secondOver s)) s

/-- HEALTH_HOUR. -/
def execHealthHour (s : State) : Result := run hourOver s

end Sys2Proof.Machine
end

