-- ==== Sys2Proof/Machine/HostAccess.lean ====
section
/-! DEFINITION. The commands of CXL.mem and CXL.io (R25, R46, R81, R307 to R310). -/

namespace Sys2Proof.Machine

/-- CXL_MEM_LOAD (R25, R300 to R307). -/
def execCxlMemLoad (m : MemReq) (snp : Snp) (s : State) : Result := run (fun s => settled (hostArrive ⟨m, snp, none⟩ s)) s

/-- CXL_MEM_STORE (R25, R300 to R307). -/
def execCxlMemStore (m : MemReq) (mask : List Bool) (data : Bytes) (mv : MetaVal) (s : State) : Result :=
  run (fun s => settled (hostArrive ⟨m, .noOp, some ⟨mask, data, mv⟩⟩ s)) s

/-- A BIRsp arrives on a port (R78, R307, R308). -/
def biArrive (port : Fin 16) (line : Nat) (keep : Bool) (s : State) : State :=
  match attachOf s port.val with
  | none => s
  | some a =>
    match (snoop s line).bi with
    | some (m, _) => if bitOf m a then settled (biAnswer line a keep s) else bump 0x380004 s
    | none => bump 0x380004 s

/-- BIRSP (R307, R308). -/
def execBiRsp (port : Fin 16) (line : Nat) (keepShared : Bool) (s : State) : Result := run (biArrive port line keepShared) s

/-- A back-invalidation of a line toward an attachment has had no answer (R81). -/
def biSilent (line att : Nat) (s : State) : State :=
  match (snoop s line).bi with
  | some (m, _) => if bitOf m att then settled (sever line att s) else s
  | none => s

/-- BI_TIMEOUT (R81). -/
def execBiTimeout (line : Nat) (attach : Nat) (s : State) : Result := run (biSilent line attach) s

/-- A zero-length read that goes on several ports for one packet. -/
def shared : DmaFor → Bool
  | .landed _ _ _ _ _ _ => true
  | .result _ _ _ _ _ _ _ _ _ => true
  | _ => false

/-- A completion of CXL.io read `id` arrives; one that its port still holds has none. What a packet has written is visible once the reads
on all its ports have completed; the first that fails ends them (R26). -/
def ioAnswered (id : Nat) (ok : Bool) (data : Bytes) (s : State) : State :=
  match s.cxl.dma.find id with
  | none => s
  | some (port, f) =>
    let dma := s.cxl.dma.del id
    let more := shared f && dma.any (fun e => e.2.2 == f)
    let s := flushDma port { s with cxl := { s.cxl with dma := if ok then dma else dma.keep (fun _ e => !(shared f && e.2 == f)) } }
    settled (if ok then (if more then s else dmaDone f data s) else dmaFail port f s)

/-- CXL_IO_COMPLETION (R309, R310, R26, R137). -/
def execCxlIoCompletion (id : Nat) (ok : Bool) (data : Bytes) (s : State) : Result := run (ioAnswered id ok data) s

/-- CXL_IO_TIMEOUT (R310). -/
def execCxlIoTimeout (id : Nat) (s : State) : Result := run (ioAnswered id false []) s

/-- A read in the landing counter window (R46). -/
def ctrRead (port : Fin 16) (off size : Nat) (s : State) : State :=
  let n := (off - 0x400000) / 8
  match attachOf s port.val with
  | none => s
  | some a =>
    let mine : Bool := match partOfCtr s n with | some p => boundTo s p a | none => false
    if size = 8 ∧ off % 8 = 0 ∧ 0x400000 ≤ off ∧ off < 0x480000 ∧ mine then
      emit (.regResp (.host port) 0 .ok (s.ctrs.get 0 n)) s
    else faultAt 0 0 none off (emit (.unsupported port) s)

/-- LANDING_COUNTER_READ (R46). -/
def execLandingCounterRead (port : Fin 16) (off size : Nat) (s : State) : Result := run (ctrRead port off size) s

end Sys2Proof.Machine
end

