-- ==== Sys2Proof/Machine/Link.lean ====
section
/-! DEFINITION. The rows of a Biria port: flits (R270 to R275), link messages (R277), training (R278), failures and swaps (R281 to R285), the PHY
PLL (R288), idle power (R266), changes of state (R280). -/

namespace Sys2Proof.Machine

/-! ### Flits (R270 to R274) -/

/-- The link messages that fly by their code (R277): what the fields of a message field say. -/
def applyLink (p : Nat) (f : Bytes) (s : State) : State :=
  let u (i n : Nat) : Nat := leNat ((f.drop i).take n)
  match u 8 1 with
  | 0 => s
  | 1 => trainMsg p (u 9 2) (u 11 1) (u 12 1) (u 14 4) s
  | 2 => swapReqMsg p (u 9 1 == 1) (u 10 1) (u 11 1) (u 12 1) (u 13 1 == 1) s
  | 3 => swapDoneMsg p (u 9 1 == 1) (u 10 1) (u 11 1) s
  | 4 => swapAbortMsg p (u 9 1 == 1) (u 10 1) (u 11 1) s
  | 5 => calStartMsg p (u 9 1) s
  | 6 => calEndMsg p (u 9 1) (u 10 1 == 1) s
  | 7 => lanesMsg p (u 9 1 == 1) (u 10 1) (u 11 4) s
  | _ => bump (0xC100C + 0x40 * p) s

/-- The bytes of a packet that has ended: a whole one is handed on, an abandoned or malformed one discarded (R255, R257). -/
def packetEnd (p : Nat) (abandoned whole : Bool) (flits : Nat) (bytes : Bytes) (s : State) : State :=
  let h := (hdrOf bytes).1
  if abandoned then passCells p h.vc h.hops flits s
  else if !whole ∨ 4096 < h.len ∨ flits ≠ flitsOf h.len then noteMalformed h.dst (passCells p h.vc h.hops flits s)
  else emit (.assembled p (bytes.take (48 + h.len))) s

/-! ### Cut-through (R256, R257) -/

/-- An output is idle for a packet: nothing is queued for it or crossing to it, its link may send DATA and holds credit for the packet. -/
def outIdle (s : State) (o vc cls cells : Nat) : Bool :=
  let x := optPort s o
  portUp s o && !x.stall && x.data.isEmpty && decide (x.sent.length < 8192) && (takeCredit x vc cls cells).isSome && !cutOut s o
    && !s.fab.voq.any (fun e => voqOut e.1 == o)

/-- The port by which an arriving packet for another module is cut through, and whether by a detour: cut-through is enabled, the output is idle
and no faster than the input. -/
def cutPort (s : State) (p : Nat) (h : Hdr) : Option (Nat × Bool) :=
  let e := endpoint s h.dst
  if !ctEn s || !e.v || e.isLocal || isLost s e.home || decide (hopLimit s ≤ h.hops) || decide (4096 < h.len) then none
  else
    match choosePort s h with
    | some (o, d) =>
      if outIdle s o h.vc (h.hops + 1) (flitsOf h.len) && decide ((optPort s o).tx.map.length ≤ (optPort s p).rx.map.length) then some (o, d) else none
    | none => none

/-- The first cell of a packet is cut through: it takes its buffer and its credit, and leaves with HOPS risen (R219, R251, R256). -/
def startCut (p o : Nat) (detoured : Bool) (h : Hdr) (msg : Bytes) (s : State) : State :=
  let n := flitsOf h.len
  let x := takeFabric p h.vc h.hops n s
  let s := match takeCredit (optPort x.2 o) h.vc (h.hops + 1) n with | some y => setOpt x.2 o y | none => x.2
  let h' : Hdr := { h with hops := h.hops + 1, detoured := h.detoured || detoured }
  let s := { s with fab := { s.fab with cuts := s.fab.cuts ++ [⟨p, some o, h', 1, n, x.1⟩] } }
  frameOut o [dataFrame true false false (restamp msg h'.hops h'.detoured h'.ce) (some x.1) h.dst] s

/-- The last cell of a packet that was cut through has crossed: it is copied where its crossings are, and its lanes are free. -/
def endCut (p o : Nat) (c : Cut) (bytes : Bytes) (s : State) : State :=
  let b := bytes.take (48 + c.h.len)
  let s := anaCopyBytes o true c.h (restamp b c.h.hops c.h.detoured c.h.ce) (anaCopyBytes p false (hdrOf b).1 b s)
  switch (movePtrs p o c.h.vc { s with fab := { s.fab with cuts := s.fab.cuts.filter (fun x => x.inp != p) } })

/-- A further cell of a packet that is cut through: its abandoned end is passed on (R257); one that has more or fewer flits than its LEN gives
is malformed (R255, log entry 97). `bytes`: the packet so far, this flit with it. -/
def stepCut (p : Nat) (c : Cut) (eop abandon : Bool) (msg bytes : Bytes) (s : State) : State :=
  match c.outp with
  | none => if eop then leave c.own (c.cells - c.k) { s with fab := { s.fab with cuts := s.fab.cuts.filter (fun x => x.inp != p) } } else s
  | some o =>
    if eop && abandon then switch (abandonCut c s)
    else if eop != (c.k + 1 == c.cells) then switch (abandonCut c (noteMalformed c.h.dst s))
    else
      let c' : Cut := { c with k := c.k + 1 }
      let s := frameOut o [dataFrame false eop false msg (some c.own) c.h.dst]
        { s with fab := { s.fab with cuts := s.fab.cuts.map (fun x => if x.inp = p then c' else x) } }
      if eop then endCut p o c' bytes s else s

/-- The packet that comes in by a port and is cut through. -/
def cutOf (s : State) (p : Nat) : Option Cut := s.fab.cuts.find? (fun c => c.inp == p)

/-- A packet breaks off: another begins, or it never began. -/
def brokenOff (p : Nat) (n : Nat) (b : Bytes) (s : State) : State :=
  match cutOf s p with
  | some c => abandonCut c (if c.outp.isSome then noteMalformed c.h.dst s else s)
  | none => packetEnd p false false n b s

/-- A DATA flit in sequence (R255 to R257). -/
def dataFlit (p : Nat) (sop eop abandon : Bool) (f : Bytes) (s : State) : State :=
  let o := optPort s p
  let msg := f.drop 8
  if sop then
    let s := match o.asm with | some (n, b) => brokenOff p n b s | none => s
    let h := (hdrOf msg).1
    if eop then packetEnd p abandon true 1 msg (setOpt s p { optPort s p with asm := none })
    else
      let s := setOpt s p { optPort s p with asm := some (1, msg) }
      match cutPort s p h with
      | some (out, d) => startCut p out d h msg s
      | none => s
  else
    match o.asm with
    | none => packetEnd p abandon false 1 msg s
    | some (n, b) =>
      let s := setOpt s p { o with asm := if eop then none else some (n + 1, b ++ msg) }
      match cutOf s p with
      | some c => stepCut p c eop abandon msg (b ++ msg) s
      | none => if eop then packetEnd p abandon true (n + 1) (b ++ msg) s else s

/-! ### A flit in sequence -/

/-- The credit of an accepted flit (R251, R271). -/
def takeReturn (vc cls : Nat) (shared : Bool) (n : Nat) (o : OptPort) : OptPort :=
  if shared then { o with shared := o.shared + 256 * n }
  else { o with credit := o.credit.put 0 (8 * vc + cls) (o.credit.get 0 (8 * vc + cls) + n) }

/-- A flit that has passed R272: its ACK and NAK take effect; a sequenced flit in its turn is accepted, and its credit return, packet bytes or
link message applied once (R271, R274). -/
def goodFlit (p : Nat) (f : Bytes) (s : State) : State :=
  let h := flitHdrOf f
  if h.type = 3 ∨ (h.type = 0 ∧ (h.crCount ≠ 0 ∨ f.drop 8 ≠ zeroBytes 240)) then bump (0xC100C + 0x40 * p) s
  else
    let s := ackTo p h.ack s
    let s := if h.nak then replay p true s else s
    if h.type = 0 then s
    else
      let o := optPort s p
      if !o.lit then s
      else if h.lseq ≠ o.expect then setOpt s p { o with nak := true }
      else
        let o := takeReturn h.crVc h.crClass h.crShared h.crCount o
        let s := setOpt s p { o with expect := (o.expect + 1) % 16384, nak := false }
        if h.type = 1 then dataFlit p h.sop h.eop h.abandon f s else applyLink p f s

/-- The answer to a flit where nothing sequenced goes out: an IDLE flit with the ACK and NAK of now (R271, R274). -/
def answerIdle (p next : Nat) (s : State) : State :=
  if (optPort s p).lit && (optPort s p).next == next then sendIdle p s else s

/-- A flit arrives: both codewords are decoded, then the CRC is checked (R272). -/
def flitIn (p : Nat) (f : Bytes) (s : State) : State :=
  let n := (optPort s p).next
  let bad (s : State) : State := setOpt (bump (0xC100C + 0x40 * p) s) p { optPort s p with nak := true }
  if !(optPort s p).lit then s
  else
    answerIdle p n (match flitCorrect f with
    | none => bad s
    | some (_, k) =>
      let s := bumpN (0xC1010 + 0x40 * p) k s
      match flitCheck f with
      | none => bad s
      | some (g, _) => switch (txPort p (goodFlit p g s)))

/-- FLIT_RECEIVED (R270 to R275). -/
def execFlitReceived (port : Fin 64) (flit : Bytes) (s : State) : Result := run (fun s => settled (flitIn port.val flit s)) s

/-- REPLAY_TIMEOUT (R276). -/
def execReplayTimeout (port : Fin 64) (s : State) : Result :=
  run (fun s => if (optPort s port.val).lit then replay port.val true s else s) s

/-! ### Link messages (R277) -/

/-- NOP (R277): its credit came in its flit's header. -/
def execLinkNop (port : Fin 64) (s : State) : Result := run (fun s => settled (switch (txPort port.val s))) s

/-- TRAIN (R278). -/
def execTrain (port : Fin 64) (nbr nbrPort lanes _minLanes map : Nat) (s : State) : Result := run (trainMsg port.val nbr nbrPort lanes map) s

/-- SWAP_REQ (R282, R283). -/
def execSwapReq (port : Fin 64) (dir : Bool) (lane src dst : Nat) (failed : Bool) (s : State) : Result :=
  run (swapReqMsg port.val dir lane src dst failed) s

/-- SWAP_DONE (R282). -/
def execSwapDone (port : Fin 64) (dir : Bool) (lane dst _lseq : Nat) (s : State) : Result :=
  run (fun s => settled (swapDoneMsg port.val dir lane dst s)) s

/-- SWAP_ABORT (R283, R284). -/
def execSwapAbort (port : Fin 64) (dir : Bool) (lane reason : Nat) (s : State) : Result :=
  run (fun s => settled (swapAbortMsg port.val dir lane reason s)) s

/-- CAL_START (R285). -/
def execCalStart (port : Fin 64) (w : Nat) (s : State) : Result := run (calStartMsg port.val w) s

/-- CAL_END (R285). -/
def execCalEnd (port : Fin 64) (w : Nat) (retired : Bool) (s : State) : Result := run (calEndMsg port.val w retired) s

/-- LANES (R284). -/
def execLanes (port : Fin 64) (dir : Bool) (count map _lseq : Nat) (s : State) : Result := run (lanesMsg port.val dir count map) s

/-! ### Failures, swaps, rotation -/

/-- WAVELENGTH_FAILURE (R281 to R284). -/
def execWavelengthFailure (port : Fin 64) (w : Fin 9) (s : State) : Result := run (wlFail port.val w.val) s

/-- SWAP_CHECK_DONE (R282, R283). -/
def execSwapCheckDone (port : Fin 64) (ok : Bool) (s : State) : Result := run (swapChecked port.val ok) s

/-- SWAP_TIMEOUT (R282, R283). -/
def execSwapTimeout (port : Fin 64) (s : State) : Result := run (swapLate port.val) s

/-- Spare rotation may take a step (R285). -/
def mayRotate (s : State) (p : Nat) : Bool := (optPort s p).st == .up && calEn s p && calPeriod s != 0

/-- SPARE_ROTATION (R285). -/
def execSpareRotation (port : Fin 64) (s : State) : Result := run (fun s => if mayRotate s port.val then rotate port.val s else s) s

/-- CAL_MEASURE_DONE (R285). -/
def execCalMeasureDone (port : Fin 64) (ok : Bool) (s : State) : Result := run (calMeasured port.val ok) s

/-! ### Training -/

/-- TRAINING_STEP_DONE (R278): `passing` the wavelengths that pass step 6, `margins` the eye margin of each wavelength. -/
def execTrainingStepDone (port : Fin 64) (passing margins : List Nat) (s : State) : Result :=
  run (fun s => if trainable s port.val then trainStep port.val passing margins s else s) s

/-- The failing step of a training runs again: at step 5, the TRAIN message goes out again. -/
def repeatStep (p : Nat) (s : State) : State :=
  let o := optPort s p
  let m := alive o.rx
  if o.st = .training ∧ o.step = 5 then sendTrain p { o.rx with map := m.take 8, spare := if m.length = 9 then m.getLast? else none } s else s

/-- TRAINING_RETRY (R278). -/
def execTrainingRetry (port : Fin 64) (s : State) : Result :=
  run (fun s => if trainable s port.val then repeatStep port.val s else s) s

/-! ### The port's surroundings -/

/-- PHY_PLL_LOSS (R288, R474). -/
def execPhyPllLoss (port : Fin 64) (s : State) : Result := run (pllLost port.val) s

/-- PHY_PLL_RELOCK (R288). -/
def execPhyPllRelock (port : Fin 64) (s : State) : Result := run (pllBack port.val) s

/-- PORT_IDLE (R266). -/
def execPortIdle (port : Fin 64) (s : State) : Result :=
  run (fun s => if (optPort s port.val).lit then setOpt s port.val { optPort s port.val with idle := true } else s) s

/-- PORT_STATE_CHANGE (R280, R288). -/
def execPortStateChange (port : Fin 64) (s : State) : Result := run (fun s => settled (tellState port.val s)) s

end Sys2Proof.Machine
end

