-- ==== Sys2Proof/Machine/Packets.lean ====
section
/-! DEFINITION. The packets (R10, R25, R35, R219, R222, R255, R332 to R340, R503, R504) and the records of collectives (R169 to R182). A
packet comes from a fabric port, or from this module itself (`port` none). -/

namespace Sys2Proof.Machine

/-- A packet for an EPID that this module does not hold (R219, R222, R328). -/
def transit (q : Pkt) (port : Nat) (s : State) : State :=
  let s := anaCopy port false q s
  if hopLimit s ≤ q.h.hops then faultAt 0xE 7 none q.h.dst (bump 0x6001C (passCells port q.h.vc q.h.hops (pktCells q) s))
  else forwardTransit port q s

/-- A packet arrives: a malformed one is discarded (R255), one for another module is forwarded, one for this module is judged. -/
def packetIn (q : Pkt) (port : Option (Fin 64)) (s : State) : State :=
  match port with
  | none => arrive q none s
  | some p =>
    if !portUp s p.val then s
    else if 4096 < q.h.len then noteMalformed q.h.dst (passCells p.val q.h.vc q.h.hops (pktCells q) s)
    else if (endpoint s q.h.dst).v && !(endpoint s q.h.dst).isLocal then transit q p.val s
    else arrive q port (passCells p.val q.h.vc q.h.hops (pktCells q) s)

/-- The packet of a row. -/
def rowPkt (e : Env) (b : Body) : Pkt := { h := e.h, rd := e.rd, body := b, tr := e.tr }

/-- A packet's row: it arrives, and the module settles. -/
def packetRow (port : Option (Fin 64)) (e : Env) (b : Body) (s : State) : Result := run (fun s => settled (packetIn (rowPkt e b) port s)) s

/-- A packet that has come in whole by `flits` flits: one whose flits are not as many as its LEN gives is malformed (R255). -/
def packetWhole (q : Pkt) (flits : Nat) (port : Fin 64) (s : State) : State :=
  if portUp s port.val && flits != pktCells q then noteMalformed q.h.dst (passCells port.val q.h.vc q.h.hops flits s) else packetIn q (some port) s

/-- FABRIC_PACKET_TRANSIT (R219 to R223, R255): a packet that has come in whole, and so is stored and forwarded; its flits decide on cut-through
(R256, `cutPort`). -/
def execFabricPacketTransit (port : Fin 64) (p : Pkt) (flits : Nat) (s : State) : Result :=
  run (fun s => settled (packetWhole p flits port s)) s

/-- FABRIC_WRITE (R25, R26, R35, R42). -/
def execFabricWrite (port : Option (Fin 64)) (e : Env) (b : WriteBody) (s : State) : Result := packetRow port e (.write b) s

/-- FABRIC_READ_REQUEST (R25, R35, R148). -/
def execFabricReadRequest (port : Option (Fin 64)) (e : Env) (b : ReadBody) (s : State) : Result := packetRow port e (.read b) s

/-- ATOMIC_REQUEST (R29, R30, R336). -/
def execAtomicRequest (port : Option (Fin 64)) (e : Env) (b : AtomBody) (s : State) : Result := packetRow port e (.atomic b) s

/-- SIGNAL_ARRIVAL (R42). -/
def execSignalArrival (port : Option (Fin 64)) (e : Env) (ctr value : Nat) (s : State) : Result := packetRow port e (.signal ctr value) s

/-- REPLY (R25, R32). -/
def execReply (port : Option (Fin 64)) (e : Env) (status : Nat) (data : Bytes) (valid : List Bool) (s : State) : Result :=
  packetRow port e (.reply status data valid) s

/-- ACKNOWLEDGEMENT (R332, R333). -/
def execAcknowledgement (port : Option (Fin 64)) (e : Env) (status : Nat) (s : State) : Result := packetRow port e (.ack status) s

/-- DELIVERY_REPORT (R229). -/
def execDeliveryReport (port : Option (Fin 64)) (e : Env) (excluded : Bool) (s : State) : Result := packetRow port e (.report excluded) s

/-- FLOW_CLOSE (R331). -/
def execFlowClose (port : Option (Fin 64)) (e : Env) (s : State) : Result :=
  packetRow port { e with h := { e.h with close := true } } .close s

/-- REDIRECT_REQUEST (R108, R340). -/
def execRedirectRequest (port : Option (Fin 64)) (e : Env) (b : Body) (s : State) : Result := packetRow port e b s

/-- MIRROR_WRITE (R83, R337). -/
def execMirrorWrite (port : Option (Fin 64)) (e : Env) (b : MirrorBody) (s : State) : Result := packetRow port e (.mirror b) s

/-- REBUILD_STEP (R85). -/
def execRebuildStep (port : Option (Fin 64)) (e : Env) (b : RebuildBody) (s : State) : Result := packetRow port e (.rebuild b) s

/-- MIRROR_CONTROL (R504, R505). -/
def execMirrorControl (port : Option (Fin 64)) (e : Env) (m : MirrorCtl) (s : State) : Result := packetRow port e (.mctl m) s

/-- UNPROTECTED_REFUSAL (R503): STATUS DENIED and a zero trailer. -/
def execUnprotectedRefusal (port : Option (Fin 64)) (e : Env) (s : State) : Result :=
  packetRow port { e with tr := .zero } (.ack St.denied) s

/-- MULTICAST_LEG (R228, R229). -/
def execMulticastLeg (port : Option (Fin 64)) (e : Env) (b : Body) (s : State) : Result :=
  packetRow port { e with h := { e.h with mc := true } } b s

/-- DEADBOLT_MESSAGE (R353 to R355). -/
def execDeadboltMessage (port : Fin 64) (m : Deadbolt) (s : State) : Result :=
  run (fun s => if portUp s port.val then linkWork (dbArrive port.val m (passCells port.val 0 1 1 s)) else s) s

/-! ### Records of collectives -/

/-- HEADER (R165, R169, R170). -/
def execHeader (port : Option (Fin 64)) (e : Env) (level vertex : Nat) (left : Bool) (r : CollRec) (cop : CollOp) (s : State) : Result :=
  packetRow port e (.header level vertex left r cop) s

/-- CONTRIBUTION (R172, R198, R206). -/
def execContribution (port : Option (Fin 64)) (e : Env) (b : ChunkBody) (s : State) : Result := packetRow port e (.chunk b) s

/-- RESULT_CHUNK (R174). -/
def execResultChunk (port : Option (Fin 64)) (e : Env) (b : ResultBody) (s : State) : Result := packetRow port e (.result b) s

/-- DONE (R176). -/
def execDone (port : Option (Fin 64)) (e : Env) (r : CollRec) (s : State) : Result := packetRow port e (.done r) s

/-- GO (R177). -/
def execGo (port : Option (Fin 64)) (e : Env) (r : CollRec) (s : State) : Result := packetRow port e (.go r) s

/-- ALL_TO_ALL_REPORT (R177). -/
def execAllToAllReport (port : Option (Fin 64)) (e : Env) (r : CollRec) (s : State) : Result := packetRow port e (.a2aReport r) s

/-- CAUSE (R180). -/
def execCause (port : Option (Fin 64)) (e : Env) (r : CollRec) (s : State) : Result := packetRow port e (.cause r) s

/-- ABORT (R180, R181). -/
def execAbort (port : Option (Fin 64)) (e : Env) (r : CollRec) (s : State) : Result := packetRow port e (.abort r) s

/-- A vertex has waited beyond ARRIVAL_MS for its other operand (R182): it names the lowest rank of the missing operand's subtree. -/
def arrivalLate (ctx seq level vertex : Nat) (s : State) : State :=
  match s.col.grps.find ctx, vertOf s ctx seq level vertex with
  | some g, some v =>
    if g.p.arrivalMs = 0 ∨ v.lh.isSome = v.rh.isSome then s
    else
      let r := if v.lh.isNone then vertex else vertex + 2 ^ level
      settled (colCause g seq 0x43 r (rankMod s g r) s)
  | _, _ => s

/-- ARRIVAL_TIMEOUT (R182). -/
def execArrivalTimeout (ctx seq level vertex : Nat) (s : State) : Result := run (arrivalLate ctx seq level vertex) s

end Sys2Proof.Machine
end

