-- ==== Sys2Proof/Machine/Power.lean ====
section
/-! DEFINITION. Power states, self-tests, the input power, the brake, the temperature, the tray-release pin, the governor's tick (R342,
R400 to R412, R423). -/

namespace Sys2Proof.Machine

/-! ### Power states (R402) -/

/-- POWER_LIT. -/
def execPowerLit (r : Req) (s : State) : Result :=
  run (message r ⟨0x701, true, true, false, false⟩ none (.powerLit r) (fun s => [(s.pwr.st != .dark, .state)]) (fun s => done (powerLit s))) s

/-- POWER_DARK. -/
def execPowerDark (r : Req) (s : State) : Result :=
  run (message r ⟨0x702, true, true, false, false⟩ none (.powerDark r) (fun s => [(s.pwr.st != .lit, .state), (anyBusy s, .busy)])
    (fun s => done (darken s))) s

/-- LIGHTING_DONE. -/
def execLightingDone (s : State) : Result := run (fun s => settled (lit s)) s

/-- DARKENING_DONE. -/
def execDarkeningDone (s : State) : Result := run dark s

/-! ### Self-tests (R423) -/

/-- A refusal of SELFTEST is counted. -/
def testRefused (r : Req) (st : Status) (s : State) : Answer := (answer r st [] (bump 0x3000C s), none)

/-- The rotation step of OPT_CAL runs on a port. -/
def optCal (r : Req) (port : Nat) (s : State) : Answer :=
  if 64 ≤ port then testRefused r .range s
  else if (optPort s port).st ≠ .up then testRefused r .state s
  else done (rotate port s)

/-- SRAM_BIST: a march test of every slice clears the SRAM; a FULL soft reset follows. The response goes before it. -/
def sramBist (r : Req) (s : State) : Answer :=
  if intrusiveBusy s then testRefused r .busy s else (softReset true 5 true (answer r .ok [] s), none)

/-- GDDR_RETRAIN: every channel, contents kept. -/
def gddrRetrain (r : Req) (s : State) : Answer :=
  if s.sys.spine then testRefused r .role s
  else if intrusiveBusy s then testRefused r .busy s
  else done ((List.range 18).foldl (fun s c => trainChannel c s) s)

/-- SELFTEST (R423). SPARE_VMIN runs under R420; its readings come with SRAM_VMIN_TEST. -/
def execSelftest (r : Req) (kind port : Nat) (s : State) : Result :=
  run (message r ⟨0x703, true, true, false, false⟩ none (.selftest r kind port) (fun _ => [])
    (fun s => if kind = 0 then done s else if kind = 1 then optCal r port s else if kind = 2 then sramBist r s
      else if kind = 3 then gddrRetrain r s else testRefused r .range s)) s

/-! ### Tray release (R342) -/

/-- The extents that the module homes and mirrors. -/
def ownExtents (s : State) : Nat := (s.pool.ext.filter (fun e => e.2.st != .free && e.2.kind != .present)).length

/-- TRAY_RELEASE_N has been low for 1 ms. -/
def trayOut (s : State) : State :=
  if s.rep.leaving then s
  else
    report 0x8012 (s.parts.filter (fun e => e.2.st == .active)).length (ownExtents s) (changeLsa { s with rep := { s.rep with leaving := true } })

/-- TRAY_RELEASE_N has been high for 1 ms. -/
def trayIn (s : State) : State :=
  if s.rep.leaving then settled (changeLsa { s with rep := { s.rep with leaving := false } }) else s

/-- TRAY_RELEASE_ASSERT. -/
def execTrayReleaseAssert (s : State) : Result := run trayOut s

/-- TRAY_RELEASE_DEASSERT. -/
def execTrayReleaseDeassert (s : State) : Result := run trayIn s

/-! ### The brake pin (R411) -/

/-- What the brake held goes on, where the domains run. -/
def admitAgain (s : State) : State := if running s then settled s else s

/-- PWR_BRAKE_ASSERT. -/
def execPwrBrakeAssert (s : State) : Result :=
  runAon (fun s => if s.pwr.pin then s else brakeOn { s with pwr := { s.pwr with pin := true } }) s

/-- PWR_BRAKE_RELEASE. -/
def execPwrBrakeRelease (s : State) : Result :=
  runAon (fun s => if s.pwr.pin then admitAgain { s with pwr := { s.pwr with pin := false } } else s) s

/-! ### The input (R400) -/

/-- POWER_APPLIED: the module starts, where its conversion was off (R431 step 1). -/
def execPowerApplied (s : State) : Result := runPower (fun s => if s.sys.conv then s else hardReset s) s

/-- INPUT_LOW. -/
def execInputLow (s : State) : Result :=
  runAon (fun s => faultAny 0x17 11 0 none { s with pwr := { s.pwr with inputLow := true } }) s

/-- INPUT_HIGH. -/
def execInputHigh (s : State) : Result :=
  runAon (fun s => faultAny 0x17 11 0 none { s with pwr := { s.pwr with inputHigh := true } }) s

/-- INPUT_BRAKE. -/
def execInputBrake (s : State) : Result :=
  runAon (fun s => if s.pwr.inputBrake then s else brakeOn { s with pwr := { s.pwr with inputBrake := true } }) s

/-- INPUT_RECOVER. -/
def execInputRecover (s : State) : Result :=
  runAon (fun s => if s.pwr.inputBrake then admitAgain { s with pwr := { s.pwr with inputBrake := false } } else s) s

/-- INPUT_OFF: every output of the conversion goes off. -/
def execInputOff (s : State) : Result := runPower (fun s => { s with sys := { s.sys with conv := false } }) s

/-! ### Temperature (R412) -/

/-- THERMAL_CEILING. -/
def execThermalCeiling (s : State) : Result :=
  runAon (fun s => if s.pwr.thermal then s else faultAny 0x1A 11 0 none { s with pwr := { s.pwr with thermal := true } }) s

/-- THERMAL_RELEASE. -/
def execThermalRelease (s : State) : Result := runAon (fun s => { s with pwr := { s.pwr with thermal := false } }) s

/-- THERMAL_BRAKE. -/
def execThermalBrake (s : State) : Result :=
  runAon (fun s => if s.pwr.thermBrake then s else brakeOn { s with pwr := { s.pwr with thermBrake := true } }) s

/-- THERMAL_BRAKE_RELEASE. -/
def execThermalBrakeRelease (s : State) : Result :=
  runAon (fun s => if s.pwr.thermBrake then admitAgain { s with pwr := { s.pwr with thermBrake := false } } else s) s

/-- THERMAL_SHUTDOWN: only the always-on domain stays supplied. -/
def execThermalShutdown (s : State) : Result :=
  runAon (fun s => if s.sys.aonOnly then s else faultAny 0x1A 11 3 none { s with sys := { s.sys with aonOnly := true } }) s

/-- THERMAL_RESTART: the module starts as after a hard reset. -/
def execThermalRestart (s : State) : Result := runAon (fun s => if s.sys.aonOnly then hardReset s else s) s

/-! ### The governor (R406 to R409) -/

/-- GOVERNOR_TICK: demand in hundredths of a watt; draw in W, input voltage in 10 mV, temperatures in °C. -/
def execGovernorTick (demand draw vin tj gddr : Nat) (s : State) : Result := runAon (tick demand draw vin tj gddr) s

/-- STAGGER_EXPIRY. -/
def execStaggerExpiry (s : State) : Result :=
  runAon (fun s => match s.pwr.ramp with | .waiting up => { s with pwr := { s.pwr with ramp := .moving up } } | _ => s) s

/-- LULL_HOLD_EXPIRY. -/
def execLullHoldExpiry (s : State) : Result :=
  runAon (fun s => if s.pwr.lull then { s with pwr := { s.pwr with lullHeld := true } } else s) s

end Sys2Proof.Machine
end

