-- ==== Sys2Proof/Machine/Queue.lean ====
section
/-! DEFINITION. The queue commands (R119 to R122, R447). -/

namespace Sys2Proof.Machine

/-- The partition that a queue command acts for: a queue of no partition is nobody's, and no host may name it (R121). -/
def queOwner (s : State) (q : Nat) : Option Nat := some ((partOfQueue s q).getD 64)

/-- A value lies outside R119 or R120. -/
def queRange (a : QueArgs) : Bool :=
  decide (3 < a.cls) || a.weight == 0 || decide (16 < a.weight) || decide (a.sqLog2 < 4) || decide (16 < a.sqLog2)
    || decide (a.cqLog2 < a.sqLog2) || decide (16 < a.cqLog2) || a.sqBase % (64 * 2 ^ a.sqLog2) != 0 || a.cqBase % (16 * 2 ^ a.cqLog2) != 0
    || decide (2 ^ 64 < a.sqBase + 64 * 2 ^ a.sqLog2) || decide (2 ^ 64 < a.cqBase + 16 * 2 ^ a.cqLog2) || decide (65535 < a.msix)

/-- A queue is created: RUNNING, its indices 0, its phase 1. -/
def createQueue (a : QueArgs) (p att : Nat) (s : State) : State :=
  let x := { Que.init with st := .running, part := p, attach := att, cls := a.cls, weight := a.weight }
  setQue s a.q { x with sqBase := a.sqBase, sqLog2 := a.sqLog2, cqBase := a.cqBase, cqLog2 := a.cqLog2, msix := a.msix }

/-- QUE_CREATE (R119 to R121). -/
def execQueCreate (r : Req) (a : QueArgs) (s : State) : Result :=
  run (fun s => message r ⟨0x411, true, false, true, false⟩ (queOwner s a.q) (.queCreate r a)
    (fun s => [((que s a.q).st != .disabled, .state), (queRange a, .range)])
    (fun s => done (createQueue a ((partOfQueue s a.q).getD 64) ((srcAttach s r.src).getD 31) s)) s) s

/-- A halted queue runs again (R121). -/
def resumeQueue (q : Nat) (s : State) : State := setQue s q { que s q with st := .running }

/-- QUE_RESUME (R121, R122, R357). -/
def execQueResume (r : Req) (q : Nat) (s : State) : Result :=
  run (fun s => message r ⟨0x412, true, false, true, false⟩ (queOwner s q) (.queResume r q)
    (fun s => [((que s q).st != .halted || partIn s (que s q).part [.torn], .state)]) (fun s => done (settled (resumeQueue q s))) s) s

/-- A queue is disabled: its engine, its prefetcher and its segments are released (R121). -/
def destroyQueue (q : Nat) (s : State) : State :=
  let s := dropQueue q s
  { s with qs := { s.qs with ctx := s.qs.ctx.del q, engines := s.qs.engines.keep (fun _ e => e.q != q), fetchers := s.qs.fetchers.del q } }

/-- QUE_DESTROY (R121). -/
def execQueDestroy (r : Req) (q : Nat) (s : State) : Result :=
  run (fun s => message r ⟨0x413, true, false, true, false⟩ (queOwner s q) (.queDestroy r q)
    (fun s => [((que s q).st == .disabled, .state), (!(que s q).ops.isEmpty, .busy)]) (fun s => done (destroyQueue q s)) s) s

def QueSt.code : QueSt → Nat
  | .disabled => 0 | .running => 1 | .halted => 2

/-- The payload of QUE_QUERY (R122, R447). -/
def queReport (x : Que) : Bytes :=
  leBytes 1 x.st.code ++ leBytes 1 x.cls ++ leBytes 1 x.weight ++ leBytes 2 x.head ++ leBytes 2 x.tail ++ leBytes 2 x.cqHead
    ++ leBytes 2 x.cqTail ++ leBytes 1 x.ops.length

/-- QUE_QUERY (R121, R122). -/
def execQueQuery (r : Req) (q : Nat) (s : State) : Result :=
  run (fun s => message r ⟨0x414, false, false, true, false⟩ (queOwner s q) (.queQuery r q) (fun _ => [])
    (fun s => (s, some (queReport (que s q)))) s) s

end Sys2Proof.Machine
end

