-- ==== Sys2Proof/Machine/RegIface.lean ====
section
/-! DEFINITION. The register window's commands (R46, R123 to R125, R373, R410, R417, R418, R421, R461 to R480). -/

namespace Sys2Proof.Machine

/-! ### Doorbells (R123 to R125, R136) -/

/-- A doorbell's indices are taken: the tail, the records consumed, and the armed vector. -/
def ringDoorbell (q : Nat) (v : DWord) (s : State) : State :=
  let x := que s q
  let n := 2 ^ x.cqLog2
  let head := bitsOf v.toNat 31 16
  let used := x.used - Nat.min x.used ((head + n - x.cqHead) % n)
  let s := setQue s q { x with tail := bitsOf v.toNat 15 0, cqHead := head, used := used, arm := x.arm || (bitOf v.toNat 32 && used == 0) }
  let s := if bitOf v.toNat 32 && used != 0 then (match upPort s x.attach with | some p => emit (.msix p x.msix) s | none => s) else s
  settled s

/-- An index beyond its ring halts the queue (R124). -/
def doorbellHalts (q : Nat) (s : State) : State :=
  let x := que s q
  halt q x.head 0 (faultAt 0xB 2 (some x.part) (0x200000 + 8 * q) (bump 0x28000C s))

/-- A doorbell write of a host: the Ward's steps 1 and 2 (R10, R382; R355 and R374 for a partition that is TORN or RESETTING), then R124. -/
def hostDoorbell (p : Fin 16) (size q : Nat) (v : DWord) (viaBar : Bool) (s : State) : State :=
  match attachOf s p.val, partOfQueue s q with
  | none, _ => s
  | some a, none => if !ioUp (cxlPort s p.val) then s else hostDoorbellDropped a q s
  | some a, some n =>
    let x := que s q
    let st := (part s n).st
    if !ioUp (cxlPort s p.val) then s
    else if !boundTo s n a then hostDoorbellDropped a q s
    else if st = .resetting ∨ st = .torn then s
    else if st ≠ .active then faultAt 0 0 (some n) (0x200000 + 8 * q) s
    else if x.st = .disabled ∨ size ≠ 8 ∨ !viaBar ∨ x.attach ≠ a ∨ bitsOf v.toNat 63 33 ≠ 0 then hostDoorbellDropped a q s
    else if 2 ^ x.sqLog2 ≤ bitsOf v.toNat 15 0 ∨ 2 ^ x.cqLog2 ≤ bitsOf v.toNat 31 16 then doorbellHalts q s
    else ringDoorbell q v s

/-- DOORBELL: from any other accessor it is a register write like another, and is dropped (R124). -/
def doorbellWrite (a : RAcc) (q : Nat) (v : DWord) (viaBar : Bool) (s : State) : State :=
  if 65536 ≤ q then s
  else
    match a.who with
    | .host p => hostDoorbell p a.size q v viaBar s
    | _ => regWrite a ((if viaBar then 0 else 0x1000000) + 0x200000 + 8 * q) (v.setWidth 32) s

/-- DOORBELL. -/
def execDoorbell (a : RAcc) (q : Nat) (value : DWord) (viaBar : Bool) (s : State) : Result := runWrite (doorbellWrite a q value viaBar) s

/-! ### Registers with rows of their own -/

/-- FLT_POP (R373). -/
def execFltPop (a : RAcc) (value : Word) (s : State) : Result := runWrite (regWrite a 0x38000C value) s

/-- FLT_STAT_LOST_CLEAR (R373). -/
def execFltStatLostClear (a : RAcc) (value : Word) (s : State) : Result := runWrite (regWrite a 0x380000 value) s

/-- LATCH_SNAP (R476). -/
def execLatchSnap (a : RAcc) (value : Word) (s : State) : Result := runWrite (regWrite a 0x10 value) s

/-- UNLOCK (R469). -/
def execUnlock (a : RAcc) (key : Word) (s : State) : Result := runWrite (regWrite a 0xC key) s

/-- UNLOCK_LAPSE (R469). -/
def execUnlockLapse (a : Acc) (s : State) : Result :=
  run (fun s => setAcc s (accOf s a) { acc s (accOf s a) with unlocked := false }) s

/-- IND_DATA_READ (R472). -/
def execIndDataRead (a : RAcc) (s : State) : Result := run (regRead a 0x20) s

/-- IND_DATA_WRITE (R472). -/
def execIndDataWrite (a : RAcc) (value : Word) (s : State) : Result := runWrite (regWrite a 0x20 value) s

/-- TOP_TIME_LO_READ (R480). -/
def execTopTimeLoRead (a : RAcc) (s : State) : Result := run (regRead a 0x34) s

/-- CFGCRC_REF_WRITE (R478). -/
def execCfgcrcRefWrite (a : RAcc) (value : Word) (s : State) : Result := runWrite (regWrite a 0x28 value) s

/-- A pass of the configuration CRC (R477, R478). -/
def crcPass (s : State) : State :=
  let c := configCrc s
  let bad := s.regs.armed && c != s.regs.ref
  let s := { s with regs := { s.regs with crc := c } }
  if bad then
    faultSev 0x16 11 2 none s.regs.ref.toNat c.toNat { s with regs := { s.regs with cfgErr := true, armed := false } }
  else s

/-- CFGCRC_PASS. -/
def execCfgcrcPass (s : State) : Result := runWrite crcPass s

/-- The offset of an alias; none lies beyond the register blocks (R461). -/
def aliasOff (base off : Nat) : Nat := if off < 0x400000 then base + off else 0x480000

/-- SET_ALIAS_WRITE (R467). -/
def execSetAliasWrite (a : RAcc) (off : Nat) (value : Word) (s : State) : Result := runWrite (regWrite a (aliasOff 0x1000000 off) value) s

/-- CLR_ALIAS_WRITE (R467). -/
def execClrAliasWrite (a : RAcc) (off : Nat) (value : Word) (s : State) : Result := runWrite (regWrite a (aliasOff 0x2000000 off) value) s

/-- TGL_ALIAS_WRITE (R467). -/
def execTglAliasWrite (a : RAcc) (off : Nat) (value : Word) (s : State) : Result := runWrite (regWrite a (aliasOff 0x3000000 off) value) s

/-- REGISTER_WRITE (R466). -/
def execRegisterWrite (a : RAcc) (off : Nat) (value : Word) (s : State) : Result := runWrite (regWrite a off value) s

/-- OPT_PORT_ENABLE (R290). -/
def execOptPortEnable (a : RAcc) (port : Fin 64) (value : Word) (s : State) : Result :=
  runWrite (regWrite a (0xC1000 + 0x40 * port.val) value) s

/-- OPT_PORT_RETRAIN (R278, R290). -/
def execOptPortRetrain (a : RAcc) (port : Fin 64) (value : Word) (s : State) : Result :=
  runWrite (regWrite a (0xC1000 + 0x40 * port.val) value) s

/-- CXL_PORT_RETRAIN (R294, R317). -/
def execCxlPortRetrain (a : RAcc) (port : Fin 16) (value : Word) (s : State) : Result :=
  runWrite (regWrite a (0x101000 + 0x40 * port.val) value) s

/-- CAP_COMMAND (R410). -/
def execCapCommand (a : RAcc) (value : Word) (s : State) : Result := runWrite (regWrite a 0x20004 value) s

/-- CLK_GATE_OFF_REQ (R417). -/
def execClkGateOffReq (a : RAcc) (value : Word) (s : State) : Result := runWrite (regWrite a 0x10008 value) s

/-- CLK_OBS_WRITE (R418). -/
def execClkObsWrite (a : RAcc) (value : Word) (s : State) : Result := runWrite (regWrite a 0x10004 value) s

/-- HLT_PLAN_RUN (R421, R429). -/
def execHltPlanRun (a : RAcc) (value : Word) (s : State) : Result := runWrite (regWrite a 0x30000 value) s

end Sys2Proof.Machine
end

