-- ==== Sys2Proof/Machine/Repair.lean ====
section
/-! DEFINITION. The rows of repair (R323 to R329). -/

namespace Sys2Proof.Machine

/-- LSA_PERIODIC (R323). -/
def execLsaPeriodic (s : State) : Result := run originateLsa s

/-- LSA_RECEIVED (R324). -/
def execLsaReceived (port : Fin 64) (l : Lsa) (s : State) : Result := 
  run (fun s => if portUp s port.val then linkWork (lsaArrive port.val l (passCells port.val 0 1 (Load.lsa l 0).cells s)) else s) s

/-- The LSA of an origin that is unreachable leaves the database (R324). -/
def ageOut (origin : Nat) (s : State) : State :=
  if origin != s.sys.moduleId && !reachable s origin then { s with rep := { s.rep with lsdb := s.rep.lsdb.del origin } } else s

/-- LSA_AGE_OUT (R324). -/
def execLsaAgeOut (origin : Nat) (s : State) : Result := run (ageOut origin) s

/-- REPAIR_HOLD_END (R326 to R328). -/
def execRepairHoldEnd (s : State) : Result := run (fun s => settled (repairEnd s)) s

/-- ISOLATION_TIMEOUT (R329). -/
def execIsolationTimeout (s : State) : Result := run (fun s => settled (isolate s)) s

end Sys2Proof.Machine
end

