-- ==== Sys2Proof/Machine/Translate.lean ====
section
/-! DEFINITION. The translation commands (R96 to R101, R116 to R118). -/

namespace Sys2Proof.Machine

/-- 64 KiB pages in a partition's address space (R92). -/
def fvaPages : Nat := 2 ^ 34

/-- The level of a page size. -/
def levelOf : Nat → Option Nat
  | 16 => some 4
  | 21 => some 3
  | 30 => some 2
  | _ => none

/-- A range of bytes that is not a run of whole 64 KiB pages of the address space. DESIGN CHOICE: nor is an empty one, of which R99 and R116 say
nothing (log entry 111). -/
def rangeBad (fva bytes : Nat) : Bool := fva % 65536 != 0 || bytes == 0 || bytes % 65536 != 0 || decide (2 ^ 50 < fva + bytes)

/-- A range covers only part of a page of the table (R99). -/
def cutsPage (x : Part) (lo hi : Nat) : Bool :=
  (leavesOf x).any (fun e => leafMeets e lo hi && (decide (e.1 < lo) || decide (hi < e.1 + pagesAt e.2.1)))

/-- The answer to a change of the table: its digest (R101). -/
def digestAnswer (p : Nat) (s : State) : Answer := (s, some (leBytes 8 (part s p).digest.toNat))

/-! ### XLT_MAP (R96, R97, R99) -/

/-- A supplied entry that R96 does not accept: LEAF 0, or V 1 and a condition broken. -/
def leafBad (lv : Nat) (l : BitVec 128) : Bool := !Leaf.isLeaf l || (Leaf.v l && !leafOk lv l)

/-- The page at which each leaf of the command stands. -/
def mapPages (fva lv : Nat) (leaves : List (BitVec 128)) : List (Nat × BitVec 128) :=
  leaves.zipIdx.map (fun x => (fva / 65536 + x.2 * pagesAt lv, x.1))

/-- The pages that the command unmaps cut a larger page. -/
def mapCuts (x : Part) (fva lv : Nat) (leaves : List (BitVec 128)) : Bool :=
  (mapPages fva lv leaves).any (fun e => !Leaf.v e.2 && cutsPage x e.1 (e.1 + pagesAt lv))

/-- Ranges and formats of XLT_MAP. -/
def mapRange (x : Part) (fva pageLog2 : Nat) (leaves : List (BitVec 128)) : Bool :=
  match levelOf pageLog2 with
  | none => true
  | some lv =>
    leaves == [] || decide (224 < leaves.length) || fva % 2 ^ pageLog2 != 0 || decide (2 ^ 50 < fva + leaves.length * 2 ^ pageLog2)
      || leaves.any (leafBad lv) || mapCuts x fva lv leaves

/-- A new leaf meets a leaf of another page size: a larger page on its path, or a pointer in its slot (R99). -/
def mapOverlap (x : Part) (fva lv : Nat) (leaves : List (BitVec 128)) : Bool :=
  (mapPages fva lv leaves).any (fun e => Leaf.v e.2 && (leavesOf x).any (fun m => m.2.1 != lv && leafMeets m e.1 (e.1 + pagesAt lv)))

/-- XLT_MAP's leaves take effect one after another; none where the partition's budget has no room for a table (R97). -/
def mapAll (p lv : Nat) : List (Nat × BitVec 128) → State → Option State
  | [], s => some s
  | e :: es, s =>
    if Leaf.v e.2 then (match mapLeaf p e.1 lv e.2 s with | some s => mapAll p lv es s | none => none)
    else mapAll p lv es (unmapPages p e.1 (e.1 + pagesAt lv) s)

/-- XLT_MAP (R95 to R101). -/
def execXltMap (r : Req) (part fva pageLog2 : Nat) (leaves : List (BitVec 128)) (s : State) : Result :=
  let lv := (levelOf pageLog2).getD 4
  run (message r ⟨0x401, true, false, true, false⟩ (some part) (.xltMap r part fva pageLog2 leaves)
    (fun s => [(s.sys.spine, .role), (mapRange (Machine.part s part) fva pageLog2 leaves, .range),
      (mapOverlap (Machine.part s part) fva lv leaves, .overlap), ((mapAll part lv (mapPages fva lv leaves) s).isNone, .full)])
    (fun s => digestAnswer part ((mapAll part lv (mapPages fva lv leaves) s).getD s))) s

/-- XLT_UNMAP (R97, R99, R101). -/
def execXltUnmap (r : Req) (part fva bytes : Nat) (s : State) : Result :=
  run (message r ⟨0x402, true, false, true, false⟩ (some part) (.xltUnmap r part fva bytes)
    (fun s => [(s.sys.spine, .role),
      (rangeBad fva bytes || cutsPage (Machine.part s part) (fva / 65536) ((fva + bytes) / 65536), .range)])
    (fun s => digestAnswer part (unmapPages part (fva / 65536) ((fva + bytes) / 65536) s))) s

/-! ### XLT_INVAL (R113, R116 to R118) -/

/-- The number under which a port's XLT_INVAL owes its response. -/
def srcKey : Src → Nat
  | .mgt l => linkIdx l
  | .cxl p => 2 + p.val

/-- Steps 1 to 3 of R116, and the wait of step 4. -/
def invalidate (r : Req) (p lo hi : Nat) (s : State) : State :=
  let x := part s p
  let s := setPart s p { x with invSeq := (x.invSeq + 1) % 65536 }
  let gone (c : CEnt) : Bool := c.part == p && decide (c.page < hi) && decide (lo < c.page + pagesAt c.level)
  let pfs := (s.qs.pf.filter (fun f => f.2.part == p)).map Prod.fst
  let s := { s with xlt := { s.xlt with cache := s.xlt.cache.filter (fun c => !gone c), ptrs := s.xlt.ptrs.filter (fun c => c.part != p),
                                        invals := s.xlt.invals ++ [⟨r.src, p, lo, hi, (x.invSeq + 1) % 65536, pfs⟩] } }
  let s := dropSegs (fun g => g.part == p && decide (lo ≤ g.page) && decide (g.page < hi)) (fun g => g.part == p) s
  owe r 1 (srcKey r.src) s

/-- XLT_INVAL (R99, R113, R116, R118). -/
def execXltInval (r : Req) (part : Nat) (all : Bool) (fva bytes : Nat) (s : State) : Result :=
  run (message r ⟨0x403, true, false, true, false⟩ (some part) (.xltInval r part all fva bytes)
    (fun s => [(s.sys.spine, .role), (decide (64 ≤ s.xlt.invals.length), .busy), (!all && rangeBad fva bytes, .range)])
    (fun s => (invalidate r part (if all then 0 else fva / 65536) (if all then fvaPages else (fva + bytes) / 65536) s, none))) s

/-- An invalidation number is older than that of an XLT_INVAL: no use outlives 32,768 invalidations (R113). -/
def olderThan (i : Inval) (seq : Nat) : Bool :=
  decide (0 < (i.seq + 65536 - seq) % 65536) && decide ((i.seq + 65536 - seq) % 65536 < 32768)

/-- A translation read before an XLT_INVAL, of a page that overlaps its range. -/
def removedBy (i : Inval) (page lv seq : Nat) : Bool :=
  olderThan i seq && decide (page < i.hi) && decide (i.lo < page + pagesAt lv)

/-- A request used a translation that an XLT_INVAL has removed. -/
def Use.removed (u : Use) (i : Inval) : Bool := u.part == i.part && removedBy i u.page u.level u.seq

/-- The translation of a tile was removed by an XLT_INVAL. -/
def Tr.removed (t : Tr) (i : Inval) : Bool :=
  match t.x with | .leaf lv _ => t.hi != 0 && removedBy i t.page lv t.seq | _ => false

/-- A write packet goes to bytes that a page of the tile translates to, or to a device. -/
def inTile (o : Op) (hi : Nat) (p : Pkt) : Bool :=
  match p.body with
  | .write ⟨.home a e, _, _, _, _⟩ => o.tr.any (fun t => t.hi == hi && (match t.x with
      | .leaf lv l => Leaf.extentId l == e && decide (Leaf.homeAddr l ≤ a) && decide (a < Leaf.homeAddr l + 65536 * pagesAt lv)
      | _ => false))
  | _ => true

/-- The tile of an operation that ends at `hi` still moves: bytes not cut, packets not sent, reads, writes and packets not answered (R12). -/
def tileOpen (s : State) (q : Nat) (o : Op) (hi : Nat) : Bool :=
  let mine (w : Who) : Bool := match w with | .queue k i off => k == q && i == o.idx && decide (off < hi) | _ => false
  decide (o.cur < Nat.min hi o.limit) || (que s q).pieces.any (fun p => p.idx == o.idx && decide (p.off < hi))
    || s.pool.waits.any (fun w => mine w.2.who) || s.pool.mirr.any (fun m => m.access.any (fun a => mine a.1.who))
    || s.fab.sflow.any (fun f => (f.2.recs ++ f.2.queue).any (fun p => p.h.wid == o.wid && inTile o hi p))
    || (o.single && o.sent)

/-- Something that used a translation which an XLT_INVAL has removed is still in flight, or a prefetch that was in flight at its step 1 (R116
step 4, R150). -/
def invalOpen (s : State) (i : Inval) : Bool :=
  s.qs.ctx.any (fun e => e.2.part == i.part && e.2.ops.any (fun o => o.tr.any (fun t => t.removed i && tileOpen s e.1 o t.hi)))
    || s.fab.reqs.any (fun r => match r.2.serves with
      | .load _ _ _ _ u => u.removed i
      | .store _ _ _ u => u.removed i
      | _ => false)
    || s.pool.waits.any (fun w => w.2.used.any (fun u => u.removed i))
    || s.pool.mirr.any (fun m => m.access.any (fun a => a.1.used.any (fun u => u.removed i)))
    || (s.dbg.busy.isSome && s.dbg.used.any (fun u => u.removed i))
    || s.xlt.walks.any (fun w => w.pf && w.part == i.part && olderThan i w.seq)
    || i.pfs.any (fun n => (s.qs.pf.find n).isSome)

/-- Step 5 of R116: all that used a removed translation has ended. -/
def invalDone (src : Src) (s : State) : State :=
  match s.xlt.invals.find? (fun i => i.src == src && !invalOpen s i) with
  | none => s
  | some i => settle 1 (srcKey src) .ok (leBytes 2 i.seq) { s with xlt := { s.xlt with invals := s.xlt.invals.erase i } }

/-- XLT_INVAL_DRAIN_DONE (R116, R117). -/
def execXltInvalDrainDone (src : Src) (s : State) : Result := run (invalDone src) s

/-! ### XLT_QUERY (R93, R99) -/

/-- The payload of XLT_QUERY: the levels that a walk of the table passes, its leaf, the home addresses of its entries, the digest. -/
def queryWalk (s : State) (p fva : Nat) : Bytes :=
  let w := walkWith s p (fun _ => none) (fva / 65536)
  leBytes 1 w.path.length ++ leBytes 16 (match w.fin with | .leaf _ l => l.toNat | _ => 0)
    ++ [0, 1, 2, 3].flatMap (fun k => leBytes 8 ((w.path[k]?).getD 0)) ++ leBytes 8 (part s p).digest.toNat

/-- XLT_QUERY (R99, R101). -/
def execXltQuery (r : Req) (part fva : Nat) (s : State) : Result :=
  run (message r ⟨0x404, false, true, true, false⟩ (some part) (.xltQuery r part fva)
    (fun s => [(s.sys.spine, .role), (noPart part || decide (2 ^ 50 ≤ fva), .range)])
    (fun s => (s, some (queryWalk s part fva)))) s

end Sys2Proof.Machine
end

