-- ==== Sys2Proof/Machine/Dispatch.lean ====
section
/-! DEFINITION. One arm per command. -/

namespace Sys2Proof.Machine

def exec (i : Instr) (s : State) : Host.Outcome State Fault Refusal :=
  match i with
  | .getVersion r => Sys2Proof.Machine.execGetVersion r s
  | .mgtHeartbeat r => Sys2Proof.Machine.execMgtHeartbeat r s
  | .leaseTake r => Sys2Proof.Machine.execLeaseTake r s
  | .leaseRelease r => Sys2Proof.Machine.execLeaseRelease r s
  | .reportAck r seq => Sys2Proof.Machine.execReportAck r seq s
  | .attestGet r nonce => Sys2Proof.Machine.execAttestGet r nonce s
  | .modReset r kind => Sys2Proof.Machine.execModReset r kind s
  | .fwStatus r => Sys2Proof.Machine.execFwStatus r s
  | .fwBegin r imageLen histLen => Sys2Proof.Machine.execFwBegin r imageLen histLen s
  | .fwData r region off data => Sys2Proof.Machine.execFwData r region off data s
  | .fwCommit r => Sys2Proof.Machine.execFwCommit r s
  | .fwAbort r => Sys2Proof.Machine.execFwAbort r s
  | .partSetup r p => Sys2Proof.Machine.execPartSetup r p s
  | .partBind r part attach slot => Sys2Proof.Machine.execPartBind r part attach slot s
  | .partUnbind r part attach slot => Sys2Proof.Machine.execPartUnbind r part attach slot s
  | .keyLoad r part slot keyId ct wrapped => Sys2Proof.Machine.execKeyLoad r part slot keyId ct wrapped s
  | .partReset r part policy => Sys2Proof.Machine.execPartReset r part policy s
  | .genTagReuseWaitEnd part => Sys2Proof.Machine.execGenTagReuseWaitEnd part s
  | .partRelease r part => Sys2Proof.Machine.execPartRelease r part s
  | .consentSet r part token => Sys2Proof.Machine.execConsentSet r part token s
  | .consentClear r part => Sys2Proof.Machine.execConsentClear r part s
  | .partQuery r part => Sys2Proof.Machine.execPartQuery r part s
  | .dossierRead r part off => Sys2Proof.Machine.execDossierRead r part off s
  | .jobAbort r job => Sys2Proof.Machine.execJobAbort r job s
  | .extAdd r a => Sys2Proof.Machine.execExtAdd r a s
  | .extPresent r a => Sys2Proof.Machine.execExtPresent r a s
  | .extMirror r ext target => Sys2Proof.Machine.execExtMirror r ext target s
  | .extRevoke r home ext disp forcedUs => Sys2Proof.Machine.execExtRevoke r home ext disp forcedUs s
  | .extShackle r ext part job tenant fva => Sys2Proof.Machine.execExtShackle r ext part job tenant fva s
  | .extQuery r home ext kind => Sys2Proof.Machine.execExtQuery r home ext kind s
  | .xltMap r part fva pageLog2 leaves => Sys2Proof.Machine.execXltMap r part fva pageLog2 leaves s
  | .xltUnmap r part fva bytes => Sys2Proof.Machine.execXltUnmap r part fva bytes s
  | .xltInval r part all fva bytes => Sys2Proof.Machine.execXltInval r part all fva bytes s
  | .xltInvalDrainDone src => Sys2Proof.Machine.execXltInvalDrainDone src s
  | .xltQuery r part fva => Sys2Proof.Machine.execXltQuery r part fva s
  | .queCreate r a => Sys2Proof.Machine.execQueCreate r a s
  | .queResume r q => Sys2Proof.Machine.execQueResume r q s
  | .queDestroy r q => Sys2Proof.Machine.execQueDestroy r q s
  | .queQuery r q => Sys2Proof.Machine.execQueQuery r q s
  | .grpCreate r p => Sys2Proof.Machine.execGrpCreate r p s
  | .grpMembers r ctx first epids => Sys2Proof.Machine.execGrpMembers r ctx first epids s
  | .grpHosts r ctx entries => Sys2Proof.Machine.execGrpHosts r ctx entries s
  | .grpArm r ctx => Sys2Proof.Machine.execGrpArm r ctx s
  | .grpDestroy r ctx => Sys2Proof.Machine.execGrpDestroy r ctx s
  | .grpQuery r ctx => Sys2Proof.Machine.execGrpQuery r ctx s
  | .epidAssign r epid kind attach home => Sys2Proof.Machine.execEpidAssign r epid kind attach home s
  | .epidRelease r epid => Sys2Proof.Machine.execEpidRelease r epid s
  | .treeWrite r tree e => Sys2Proof.Machine.execTreeWrite r tree e s
  | .treeClear r tree => Sys2Proof.Machine.execTreeClear r tree s
  | .anaSet r a => Sys2Proof.Machine.execAnaSet r a s
  | .anaConsent r token => Sys2Proof.Machine.execAnaConsent r token s
  | .anaClear r all disable job => Sys2Proof.Machine.execAnaClear r all disable job s
  | .fabQuery r kind idx => Sys2Proof.Machine.execFabQuery r kind idx s
  | .powerLit r => Sys2Proof.Machine.execPowerLit r s
  | .powerDark r => Sys2Proof.Machine.execPowerDark r s
  | .selftest r kind port => Sys2Proof.Machine.execSelftest r kind port s
  | .logRead r entry count => Sys2Proof.Machine.execLogRead r entry count s
  | .ageRead r off => Sys2Proof.Machine.execAgeRead r off s
  | .traceSet r part mask => Sys2Proof.Machine.execTraceSet r part mask s
  | .identify port => Sys2Proof.Machine.execIdentify port s
  | .getSupportedLogs port => Sys2Proof.Machine.execGetSupportedLogs port s
  | .getLog port => Sys2Proof.Machine.execGetLog port s
  | .getEventRecords port => Sys2Proof.Machine.execGetEventRecords port s
  | .clearEventRecords port handles => Sys2Proof.Machine.execClearEventRecords port handles s
  | .getDynamicCapacityConfiguration port => Sys2Proof.Machine.execGetDynamicCapacityConfiguration port s
  | .addDynamicCapacityResponse port home ext accept => Sys2Proof.Machine.execAddDynamicCapacityResponse port home ext accept s
  | .presentAnswerTimeout attach home ext => Sys2Proof.Machine.execPresentAnswerTimeout attach home ext s
  | .releaseDynamicCapacity port home ext => Sys2Proof.Machine.execReleaseDynamicCapacity port home ext s
  | .spdmRequest port falcon mlkem => Sys2Proof.Machine.execSpdmRequest port falcon mlkem s
  | .ideKeyManagement port enable => Sys2Proof.Machine.execIdeKeyManagement port enable s
  | .doorbell a q value viaBar => Sys2Proof.Machine.execDoorbell a q value viaBar s
  | .nop q d => Sys2Proof.Machine.execNop q d s
  | .put q d => Sys2Proof.Machine.execPut q d s
  | .get q d => Sys2Proof.Machine.execGet q d s
  | .copyTile q d => Sys2Proof.Machine.execCopyTile q d s
  | .atomic q d => Sys2Proof.Machine.execAtomic q d s
  | .wait q d => Sys2Proof.Machine.execWait q d s
  | .fence q d => Sys2Proof.Machine.execFence q d s
  | .signal q d => Sys2Proof.Machine.execSignal q d s
  | .coll q d => Sys2Proof.Machine.execColl q d s
  | .epochClose q d => Sys2Proof.Machine.execEpochClose q d s
  | .epochCloseDrainDone part => Sys2Proof.Machine.execEpochCloseDrainDone part s
  | .quantumGrant engine q => Sys2Proof.Machine.execQuantumGrant engine q s
  | .quantumEnd engine => Sys2Proof.Machine.execQuantumEnd engine s
  | .tableWalkDone part fva uncorrectable => Sys2Proof.Machine.execTableWalkDone part fva uncorrectable s
  | .prefetchReply id data valid => Sys2Proof.Machine.execPrefetchReply id data valid s
  | .prefetchTimeout id => Sys2Proof.Machine.execPrefetchTimeout id s
  | .cxlMemLoad m snp => Sys2Proof.Machine.execCxlMemLoad m snp s
  | .cxlMemStore m mask data mv => Sys2Proof.Machine.execCxlMemStore m mask data mv s
  | .biRsp port line keepShared => Sys2Proof.Machine.execBiRsp port line keepShared s
  | .biTimeout line attach => Sys2Proof.Machine.execBiTimeout line attach s
  | .cxlIoCompletion id ok data => Sys2Proof.Machine.execCxlIoCompletion id ok data s
  | .cxlIoTimeout id => Sys2Proof.Machine.execCxlIoTimeout id s
  | .landingCounterRead port off size => Sys2Proof.Machine.execLandingCounterRead port off size s
  | .hdmDecoderCommit port r d => Sys2Proof.Machine.execHdmDecoderCommit port r d s
  | .biEnable port on => Sys2Proof.Machine.execBiEnable port on s
  | .perstNAssert port => Sys2Proof.Machine.execPerstNAssert port s
  | .perstNRelease port => Sys2Proof.Machine.execPerstNRelease port s
  | .hotReset port => Sys2Proof.Machine.execHotReset port s
  | .functionLevelReset port => Sys2Proof.Machine.execFunctionLevelReset port s
  | .cxlReset port => Sys2Proof.Machine.execCxlReset port s
  | .cxlLinkUp port width fullRate => Sys2Proof.Machine.execCxlLinkUp port width fullRate s
  | .cxlTrainRetry port width fullRate => Sys2Proof.Machine.execCxlTrainRetry port width fullRate s
  | .l0pRequest port width => Sys2Proof.Machine.execL0pRequest port width s
  | .loopbackDirected port => Sys2Proof.Machine.execLoopbackDirected port s
  | .ideIntegrityFailure port => Sys2Proof.Machine.execIdeIntegrityFailure port s
  | .phyPllLoss port => Sys2Proof.Machine.execPhyPllLoss port s
  | .phyPllRelock port => Sys2Proof.Machine.execPhyPllRelock port s
  | .woquelImageRead flash => Sys2Proof.Machine.execWoquelImageRead flash s
  | .identityRegenerated ok => Sys2Proof.Machine.execIdentityRegenerated ok s
  | .governorTick demand draw vin tj gddr => Sys2Proof.Machine.execGovernorTick demand draw vin tj gddr s
  | .capCommand a value => Sys2Proof.Machine.execCapCommand a value s
  | .portIdle port => Sys2Proof.Machine.execPortIdle port s
  | .unitGateIdle unit => Sys2Proof.Machine.execUnitGateIdle unit s
  | .clkGateOffReq a value => Sys2Proof.Machine.execClkGateOffReq a value s
  | .clkObsWrite a value => Sys2Proof.Machine.execClkObsWrite a value s
  | .hltPlanRun a value => Sys2Proof.Machine.execHltPlanRun a value s
  | .patrolRead addr flips => Sys2Proof.Machine.execPatrolRead addr flips s
  | .sramVminTest slice mv => Sys2Proof.Machine.execSramVminTest slice mv s
  | .sensorUpdate addr value => Sys2Proof.Machine.execSensorUpdate addr value s
  | .moduleFault addr region => Sys2Proof.Machine.execModuleFault addr region s
  | .flitReceived port flit => Sys2Proof.Machine.execFlitReceived port flit s
  | .replayTimeout port => Sys2Proof.Machine.execReplayTimeout port s
  | .linkNop port => Sys2Proof.Machine.execLinkNop port s
  | .train port nbr nbrPort lanes minLanes map => Sys2Proof.Machine.execTrain port nbr nbrPort lanes minLanes map s
  | .swapReq port dir lane src dst failed => Sys2Proof.Machine.execSwapReq port dir lane src dst failed s
  | .swapDone port dir lane dst lseq => Sys2Proof.Machine.execSwapDone port dir lane dst lseq s
  | .swapAbort port dir lane reason => Sys2Proof.Machine.execSwapAbort port dir lane reason s
  | .calStart port w => Sys2Proof.Machine.execCalStart port w s
  | .calEnd port w retired => Sys2Proof.Machine.execCalEnd port w retired s
  | .lanes port dir count map lseq => Sys2Proof.Machine.execLanes port dir count map lseq s
  | .wavelengthFailure port w => Sys2Proof.Machine.execWavelengthFailure port w s
  | .swapCheckDone port ok => Sys2Proof.Machine.execSwapCheckDone port ok s
  | .swapTimeout port => Sys2Proof.Machine.execSwapTimeout port s
  | .spareRotation port => Sys2Proof.Machine.execSpareRotation port s
  | .calMeasureDone port ok => Sys2Proof.Machine.execCalMeasureDone port ok s
  | .trainingStepDone port passing margins => Sys2Proof.Machine.execTrainingStepDone port passing margins s
  | .trainingRetry port => Sys2Proof.Machine.execTrainingRetry port s
  | .optPortEnable a port value => Sys2Proof.Machine.execOptPortEnable a port value s
  | .optPortRetrain a port value => Sys2Proof.Machine.execOptPortRetrain a port value s
  | .cxlPortRetrain a port value => Sys2Proof.Machine.execCxlPortRetrain a port value s
  | .portStateChange port => Sys2Proof.Machine.execPortStateChange port s
  | .lsaReceived port l => Sys2Proof.Machine.execLsaReceived port l s
  | .lsaAgeOut origin => Sys2Proof.Machine.execLsaAgeOut origin s
  | .lostFlowFree module => Sys2Proof.Machine.execLostFlowFree module s
  | .flowIdleClose src dst vc => Sys2Proof.Machine.execFlowIdleClose src dst vc s
  | .retxDue src dst vc => Sys2Proof.Machine.execRetxDue src dst vc s
  | .dupSuppressExpiry src wid => Sys2Proof.Machine.execDupSuppressExpiry src wid s
  | .packetExpiry src dst vc seq => Sys2Proof.Machine.execPacketExpiry src dst vc seq s
  | .noRouteExpiry src dst vc seq => Sys2Proof.Machine.execNoRouteExpiry src dst vc seq s
  | .fabricPacketTransit port p flits => Sys2Proof.Machine.execFabricPacketTransit port p flits s
  | .fabricWrite port e b => Sys2Proof.Machine.execFabricWrite port e b s
  | .fabricReadRequest port e b => Sys2Proof.Machine.execFabricReadRequest port e b s
  | .atomicRequest port e b => Sys2Proof.Machine.execAtomicRequest port e b s
  | .signalArrival port e ctr value => Sys2Proof.Machine.execSignalArrival port e ctr value s
  | .reply port e status data valid => Sys2Proof.Machine.execReply port e status data valid s
  | .acknowledgement port e status => Sys2Proof.Machine.execAcknowledgement port e status s
  | .deliveryReport port e excluded => Sys2Proof.Machine.execDeliveryReport port e excluded s
  | .flowClose port e => Sys2Proof.Machine.execFlowClose port e s
  | .redirectRequest port e b => Sys2Proof.Machine.execRedirectRequest port e b s
  | .redirectWaitExpiry src dst vc seq => Sys2Proof.Machine.execRedirectWaitExpiry src dst vc seq s
  | .mirrorWrite port e b => Sys2Proof.Machine.execMirrorWrite port e b s
  | .rebuildStep port e b => Sys2Proof.Machine.execRebuildStep port e b s
  | .mirrorControl port e m => Sys2Proof.Machine.execMirrorControl port e m s
  | .unprotectedRefusal port e => Sys2Proof.Machine.execUnprotectedRefusal port e s
  | .multicastLeg port e b => Sys2Proof.Machine.execMulticastLeg port e b s
  | .deadboltMessage port m => Sys2Proof.Machine.execDeadboltMessage port m s
  | .requestTimeout src wid => Sys2Proof.Machine.execRequestTimeout src wid s
  | .header port e level vertex left r cop => Sys2Proof.Machine.execHeader port e level vertex left r cop s
  | .contribution port e b => Sys2Proof.Machine.execContribution port e b s
  | .resultChunk port e b => Sys2Proof.Machine.execResultChunk port e b s
  | .done port e r => Sys2Proof.Machine.execDone port e r s
  | .go port e r => Sys2Proof.Machine.execGo port e r s
  | .allToAllReport port e r => Sys2Proof.Machine.execAllToAllReport port e r s
  | .cause port e r => Sys2Proof.Machine.execCause port e r s
  | .abort port e r => Sys2Proof.Machine.execAbort port e r s
  | .arrivalTimeout ctx seq level vertex => Sys2Proof.Machine.execArrivalTimeout ctx seq level vertex s
  | .forcedRevokeTimeout kind ext => Sys2Proof.Machine.execForcedRevokeTimeout kind ext s
  | .revokeDrainDone kind ext => Sys2Proof.Machine.execRevokeDrainDone kind ext s
  | .scrubDone kind ext => Sys2Proof.Machine.execScrubDone kind ext s
  | .reportResend l => Sys2Proof.Machine.execReportResend l s
  | .fltPop a value => Sys2Proof.Machine.execFltPop a value s
  | .fltStatLostClear a value => Sys2Proof.Machine.execFltStatLostClear a value s
  | .latchSnap a value => Sys2Proof.Machine.execLatchSnap a value s
  | .unlock a key => Sys2Proof.Machine.execUnlock a key s
  | .unlockLapse a => Sys2Proof.Machine.execUnlockLapse a s
  | .indDataRead a => Sys2Proof.Machine.execIndDataRead a s
  | .indDataWrite a value => Sys2Proof.Machine.execIndDataWrite a value s
  | .topTimeLoRead a => Sys2Proof.Machine.execTopTimeLoRead a s
  | .cfgcrcRefWrite a value => Sys2Proof.Machine.execCfgcrcRefWrite a value s
  | .setAliasWrite a off value => Sys2Proof.Machine.execSetAliasWrite a off value s
  | .clrAliasWrite a off value => Sys2Proof.Machine.execClrAliasWrite a off value s
  | .tglAliasWrite a off value => Sys2Proof.Machine.execTglAliasWrite a off value s
  | .registerWrite a off value => Sys2Proof.Machine.execRegisterWrite a off value s
  | .dbgNop frameOk => Sys2Proof.Machine.execDbgNop frameOk s
  | .halt frameOk target => Sys2Proof.Machine.execHalt frameOk target s
  | .resume frameOk target => Sys2Proof.Machine.execResume frameOk target s
  | .step frameOk target => Sys2Proof.Machine.execStep frameOk target s
  | .bpSet frameOk target addr data => Sys2Proof.Machine.execBpSet frameOk target addr data s
  | .bpClear frameOk target data => Sys2Proof.Machine.execBpClear frameOk target data s
  | .breakpointHit core n => Sys2Proof.Machine.execBreakpointHit core n s
  | .coreRd frameOk target addr => Sys2Proof.Machine.execCoreRd frameOk target addr s
  | .coreWr frameOk target addr data => Sys2Proof.Machine.execCoreWr frameOk target addr data s
  | .memRd frameOk addr => Sys2Proof.Machine.execMemRd frameOk addr s
  | .memWr frameOk addr data => Sys2Proof.Machine.execMemWr frameOk addr data s
  | .regRd frameOk addr => Sys2Proof.Machine.execRegRd frameOk addr s
  | .regWr frameOk addr data => Sys2Proof.Machine.execRegWr frameOk addr data s
  | .partRd frameOk target addr => Sys2Proof.Machine.execPartRd frameOk target addr s
  | .partWr frameOk target addr data => Sys2Proof.Machine.execPartWr frameOk target addr data s
  | .partReleaseScrubDone part => Sys2Proof.Machine.execPartReleaseScrubDone part s
  | .aspmL1Exit port => Sys2Proof.Machine.execAspmL1Exit port s
  | .cxlLinkDown port width => Sys2Proof.Machine.execCxlLinkDown port width s
  | .fwSessionTimeout => Sys2Proof.Machine.execFwSessionTimeout s
  | .trayReleaseAssert => Sys2Proof.Machine.execTrayReleaseAssert s
  | .trayReleaseDeassert => Sys2Proof.Machine.execTrayReleaseDeassert s
  | .pwrBrakeAssert => Sys2Proof.Machine.execPwrBrakeAssert s
  | .pwrBrakeRelease => Sys2Proof.Machine.execPwrBrakeRelease s
  | .powerApplied => Sys2Proof.Machine.execPowerApplied s
  | .inputLow => Sys2Proof.Machine.execInputLow s
  | .inputBrake => Sys2Proof.Machine.execInputBrake s
  | .inputRecover => Sys2Proof.Machine.execInputRecover s
  | .inputOff => Sys2Proof.Machine.execInputOff s
  | .inputHigh => Sys2Proof.Machine.execInputHigh s
  | .thermalCeiling => Sys2Proof.Machine.execThermalCeiling s
  | .thermalRelease => Sys2Proof.Machine.execThermalRelease s
  | .thermalBrake => Sys2Proof.Machine.execThermalBrake s
  | .thermalShutdown => Sys2Proof.Machine.execThermalShutdown s
  | .thermalRestart => Sys2Proof.Machine.execThermalRestart s
  | .referencePresent => Sys2Proof.Machine.execReferencePresent s
  | .rootPllLock => Sys2Proof.Machine.execRootPllLock s
  | .referenceLoss => Sys2Proof.Machine.execReferenceLoss s
  | .rootRelock => Sys2Proof.Machine.execRootRelock s
  | .lightingDone => Sys2Proof.Machine.execLightingDone s
  | .darkeningDone => Sys2Proof.Machine.execDarkeningDone s
  | .staggerExpiry => Sys2Proof.Machine.execStaggerExpiry s
  | .lullHoldExpiry => Sys2Proof.Machine.execLullHoldExpiry s
  | .marginPlanDaily => Sys2Proof.Machine.execMarginPlanDaily s
  | .gddrDeferredRetrain => Sys2Proof.Machine.execGddrDeferredRetrain s
  | .healthSecond => Sys2Proof.Machine.execHealthSecond s
  | .healthHour => Sys2Proof.Machine.execHealthHour s
  | .lsaPeriodic => Sys2Proof.Machine.execLsaPeriodic s
  | .repairHoldEnd => Sys2Proof.Machine.execRepairHoldEnd s
  | .isolationTimeout => Sys2Proof.Machine.execIsolationTimeout s
  | .ccWindowEnd => Sys2Proof.Machine.execCcWindowEnd s
  | .hingeTimeout => Sys2Proof.Machine.execHingeTimeout s
  | .fwmHingeAccept => Sys2Proof.Machine.execFwmHingeAccept s
  | .fwmHingeReject => Sys2Proof.Machine.execFwmHingeReject s
  | .cfgcrcPass => Sys2Proof.Machine.execCfgcrcPass s
  | .dbgEnRise => Sys2Proof.Machine.execDbgEnRise s
  | .dbgEnFall => Sys2Proof.Machine.execDbgEnFall s
  | .marginPlanDone => Sys2Proof.Machine.execMarginPlanDone s
  | .thermalBrakeRelease => Sys2Proof.Machine.execThermalBrakeRelease s

end Sys2Proof.Machine
end

