-- ==== Sys2Proof/Machine/Idle.lean ====
section
/-! DEFINITION. What the module does of itself while no command waits (log entry 10). -/

namespace Sys2Proof.Machine

/-- A request held during the Hinge pause is served once the pause has ended, oldest first (R450 step 4, R452, R368). -/
def idleCmd (s : State) : Option (Instr × State) :=
  if running s && !unbound s && s.fw.hinge.isNone then
    match s.fw.held with
    | [] => none
    | c :: cs =>
      some (c, { s with fw := { s.fw with held := cs },
                        mgt := { s.mgt with owed := s.mgt.owed.eraseP (fun o => o.why == 9) } })
  else none

/-- Firmware pops a fault record (R372). -/
def idle (s : State) : State :=
  if running s && !unbound s && fwRuns s && s.fw.hinge.isNone then popFault s else s

end Sys2Proof.Machine
end

