-- ==== Sys2Proof/Safety.lean ====
section
/-! DEFINITION. The conditions in whose terms the statements speak: the module runs and is bound by the manual, a message is admits (R502),
nothing is under way in the data path, memory is in its canonical form, the module is without power. -/

namespace Sys2Proof.Machine

/-- Every domain runs and no RSV-P bit stands changed: the manual binds what the module does (R400, R415, R471). -/
def live (s : State) : Bool := running s && !unbound s

/-- The same for the always-on domain alone (R412, R415). -/
def aonLive (s : State) : Bool := s.sys.conv && !unbound s

/-- The module is live and firmware runs. -/
def served (s : State) : Bool := live s && fwRuns s

/-- An extent has nothing that can go on by itself: no command waits for one under way, and no revocation calls lines back. -/
def Ext.atRest (e : Ext) : Bool := e.later.isEmpty && !(e.st == .revoking && e.kind == .home && e.coherent && !e.drained)

/-- A fabric port has nothing to send, and no shared credit to grant. -/
def OptPort.atRest (o : OptPort) : Bool := !o.busy && (!o.lit || decide (256 ≤ o.granted))

/-- Nothing waits and nothing moves in the switch core: no packet in a queue, at a block or on the way to the analysis port, nothing to send on
a fabric port. -/
def switchQuiet (s : State) : Bool :=
  s.fab.voq.all (fun e => e.2.isEmpty) && s.fab.blocks.isEmpty && s.fab.ana.queue.isEmpty && s.opt.all (fun e => e.2.atRest)

/-- Nothing waits and nothing moves in the data path: no access waits in the pool, no packet waits in the switch, in a flow or for one, no tile
engine or prefetcher holds a queue, no collective is entered or has anything to send, no extent waits, no CXL.mem request is held; every clock
gate is open. -/
def quiet (s : State) : Bool :=
  s.pool.waits.isEmpty && s.fab.redirWait.isEmpty && s.fab.waitFlow.isEmpty && switchQuiet s
    && s.fab.sflow.all (fun e => e.2.queue.isEmpty && (!e.2.frozen || e.2.recs.isEmpty))
    && s.fab.dflow.all (fun e => e.2.open_ || (e.2.held.find e.2.next).isNone)
    && s.qs.engines.isEmpty && s.qs.fetchers.isEmpty
    && s.col.mems.isEmpty && s.col.wait.isEmpty && s.pool.ext.all (fun e => e.2.atRest) && s.cxl.ports.all (fun e => e.2.held.isEmpty)
    && s.clk.gated == 0 && s.clk.closed.isEmpty

/-- Nothing beside the row itself keeps a message of row `m` about partition `p` from its own checks (R381, R444, R446, R450, R496, R502):
its port can carry it and has no response outstanding, its transaction is new, no Hinge pause runs, the module serves its version, its
length is right, a ROM row or firmware serves it, its sender has the lease where the row needs it, and its class may send it. -/
def admits (s : State) (r : Req) (m : Msg) (p : Option Nat) : Bool :=
  srcUp s r.src && (stored s r).isNone && !busyPort s r.src && (s.fw.hinge.isNone || m.opcode == 7)
    && (m.opcode == 1 || versionOk s r) && r.lenOk && (m.rom || fwRuns s) && !leaseBad s r m && !classBad s r m p

/-- What a message meets before the order of checks of R502 begins: its port can carry it, its transaction is new, and no response is
outstanding on its port. -/
def reaches (s : State) (r : Req) : Bool := srcUp s r.src && (stored s r).isNone && !busyPort s r.src

/-- A message's row of R447 with its class of R379 and its standing under the lease (R381): request, opcode, mutation, manager, host, boot ROM;
and the partition that a host must have bound. -/
def msgRow (s : State) : Instr → Option (Req × Msg × Option Nat)
  | .getVersion r => some (r, ⟨1, false, true, true, true⟩, none)
  | .mgtHeartbeat r => some (r, ⟨2, false, true, false, true⟩, none)
  | .leaseTake r => some (r, ⟨3, false, true, false, true⟩, none)
  | .leaseRelease r => some (r, ⟨4, true, true, false, true⟩, none)
  | .reportAck r _ => some (r, ⟨5, false, true, false, true⟩, none)
  | .attestGet r _ => some (r, ⟨6, false, true, true, true⟩, none)
  | .modReset r _ => some (r, ⟨7, true, true, false, true⟩, none)
  | .fwStatus r => some (r, ⟨8, false, true, true, true⟩, none)
  | .fwBegin r _ _ => some (r, ⟨0x101, true, true, true, true⟩, none)
  | .fwData r _ _ _ => some (r, ⟨0x102, true, true, true, true⟩, none)
  | .fwCommit r => some (r, ⟨0x103, true, true, true, true⟩, none)
  | .fwAbort r => some (r, ⟨0x104, true, true, true, true⟩, none)
  | .partSetup r _ => some (r, ⟨0x201, true, true, false, false⟩, none)
  | .partBind r _ _ _ => some (r, ⟨0x202, true, true, false, false⟩, none)
  | .partUnbind r _ _ _ => some (r, ⟨0x203, true, true, false, false⟩, none)
  | .keyLoad r _ _ _ _ _ => some (r, ⟨0x204, true, true, false, false⟩, none)
  | .partReset r _ _ => some (r, ⟨0x205, true, true, false, false⟩, none)
  | .partRelease r _ => some (r, ⟨0x206, true, true, false, false⟩, none)
  | .consentSet r p _ => some (r, ⟨0x207, true, true, true, false⟩, some p)
  | .consentClear r p => some (r, ⟨0x208, true, true, true, false⟩, some p)
  | .partQuery r p => some (r, ⟨0x209, false, true, true, false⟩, some p)
  | .dossierRead r _ _ => some (r, ⟨0x20A, false, true, false, false⟩, none)
  | .jobAbort r _ => some (r, ⟨0x20B, true, true, false, false⟩, none)
  | .extAdd r _ => some (r, ⟨0x301, true, true, false, false⟩, none)
  | .extPresent r _ => some (r, ⟨0x302, true, true, false, false⟩, none)
  | .extMirror r _ _ => some (r, ⟨0x303, true, true, false, false⟩, none)
  | .extRevoke r _ _ _ _ => some (r, ⟨0x304, true, true, false, false⟩, none)
  | .extShackle r _ _ _ _ _ => some (r, ⟨0x305, true, true, false, false⟩, none)
  | .extQuery r _ _ _ => some (r, ⟨0x306, false, true, false, false⟩, none)
  | .xltMap r p _ _ _ => some (r, ⟨0x401, true, false, true, false⟩, some p)
  | .xltUnmap r p _ _ => some (r, ⟨0x402, true, false, true, false⟩, some p)
  | .xltInval r p _ _ _ => some (r, ⟨0x403, true, false, true, false⟩, some p)
  | .xltQuery r p _ => some (r, ⟨0x404, false, true, true, false⟩, some p)
  | .queCreate r a => some (r, ⟨0x411, true, false, true, false⟩, queOwner s a.q)
  | .queResume r q => some (r, ⟨0x412, true, false, true, false⟩, queOwner s q)
  | .queDestroy r q => some (r, ⟨0x413, true, false, true, false⟩, queOwner s q)
  | .queQuery r q => some (r, ⟨0x414, false, false, true, false⟩, queOwner s q)
  | .grpCreate r _ => some (r, ⟨0x501, true, true, false, false⟩, none)
  | .grpMembers r _ _ _ => some (r, ⟨0x502, true, true, false, false⟩, none)
  | .grpHosts r _ _ => some (r, ⟨0x503, true, true, false, false⟩, none)
  | .grpArm r _ => some (r, ⟨0x504, true, true, false, false⟩, none)
  | .grpDestroy r _ => some (r, ⟨0x505, true, true, false, false⟩, none)
  | .grpQuery r _ => some (r, ⟨0x506, false, true, false, false⟩, none)
  | .epidAssign r _ _ _ _ => some (r, ⟨0x601, true, true, false, false⟩, none)
  | .epidRelease r _ => some (r, ⟨0x602, true, true, false, false⟩, none)
  | .treeWrite r _ _ => some (r, ⟨0x603, true, true, false, false⟩, none)
  | .treeClear r _ => some (r, ⟨0x604, true, true, false, false⟩, none)
  | .anaSet r _ => some (r, ⟨0x605, true, true, false, false⟩, none)
  | .anaConsent r _ => some (r, ⟨0x606, true, true, false, false⟩, none)
  | .anaClear r _ _ _ => some (r, ⟨0x607, true, true, false, false⟩, none)
  | .fabQuery r _ _ => some (r, ⟨0x608, false, true, false, false⟩, none)
  | .powerLit r => some (r, ⟨0x701, true, true, false, false⟩, none)
  | .powerDark r => some (r, ⟨0x702, true, true, false, false⟩, none)
  | .selftest r _ _ => some (r, ⟨0x703, true, true, false, false⟩, none)
  | .logRead r _ _ => some (r, ⟨0x801, false, true, false, false⟩, none)
  | .ageRead r _ => some (r, ⟨0x802, false, true, false, false⟩, none)
  | .traceSet r _ _ => some (r, ⟨0x803, true, true, false, false⟩, none)
  | _ => none

/-- A command meets no obstacle outside its own row: a message is admitted; any other command finds the module live. -/
def canRun (s : State) (c : Instr) : Bool :=
  live s && (match msgRow s c with | some (r, m, p) => admits s r m p | none => true)

/-! ### Frames -/

/-- The parts of the state, by name. -/
inductive Field where
  | pending | out | seed | now | sys | clk | pwr | hlt | mgt | fw | regs | flt | dbg | parts | dossiers | pool | xlt | qs | ctrs | fab | cxl | rep | opt | col
deriving DecidableEq, Repr

/-- A part of the state is the same in both. -/
def Field.same : Field → State → State → Prop
  | .pending, s, t => t.pending = s.pending
  | .out, s, t => t.out = s.out
  | .seed, s, t => t.seed = s.seed
  | .now, s, t => t.now = s.now
  | .sys, s, t => t.sys = s.sys
  | .clk, s, t => t.clk = s.clk
  | .pwr, s, t => t.pwr = s.pwr
  | .hlt, s, t => t.hlt = s.hlt
  | .mgt, s, t => t.mgt = s.mgt
  | .fw, s, t => t.fw = s.fw
  | .regs, s, t => t.regs = s.regs
  | .flt, s, t => t.flt = s.flt
  | .dbg, s, t => t.dbg = s.dbg
  | .parts, s, t => t.parts = s.parts
  | .dossiers, s, t => t.dossiers = s.dossiers
  | .pool, s, t => t.pool = s.pool
  | .xlt, s, t => t.xlt = s.xlt
  | .qs, s, t => t.qs = s.qs
  | .ctrs, s, t => t.ctrs = s.ctrs
  | .fab, s, t => t.fab = s.fab
  | .cxl, s, t => t.cxl = s.cxl
  | .rep, s, t => t.rep = s.rep
  | .opt, s, t => t.opt = s.opt
  | .col, s, t => t.col = s.col

/-- `t` differs from `s` in no part but those listed: no register, table, memory byte or counter of any other part has changed. -/
def sameBut (l : List Field) (s t : State) : Prop := ∀ f : Field, f ∉ l → f.same s t

/-- Both managers are told: each link's REPORT_SEQ rises, and the report is the newest that waits on each link whose store has room (R448). -/
def toldBoth (code : Nat) (payload : Bytes) (s t : State) : Prop :=
  t.fw.seqA = (s.fw.seqA + 1) % 2 ^ 32 ∧ t.fw.seqB = (s.fw.seqB + 1) % 2 ^ 32 ∧
  (s.fw.repA.length < 64 → t.fw.repA = s.fw.repA ++ [⟨s.fw.seqA, code, payload⟩]) ∧
  (s.fw.repB.length < 64 → t.fw.repB = s.fw.repB ++ [⟨s.fw.seqB, code, payload⟩])

/-! ### Commands of the data path -/

/-- A command leaves `x`; all that has thereby become possible then happens, which is nothing where nothing was under way. -/
def endsIn (c : Instr) (s x : State) : Prop :=
  exec c s = .next (settled x) ∧ (quiet s = true → exec c s = .next x)

/-- The same for a message that answers OK with no payload after its effect. -/
def answersAfter (c : Instr) (s : State) (r : Req) (x : State) : Prop :=
  exec c s = .next (answer r .ok [] (settled x)) ∧ (quiet s = true → exec c s = .next (answer r .ok [] x))

/-! ### The mailbox of a CXL memory device -/

/-- A command of the mailbox (R312) and its port. -/
def mailRow : Instr → Option (Fin 16)
  | .identify p => some p
  | .getSupportedLogs p => some p
  | .getLog p => some p
  | .getEventRecords p => some p
  | .clearEventRecords p _ => some p
  | .getDynamicCapacityConfiguration p => some p
  | .addDynamicCapacityResponse p _ _ _ => some p
  | .releaseDynamicCapacity p _ _ => some p
  | _ => none

/-- Firmware serves the mailbox of a port, which is the port of attachment `a`: the port carries CXL.io, has no command outstanding, and no
Hinge pause runs (R312, R446, R450). -/
def mailServed (s : State) (port : Fin 16) (a : Nat) : Bool :=
  live s && srcUp s (.cxl port) && !busyPort s (.cxl port) && s.fw.hinge.isNone && fwRuns s && attachOf s port.val == some a

/-! ### Descriptors -/

/-- A row of a descriptor: its opcode, its queue, its words. -/
def descRow : Instr → Option (Nat × Nat × Desc)
  | .nop q d => some (0, q, d)
  | .put q d => some (1, q, d)
  | .get q d => some (2, q, d)
  | .copyTile q d => some (3, q, d)
  | .atomic q d => some (4, q, d)
  | .wait q d => some (5, q, d)
  | .fence q d => some (6, q, d)
  | .signal q d => some (7, q, d)
  | .coll q d => some (8, q, d)
  | .epochClose q d => some (9, q, d)
  | _ => none

/-- The operation that a descriptor at the head of queue `q` becomes. -/
def newborn (s : State) (q : Nat) (d : Desc) : Op := newOp (que s q).head (takeWid s).1 d

/-- The state in which it has its effect: its 64 bytes have been read, and it has left the ring and is the youngest of its queue's started
operations. -/
def begun (s : State) (q : Nat) (d : Desc) : State :=
  setQue (takeWid (ringRead (que s q) s)).2 q { que s q with head := ((que s q).head + 1) % 2 ^ (que s q).sqLog2, ops := (que s q).ops ++ [newborn s q d] }

/-- A descriptor that moves no bytes counts 64 against its queue's quantum (R139); then all that has become possible happens. -/
def spent (q : Nat) (o : Op) (s : State) : State :=
  settled (if (match (que s q).op o.idx with | some x => x.total == 0 | none => true) then spend q 64 s else s)

/-! ### Register writes -/

/-- A row that writes a register: its accessor, the offset, the value. -/
def regRow : Instr → Option (RAcc × Nat × Word)
  | .fltPop a v => some (a, 0x38000C, v)
  | .fltStatLostClear a v => some (a, 0x380000, v)
  | .latchSnap a v => some (a, 0x10, v)
  | .unlock a v => some (a, 0xC, v)
  | .indDataWrite a v => some (a, 0x20, v)
  | .cfgcrcRefWrite a v => some (a, 0x28, v)
  | .setAliasWrite a off v => some (a, aliasOff 0x1000000 off, v)
  | .clrAliasWrite a off v => some (a, aliasOff 0x2000000 off, v)
  | .tglAliasWrite a off v => some (a, aliasOff 0x3000000 off, v)
  | .registerWrite a off v => some (a, off, v)
  | .optPortEnable a p v => some (a, 0xC1000 + 0x40 * p.val, v)
  | .optPortRetrain a p v => some (a, 0xC1000 + 0x40 * p.val, v)
  | .cxlPortRetrain a p v => some (a, 0x101000 + 0x40 * p.val, v)
  | .capCommand a v => some (a, 0x20004, v)
  | .clkGateOffReq a v => some (a, 0x10008, v)
  | .clkObsWrite a v => some (a, 0x10004, v)
  | .hltPlanRun a v => some (a, 0x30000, v)
  | _ => none

/-- A manager's register transaction is new: it repeats none, and none of its number is under way (R496). -/
def freshTxn (s : State) (l : Link) (txn : Nat) : Bool :=
  (linkStored s l txn).isNone && !s.mgt.owed.any (fun w => w.src == .mgt l && w.txn == txn)

/-- A manager's register transaction is answered, and its response kept (R496). -/
def regAnswered (l : Link) (txn : Nat) (st : Status) (v : Nat) (s : State) : State :=
  emit (.regResp (.mgt l) txn st v) { s with mgt := { s.mgt with last := s.mgt.last.ins (linkIdx l) (txn, .regResp (.mgt l) txn st v) } }

/-- A register access of the manager on link `l` reaches the registers: the module runs, its transaction is new, and it holds the lease (R381,
R465, R496). -/
def mgrWrites (s : State) (a : RAcc) (l : Link) : Prop :=
  running s = true ∧ a.who = .mgt l ∧ freshTxn s l a.txn = true ∧ s.mgt.holder = some l

/-- The state in which such a write meets its register: the manager has been heard, and its unlock is used up (R399, R469). -/
def mgrHeard (s : State) (l : Link) : State :=
  setAcc (heard (.mgt l) s) (linkIdx l) { acc s (linkIdx l) with unlocked := false }

/-- Such a write leaves `t`, what has thereby become possible happens, and it is answered OK. -/
def answersReg (c : Instr) (s : State) (a : RAcc) (l : Link) (t : State) : Prop :=
  exec c s = .next (regAnswered l a.txn .ok 0 (settled t))

/-! ### Debug frames -/

/-- A row of the debug port, with whether its frame's CRC holds (R456). -/
def dbgRow : Instr → Option Bool
  | .dbgNop ok => some ok
  | .halt ok _ => some ok
  | .resume ok _ => some ok
  | .step ok _ => some ok
  | .bpSet ok _ _ _ => some ok
  | .bpClear ok _ _ => some ok
  | .coreRd ok _ _ => some ok
  | .coreWr ok _ _ _ => some ok
  | .memRd ok _ => some ok
  | .memWr ok _ _ => some ok
  | .regRd ok _ => some ok
  | .regWr ok _ _ => some ok
  | .partRd ok _ _ => some ok
  | .partWr ok _ _ _ => some ok
  | _ => none

/-- The debug port is enabled, its last access has finished, and the module is live (R458). -/
def dbgReady (s : State) : Bool := live s && s.dbg.en && s.dbg.busy.isNone

/-- A frame's response: the result of the frame before it (R456). -/
def dbgShown (s : State) : State := emit (.debug s.dbg.lastSt s.dbg.lastData) s

/-! ### Packets in their turn -/

/-- The state once a packet of a port has given back its ingress cells (R251) and has been copied to the analysis port, where it is to be
(R237). -/
def entered (port : Option (Fin 64)) (q : Pkt) (s : State) : State :=
  match port with | some n => anaCopy n.val false q (passCells n.val q.h.vc q.h.hops (pktCells q) s) | none => s

/-- A packet is for an EPID of this module, and is well formed (R219, R255). -/
def forHere (s : State) (port : Option (Fin 64)) (q : Pkt) : Bool :=
  live s && (match port with | some n => portUp s n.val && decide (q.h.len ≤ 4096) | none => true)
    && (endpoint s q.h.dst).v && (endpoint s q.h.dst).isLocal

/-- A packet has the number that its flow expects, whose last packet has ended; a flow without an entry finds one (R225, R331, R335). -/
def inTurn (s : State) (h : Hdr) : Bool :=
  match s.fab.dflow.find (hdrKey h) with
  | some d => d.next == h.seq && !d.open_
  | none => h.seq == 0 && decide (flowEntries s < 327680)

/-- The Ward passes a packet for partition `p`, it authenticates, and it comes in its turn. -/
def passes (s : State) (port : Option (Fin 64)) (q : Pkt) (p : Nat) : Bool :=
  forHere s port q && (let x := entered port q s; ward x q.h q.rd q.body == .pass p && authOk x p q && inTurn x q.h)

/-- The state in which a packet that has passed takes effect: it has crossed the switch to its block (R246), it is the open packet of its flow,
and its CE awaits its acknowledgement (R233). -/
def opened (s : State) (port : Option (Fin 64)) (q : Pkt) : State :=
  let x := handOver port q.h (entered port q s)
  let d := dflow x (hdrKey q.h)
  setDFlow (hdrKey q.h)
    { d with ce := if q.h.ce then d.ce ++ [q.h.seq] else d.ce, open_ := true, more := 0, lastUs := nowUs x, job := q.h.job } x

/-! ### Invariants -/

/-- Pool memory is in its canonical form: addresses strictly rise, and no listed byte is 0, which an unlisted address reads as. -/
abbrev memCanonical (s : State) : Prop := s.pool.mem.wf 0#8 = true

/-- The conversion's outputs are off and no command that waits turns them on (R400). -/
def noPower (s : State) : Bool := !s.sys.conv && s.pending.all (fun c => c != .powerApplied)

/-- The thermal shutdown has left the always-on domain alone, and no command that waits ends it (R412). -/
def shutDown (s : State) : Bool :=
  s.sys.conv && s.sys.aonOnly && s.pending.all (fun c => c != .powerApplied && c != .inputOff && c != .thermalRestart && c != .rootRelock)

end Sys2Proof.Machine
end

