-- ==== Sys2Proof/Certificates/Slice0/Obligations.lean ====
section
/-! DEFINITION. The statements about the module, in the order of OBLIGATIONS.json. `canRun s c` says that nothing outside a command's own row
stands in its way; `heard r.src s` is the state once the lease holder has been heard (R381); `answer` sends the response (R442). -/

open Sys2Proof Sys2Proof.Machine

/-! ### The machine -/

/-- A step takes the command at the front of the queue and runs it with the queue's rest. -/
def Obligations.StepRunsTheCommand : Prop :=
  ∀ (c : Instr) (rest : List Instr) (s : State), s.pending = c :: rest → step s = exec c { s with pending := rest }

/-- On an empty queue, with no message held, a step changes nothing where the fault queue is empty. Where it is not, the module is live, firmware
runs and no Hinge pause is on, the oldest record leaves the queue and goes to each manager whose report store has room as report 0x8001, whose
payload is the record's eight words (R372); nothing but the fault queue, the log and report stores, counts, event logs and what has left the
module changes (log entry 10: what a step on an empty queue does is the model's choice). -/
def Obligations.IdleStep : Prop :=
  (∀ s : State, s.pending = [] → s.fw.held = [] → s.flt.q = [] → step s = .next s) ∧
  (∀ (s : State) (r : FRec) (q : List FRec), s.pending = [] → s.fw.held = [] → s.flt.q = r :: q → live s = true → fwRuns s = true →
    s.fw.hinge = none → ∃ t, step s = .next t ∧ t.flt.q = q ∧ t.flt.seq = s.flt.seq ∧
      toldBoth 0x8001 ((List.range 8).map (fun k => leBytes 4 (r.word k))).flatten s t ∧
      sameBut [.out, .fw, .flt, .regs, .cxl] s t)

/-- What State.reset holds (R381, R398, R402, R431, R479; log entry 3 where the rules give no value): the conversion on; no reference, no lock of
the root, the domains not stopped, the always-on domain on its oscillator; STANDBY with an allowance of 0; no holder of the lease; no image; no
fault record, no pending command, local time 0; holding registers that read zero; every configuration register at its reset value and every count
0; every partition FREE in its first state, every extent record FREE, every queue DISABLED, every landing counter 0, every endpoint and tree
entry invalid, every fabric port OFF, every CXL port held in reset. Pool memory is in its canonical form and reads 0 everywhere (log entry 2:
what a byte never written reads as is the model's choice). -/
def Obligations.ResetState : Prop :=
  State.reset.sys.conv = true ∧ State.reset.clk.src = 0 ∧ State.reset.clk.refOk = false ∧ State.reset.clk.rootLock = false ∧
  State.reset.clk.stopped = false ∧ State.reset.pwr.st = .standby ∧
  State.reset.pwr.a = 0 ∧ State.reset.mgt.holder = none ∧ State.reset.flt.q = [] ∧ State.reset.pending = [] ∧ State.reset.now = 0 ∧
  State.reset.fw.img = none ∧ State.reset.regs.held = none ∧
  (∀ off, cfgReg State.reset off = regReset off) ∧ (∀ off, State.reset.regs.cnt.get 0 off = 0) ∧
  (∀ p, part State.reset p = Part.init) ∧ (∀ e, (extRec State.reset e).st = .free) ∧ (∀ q, (que State.reset q).st = .disabled) ∧
  (∀ c, State.reset.ctrs.get 0 c = 0) ∧ (∀ e, (endpoint State.reset e).v = false) ∧ (∀ t, (tree State.reset t).v = false) ∧
  (∀ p, (optPort State.reset p).st = .off) ∧ (∀ p, (cxlPort State.reset p).st = .reset) ∧
  memCanonical State.reset ∧ (∀ a, State.reset.pool.mem.get 0#8 a = 0#8)

/-- No command ends in a fault while no RSV-P bit stands changed: it answers a next state. A fault is the one of R471, in a state whose
conversion is on and in which an RSV-P bit stands changed (log entry 4: that the model stops there is its choice). No command is refused. -/
def Obligations.OnlyStop : Prop :=
  (∀ (c : Instr) (s : State), unbound s = false → ∃ t, exec c s = .next t) ∧
  (∀ (c : Instr) (s : State) (f : Fault), exec c s = .fault f → f = .notBound ∧ unbound s = true ∧ s.sys.conv = true) ∧
  (∀ (c : Instr) (s : State) (x : Refusal), exec c s ≠ .refused x)

/-- From every state whose conversion is off and whose queue holds no POWER_APPLIED (R400), a step takes the front command off the queue and
changes nothing else, and the state it answers is again such a state. -/
def Obligations.NoPowerKept : Prop :=
  ∀ s t : State, noPower s = true → step s = .next t → noPower t = true ∧ t = { s with pending := s.pending.tail }

/-- From every state in which the conversion is on, only the always-on domain is supplied (R412), and no POWER_APPLIED, INPUT_OFF,
THERMAL_RESTART or ROOT_RELOCK waits in the queue, a step answers such a state again, and leaves management and the lease, firmware, health, the
debug port, partitions, dossiers, pool, translations, queues, landing counters, the fabric, repair, fabric ports and collectives as they were. -/
def Obligations.ShutDownKept : Prop :=
  ∀ s t : State, shutDown s = true → step s = .next t →
    shutDown t = true ∧ sameBut [.pending, .out, .seed, .now, .sys, .clk, .pwr, .regs, .flt, .cxl] s t

/-- From every state whose pool memory is in its canonical form (addresses strictly rise and no listed byte is 0), every step that answers a next
state answers one whose pool memory is in that form, so that equal memories are equal data. -/
def Obligations.CanonicalMemoryKept : Prop :=
  ∀ s t : State, memCanonical s → step s = .next t → memCanonical t

/-! ### What every message meets (R379, R381, R444, R446, R496, R502) -/

/-- A message that its port can carry, that is new, whose port has no response outstanding, outside a Hinge pause, meets its first checks in this
order (R444, R446, R379, R381, R502): GET_VERSION apart, one of a version not served is refused with VERSION; one of a wrong length with LENGTH;
one that needs firmware while none runs with NO_FW; a mutation of a manager without the lease with LEASE, which is counted; one that its sender's
class does not permit with DENIED, which is counted and recorded. Each refusal changes nothing else but that the response goes out and a message
of the lease holder renews the lease. -/
def Obligations.MessageOrder : Prop :=
  ∀ (s : State) (c : Instr) (r : Req) (m : Msg) (p : Option Nat), live s = true → msgRow s c = some (r, m, p) → reaches s r = true →
    s.fw.hinge = none →
    (m.opcode ≠ 1 → versionOk s r = false → exec c s = .next (answer r .version [] (heard r.src s))) ∧
    ((m.opcode = 1 ∨ versionOk s r = true) →
      (r.lenOk = false → exec c s = .next (answer r .length [] (heard r.src s))) ∧
      (r.lenOk = true →
        (m.rom = false → fwRuns s = false → exec c s = .next (answer r .noFw [] (heard r.src s))) ∧
        ((m.rom = true ∨ fwRuns s = true) →
          (leaseBad s r m = true → exec c s = .next (answer r .lease [] (bump 0x4000C (heard r.src s)))) ∧
          (leaseBad s r m = false → classBad s r m p = true →
            exec c s = .next (answer r .denied [] (faultAny 0 0 0 none (bump 0x40008 (heard r.src s))))))))

/-- Messages of a live module. One on a port that cannot carry it changes nothing (R294). A repetition of the last transaction that a link
answered gets the same response again (R496). A new one on a port whose response is outstanding is refused with BUSY, where none outstanding has
its transaction number (R442). A message of the lease holder renews the lease and takes the LEASE_MS then written; any other leaves the state as
it is (R381, R399). During the Hinge pause a message other than MOD_RESET is held and its response is owed (R450, R368). -/
def Obligations.MessagePort : Prop :=
  (∀ (s : State) (c : Instr) (r : Req) (m : Msg) (p : Option Nat), live s = true → msgRow s c = some (r, m, p) →
     (srcUp s r.src = false → exec c s = .next s) ∧
     (srcUp s r.src = true →
       (∀ o, stored s r = some o → exec c s = .next (emit o (heard r.src s))) ∧
       (stored s r = none → (∀ o ∈ s.mgt.owed, o.txn ≠ r.txn) → busyPort s r.src = true →
         exec c s = .next (answer r .busy [] (heard r.src s))))) ∧
  (∀ (s : State) (l : Link),
     (s.mgt.holder = some l → heard (.mgt l) s =
       { s with mgt := { s.mgt with heardNs := s.now, leaseMs := cfgField s 0x40000 12 0 } }) ∧
     (s.mgt.holder ≠ some l → heard (.mgt l) s = s) ∧ (∀ p : Fin 16, heard (.cxl p) s = s)) ∧
  (∀ (s : State) (c : Instr) (r : Req) (m : Msg) (p : Option Nat), live s = true → msgRow s c = some (r, m, p) → reaches s r = true →
     s.fw.hinge.isSome = true → m.opcode ≠ 7 →
     exec c s = .next (let h := heard r.src s; owe r 9 0 { h with fw := { h.fw with held := s.fw.held ++ [c] } }))

/-! ### Lease, status, reports, logs, sessions (R381, R393, R441, R444, R448, R454) -/

/-- Under canRun, and changing nothing but that the response goes out and the lease holder is heard: GET_VERSION answers the server, one pair,
major 1 and the highest minor (R444); FW_STATUS the state word, the image's version, the boot ROM's version and the bytes received in the session
(R447); MGT_HEARTBEAT nothing (R381); ATTEST_GET the attestation report, or IDENTITY where the module has none (R390, R393); LOG_READ of 1 to 63
entries the log entries of its window, and of another count RANGE (R454); AGE_READ up to 4,032 bytes of the latest ageing record from its offset
(R441). REPORT_ACK drops the reports of its link up to REPORT_SEQ, modulo 2^32, and REPORT_RESEND sends those that wait again (R448). -/
def Obligations.StatusReads : Prop :=
  (∀ (s : State) (r : Req), canRun s (.getVersion r) = true →
    exec (.getVersion r) s = .next (answer r .ok
      [if fwRuns s then 1#8 else 0#8, 1#8, 1#8, BitVec.ofNat 8 (match s.fw.img with | some i => i.msgMinor | none => 0)] (heard r.src s))) ∧
  (∀ (s : State) (r : Req), canRun s (.fwStatus r) = true →
    exec (.fwStatus r) s = .next (answer r .ok
      (leBytes 4 (fwState s + (if s.sys.imgOk then 8 else 0) + (if s.fw.hinged then 16 else 0))
        ++ leBytes 4 (match s.fw.img with | some i => i.version | none => 0) ++ [Config.romVersion]
        ++ leBytes 4 (match s.fw.session with | some x => x.img.length + x.hist.length | none => 0)) (heard r.src s))) ∧
  (∀ (s : State) (r : Req), canRun s (.mgtHeartbeat r) = true → exec (.mgtHeartbeat r) s = .next (answer r .ok [] (heard r.src s))) ∧
  (∀ (s : State) (r : Req) (nonce : Bytes), canRun s (.attestGet r nonce) = true →
    (s.sys.idOk = true → exec (.attestGet r nonce) s = .next (answer r .ok (attest s r.src nonce) (heard r.src s))) ∧
    (s.sys.idOk = false → exec (.attestGet r nonce) s = .next (answer r .identity [] (heard r.src s)))) ∧
  (∀ (s : State) (r : Req) (entry count : Nat), canRun s (.logRead r entry count) = true →
    (1 ≤ count → count ≤ 63 → exec (.logRead r entry count) s = .next (answer r .ok (logEntries s entry count) (heard r.src s))) ∧
    (count = 0 ∨ 63 < count → exec (.logRead r entry count) s = .next (answer r .range [] (heard r.src s)))) ∧
  (∀ (s : State) (r : Req) (off : Nat), canRun s (.ageRead r off) = true →
    exec (.ageRead r off) s = .next (answer r .ok ((s.hlt.record.drop off).take 4032) (heard r.src s))) ∧
  (∀ (s : State) (r : Req) (seq : Nat), canRun s (.reportAck r seq) = true → r.src = .mgt .a →
    exec (.reportAck r seq) s = .next (answer r .ok [] (let h := heard r.src s
      { h with fw := { h.fw with repA := s.fw.repA.filter (fun x => decide (2 ^ 31 ≤ (seq + 2 ^ 32 - x.seq) % 2 ^ 32)) } }))) ∧
  (∀ (s : State) (r : Req) (seq : Nat), canRun s (.reportAck r seq) = true → r.src = .mgt .b →
    exec (.reportAck r seq) s = .next (answer r .ok [] (let h := heard r.src s
      { h with fw := { h.fw with repB := s.fw.repB.filter (fun x => decide (2 ^ 31 ≤ (seq + 2 ^ 32 - x.seq) % 2 ^ 32)) } }))) ∧
  (∀ s : State, live s = true → exec (.reportResend .a) s =
    .next { s with out := (s.fw.repA.map (fun x => Out.report .a x.seq x.code x.payload)).reverse ++ s.out }) ∧
  (∀ s : State, live s = true → exec (.reportResend .b) s =
    .next { s with out := (s.fw.repB.map (fun x => Out.report .b x.seq x.code x.payload)).reverse ++ s.out })

/-- LEASE_TAKE of a link makes it the holder where the lease is free, is its own, or has been silent for the LEASE_MS in force (R381): the lease
is heard now under the LEASE_MS written, the response carries HOLDER, and, where the holder changed, each manager whose store has room gets
report 0x8003 with the new and the previous holder. Where another link holds it and has not been silent so long, LEASE_TAKE is refused with
LEASE. LEASE_RELEASE of the holder leaves no holder and is reported in the same way. Nothing but the lease, reports, counts and what has left the
module changes. -/
def Obligations.LeaseChanges : Prop :=
  (∀ (s : State) (r : Req) (l : Link), canRun s (.leaseTake r) = true → r.src = .mgt l →
    (s.mgt.holder = none ∨ s.mgt.holder = some l ∨ s.mgt.heardNs + s.mgt.leaseMs * 1000000 ≤ s.now →
      ∃ t, exec (.leaseTake r) s = .next t ∧ t.mgt.holder = some l ∧ t.mgt.heardNs = s.now ∧ t.mgt.leaseMs = cfgField s 0x40000 12 0 ∧
        t.mgt.last.find (linkIdx l) = some (r.txn, .resp r.src r.txn r.tag r.minor .ok [if l = .a then 1#8 else 2#8]) ∧
        (s.mgt.holder = some l → sameBut [.out, .mgt] s t) ∧
        (s.mgt.holder ≠ some l → toldBoth 0x8003 (leBytes 8 (holderCode (some l)) ++ leBytes 8 (holderCode s.mgt.holder)) s t) ∧
        sameBut [.out, .mgt, .fw, .regs] s t) ∧
    (∀ h, s.mgt.holder = some h → h ≠ l → s.now < s.mgt.heardNs + s.mgt.leaseMs * 1000000 →
      exec (.leaseTake r) s = .next (answer r .lease [] s))) ∧
  (∀ (s : State) (r : Req) (l : Link), canRun s (.leaseRelease r) = true → r.src = .mgt l →
    ∃ t, exec (.leaseRelease r) s = .next t ∧ t.mgt.holder = none ∧
      t.mgt.last.find (linkIdx l) = some (r.txn, .resp r.src r.txn r.tag r.minor .ok []) ∧
      toldBoth 0x8003 (leBytes 8 0 ++ leBytes 8 (holderCode (some l))) s t ∧ sameBut [.out, .mgt, .fw, .regs] s t)

/-- A download session (R440, R441), under canRun and where the sender may open one: FW_BEGIN of a length of 4,096 to 12,582,912 bytes and a
history of at most 1,048,576, none while firmware runs, opens the session of its port with nothing received, where no other port's session is
open and the Woquel image has not been rejected. FW_DATA of at most 4,032 bytes within the length stages them at its offset of the image (REGION
0) or of the ageing history (REGION 1). FW_ABORT closes the session. FW_SESSION_TIMEOUT closes it and keeps whose it was. Nothing else changes
but the response and the lease's renewal. -/
def Obligations.DownloadSession : Prop :=
  (∀ (s : State) (r : Req) (len hist : Nat), canRun s (.fwBegin r len hist) = true → fwDenied s r = false →
    (s.sys.imgRead = true → s.sys.imgOk = true) → (∀ x, s.fw.session = some x → x.src = r.src) → 4096 ≤ len → len ≤ 12582912 →
    hist ≤ 1048576 → (fwRuns s = true → hist = 0) →
    exec (.fwBegin r len hist) s = .next (answer r .ok [] (let h := heard r.src s
      { h with fw := { h.fw with session := some ⟨r.src, len, hist, [], []⟩, timedOut := none } }))) ∧
  (∀ (s : State) (r : Req) (off : Nat) (data : Bytes) (x : Session), canRun s (.fwData r 0 off data) = true → fwDenied s r = false →
    s.fw.session = some x → x.src = r.src → data.length ≤ 4032 → off + data.length ≤ x.imgLen →
    exec (.fwData r 0 off data) s = .next (answer r .ok [] (let h := heard r.src s
      { h with fw := { h.fw with session := some { x with img := stage x.img off data } } }))) ∧
  (∀ (s : State) (r : Req) (off : Nat) (data : Bytes) (x : Session), canRun s (.fwData r 1 off data) = true → fwDenied s r = false →
    s.fw.session = some x → x.src = r.src → data.length ≤ 4032 → off + data.length ≤ x.histLen →
    exec (.fwData r 1 off data) s = .next (answer r .ok [] (let h := heard r.src s
      { h with fw := { h.fw with session := some { x with hist := stage x.hist off data } } }))) ∧
  (∀ (s : State) (r : Req) (x : Session), canRun s (.fwAbort r) = true → fwDenied s r = false → s.fw.session = some x → x.src = r.src →
    exec (.fwAbort r) s = .next (answer r .ok [] (let h := heard r.src s; { h with fw := { h.fw with session := none } }))) ∧
  (∀ (s : State) (x : Session), live s = true → s.fw.session = some x →
    exec .fwSessionTimeout s = .next { s with fw := { s.fw with session := none, timedOut := some x.src } })

/-! ### Partitions (R351, R358 to R363, R374 to R398, R455) -/

/-- PART_SETUP of a FREE partition that meets R376 makes it IDLE with the parameters given, keeping its generation tags and invalidation number
(R376, R398). PART_BIND adds a slot of a valid attachment to an IDLE or ACTIVE partition of a node, where the slot is free and the partition is
not bound to the attachment; PART_UNBIND takes a binding off an IDLE partition whose extents are not presented there (R375, R378). Nothing else
changes but the response and the lease's renewal. PART_SETUP is refused in this order (R376, R502): queues or a table budget in spine role with
ROLE; a number above 63 with RANGE; a partition in use with STATE, one that is RELEASING with BUSY; a parameter out of range with RANGE; an
overlap with OVERLAP; a budget beyond the reserve with FULL. -/
def Obligations.PartitionSetup : Prop :=
  (∀ (s : State) (r : Req) (p : PartParams), canRun s (.partSetup r p) = true → (s.sys.spine = true → p.qCount = 0 ∧ p.budget = 0) →
    p.part ≤ 63 → (part s p.part).st = .free → setupRange p = false → setupOverlap s p = false → setupFull s p = false →
    exec (.partSetup r p) s = .next (answer r .ok [] (setPart (heard r.src s) p.part
      { Part.init with st := .idle, gen := (part s p.part).gen, retired := (part s p.part).retired, invSeq := (part s p.part).invSeq,
                       prm := p }))) ∧
  (∀ (s : State) (r : Req) (p a slot : Nat), canRun s (.partBind r p a slot) = true → s.sys.spine = false → p ≤ 63 →
    (part s p).st = .idle ∨ (part s p).st = .active → slot ≤ 3 → attachValid s a = true → partInSlot s a slot = none → boundTo s p a = false →
    exec (.partBind r p a slot) s = .next (answer r .ok [] (setPart (heard r.src s) p
      { part s p with binds := (part s p).binds.filter (fun b => b.1 < a) ++ [(a, slot)] ++ (part s p).binds.filter (fun b => a < b.1) }))) ∧
  (∀ (s : State) (r : Req) (p a slot : Nat), canRun s (.partUnbind r p a slot) = true → p ≤ 63 → (part s p).st = .idle →
    (a, slot) ∈ (part s p).binds → presents s p a = false →
    exec (.partUnbind r p a slot) s = .next (answer r .ok [] (setPart (heard r.src s) p
      { part s p with binds := (part s p).binds.filter (fun b => b ≠ (a, slot)) }))) ∧
  (∀ (s : State) (r : Req) (p : PartParams), canRun s (.partSetup r p) = true →
     (s.sys.spine = true → p.qCount ≠ 0 ∨ p.budget ≠ 0 → exec (.partSetup r p) s = .next (answer r .role [] (heard r.src s))) ∧
     ((s.sys.spine = true → p.qCount = 0 ∧ p.budget = 0) →
       (63 < p.part → exec (.partSetup r p) s = .next (answer r .range [] (heard r.src s))) ∧
       (p.part ≤ 63 →
         ((part s p.part).st ≠ .free → (part s p.part).st ≠ .releasing → exec (.partSetup r p) s = .next (answer r .state [] (heard r.src s))) ∧
         ((part s p.part).st = .releasing → exec (.partSetup r p) s = .next (answer r .busy [] (heard r.src s))) ∧
         ((part s p.part).st = .free →
           (setupRange p = true → exec (.partSetup r p) s = .next (answer r .range [] (heard r.src s))) ∧
           (setupRange p = false → setupOverlap s p = true → exec (.partSetup r p) s = .next (answer r .overlap [] (heard r.src s))) ∧
           (setupRange p = false → setupOverlap s p = false → setupFull s p = true →
             exec (.partSetup r p) s = .next (answer r .full [] (heard r.src s)))))))

/-- KEY_LOAD unwraps the job key that it carries (R384). In slot 0 of an IDLE partition, with no rebuild under way in the module, a key that
unwraps becomes the current key and makes the partition ACTIVE, its invocation counts beginning again (R385); in slot 1 of an ACTIVE one, with no
key retired too recently and the other phase, it becomes the next key. A key that does not unwrap is refused with KEY, and so is one in slot 1
whose phase is that of the current key. After a key is loaded what thereby becomes possible happens, which is nothing in a quiet state. -/
def Obligations.KeyLoad : Prop :=
  (∀ (s : State) (r : Req) (p kid : Nat) (ct wrapped : Bytes), canRun s (.keyLoad r p 0 kid ct wrapped) = true → s.sys.idOk = true → p ≤ 63 →
    (part s p).st = .idle → kid ≠ 0 → (∀ e ∈ s.pool.ext, e.2.st ≠ .rebuilding) →
    let f (k : Bytes) := freshCounts p (setPart (heard r.src s) p { part s p with cur := some ⟨kid, k, none⟩, st := .active })
    exec (.keyLoad r p 0 kid ct wrapped) s = .next (match unwrap s p kid ct wrapped with
      | some k => answer r .ok [] (settled (f k))
      | none => answer r .key [] (heard r.src s)) ∧
    (quiet s = true → ∀ k, settled (f k) = f k)) ∧
  (∀ (s : State) (r : Req) (p kid : Nat) (ct wrapped : Bytes), canRun s (.keyLoad r p 1 kid ct wrapped) = true → s.sys.idOk = true → p ≤ 63 →
    (part s p).st = .active → kid ≠ 0 → retiredRecently s p = false → samePhase s p kid = false →
    let f (k : Bytes) := setPart (heard r.src s) p { part s p with nxt := some ⟨kid, k, none⟩ }
    exec (.keyLoad r p 1 kid ct wrapped) s = .next (match unwrap s p kid ct wrapped with
      | some k => answer r .ok [] (settled (f k))
      | none => answer r .key [] (heard r.src s)) ∧
    (quiet s = true → ∀ k, settled (f k) = f k)) ∧
  (∀ (s : State) (r : Req) (p kid : Nat) (ct wrapped : Bytes), canRun s (.keyLoad r p 1 kid ct wrapped) = true → s.sys.idOk = true → p ≤ 63 →
    (part s p).st = .active → kid ≠ 0 → retiredRecently s p = false → samePhase s p kid = true →
    exec (.keyLoad r p 1 kid ct wrapped) s = .next (answer r .key [] (heard r.src s)))

/-- CONSENT_SET of an IDLE or ACTIVE partition stores a token that verifies, and empties the trace mask where its scope lacks TRACE; a token that
does not is refused with DENIED and a record (R395, R396). CONSENT_CLEAR ends consent, the trace mask, and the copying of the job (R239, R455).
TRACE_SET sets the mask of a partition that consents to TRACE and is refused with DENIED for another (R455). PART_QUERY answers the partition's
entry, parameters and bindings; DOSSIER_READ answers up to 4,032 bytes of its dossier from an offset, zeros where none is held (R363, R447).
Nothing else changes but the response and the lease's renewal. -/
def Obligations.Consent : Prop :=
  (∀ (s : State) (r : Req) (p : Nat) (tok : Bytes), canRun s (.consentSet r p tok) = true →
    (part s p).st = .idle ∨ (part s p).st = .active →
    exec (.consentSet r p tok) s = .next (
      if tokenOk s (part s p) tok then answer r .ok [] (setPart (heard r.src s) p
        { part s p with consent := some tok, trace := if leNat ((tok.drop 2).take 1) / 2 % 2 = 1 then (part s p).trace else [] })
      else answer r .denied [] (faultAny 0x1C 0 0 (some p) (heard r.src s)))) ∧
  (∀ (s : State) (r : Req) (p : Nat), canRun s (.consentClear r p) = true → p ≤ 63 → (part s p).st = .idle ∨ (part s p).st = .active →
    exec (.consentClear r p) s = .next (answer r .ok []
      (dropConsent (part s p).prm.jobTag (setPart (heard r.src s) p { part s p with consent := none, trace := [] })))) ∧
  (∀ (s : State) (r : Req) (p : Nat) (mask : Bytes), canRun s (.traceSet r p mask) = true → consents (part s p) 1 = true →
    exec (.traceSet r p mask) s = .next (answer r .ok [] (setPart (heard r.src s) p { part s p with trace := mask.take 32 }))) ∧
  (∀ (s : State) (r : Req) (p : Nat) (mask : Bytes), canRun s (.traceSet r p mask) = true → consents (part s p) 1 = false →
    exec (.traceSet r p mask) s = .next (answer r .denied [] (heard r.src s))) ∧
  (∀ (s : State) (r : Req) (p : Nat), canRun s (.partQuery r p) = true → p ≤ 63 →
    exec (.partQuery r p) s = .next (answer r .ok (partReport s p) (heard r.src s))) ∧
  (∀ (s : State) (r : Req) (p off : Nat), canRun s (.dossierRead r p off) = true → p ≤ 63 → off < 16384 →
    exec (.dossierRead r p off) s =
      .next (answer r .ok ((((s.dossiers.find p).getD (zeroBytes 16384)).drop off).take 4032) (heard r.src s)))

/-- PART_RESET of an IDLE, ACTIVE or TORN partition answers and begins its reset with the policy given, or with its own for policy 2 (R358,
R359). PART_RELEASE of an IDLE or TORN one that homes no extent answers, clears it and makes it RELEASING (R398). PART_RELEASE_SCRUB_DONE makes a
RELEASING partition FREE with the next generation tag, keeps the old tag and those that retired within 100 ms, drops its dossier and reports
0x8007 to each manager whose store has room, where its next tag did not retire within 100 ms; where it did, the partition waits (R360).
GEN_TAG_REUSE_WAIT_END lets a RELEASING partition that waits become FREE, and a RESETTING one that waits end its reset. -/
def Obligations.ResetAndRelease : Prop :=
  (∀ (s : State) (r : Req) (p pol : Nat), canRun s (.partReset r p pol) = true → p ≤ 63 → pol ≤ 2 →
    (part s p).st = .idle ∨ (part s p).st = .active ∨ (part s p).st = .torn →
    exec (.partReset r p pol) s = .next (settled
      (partReset p (if pol = 2 then (if (part s p).prm.scrub then 1 else 0) else pol) (answer r .ok [] (heard r.src s))))) ∧
  (∀ (s : State) (r : Req) (p : Nat), canRun s (.partRelease r p) = true → p ≤ 63 → (part s p).st = .idle ∨ (part s p).st = .torn →
    stillHome s p = false →
    exec (.partRelease r p) s = .next (settled (let x := clearPart p (answer r .ok [] (heard r.src s))
      setPart x p { part x p with st := .releasing, rst := none }))) ∧
  (∀ (s : State) (p : Nat), live s = true → (part s p).st = .releasing → (part s p).rst = none → genBlocked s (part s p) = false →
    ∃ t, exec (.partReleaseScrubDone p) s = .next t ∧
      (part t p =
        { Part.init with
          gen := ((part s p).gen + 1) % 256, invSeq := (part s p).invSeq,
          retired := ((part s p).gen, s.now) :: (part s p).retired.filter (fun x => decide (s.now < x.2 + 100000000)) }) ∧
      t.dossiers = s.dossiers.del p ∧ toldBoth 0x8007 (leBytes 8 p ++ leBytes 8 0) s t ∧
      sameBut [.out, .fw, .regs, .parts, .dossiers, .xlt] s t) ∧
  (∀ (s : State) (p : Nat), live s = true → (part s p).st = .releasing → (part s p).rst = none → genBlocked s (part s p) = true →
    exec (.partReleaseScrubDone p) s = .next (setPart s p { part s p with rst := some 2 })) ∧
  (∀ (s : State) (p k : Nat), live s = true → (part s p).st = .releasing → (part s p).rst = some k → 2 ≤ k →
    exec (.genTagReuseWaitEnd p) s = .next (releaseEnd p
      (setPart s p { part s p with retired := (part s p).retired.filter (fun x => x.1 ≠ ((part s p).gen + 1) % 256) }))) ∧
  (∀ (s : State) (p k : Nat), live s = true → (part s p).st = .resetting → (part s p).rst = some k → 2 ≤ k →
    exec (.genTagReuseWaitEnd p) s = .next (settled (resetTail p k
      (setPart s p { part s p with retired := (part s p).retired.filter (fun x => x.1 ≠ ((part s p).gen + 1) % 256) }))))

/-- The reset with policy PRESERVE of a TORN partition, while firmware runs, no Hinge pause is on, no response is owed, its next generation tag
did not retire within 100 ms, and no queue, engine, prefetcher, segment, prefetch or group exists (R359, R360): it becomes IDLE with the next
generation tag and its parameters kept; the old tag is kept with those that retired within 100 ms; its keys, consent and trace mask are gone; its
landing counters read 0; a dossier is written; no other partition and no part of the pool changes. -/
def Obligations.ResetOfTorn : Prop :=
  ∀ (s : State) (p : Nat), (part s p).st = .torn → genBlocked s (part s p) = false → s.fw.hinge = none → fwRuns s = true →
    s.qs.ctx = [] → s.qs.engines = [] → s.qs.fetchers = [] → s.qs.segs = [] → s.qs.pf = [] → s.col.grps = [] → s.mgt.owed = [] →
    let t := partReset p 0 s
    (part t p).st = .idle ∧ (part t p).gen = ((part s p).gen + 1) % 256 ∧ (part t p).prm = (part s p).prm ∧
    (part t p).retired = ((part s p).gen, s.now) :: (part s p).retired.filter (fun x => decide (s.now < x.2 + 100000000)) ∧
    (part t p).cur = none ∧ (part t p).nxt = none ∧ (part t p).consent = none ∧ (part t p).trace = [] ∧ (part t p).rst = none ∧
    (∀ c, (part s p).prm.cBase ≤ c → c < (part s p).prm.cBase + (part s p).prm.cCount → t.ctrs.get 0 c = 0) ∧
    (t.dossiers.find p).isSome = true ∧ (∀ q, q ≠ p → part t q = part s q) ∧ t.pool = s.pool ∧
    sameBut [.out, .seed, .fw, .regs, .flt, .parts, .dossiers, .qs, .ctrs, .fab] s t

/-- JOB_ABORT originates Deadbolt of cause 8 for its job and answers (R351). For a job without a partition here that is: the pair of this module
and its next sequence number is kept with the local time, the number rises modulo 2^32, and a message with them enters the control complex's port
for every up port (R352, R353, R354); outside repair's record, the fabric and the ports, only what has left the module and the counts may change.
A Deadbolt message on a port that is not up changes nothing. On an up port one gives back the cell that it took, and then one that was seen
within the last second does nothing else; one that was not, of a job without a partition here, is kept as seen and enters the control complex's
port for every other up port (R354). Of 4,096 pairs kept the oldest goes (R354). -/
def Obligations.Deadbolts : Prop :=
  (∀ (s : State) (r : Req) (job : Nat), canRun s (.jobAbort r job) = true →
    exec (.jobAbort r job) s = .next (answer r .ok [] (settled (originate job 8 s.sys.moduleId (2 ^ 17 - 1) (heard r.src s))))) ∧
  (∀ (s : State) (job : Nat), livePartOfJob s job = none →
    let d : Deadbolt := ⟨s.sys.moduleId, s.rep.dbSeq, job, 8, s.sys.moduleId, 2 ^ 17 - 1⟩
    let t := originate job 8 s.sys.moduleId (2 ^ 17 - 1) s
    t = ((List.range 64).filter (fun p => portUp s p)).foldl (fun s p => enterBuffer 152 (some p) (.deadbolt d 0) s)
      { s with rep := { s.rep with dbSeq := (s.rep.dbSeq + 1) % 2 ^ 32,
                                   seen := ((s.sys.moduleId, s.rep.dbSeq, s.now) :: s.rep.seen).take 4096 } } ∧
    t.rep.dbSeq = (s.rep.dbSeq + 1) % 2 ^ 32 ∧ t.rep.seen = ((s.sys.moduleId, s.rep.dbSeq, s.now) :: s.rep.seen).take 4096 ∧
    sameBut [.out, .regs, .fab, .rep, .opt] s t) ∧
  (∀ (s : State) (port : Fin 64) (d : Deadbolt), live s = true → portUp s port.val = false → exec (.deadboltMessage port d) s = .next s) ∧
  (∀ (s : State) (port : Fin 64) (d : Deadbolt), live s = true → portUp s port.val = true → seenDb s d = true →
    exec (.deadboltMessage port d) s = .next (linkWork (passCells port.val 0 1 1 s)) ∧
    sameBut [.out, .regs, .fab, .opt] s (linkWork (passCells port.val 0 1 1 s))) ∧
  (∀ (s : State) (port : Fin 64) (d : Deadbolt), live s = true → portUp s port.val = true → seenDb s d = false →
    livePartOfJob s d.job = none →
    let x := passCells port.val 0 1 1 s
    let t := ((List.range 64).filter (fun p => portUp x p && p != port.val)).foldl (fun s p => enterBuffer 152 (some p) (.deadbolt d 0) s)
      { x with rep := { x.rep with seen := ((d.origin, d.seq, s.now) :: s.rep.seen).take 4096 } }
    exec (.deadboltMessage port d) s = .next (linkWork t) ∧ sameBut [.out, .regs, .fab, .rep, .opt] s (linkWork t))

/-! ### Extents (R63 to R74, R85, R88, R304, R504 to R506) -/

/-- EXT_ADD writes a SHACKLED HOME record with the command's data in a FREE one (R63, R64, R68). EXT_PRESENT of an extent that no record here
presents writes the lowest FREE record as PRESENT, SHACKLED, and offers it to the attachments named; where a record here presents it, with the
same data, that record is offered (R64, R304). An offer changes no other record, no byte of the pool, and no record's state, and nothing outside
the pool but the CXL ports' event logs and what has left the module; offered to a single new attachment whose answer is not yet awaited, the
record has the attachment in its mask and among those whose answers are awaited, and an Add Capacity event stands at the end of the log of the
attachment's port. -/
def Obligations.ExtentRecords : Prop :=
  (∀ (s : State) (r : Req) (a : ExtAddArgs), canRun s (.extAdd r a) = true → extDenied s a.part a.job = false → s.sys.spine = false →
    (extRec s a.ext).st = .free → s.rep.leaving = false → addRange s a = false → addOverlap s a = false →
    exec (.extAdd r a) s = .next (answer r .ok [] (setExtSt a.ext
      { Ext.init with
        st := .shackled, kind := .home, log2 := a.sizeLog2, retained := a.retained, coherent := a.coherent, eid := a.ext,
        home := s.sys.moduleId, base := a.base, fva := a.fva, part := a.part, job := a.job, tenant := a.tenant } (heard r.src s)))) ∧
  (∀ (s : State) (r : Req) (a : ExtPresentArgs) (n : Nat), canRun s (.extPresent r a) = true → extDenied s a.part a.job = false →
    (∀ k ∈ definedIn s a.mask, boundTo s a.part k = true) → s.sys.spine = false → presentState s a = false → presentRange s a = false →
    presentFull s a = false → presentRec s a.home a.ext = none → freeRec s = some n →
    exec (.extPresent r a) s = .next (answer r .ok [] (offer n a.mask (setExtSt n
      { Ext.init with
        st := .shackled, kind := .present, log2 := a.sizeLog2, coherent := a.coherent, torn := (extRec s n).torn, eid := a.ext,
        home := a.home, base := a.base, fva := a.fva, part := a.part, job := a.job } (heard r.src s))))) ∧
  (∀ (s : State) (r : Req) (a : ExtPresentArgs) (n : Nat) (e : Ext), canRun s (.extPresent r a) = true → extDenied s a.part a.job = false →
    (∀ k ∈ definedIn s a.mask, boundTo s a.part k = true) → s.sys.spine = false → presentState s a = false → presentRange s a = false →
    presentOverlap s a = false → presentFull s a = false → presentRec s a.home a.ext = some (n, e) →
    exec (.extPresent r a) s = .next (answer r .ok [] (offer n a.mask (heard r.src s)))) ∧
  (∀ (s : State) (n mask : Nat), sameBut [.out, .cxl, .pool] s (offer n mask s) ∧
     (∀ k, k ≠ n → extRec (offer n mask s) k = extRec s k) ∧ (offer n mask s).pool.mem = s.pool.mem ∧
     (extRec (offer n mask s) n).st = (extRec s n).st ∧
     (∀ a, a < 16 → mask = 2 ^ a → bitOf (extRec s n).mask a = false → bitOf (extRec s n).asked a = false →
       (extRec (offer n mask s) n).mask = (extRec s n).mask + 2 ^ a ∧ (extRec (offer n mask s) n).asked = (extRec s n).asked + 2 ^ a ∧
       ∀ p, evtPort s a = some p →
         (cxlPort (offer n mask s) p).evts = (cxlPort s p).evts ++
           [⟨(cxlPort s p).evtN, 0, [extTag (extRec s n), (extRec s n).fva, (extRec s n).log2]⟩]))

/-- EXT_MIRROR of a SHACKLED extent owes its response and asks the target to create a MIRROR record (R85, R505); one that names a lost module is
refused with LOST, and the disagreement is counted, recorded and reported (R330). EXT_SHACKLE of a RETAINED extent begins the change of tenant
(R73). EXT_REVOKE answers and begins the revocation with the disposition given, with 1,000 µs where no timeout is given (R88). Each of the three
that finds another of them under way on the extent is kept with it, and its response is owed, until that one ends (R446). EXT_QUERY answers the
128 bytes of the record it names (R65), where firmware's scrub of the record has come to some mark (log entry 103), and else changes no record.
An unmirrored RETAINED extent that returns to its own tenant is SHACKLED at once under the new partition, job tag and range, its bytes and poison
untouched, no other record changed, and the response goes out (R68, R73). -/
def Obligations.ExtentChanges : Prop :=
  (∀ (s : State) (r : Req) (ext target : Nat), canRun s (.extMirror r ext target) = true → s.sys.spine = false → ext < 16384 →
    (extRec s ext).kind = .home → (extRec s ext).st = .shackled ∨ underWay s ext = true → s.rep.leaving = false →
    target ≠ s.sys.moduleId → target < 8192 → isLost s target = false →
    exec (.extMirror r ext target) s = .next (settled (let h := heard r.src s; let e := extRec s ext
      if underWay s ext then owe r 10 ext (setExt ext { e with later := e.later ++ [(r, .mirror target)] } h)
      else mctlAsk ext e target (.create e.eid e.base e.log2 e.fva e.tenant e.retained) (owe r 6 ext h)))) ∧
  (∀ (s : State) (r : Req) (ext target : Nat), canRun s (.extMirror r ext target) = true → s.sys.spine = false → ext < 16384 →
    (extRec s ext).kind = .home → (extRec s ext).st = .shackled ∨ underWay s ext = true → s.rep.leaving = false →
    target ≠ s.sys.moduleId → target < 8192 → isLost s target = true →
    exec (.extMirror r ext target) s = .next (answer r .lost [] (disagree 0x303 (heard r.src s)))) ∧
  (∀ (s : State) (r : Req) (ext p job ten fva : Nat), canRun s (.extShackle r ext p job ten fva) = true → extDenied s p job = false →
    s.sys.spine = false → ext < 16384 → (extRec s ext).kind = .home → (extRec s ext).st = .retained ∨ underWay s ext = true →
    fvaBad (extRec s ext).log2 fva = false →
    exec (.extShackle r ext p job ten fva) s = .next (settled (let h := heard r.src s; let e := extRec s ext
      if underWay s ext then owe r 10 ext (setExt ext { e with later := e.later ++ [(r, .shackle p job ten fva)] } h)
      else shackleBegin r ext p job ten fva h))) ∧
  (∀ (s : State) (r : Req) (home ext disp us : Nat), canRun s (.extRevoke r home ext disp us) = true → revokeState s home ext disp = false →
    ext < 16384 → disp ≤ 1 → (us = 0 ∨ (100 ≤ us ∧ us ≤ 1000000)) →
    exec (.extRevoke r home ext disp us) s = .next (settled (let h := heard r.src s; let n := revokeIdx s home ext; let e := extRec s n
      let us := if us = 0 then 1000 else us
      if underWay s n then owe r 10 n (setExt n { e with later := e.later ++ [(r, .revoke disp us)] } h)
      else revokeBegin n (disp == 1) us false (answer r .ok [] h)))) ∧
  (∀ (s : State) (r : Req) (home ext kind : Nat), canRun s (.extQuery r home ext kind) = true → ext < 16384 → kind ≤ 2 → home < 8192 →
    (let x := scrubSeen (heard r.src s) home ext kind
     exec (.extQuery r home ext kind) s = .next (answer r .ok (extBytes x (queryRec x home ext kind)) x)) ∧
    ((∀ n, queryIdx s home ext kind = some n → (extRec s n).scrubbing = false) → scrubSeen (heard r.src s) home ext kind = heard r.src s)) ∧
  (∀ (s : State) (r : Req) (ext p job fva : Nat), (extRec s ext).mv = false → (extRec s ext).scrubbing = false →
     mctlOpen s ext isScrub = false → s.mgt.owed = [] →
     let t := shackleBegin r ext p job (extRec s ext).tenant fva s
     extRec t ext = { extRec s ext with st := .shackled, part := p, job := job, fva := fva, want := none, dbSeen := false, retain := false } ∧
     (∀ k, k ≠ ext → extRec t k = extRec s k) ∧ t.pool.mem = s.pool.mem ∧ t.pool.bad = s.pool.bad ∧ t.mgt.owed = [] ∧
     t.out = Out.resp r.src r.txn r.tag r.minor .ok [] :: s.out ∧ sameBut [.out, .mgt, .fw, .pool] s t)

/-- A revocation begins, of a record that is not rebuilding and not coherent, with its timeout running: the record is REVOKING with the
disposition and timeout given and nothing accepted or ended; it is TORN where it was, or where it keeps its data and was reached by Deadbolt; no
other record changes and no byte of the pool; the extent's segments are dropped; nothing outside the pool and the queues changes but the event
logs of its attachments, what has left the module, and the log (R74, R88, R149, R306). FORCED_REVOKE_TIMEOUT of a record that drains ends the
requests and prefetches in flight, where there are any (R88 step 4, R89), and else changes nothing. REVOKE_DRAIN_DONE goes on where nothing is in
flight and no host holds a line (R88 steps 3 and 5). SCRUB_DONE ends the scrub of a record (R73, R88). -/
def Obligations.RevocationBegins : Prop :=
  (∀ (s : State) (n us : Nat) (keep : Bool), (extRec s n).st ≠ .rebuilding → (extRec s n).coherent = false →
     let t := revokeBegin n keep us false s
     (extRec t n).st = .revoking ∧ (extRec t n).retain = keep ∧ (extRec t n).forcedUs = us ∧ (extRec t n).accepted = 0 ∧
     (extRec t n).ended = 0 ∧ (extRec t n).torn = ((extRec s n).torn || (keep && (extRec s n).dbSeen)) ∧
     (∀ k, k ≠ n → extRec t k = extRec s k) ∧ t.pool.mem = s.pool.mem ∧
     t.qs.segs = s.qs.segs.filter (fun x => !(x.home == (extRec s n).home && x.ext == (extRec s n).eid)) ∧
     sameBut [.out, .fw, .cxl, .pool, .qs] s t) ∧
  (∀ (s : State) (kind n : Nat), live s = true → draining (extRec s n) kind = true → stillOpen s (extRec s n) = true →
    exec (.forcedRevokeTimeout kind n) s = .next (settled (revokeForce n s))) ∧
  (∀ (s : State) (kind n : Nat), live s = true → draining (extRec s n) kind = true → stillOpen s (extRec s n) = false →
    exec (.forcedRevokeTimeout kind n) s = .next s) ∧
  (∀ (s : State) (kind n : Nat), live s = true → draining (extRec s n) kind = true → stillOpen s (extRec s n) = false →
    linesHeld s (extRec s n) = false → exec (.revokeDrainDone kind n) s = .next (settled (revokeDrained n s))) ∧
  (∀ (s : State) (kind n : Nat), live s = true → (extRec s n).scrubbing = true → (extRec s n).kind.code = kind →
    exec (.scrubDone kind n) s = .next (settled (scrubEnd n s)))

/-- The end of the scrub of a HOME extent in revocation that frees it, with no exchange with a second copy open: every byte of its range reads
zero and every other byte of the pool as before; none of its words is poison; the record is FREE but for TORN and no other record changes; each
manager whose store has room gets report 0x8008 with the extent's identifier and the requests ended; nothing else changes but what has left the
module, the log and counts (R73, R74, R88, R449). -/
def Obligations.ScrubZeroes : Prop :=
  ∀ (s : State) (n : Nat), (extRec s n).kind = .home →
    (extRec s n).st = .revoking → (extRec s n).retain = false → (extRec s n).base % 64 = 0 → 6 ≤ (extRec s n).log2 →
    mctlOpen s n isCreate = false → mctlOpen s n isRevoke = false →
    let e := extRec s n
    let t := scrubEnd n s
    (∀ a, e.base ≤ a → a < e.base + 2 ^ e.log2 → t.pool.mem.get 0#8 a = 0#8) ∧
    (∀ a, a < e.base ∨ e.base + 2 ^ e.log2 ≤ a → t.pool.mem.get 0#8 a = s.pool.mem.get 0#8 a) ∧
    (∀ w, e.base ≤ 8 * w → 8 * w < e.base + 2 ^ e.log2 → badWord t w = false) ∧
    extRec t n = { Ext.init with torn := e.torn } ∧ (∀ k, k ≠ n → extRec t k = extRec s k) ∧
    toldBoth 0x8008 (leBytes 8 e.eid ++ leBytes 8 e.ended) s t ∧ sameBut [.out, .fw, .regs, .pool] s t

/-! ### Translation (R92 to R118) -/

/-- XLT_MAP of leaves that R96 accepts, that cut and overlap no other page, writes them one after another into the partition's tables, a leaf
whose V is 0 unmapping its page, and answers the digest, where the partition's budget has room for the tables; where it has none, the command is
refused with FULL and nothing is mapped (R96, R97, R99, R101). XLT_UNMAP of a range of whole pages that cuts no larger page unmaps it and answers
the digest (R99, R101). Either changes nothing outside partition entries, translation caches and which words of the pool are poison, but that
free values are taken for the places of tables (log entry 98); it changes no other partition, and of its own only the tables, their entries and
the digest; it stores to no byte of the pool's extents. -/
def Obligations.MapAndUnmap : Prop :=
  (∀ (s : State) (r : Req) (p fva lg lv : Nat) (ls : List (BitVec 128)), canRun s (.xltMap r p fva lg ls) = true → s.sys.spine = false →
    (lg = 16 ∧ lv = 4 ∨ lg = 21 ∧ lv = 3 ∨ lg = 30 ∧ lv = 2) → mapRange (part s p) fva lg ls = false →
    mapOverlap (part s p) fva lv ls = false →
    (∀ t, mapAll p lv (mapPages fva lv ls) (heard r.src s) = some t →
      exec (.xltMap r p fva lg ls) s = .next (answer r .ok (leBytes 8 (part t p).digest.toNat) t)) ∧
    (mapAll p lv (mapPages fva lv ls) (heard r.src s) = none → exec (.xltMap r p fva lg ls) s = .next (answer r .full [] (heard r.src s)))) ∧
  (∀ (s : State) (r : Req) (p fva n : Nat), canRun s (.xltUnmap r p fva n) = true → s.sys.spine = false → rangeBad fva n = false →
    cutsPage (part s p) (fva / 65536) ((fva + n) / 65536) = false →
    let t := unmapPages p (fva / 65536) ((fva + n) / 65536) (heard r.src s)
    exec (.xltUnmap r p fva n) s = .next (answer r .ok (leBytes 8 (part t p).digest.toNat) t)) ∧
  (∀ (s t : State) (p lv : Nat) (es : List (Nat × BitVec 128)), mapAll p lv es s = some t →
    (∀ q, q ≠ p → part t q = part s q) ∧
    part t p = { part s p with tabs := (part t p).tabs, ents := (part t p).ents, digest := (part t p).digest } ∧
    t.pool = { s.pool with bad := t.pool.bad } ∧ sameBut [.seed, .parts, .pool, .xlt] s t) ∧
  (∀ (s : State) (p lo hi : Nat), let t := unmapPages p lo hi s
    (∀ q, q ≠ p → part t q = part s q) ∧
    part t p = { part s p with tabs := (part t p).tabs, ents := (part t p).ents, digest := (part t p).digest } ∧
    t.pool = { s.pool with bad := t.pool.bad } ∧ sameBut [.parts, .pool, .xlt] s t)

/-- Of a partition without tables, in a module with a pool reserve: once a valid leaf has been written at its page of level 2, 3 or 4, a walk that
finds nothing in the walk cache passes as many entries as the level says, from the root table at level 1, and ends at that leaf for every FVA of
its page (R93 to R95, R99, R102); for every other FVA it ends unmapped; the tables take 32,768 bytes, 8,192 for each of levels 2 and 3, and 512 for
level 4 (R93, R97); the digest has changed by the leaf's share (R101). -/
def Obligations.FirstLeafWalks : Prop :=
  ∀ (s t : State) (p page lv : Nat) (l : BitVec 128), (part s p).tabs = [] → (part s p).ents = [] → s.sys.reserveGiB ≠ 0 → 2 ≤ lv → lv ≤ 4 →
    page < 2 ^ 34 → page % pagesAt lv = 0 → Leaf.v l = true → Leaf.isLeaf l = true → leafOk lv l = true → mapLeaf p page lv l s = some t →
    (∀ g, page ≤ g → g < page + pagesAt lv →
      (walkWith t p (fun _ => none) g).fin = .leaf lv l ∧ (walkWith t p (fun _ => none) g).path.length = lv) ∧
    (∀ g, g < 2 ^ 34 → g < page ∨ page + pagesAt lv ≤ g → (walkWith t p (fun _ => none) g).fin = .unmapped) ∧
    tableBytes (part t p) = 32768 + 8192 + (if 3 ≤ lv then 8192 else 0) + (if lv = 4 then 512 else 0) ∧
    (part t p).digest = (part s p).digest ^^^ leafDigest page lv l

/-- XLT_INVAL of a range of whole pages, with fewer than 64 under way, raises the partition's invalidation number modulo 65,536, removes the
cached translations of the partition's pages that overlap the range, all its pointers in the walk cache and its prefetched segments in the range,
and owes its response; one of everything does so for every page (R113, R116, R118). With 64 under way it is refused with BUSY (R116).
XLT_INVAL_DRAIN_DONE sends the owed response with the number of an XLT_INVAL of its port that nothing in flight holds open any more, and changes
nothing where there is none (R116, R117). XLT_QUERY answers the levels, leaf and entry addresses that a walk of the table gives, and the digest
(R99, R101). Outside management, partitions, translation and queues XLT_INVAL changes nothing. -/
def Obligations.Invalidation : Prop :=
  (∀ (s : State) (r : Req) (p fva n : Nat), canRun s (.xltInval r p false fva n) = true → s.sys.spine = false → s.xlt.invals.length < 64 →
    rangeBad fva n = false →
    ∃ t, exec (.xltInval r p false fva n) s = .next t ∧
      t.xlt.cache = s.xlt.cache.filter (fun c => !(c.part == p && decide (c.page < (fva + n) / 65536) &&
        decide (fva / 65536 < c.page + pagesAt c.level))) ∧
      t.xlt.invals = s.xlt.invals ++ [⟨r.src, p, fva / 65536, (fva + n) / 65536, ((part s p).invSeq + 1) % 65536,
        (s.qs.pf.filter (fun f => f.2.part == p)).map Prod.fst⟩] ∧
      t.xlt.ptrs = s.xlt.ptrs.filter (fun c => c.part != p) ∧ t.xlt.walks = s.xlt.walks ∧
      t.parts = s.parts.put Part.init p { part s p with invSeq := ((part s p).invSeq + 1) % 65536 } ∧
      t.qs.segs = s.qs.segs.filter (fun g => !(g.part == p && decide (fva / 65536 ≤ g.page) && decide (g.page < (fva + n) / 65536))) ∧
      t.mgt.owed = s.mgt.owed ++ [⟨r.src, r.txn, r.tag, r.minor, 1, srcKey r.src⟩] ∧ sameBut [.mgt, .parts, .xlt, .qs] s t) ∧
  (∀ (s : State) (r : Req) (p fva n : Nat), canRun s (.xltInval r p true fva n) = true → s.sys.spine = false → s.xlt.invals.length < 64 →
    ∃ t, exec (.xltInval r p true fva n) s = .next t ∧
      t.xlt.cache = s.xlt.cache.filter (fun c => !(c.part == p && decide (c.page < 2 ^ 34) && decide (0 < c.page + pagesAt c.level))) ∧
      t.xlt.ptrs = s.xlt.ptrs.filter (fun c => c.part != p) ∧ (part t p).invSeq = ((part s p).invSeq + 1) % 65536 ∧
      t.qs.segs = s.qs.segs.filter (fun g => !(g.part == p && decide (g.page < 2 ^ 34))) ∧
      t.mgt.owed = s.mgt.owed ++ [⟨r.src, r.txn, r.tag, r.minor, 1, srcKey r.src⟩] ∧ sameBut [.mgt, .parts, .xlt, .qs] s t) ∧
  (∀ (s : State) (r : Req) (p fva n : Nat) (all : Bool), canRun s (.xltInval r p all fva n) = true → s.sys.spine = false →
    64 ≤ s.xlt.invals.length → exec (.xltInval r p all fva n) s = .next (answer r .busy [] (heard r.src s))) ∧
  (∀ (s : State) (i : Inval) (o : Owed), live s = true → s.xlt.invals.find? (fun x => x.src == i.src && !invalOpen s x) = some i →
    s.mgt.owed.filter (fun x => x.why == 1 && x.key == srcKey i.src) = [o] →
    exec (.xltInvalDrainDone i.src) s = .next (respond o.src o.txn o.tag o.minor .ok (leBytes 2 i.seq)
      { s with
        xlt := { s.xlt with invals := s.xlt.invals.erase i },
        mgt := { s.mgt with owed := s.mgt.owed.filter (fun x => !(x.why == 1 && x.key == srcKey i.src)) } })) ∧
  (∀ (s : State) (src : Src), live s = true → (∀ x ∈ s.xlt.invals, x.src = src → invalOpen s x = true) → exec (.xltInvalDrainDone src) s = .next s) ∧
  (∀ (s : State) (r : Req) (p fva : Nat), canRun s (.xltQuery r p fva) = true → s.sys.spine = false → p ≤ 63 → fva < 2 ^ 50 →
    exec (.xltQuery r p fva) s = .next (answer r .ok (queryWalk s p fva) (heard r.src s)))

/-! ### Queues (R119 to R123) -/

/-- QUE_CREATE makes a DISABLED queue of a partition RUNNING for the sender's attachment with the command's rings, class, weight and vector and
its indices 0 (R119, R120). QUE_RESUME lets a HALTED queue run whose partition is not TORN. QUE_DESTROY disables a queue without a started
operation and releases its engine, its prefetcher and its segments; with one it is refused with BUSY. QUE_QUERY answers the queue's state (R121).
Each changes nothing else but the response, the lease's renewal and, after QUE_RESUME, what has thereby become possible, which is nothing in a
quiet state. -/
def Obligations.QueueCommands : Prop :=
  (∀ (s : State) (r : Req) (a : QueArgs) (p att : Nat), canRun s (.queCreate r a) = true → (que s a.q).st = .disabled → queRange a = false →
    partOfQueue s a.q = some p → srcAttach s r.src = some att →
    exec (.queCreate r a) s = .next (answer r .ok [] (setQue (heard r.src s) a.q
      { Que.init with
        st := .running, part := p, attach := att, cls := a.cls, weight := a.weight, sqBase := a.sqBase, sqLog2 := a.sqLog2,
        cqBase := a.cqBase, cqLog2 := a.cqLog2, msix := a.msix }))) ∧
  (∀ (s : State) (r : Req) (q : Nat), canRun s (.queResume r q) = true → (que s q).st = .halted → (part s (que s q).part).st ≠ .torn →
    answersAfter (.queResume r q) s r (setQue (heard r.src s) q { que s q with st := .running })) ∧
  (∀ (s : State) (r : Req) (q : Nat), canRun s (.queDestroy r q) = true → (que s q).st ≠ .disabled → (que s q).ops = [] →
    ∃ t, exec (.queDestroy r q) s = .next t ∧ t.qs.ctx = s.qs.ctx.del q ∧ (∀ e ∈ t.qs.engines, e ∈ s.qs.engines ∧ e.2.q ≠ q) ∧
      t.qs.fetchers = s.qs.fetchers.del q ∧ t.qs.segs = s.qs.segs.filter (fun x => !(x.q == q)) ∧
      t.out = Out.resp r.src r.txn r.tag r.minor .ok [] :: s.out ∧ sameBut [.out, .mgt, .qs] s t) ∧
  (∀ (s : State) (r : Req) (q : Nat), canRun s (.queDestroy r q) = true → (que s q).st ≠ .disabled → (que s q).ops ≠ [] →
    exec (.queDestroy r q) s = .next (answer r .busy [] (heard r.src s))) ∧
  (∀ (s : State) (r : Req) (q : Nat), canRun s (.queQuery r q) = true →
    exec (.queQuery r q) s = .next (answer r .ok (queReport (que s q)) (heard r.src s)))

/-! ### Groups (R152 to R159, R184) -/

/-- GRP_CREATE opens a FREE context in BUILDING with the parameters given, depth 8 where none is given, and no members, hosts or digest (R154,
R155). In BUILDING, GRP_MEMBERS writes the EPIDs of ranks and GRP_HOSTS adds entries of the host map (R154, R156); GRP_ARM makes a context whose
every rank is written ACTIVE under the digest that it answers, every sequence number 0 (R154, R157, R167). GRP_DESTROY answers after destroyGrp,
which for a context in which no collective runs frees the context with its work and changes nothing else (R154). GRP_QUERY answers grpReport
(R154). Each changes nothing else but the response, the lease's renewal and, after GRP_DESTROY, what has thereby become possible. -/
def Obligations.GroupBuilding : Prop :=
  (∀ (s : State) (r : Req) (p : GrpParams), canRun s (.grpCreate r p) = true → grpDenied s p = false → s.rep.leaving = false →
    grpRange p = false → grpOverlap s p = false → grpFull s p = false →
    ∃ t, exec (.grpCreate r p) s = .next t ∧ (∃ g, t.col.grps = s.col.grps.ins p.ctx g ∧ g.st = .building ∧ g.p = p ∧ g.members = [] ∧
      g.hosts = [] ∧ g.digest = 0 ∧ g.seqs = [] ∧ g.abort = none ∧ g.depth = (if p.depth = 0 then 8 else p.depth)) ∧
      t.col.mems = s.col.mems ∧ t.col.verts = s.col.verts ∧ t.col.tops = s.col.tops ∧
      t.out = Out.resp r.src r.txn r.tag r.minor .ok [] :: s.out ∧ sameBut [.out, .mgt, .col] s t) ∧
  (∀ (s : State) (r : Req) (ctx first : Nat) (es : List Nat) (g : Grp), canRun s (.grpMembers r ctx first es) = true →
    memberDenied s ctx es = false → ctx ≤ 4095 → s.col.grps.find ctx = some g → g.st = .building → memberRange s ctx first es = false →
    memberOverlap s ctx first es = false →
    exec (.grpMembers r ctx first es) s = .next (answer r .ok [] (setGrp ctx { g with members := withMembers g first es } (heard r.src s)))) ∧
  (∀ (s : State) (r : Req) (ctx : Nat) (es : List HostEntry) (g : Grp), canRun s (.grpHosts r ctx es) = true → ctx ≤ 4095 →
    s.col.grps.find ctx = some g → g.st = .building → hostsRange s ctx es = false → (∀ h ∈ es, isLost s h.host = false) →
    memberSum s + 3 * es.length ≤ 3145728 →
    exec (.grpHosts r ctx es) s = .next (answer r .ok [] (setGrp ctx { g with hosts := g.hosts ++ es } (heard r.src s)))) ∧
  (∀ (s : State) (r : Req) (ctx : Nat) (g : Grp), canRun s (.grpArm r ctx) = true → ctx ≤ 4095 → s.col.grps.find ctx = some g →
    g.st = .building → g.p.n ≤ g.members.length → armKey s ctx = false →
    exec (.grpArm r ctx) s = .next (answer r .ok (leBytes 8 (grpDigest g.p g.members g.hosts))
      (setGrp ctx { g with st := .active, digest := grpDigest g.p g.members g.hosts, seqs := [] } (heard r.src s)))) ∧
  (∀ (s : State) (r : Req) (ctx : Nat), canRun s (.grpDestroy r ctx) = true → ctx ≤ 4095 → (s.col.grps.find ctx).isSome = true →
    exec (.grpDestroy r ctx) s = .next (answer r .ok [] (settled (destroyGrp ctx (heard r.src s))))) ∧
  (∀ (s : State) (ctx : Nat), colRunning s ctx = [] → destroyGrp ctx s =
    { s with col := { s.col with
                      grps := s.col.grps.del ctx, mems := s.col.mems.filter (fun m => m.ctx ≠ ctx),
                      verts := s.col.verts.filter (fun v => v.ctx ≠ ctx), tops := s.col.tops.filter (fun t => t.ctx ≠ ctx) } }) ∧
  (∀ (s : State) (r : Req) (ctx : Nat), canRun s (.grpQuery r ctx) = true → ctx ≤ 4095 →
    exec (.grpQuery r ctx) s = .next (answer r .ok (grpReport s ctx) (heard r.src s)))

/-! ### Endpoints, trees, the analysis port (R210 to R214, R227 to R239) -/

/-- Where no packet waits for a route: EPID_ASSIGN of an unused EPID of this module writes its entry, LOCAL and without members; PATH_VER rises,
modulo 65,536, where it had members or DETOUR (R210, R214); a pool's enters the home map with LOST clear (R106); an EPID of this module is in
service again (R329). That of an unused EPID of another module, which no flow of this module names, takes the path set of R327, PATH_VER rising
where the members or DETOUR come to differ (R214); no other entry changes, and nothing outside management, the fabric and repair. EPID_ASSIGN of
a valid entry is refused with OVERLAP (R210). EPID_RELEASE makes an entry invalid and frees the flows of its EPID (R210, R331). TREE_WRITE by a
partition that holds the entry's job writes a tree entry, and TREE_CLEAR makes one invalid; while a packet uses the entry both are refused with
BUSY (R227, R231). FAB_QUERY answers the bytes of an endpoint entry, of a tree entry, or the analysis port's register and its jobs (R210, R214,
R227). Each changes nothing else but the response, the lease's renewal and, after EPID_ASSIGN and EPID_RELEASE, what has thereby become possible.
-/
def Obligations.EndpointTable : Prop :=
  (∀ (s : State) (r : Req) (e kind att home : Nat), canRun s (.epidAssign r e kind att home) = true → home = s.sys.moduleId →
    (s.sys.spine = true → kind = 2) → assignRange s e kind att home = false → (endpoint s e).v = false → s.fab.noRoute = [] →
    answersAfter (.epidAssign r e kind att home) s r (let h := heard r.src s
      { h with
        fab := { s.fab with
          ep := s.fab.ep.put Ep.init e ⟨true, true, kind, att, home, false,
            ((endpoint s e).pathVer + bit ((endpoint s e).detour || !(endpoint s e).members.isEmpty)) % 65536, []⟩,
          homeMap := if kind = 1 then s.fab.homeMap.ins home (e, false) else s.fab.homeMap },
        rep := { s.rep with out := s.rep.out.filter (fun x => x ≠ e) } })) ∧
  (∀ (s : State) (r : Req) (e kind att home : Nat), canRun s (.epidAssign r e kind att home) = true → home ≠ s.sys.moduleId →
    assignRange s e kind att home = false → (endpoint s e).v = false → s.fab.noRoute = [] →
    (∀ f ∈ s.fab.sflow, f.1 / 8 % 2 ^ 17 ≠ e) →
    ∃ x t, exec (.epidAssign r e kind att home) s = .next (answer r .ok [] (settled t)) ∧ (quiet s = true → settled t = t) ∧
      t.fab.ep.get Ep.init e = x ∧ x.v = true ∧ x.isLocal = false ∧ x.kind = kind ∧ x.attach = att ∧ x.home = home ∧
      (∀ k, k ≠ e → endpoint t k = endpoint s k) ∧ x.members = (pathSet s home).1 ∧ x.detour = (pathSet s home).2 ∧
      x.pathVer = ((endpoint s e).pathVer +
        (if (pathSet s home).1 = (endpoint s e).members ∧ (pathSet s home).2 = (endpoint s e).detour then 0 else 1)) % 65536 ∧
      t.fab.homeMap = (if kind = 1 then s.fab.homeMap.ins home (e, false) else s.fab.homeMap) ∧ sameBut [.mgt, .fab, .rep] s t) ∧
  (∀ (s : State) (r : Req) (e kind att home : Nat), canRun s (.epidAssign r e kind att home) = true →
    assignRange s e kind att home = false → (s.sys.spine = true → home = s.sys.moduleId → kind = 2) → (endpoint s e).v = true →
    exec (.epidAssign r e kind att home) s = .next (answer r .overlap [] (heard r.src s))) ∧
  (∀ (s : State) (r : Req) (e : Nat), canRun s (.epidRelease r e) = true → e < 131072 → (endpoint s e).v = true →
    answersAfter (.epidRelease r e) s r (let h := heard r.src s
      { h with
        fab := { s.fab with
          ep := s.fab.ep.put Ep.init e { endpoint s e with v := false },
          sflow := s.fab.sflow.keep (fun k _ => !(k / 8 / 2 ^ 17 == e || k / 8 % 2 ^ 17 == e)),
          dflow := s.fab.dflow.keep (fun k _ => !(k / 8 / 2 ^ 17 == e || k / 8 % 2 ^ 17 == e)) } })) ∧
  (∀ (s : State) (r : Req) (n : Nat) (e : TreeEntry), canRun s (.treeWrite r n e) = true → treeDenied s e = false → treeBusy s n = false →
    treeRange n e = false → treeLost s e = false →
    exec (.treeWrite r n e) s = .next (answer r .ok [] (let h := heard r.src s
      { h with fab := { s.fab with trees := s.fab.trees.put TreeEntry.init n e } }))) ∧
  (∀ (s : State) (r : Req) (n : Nat) (e : TreeEntry), canRun s (.treeWrite r n e) = true → treeDenied s e = false → treeBusy s n = true →
    exec (.treeWrite r n e) s = .next (answer r .busy [] (heard r.src s))) ∧
  (∀ (s : State) (r : Req) (n : Nat), canRun s (.treeClear r n) = true → n ≤ 8191 → treeBusy s n = false →
    exec (.treeClear r n) s = .next (answer r .ok [] (let h := heard r.src s
      { h with fab := { s.fab with trees := s.fab.trees.put TreeEntry.init n { tree s n with v := false } } }))) ∧
  (∀ (s : State) (r : Req) (n : Nat), canRun s (.treeClear r n) = true → n ≤ 8191 → treeBusy s n = true →
    exec (.treeClear r n) s = .next (answer r .busy [] (heard r.src s))) ∧
  (∀ (s : State) (r : Req) (idx : Nat), canRun s (.fabQuery r 0 idx) = true → idx < 131072 →
    exec (.fabQuery r 0 idx) s = .next (answer r .ok (epBytes (endpoint s idx)) (heard r.src s))) ∧
  (∀ (s : State) (r : Req) (idx : Nat), canRun s (.fabQuery r 1 idx) = true → idx ≤ 8191 →
    exec (.fabQuery r 1 idx) s = .next (answer r .ok (treeBytes (tree s idx)) (heard r.src s))) ∧
  (∀ (s : State) (r : Req) (idx : Nat), canRun s (.fabQuery r 2 idx) = true →
    exec (.fabQuery r 2 idx) s = .next (answer r .ok
      (leBytes 4 (roReg s 0x60018) ++ s.fab.ana.jobs.flatMap (fun j => leBytes 4 j)) (heard r.src s)))

/-- ANA_SET, where no analysis port is enabled and its parameters are in range, starts copying (setAna, R235, R237). ANA_CONSENT adds the job of
a token that verifies with scope ANALYSIS, a job not yet listed, up to 16; a token that does not is refused with DENIED and a record, a
seventeenth job with FULL (R236, R395, R396). ANA_CLEAR of one job removes it with its queued copies; with DISABLE copying stops and no copy
stays queued, and where this changes what the module reports of its ports it originates an LSA; ANA_CLEAR of all leaves no job, and changes no
endpoint and no tree entry (R239). -/
def Obligations.AnalysisPort : Prop :=
  (∀ (s : State) (r : Req) (a : AnaArgs), canRun s (.anaSet r a) = true → s.fab.ana.en = false → anaRange a = false →
    exec (.anaSet r a) s = .next (answer r .ok [] (settled (setAna a (heard r.src s))))) ∧
  (∀ (s : State) (r : Req) (tok : Bytes), canRun s (.anaConsent r tok) = true → leNat ((tok.drop 4).take 4) ∉ s.fab.ana.jobs →
    exec (.anaConsent r tok) s = .next (let h := heard r.src s
      if anaTokenOk s tok = false then answer r .denied [] (faultAny 0x1C 0 0 (anaPart s tok) h)
      else if s.fab.ana.jobs.length < 16 then answer r .ok []
        { h with fab := { s.fab with ana := { s.fab.ana with jobs := s.fab.ana.jobs ++ [leNat ((tok.drop 4).take 4)] } } }
      else answer r .full [] h)) ∧
  (∀ (s : State) (r : Req) (job : Nat), canRun s (.anaClear r false false job) = true →
    answersAfter (.anaClear r false false job) s r (let h := heard r.src s
      { h with fab := { s.fab with ana := { s.fab.ana with jobs := s.fab.ana.jobs.filter (fun j => j ≠ job),
                                                           queue := s.fab.ana.queue.filter (fun x => x.1 ≠ job) } } })) ∧
  (∀ (s : State) (r : Req) (job : Nat), canRun s (.anaClear r false true job) = true →
    exec (.anaClear r false true job) s = .next (answer r .ok [] (settled (let h := heard r.src s
      changeLsa { h with fab := { s.fab with ana := { s.fab.ana with jobs := s.fab.ana.jobs.filter (fun j => j ≠ job),
                                                                     en := false, queue := [] } } })))) ∧
  (∀ (s : State) (r : Req) (off : Bool) (job : Nat), canRun s (.anaClear r true off job) = true →
    ∃ t, exec (.anaClear r true off job) s = .next (answer r .ok [] (settled t)) ∧ t.fab.ana.jobs = [] ∧
      t.fab.ana.en = (s.fab.ana.en && !off) ∧ (off = true → t.fab.ana.queue = []) ∧
      (off = false → t.fab.ana.queue = s.fab.ana.queue.filter (fun x => !s.fab.ana.jobs.contains x.1)) ∧
      t.fab.ep = s.fab.ep ∧ t.fab.trees = s.fab.trees ∧ sameBut (if off then [.out, .mgt, .regs, .fab, .rep, .opt] else [.mgt, .fab]) s t)

/-! ### Power (R400 to R412, R423, R427) -/

/-- POWER_LIT in DARK answers and makes the state LIGHTING, where no plan of the start-up runs by lighting the ports at once (lightUp); in
another state it is refused with STATE (R402, R421). POWER_DARK in LIT answers and begins to turn the ports off (darken), but with a partition
ACTIVE or TORN it is refused with BUSY (R402). LIGHTING_DONE in LIGHTING, with every enabled port past step 6 of its training, makes the state
LIT and enables CXL.mem as the start-up says (enableMem, R431); outside LIGHTING it changes nothing. DARKENING_DONE in DARKENING, with every port
OFF, makes the state DARK and brings the CXL links to rest (restPorts, R295); outside DARKENING it changes nothing. SELFTEST (R423): kind 0, the
voltage test, answers; kind 1, OPT_CAL, runs a rotation step of an UP port and is refused with STATE for another port and with RANGE for none;
kind 2, SRAM_BIST, answers and resets FULL; kind 3, GDDR_RETRAIN, trains every channel of a node and is refused with ROLE in spine role; kinds 2
and 3 are refused with BUSY while a bound partition is ACTIVE; another kind is refused with RANGE; each refusal is counted. -/
def Obligations.PowerStates : Prop :=
  (∀ (s : State) (r : Req), canRun s (.powerLit r) = true → s.pwr.st = .dark → s.pwr.starting = true →
    exec (.powerLit r) s = .next (answer r .ok [] (let h := heard r.src s; { h with pwr := { s.pwr with st := .lighting } }))) ∧
  (∀ (s : State) (r : Req), canRun s (.powerLit r) = true → s.pwr.st = .dark → s.pwr.starting = false →
    exec (.powerLit r) s = .next (answer r .ok [] (lightUp (heard r.src s)))) ∧
  (∀ (s : State) (r : Req), canRun s (.powerLit r) = true → s.pwr.st ≠ .dark →
    exec (.powerLit r) s = .next (answer r .state [] (heard r.src s))) ∧
  (∀ (s : State) (r : Req), canRun s (.powerDark r) = true → s.pwr.st = .lit → anyBusy s = false →
    exec (.powerDark r) s = .next (answer r .ok [] (darken (heard r.src s)))) ∧
  (∀ (s : State) (r : Req), canRun s (.powerDark r) = true → s.pwr.st = .lit → anyBusy s = true →
    exec (.powerDark r) s = .next (answer r .busy [] (heard r.src s))) ∧
  (∀ s : State, live s = true → s.pwr.st = .lighting → portsLit s = true →
    endsIn .lightingDone s (enableMem { s with pwr := { s.pwr with st := .lit } })) ∧
  (∀ s : State, live s = true → s.pwr.st ≠ .lighting → endsIn .lightingDone s s) ∧
  (∀ s : State, live s = true → s.pwr.st = .darkening → (∀ e ∈ s.opt, e.2.st = .off) →
    exec .darkeningDone s = .next (restPorts { s with pwr := { s.pwr with st := .dark } })) ∧
  (∀ s : State, live s = true → s.pwr.st ≠ .darkening → exec .darkeningDone s = .next s) ∧
  (∀ (s : State) (r : Req) (p : Nat), canRun s (.selftest r 0 p) = true →
    exec (.selftest r 0 p) s = .next (answer r .ok [] (heard r.src s))) ∧
  (∀ (s : State) (r : Req) (p : Nat), canRun s (.selftest r 1 p) = true → p < 64 → (optPort s p).st = .up →
    exec (.selftest r 1 p) s = .next (answer r .ok [] (rotate p (heard r.src s)))) ∧
  (∀ (s : State) (r : Req) (p : Nat), canRun s (.selftest r 1 p) = true → p < 64 → (optPort s p).st ≠ .up →
    exec (.selftest r 1 p) s = .next (answer r .state [] (bump 0x3000C (heard r.src s)))) ∧
  (∀ (s : State) (r : Req) (p : Nat), canRun s (.selftest r 1 p) = true → 64 ≤ p →
    exec (.selftest r 1 p) s = .next (answer r .range [] (bump 0x3000C (heard r.src s)))) ∧
  (∀ (s : State) (r : Req) (p : Nat), canRun s (.selftest r 2 p) = true → intrusiveBusy s = false →
    exec (.selftest r 2 p) s = .next (softReset true 5 true (answer r .ok [] (heard r.src s)))) ∧
  (∀ (s : State) (r : Req) (p : Nat), canRun s (.selftest r 2 p) = true → intrusiveBusy s = true →
    exec (.selftest r 2 p) s = .next (answer r .busy [] (bump 0x3000C (heard r.src s)))) ∧
  (∀ (s : State) (r : Req) (p : Nat), canRun s (.selftest r 3 p) = true → s.sys.spine = false → intrusiveBusy s = false →
    exec (.selftest r 3 p) s = .next (answer r .ok [] ((List.range 18).foldl (fun s c => trainChannel c s) (heard r.src s)))) ∧
  (∀ (s : State) (r : Req) (p : Nat), canRun s (.selftest r 3 p) = true → s.sys.spine = true →
    exec (.selftest r 3 p) s = .next (answer r .role [] (bump 0x3000C (heard r.src s)))) ∧
  (∀ (s : State) (r : Req) (p : Nat), canRun s (.selftest r 3 p) = true → s.sys.spine = false → intrusiveBusy s = true →
    exec (.selftest r 3 p) s = .next (answer r .busy [] (bump 0x3000C (heard r.src s)))) ∧
  (∀ (s : State) (r : Req) (k p : Nat), canRun s (.selftest r k p) = true → 3 < k →
    exec (.selftest r k p) s = .next (answer r .range [] (bump 0x3000C (heard r.src s))))

/-- The brake has three causes: the pin (R411), the input voltage (R400) and the temperature (R412). An assertion of a cause not in force is
noted, ends fill, is counted and recorded (brakeOn); one of a cause in force changes nothing. A release of a cause in force clears it, and, where
every domain runs, what the brake held goes on, which is nothing in a quiet state; a release of a cause not in force changes nothing. brakeOn
changes nothing but fill, the count, the fault queue with its number, and free values of the record (log entry 30). -/
def Obligations.Brake : Prop :=
  (∀ s : State, aonLive s = true → s.pwr.pin = false → exec .pwrBrakeAssert s = .next (brakeOn { s with pwr := { s.pwr with pin := true } })) ∧
  (∀ s : State, aonLive s = true → s.pwr.inputBrake = false →
    exec .inputBrake s = .next (brakeOn { s with pwr := { s.pwr with inputBrake := true } })) ∧
  (∀ s : State, aonLive s = true → s.pwr.thermBrake = false →
    exec .thermalBrake s = .next (brakeOn { s with pwr := { s.pwr with thermBrake := true } })) ∧
  (∀ s : State, aonLive s = true → s.pwr.pin = true → exec .pwrBrakeAssert s = .next s) ∧
  (∀ s : State, aonLive s = true → s.pwr.inputBrake = true → exec .inputBrake s = .next s) ∧
  (∀ s : State, aonLive s = true → s.pwr.thermBrake = true → exec .thermalBrake s = .next s) ∧
  (∀ s : State, (brakeOn s).pwr = { s.pwr with fill := 0 } ∧
    (brakeOn s).flt.seq = (s.flt.seq + 1) % 2 ^ 32 ∧ sameBut [.seed, .pwr, .regs, .flt] s (brakeOn s)) ∧
  (∀ s : State, aonLive s = true → s.pwr.pin = true →
    let x := { s with pwr := { s.pwr with pin := false } }
    exec .pwrBrakeRelease s = .next (if running s then settled x else x) ∧ (quiet s = true → exec .pwrBrakeRelease s = .next x)) ∧
  (∀ s : State, aonLive s = true → s.pwr.inputBrake = true →
    let x := { s with pwr := { s.pwr with inputBrake := false } }
    exec .inputRecover s = .next (if running s then settled x else x) ∧ (quiet s = true → exec .inputRecover s = .next x)) ∧
  (∀ s : State, aonLive s = true → s.pwr.thermBrake = true →
    let x := { s with pwr := { s.pwr with thermBrake := false } }
    exec .thermalBrakeRelease s = .next (if running s then settled x else x) ∧ (quiet s = true → exec .thermalBrakeRelease s = .next x)) ∧
  (∀ s : State, aonLive s = true → s.pwr.pin = false → exec .pwrBrakeRelease s = .next s) ∧
  (∀ s : State, aonLive s = true → s.pwr.inputBrake = false → exec .inputRecover s = .next s) ∧
  (∀ s : State, aonLive s = true → s.pwr.thermBrake = false → exec .thermalBrakeRelease s = .next s)

/-- The input power (R400): POWER_APPLIED starts a module whose conversion is off as a hard reset does, and changes nothing in one whose
conversion is on; INPUT_OFF turns the conversion off and changes nothing else; INPUT_LOW and INPUT_HIGH are held in PWR_STAT and recorded.
Temperature (R412): THERMAL_CEILING is held and recorded once, THERMAL_RELEASE ends it; THERMAL_SHUTDOWN leaves only the always-on domain
supplied and is recorded; THERMAL_RESTART after it is a hard reset, and without it changes nothing. A hard reset gives the state of reset, but
for the waiting commands, what has left the module, the free values' counter, and the levels of the pins: the brake pin, tray release, the debug
enable and PERST of the CXL ports (R365, R479). -/
def Obligations.InputPower : Prop :=
  (∀ s : State, s.sys.conv = false → exec .powerApplied s = .next (hardReset s)) ∧
  (∀ s : State, s.sys.conv = true → exec .powerApplied s = .next s) ∧
  (∀ s : State, exec .inputOff s = .next { s with sys := { s.sys with conv := false } }) ∧
  (∀ s : State, aonLive s = true → exec .inputLow s = .next (faultAny 0x17 11 0 none { s with pwr := { s.pwr with inputLow := true } })) ∧
  (∀ s : State, aonLive s = true → exec .inputHigh s = .next (faultAny 0x17 11 0 none { s with pwr := { s.pwr with inputHigh := true } })) ∧
  (∀ s : State, aonLive s = true → s.pwr.thermal = false →
    exec .thermalCeiling s = .next (faultAny 0x1A 11 0 none { s with pwr := { s.pwr with thermal := true } })) ∧
  (∀ s : State, aonLive s = true → s.pwr.thermal = true → exec .thermalCeiling s = .next s) ∧
  (∀ s : State, aonLive s = true → exec .thermalRelease s = .next { s with pwr := { s.pwr with thermal := false } }) ∧
  (∀ s : State, aonLive s = true → s.sys.aonOnly = false →
    exec .thermalShutdown s = .next (faultAny 0x1A 11 3 none { s with sys := { s.sys with aonOnly := true } })) ∧
  (∀ s : State, aonLive s = true → s.sys.aonOnly = true → exec .thermalRestart s = .next (hardReset s)) ∧
  (∀ s : State, aonLive s = true → s.sys.aonOnly = false → exec .thermalRestart s = .next s) ∧
  (∀ s : State, let t := hardReset s
     t.pending = s.pending ∧ t.out = s.out ∧ t.seed = s.seed ∧
     (∀ p, cxlPort t p = { CxlPort.init with perst := (cxlPort s p).perst }) ∧
     t.pwr = { State.reset.pwr with pin := s.pwr.pin } ∧ t.rep = { State.reset.rep with leaving := s.rep.leaving } ∧
     t.dbg = { State.reset.dbg with en := s.dbg.en } ∧ t.cxl = { State.reset.cxl with ports := t.cxl.ports } ∧
     sameBut [.pending, .out, .seed, .pwr, .rep, .dbg, .cxl] State.reset t)

/-- One tick of the governor (R406, R409 to R412): local time advances 10 µs and the measurements are taken; without a brake the allowance rises
by no more than SLEW_UP and falls by no more than SLEW_DN, or by 100 hundredths of a watt under the thermal ceiling where that is more; fill is 0
where demand exceeds the allowance, and else no more than the difference, nor than 380 W; under a brake the allowance is lit-idle and fill 0;
nothing changes but time, power and counts. STAGGER_EXPIRY lets a waiting ramp move (R407), LULL_HOLD_EXPIRY holds a lull (R408); where no ramp
waits, or no lull is on, they change nothing. -/
def Obligations.GovernorTick : Prop :=
  (∀ (s : State) (d w v tj g : Nat), aonLive s = true → exec (.governorTick d w v tj g) s = .next (tick d w v tj g s)) ∧
  (∀ (s : State) (d w v tj g : Nat), let t := tick d w v tj g s
    t.now = s.now + 10000 ∧ t.pwr.demand = d ∧ t.pwr.draw = w ∧ t.pwr.vin = v ∧ t.pwr.tj = tj ∧ t.pwr.gddr = g ∧
    (braked s = true → t.pwr.a = 100 * litIdle s ∧ t.pwr.fill = 0) ∧
    (braked s = false → t.pwr.a ≤ s.pwr.a + slewUp s ∧ s.pwr.a ≤ t.pwr.a + (if s.pwr.thermal then Nat.max 100 (slewDn s) else slewDn s) ∧
      (t.pwr.a < d → t.pwr.fill = 0) ∧ t.pwr.fill ≤ 38000 ∧ (d ≤ t.pwr.a → d + t.pwr.fill ≤ t.pwr.a)) ∧
    sameBut [.now, .pwr, .regs] s t) ∧
  (∀ (s : State) (up : Bool), aonLive s = true → s.pwr.ramp = .waiting up →
    exec .staggerExpiry s = .next { s with pwr := { s.pwr with ramp := .moving up } }) ∧
  (∀ s : State, aonLive s = true → (∀ up, s.pwr.ramp ≠ .waiting up) → exec .staggerExpiry s = .next s) ∧
  (∀ s : State, aonLive s = true → s.pwr.lull = true →
    exec .lullHoldExpiry s = .next { s with pwr := { s.pwr with lullHeld := true } }) ∧
  (∀ s : State, aonLive s = true → s.pwr.lull = false → exec .lullHoldExpiry s = .next s)

/-! ### Clocks and start-up (R389, R390, R413 to R417, R431 to R437) -/

/-- REFERENCE_PRESENT notes the reference and moves the always-on domain from its oscillator to it; ROOT_PLL_LOCK, with the reference present and
no clock lost, moves it to the root (R414). REFERENCE_LOSS of a reference present or a root locked, with no clock lost before, stops every other
domain, puts the always-on domain on its oscillator, and, where the fault queue has room, is counted and recorded with severity 3 (R415); nothing
else changes but free values of the record. ROOT_RELOCK after a loss is a hard reset, and changes nothing without one (R415). UNIT_GATE_IDLE
closes the gate of a unit that holds no work, and changes nothing for one whose gate is closed or that holds work (R416). -/
def Obligations.Clocks : Prop :=
  (∀ s : State, aonLive s = true → exec .referencePresent s =
    .next { s with clk := { s.clk with refOk := true, src := if s.clk.src = 0 then 1 else s.clk.src } }) ∧
  (∀ s : State, aonLive s = true → s.clk.refOk = true → s.clk.stopped = false →
    exec .rootPllLock s = .next { s with clk := { s.clk with rootLock := true, src := 2 } }) ∧
  (∀ s : State, aonLive s = true → (s.clk.refOk = true ∨ s.clk.rootLock = true) → s.clk.stopped = false →
    ∃ t, exec .referenceLoss s = .next t ∧
      t.clk = { s.clk with refOk := false, rootLock := false, src := 0, stopped := true } ∧
      (s.flt.q.length < 4096 → t.regs.cnt = s.regs.cnt.put 0 0x10010 (satAdd cntMax (s.regs.cnt.get 0 0x10010) 1) ∧
        ∃ r, t.flt.q = s.flt.q ++ [r] ∧ r.cls = 0x18 ∧ r.block = 11 ∧ r.sev = 3 ∧ r.part = none ∧ r.timeNs = s.now) ∧
      sameBut [.seed, .clk, .regs, .flt] s t) ∧
  (∀ s : State, aonLive s = true → s.clk.stopped = true → exec .rootRelock s = .next (hardReset s)) ∧
  (∀ s : State, aonLive s = true → s.clk.stopped = false → exec .rootRelock s = .next s) ∧
  (∀ (s : State) (u : Nat), live s = true → u ∈ s.clk.closed ∨ unitBusy s u = true → exec (.unitGateIdle u) s = .next s) ∧
  (∀ (s : State) (u : Nat), live s = true → u ∉ s.clk.closed → unitBusy s u = false → exec (.unitGateIdle u) s =
    .next { s with clk := { s.clk with closed := s.clk.closed.filter (fun x => x < u) ++ [u] ++ s.clk.closed.filter (fun x => u < x) } })

/-- The Woquel image is read once (R431 to R437): one that R433 to R436 accept gives the module what imageSys takes from it (role, module
identifier, reserve, attachments, keys, presets, digest), and startPorts lets the CXL ports train that R297 does not hold; a rejected one leaves
its reason, no identity, and a record; a second reading changes nothing. The identity is regenerated once (R389, R390): a success and a failure
are noted where the image was not rejected, the failure with a record; a second time changes nothing. -/
def Obligations.StartUp : Prop :=
  (∀ (s : State) (f : Bytes), aonLive s = true → s.sys.imgRead = false → imageErr (some f) = 0 →
    exec (.woquelImageRead (some f)) s = .next (startPorts { s with sys := imageSys (f.take (leNat ((f.drop 8).take 4))) s.sys })) ∧
  (∀ (s : State) (f : Option Bytes), aonLive s = true → s.sys.imgRead = false → imageErr f ≠ 0 →
    exec (.woquelImageRead f) s = .next (faultAny 0x1B 10 2 none
      { s with sys := { s.sys with imgRead := true, imgErr := imageErr f, idOk := false } })) ∧
  (∀ (s : State) (f : Option Bytes), aonLive s = true → s.sys.imgRead = true → exec (.woquelImageRead f) s = .next s) ∧
  (∀ s : State, aonLive s = true → s.sys.idDone = false → s.sys.imgErr = 0 →
    exec (.identityRegenerated true) s = .next { s with sys := { s.sys with idDone := true, idOk := true } }) ∧
  (∀ s : State, aonLive s = true → s.sys.idDone = false → s.sys.imgErr = 0 →
    exec (.identityRegenerated false) s = .next (faultAny 0x1C 11 2 none { s with sys := { s.sys with idDone := true, idOk := false } })) ∧
  (∀ (s : State) (ok : Bool), aonLive s = true → s.sys.idDone = true → exec (.identityRegenerated ok) s = .next s)

/-! ### Margins and health (R59 to R61, R419 to R425) -/

/-- MARGIN_PLAN_DAILY begins a plan where firmware runs and none is under way, and changes nothing where one is (R421). MARGIN_PLAN_DONE ends a
plan (planEnd), and has no plan to end where none is under way. Its first step raises the core voltage to what slowdown and slices ask, at most
850 mV, and never lowers it, and changes nothing but health, reports and counts (R421, R422). GDDR_DEFERRED_RETRAIN runs a deferred retraining
once no bound partition is ACTIVE, and changes nothing else (R423). HEALTH_SECOND adds the second's events to the penalties and starts what newly
reached thresholds ask (secondOver), which without events and penalties is nothing; the events of one kind of one part beyond its allowance,
times their weight, raise its penalty and no other (R424, R425). HEALTH_HOUR lets each penalty fall by a sixty-fourth and ages the plan, and
changes nothing else (R424, R429). -/
def Obligations.MarginPlan : Prop :=
  (∀ s : State, live s = true → fwRuns s = true → s.hlt.plan = false →
    exec .marginPlanDaily s = .next { s with hlt := { s.hlt with plan := true } }) ∧
  (∀ s : State, live s = true → s.hlt.plan = true → exec .marginPlanDaily s = .next s) ∧
  (∀ s : State, live s = true → exec .marginPlanDone s = .next (settled (planEnd s))) ∧
  (∀ s : State, live s = true → s.hlt.plan = false → endsIn .marginPlanDone s s) ∧
  (∀ s : State, (planVcore s).hlt.vcore = Nat.max s.hlt.vcore (Nat.min (wantVcore s) 850) ∧ s.hlt.vcore ≤ (planVcore s).hlt.vcore ∧
    (s.hlt.vcore ≤ 850 → (planVcore s).hlt.vcore ≤ 850) ∧ sameBut [.out, .seed, .hlt, .fw, .regs] s (planVcore s)) ∧
  (∀ s : State, live s = true → s.hlt.deferred = true → intrusiveBusy s = false →
    exec .gddrDeferredRetrain s = .next (retrainFallen s)) ∧
  (∀ s : State, live s = true → (s.hlt.deferred = false ∨ intrusiveBusy s = true) → exec .gddrDeferredRetrain s = .next s) ∧
  (∀ s : State, live s = true → exec .healthSecond s = .next (settled (secondOver s))) ∧
  (∀ s : State, live s = true → s.hlt.events = [] → s.hlt.pen = [] → endsIn .healthSecond s s) ∧
  (∀ (s : State) (i k n : Nat), k < 16 → s.hlt.events = [(16 * i + k, n)] →
    (addEvents s).hlt.pen.get 0 i = s.hlt.pen.get 0 i + (weightOf (partKind i) k).2 * (n - (weightOf (partKind i) k).1) ∧
    (∀ j, j ≠ i → (addEvents s).hlt.pen.get 0 j = s.hlt.pen.get 0 j) ∧ (addEvents s).hlt.events = [] ∧ sameBut [.hlt] s (addEvents s)) ∧
  (∀ s : State, live s = true → ∃ t, exec .healthHour s = .next t ∧
    (∀ i, t.hlt.pen.get 0 i = s.hlt.pen.get 0 i - s.hlt.pen.get 0 i / 64) ∧
    t.hlt.ageMin = (if s.hlt.planned then Nat.min (s.hlt.ageMin + 60) 65535 else s.hlt.ageMin) ∧ t.hlt.events = s.hlt.events ∧
    sameBut [.hlt] s t)

/-- A patrol read of a stripe in which no bit is wrong and no word uncorrectable changes nothing (R61). In a node whose firmware runs and whose
pool has no wrong bits: where one bit of a word of the stripe has gone wrong, a check bit or a data bit, it is corrected and counted against the
bit's channel, and nothing else changes (R57, R59, R424); where two have, the word is uncorrectable and no other changes, no byte of the pool
changes, and a record of class 6 names its address (R59). SRAM_VMIN_TEST keeps the voltage from DARK upward and does nothing in STANDBY (R420).
SENSOR_UPDATE keeps a laser's slope efficiency (log entry 39), or the value of a register of the indirect space with its reserved bits zero, and
changes no other register (R419, R421, R473). -/
def Obligations.PatrolRead : Prop :=
  (∀ (s : State) (a : Nat), live s = true → (∀ e ∈ s.pool.flip, e.1 / 32 ≠ a / 256) → badIn s (a / 256 * 256) 256 = [] →
    exec (.patrolRead a []) s = .next s) ∧
  (∀ (s : State) (a k b : Nat), live s = true → s.sys.spine = false → fwRuns s = true → a < 2 ^ 37 → k < 32 → b < 72 → s.pool.flip = [] →
    badIn s (a / 256 * 256) 256 = [] →
    exec (.patrolRead a [(a / 256 * 32 + k, b)]) s = .next (health (912 + channelOf (a / 256 * 32 + k) b) 0 1 s)) ∧
  (∀ (s : State) (a k b c : Nat), live s = true → s.sys.spine = false → fwRuns s = true → a < 2 ^ 37 → k < 32 → b < 72 → c < 72 → b ≠ c →
    s.pool.flip = [] → badIn s (a / 256 * 256) 256 = [] → extentAt s (a / 256 * 32 + k) = none →
    ∃ t, exec (.patrolRead a [(a / 256 * 32 + k, b), (a / 256 * 32 + k, c)]) s = .next t ∧ badWord t (a / 256 * 32 + k) = true ∧
      (∀ w, w ≠ a / 256 * 32 + k → badWord t w = badWord s w) ∧ t.pool = { s.pool with bad := t.pool.bad } ∧
      (s.flt.q.length < 4096 → ∃ r, t.flt.q = s.flt.q ++ [r] ∧ r.cls = 6 ∧ r.addr = 8 * (a / 256 * 32 + k)) ∧
      sameBut [.seed, .hlt, .regs, .flt, .pool] s t) ∧
  (∀ (s : State) (i : Fin 256) (mv : Nat), live s = true → s.pwr.st ≠ .standby →
    exec (.sramVminTest i mv) s = .next { s with hlt := { s.hlt with vmin := s.hlt.vmin.put 0 i.val (mv % 1024) } }) ∧
  (∀ (s : State) (i : Fin 256) (mv : Nat), live s = true → s.pwr.st = .standby → exec (.sramVminTest i mv) s = .next s) ∧
  (∀ (s : State) (k : Nat) (v : Word), live s = true → k < 576 →
    exec (.sensorUpdate (BitVec.ofNat 32 (0x06000000 + 4 * k)) v) s = .next { s with hlt := { s.hlt with slope := s.hlt.slope.put 0 k v.toNat } }) ∧
  (∀ (s : State) (a : BitVec 32) (v : Word), live s = true → sensorReg s a.toNat = true →
    ∃ t, exec (.sensorUpdate a v) s = .next t ∧ t.regs.ind.get 0#32 a.toNat = v &&& sensorMask a.toNat ∧
      (∀ b, b ≠ a.toNat → t.regs.ind.get 0#32 b = s.regs.ind.get 0#32 b) ∧ t.regs.cfg = s.regs.cfg ∧ t.regs.cnt = s.regs.cnt ∧
      sameBut [.hlt, .regs] s t)

/-! ### Firmware and module resets (R364 to R368, R402, R438 to R441, R450 to R453) -/

/-- FW_COMMIT of the sender's session, and, where firmware runs, outside LIGHTING and DARKENING, with no core halted and no margin plan under way
(R439, R440, R453): an image that fails a check of R439 is discarded with the status of the first that fails; one that passes is accepted where
no firmware runs (accept), and else the handover begins: the running image's record is written and the response is owed (R450, R451). That record
is at most 1 MiB long and passes the check of every new image whose range holds its version (R451). FWM_HINGE_ACCEPT has the effect of
hingeAccept, FWM_HINGE_REJECT and HINGE_TIMEOUT that of hingeReject (R450, R452). With a quiet data path, no message held and no reset waiting:
where the record passes the new image's check, hingeAccept makes that image run and counts it; hingeReject leaves the old image and counts a
rejection; both end the pause and the session and change nothing but management, firmware, counts and what has left the module. Where the record
does not pass, hingeAccept is hingeReject (R452). -/
def Obligations.FirmwareCommit : Prop :=
  (∀ (s : State) (r : Req) (x : Session), canRun s (.fwCommit r) = true → fwDenied s r = false → mySession s r = some x →
    (fwRuns s = true → s.pwr.st ≠ .lighting ∧ s.pwr.st ≠ .darkening ∧ s.dbg.halted = [] ∧ s.hlt.plan = false) →
    exec (.fwCommit r) s = .next (let h := heard r.src s
      match imageFault s x with
      | some st => answer r st [] { h with fw := { h.fw with session := none } }
      | none => match s.fw.img with
        | some old => owe r 3 0 { h with fw := { h.fw with hinge := some (imageOf s x), record := handoverRecord s old } }
        | none => answer r .ok [] (settled (accept (imageOf s x) (x.hist.map Prod.snd) h)))) ∧
  (∀ (s : State) (old new : Image), old.recWrite < 2 ^ 32 → (handoverRecord s old).length ≤ 2 ^ 20 ∧
    (new.recMin ≤ old.recWrite → old.recWrite ≤ new.recMax → recordOk new (handoverRecord s old) = true)) ∧
  (∀ s : State, live s = true → exec .fwmHingeAccept s = .next (hingeAccept s) ∧ exec .fwmHingeReject s = .next (hingeReject s) ∧
    exec .hingeTimeout s = .next (hingeReject s)) ∧
  (∀ (s : State) (i : Image), s.fw.hinge = some i → recordOk i s.fw.record = false → hingeAccept s = hingeReject s) ∧
  (∀ (s : State) (i : Image), s.fw.hinge = some i → quiet s = true → s.fw.held = [] → (∀ p, (part s p).rst = none) →
    let t := hingeAccept s
    let u := hingeReject s
    (recordOk i s.fw.record = true → t.fw.img = some i ∧ t.fw.hinged = true ∧ t.fw.okCount = Nat.min (s.fw.okCount + 1) 255 ∧
      t.fw.hinge = none ∧ t.fw.session = none ∧ sameBut [.out, .mgt, .fw, .regs] s t) ∧
    u.fw.img = s.fw.img ∧ u.fw.hinged = s.fw.hinged ∧ u.fw.rejCount = Nat.min (s.fw.rejCount + 1) 255 ∧ u.fw.hinge = none ∧
    u.fw.session = none ∧ sameBut [.out, .mgt, .fw, .regs] s u)

/-- MOD_RESET of kind 0, 1 or 2 answers and then resets the module, soft RETAIN-FABRIC, soft FULL or hard; of another kind it is refused with
RANGE (R364, R447). MODULE_FAULT of an uncorrectable word of tables or control memory: a record of class SRAM_UNCORR_TABLE, the slice's count of
such words, the report MODULE_FAULT to both managers with the word's address and the reset's kind, then a soft reset, FULL where the region is
the endpoint table, the multicast trees or flow state, RETAIN-FABRIC otherwise, but that it acts as FULL where no link is lit; for control memory
no dossier is written (R364 to R366, R424; log entry 91: the numbers of the regions are the model's choice). Of a region from 64 to 127 it is a
word that was corrected, counted against its slice and row; from 128 on an uncorrectable word of a data region, handled by sramData (R14). A soft
reset, FULL or RETAIN-FABRIC, leaves no image, session, handover, held message, log, lease holder or owed response, no cached translation, walk
or invalidation, no queue, engine, prefetcher, segment or prefetch, no CXL.io request, no halted core or breakpoint, no margin plan, no waiting
access, and the module STANDBY where it is FULL or acts so, and HELD otherwise (R364, R365, R402). -/
def Obligations.ModuleResets : Prop :=
  (∀ (s : State) (r : Req) (k : Nat), canRun s (.modReset r k) = true → k ≤ 2 →
    exec (.modReset r k) s = .next (resetKind k (answer r .ok [] (heard r.src s)))) ∧
  (∀ (s : State) (r : Req) (k : Nat), canRun s (.modReset r k) = true → 2 < k →
    exec (.modReset r k) s = .next (answer r .range [] (heard r.src s))) ∧
  (∀ (s : State) (a k : Nat), live s = true → k < 64 → exec (.moduleFault a k) s = .next
    (softReset (decide (1 ≤ k) && decide (k ≤ 3)) 6 (k != 0)
      (report 0x8006 a (if (1 ≤ k ∧ k ≤ 3) ∨ actsFull s = true then 1 else 0)
        (health (930 + a / (6 * 2 ^ 20) % 256) 1 1 (faultAt 5 10 none a s))))) ∧
  (∀ (s : State) (a k : Nat), live s = true → 64 ≤ k → k < 128 → ∃ t, exec (.moduleFault a k) s = .next t ∧
    (let i := 16 * (930 + a / (6 * 2 ^ 20) % 256)
     t.hlt.events = s.hlt.events.put 0 i (s.hlt.events.get 0 i + 1)) ∧
    (let row := 2 ^ 20 * (a / (6 * 2 ^ 20) % 256) + a % (6 * 2 ^ 20) / 256
     t.hlt.srErr = s.hlt.srErr.put 0 row (s.hlt.srErr.get 0 row + 1)) ∧ sameBut [.hlt] s t) ∧
  (∀ (s : State) (a k : Nat), live s = true → 128 ≤ k → exec (.moduleFault a k) s = .next (sramData a k s)) ∧
  (∀ (s : State) (full dossiers : Bool) (cause : Nat), let t := softReset full cause dossiers s
    t.fw.img = none ∧ t.fw.session = none ∧ t.fw.hinge = none ∧ t.fw.held = [] ∧ t.fw.log = [] ∧ t.mgt.holder = none ∧ t.mgt.owed = [] ∧
    t.xlt.cache = [] ∧ t.xlt.ptrs = [] ∧ t.xlt.walks = [] ∧ t.xlt.invals = [] ∧ t.qs.ctx = [] ∧ t.qs.engines = [] ∧ t.qs.fetchers = [] ∧
    t.qs.segs = [] ∧ t.qs.pf = [] ∧ t.cxl.dma = [] ∧ (∀ p, (cxlPort t p).dmaq = []) ∧
    t.dbg.halted = [] ∧ t.dbg.bps = [] ∧ t.hlt.plan = false ∧ t.pool.waits = [] ∧
    t.pwr.st = (if full = true ∨ actsFull s = true then .standby else .held))

/-! ### The CXL memory device mailbox (R303 to R306, R312, R315, R390, R392) -/

/-- The commands of a port whose mailbox is served (R303 to R306, R312): Identify, the logs and the Dynamic Capacity configuration answer what
Config.cxlLog (R312 leaves it to the CXL standard) and R303 give, Get Event Records the oldest records of the attachment's log that 4 KiB hold,
and change nothing; Clear Event Records takes the records with the handles given out of that log and changes no other port; a host's acceptance
of an offer sets its ACCEPTED bit and ends the wait for its answer, its refusal has the effect of declined; an answer to no offer is refused with
RANGE; an offer whose answer was awaited too long is reported with 0x800D to the managers; a host that gives up an extent that it has accepted is
reported with 0x800E, and one not offered to it is ignored. A mailbox command changes nothing on a port without CXL.io, is answered BUSY while
the port has a command outstanding, is held during the Hinge pause, and is answered NO_FW where no firmware runs (R294, R312, R446, R450). On a
port with CXL.io, SPDM is refused without identity, opens a session for Falcon-1024 with ML-KEM-1024, and is refused for others; IDE keys are set
within a session and refused without one; on another port both change nothing (R315, R390, R392). -/
def Obligations.Mailbox : Prop :=
  (∀ (s : State) (p : Fin 16) (a : Nat), mailServed s p a = true →
    exec (.identify p) s = .next (mailbox p .ok (Config.cxlLog 0) s) ∧
    exec (.getSupportedLogs p) s = .next (mailbox p .ok (Config.cxlLog 1) s) ∧
    exec (.getLog p) s = .next (mailbox p .ok (Config.cxlLog 2) s) ∧
    exec (.getEventRecords p) s = .next (mailbox p .ok (evtsIn 4096 (eventLog s a)) s) ∧
    exec (.getDynamicCapacityConfiguration p) s = .next (mailbox p .ok dcRegions s)) ∧
  (∀ (s : State) (p : Fin 16) (a e : Nat) (hs : List Nat), mailServed s p a = true → evtPort s a = some e →
    ∃ t, exec (.clearEventRecords p hs) s = .next t ∧ (cxlPort t e).evts = (cxlPort s e).evts.filter (fun x => x.handle ∉ hs) ∧
      (∀ k, k ≠ e → cxlPort t k = cxlPort s k) ∧ t.out = .mailbox p 0 [] :: s.out ∧ sameBut [.out, .cxl] s t) ∧
  (∀ (s : State) (p : Fin 16) (a home ext n : Nat), mailServed s p a = true → offered s home ext a = some n →
    exec (.addDynamicCapacityResponse p home ext true) s = .next (mailbox p .ok [] (setExt n { extRec s n with
      accepted := setBit (extRec s n).accepted a, asked := clearBit (extRec s n).asked a } s)) ∧
    exec (.addDynamicCapacityResponse p home ext false) s = .next (mailbox p .ok [] (declined n a s))) ∧
  (∀ (s : State) (p : Fin 16) (a home ext : Nat) (yes : Bool), mailServed s p a = true → offered s home ext a = none →
    exec (.addDynamicCapacityResponse p home ext yes) s = .next (mailbox p .range [] s)) ∧
  (∀ (s : State) (a home ext n : Nat), live s = true → offered s home ext a = some n → bitOf (extRec s n).asked a = true →
    exec (.presentAnswerTimeout a home ext) s = .next
      (report 0x800D (extTag (extRec s n)) a (setExt n { extRec s n with asked := clearBit (extRec s n).asked a } s))) ∧
  (∀ (s : State) (a home ext n : Nat), live s = true → offered s home ext a = some n → bitOf (extRec s n).asked a = false →
    exec (.presentAnswerTimeout a home ext) s = .next s) ∧
  (∀ (s : State) (a home ext : Nat), live s = true → offered s home ext a = none → exec (.presentAnswerTimeout a home ext) s = .next s) ∧
  (∀ (s : State) (p : Fin 16) (a home ext n : Nat), mailServed s p a = true → offered s home ext a = some n →
    bitOf (extRec s n).accepted a = true → exec (.releaseDynamicCapacity p home ext) s = .next (mailbox p .ok []
      (report 0x800E (extTag (extRec s n)) a (setExt n { extRec s n with accepted := clearBit (extRec s n).accepted a } s)))) ∧
  (∀ (s : State) (p : Fin 16) (a home ext : Nat), mailServed s p a = true → offered s home ext a = none →
    exec (.releaseDynamicCapacity p home ext) s = .next (mailbox p .ok [] s)) ∧
  (∀ m a b : Nat, bitOf (setBit m a) b = (bitOf m b || a == b) ∧ bitOf (clearBit m a) b = (bitOf m b && a != b)) ∧
  (∀ (s : State) (p : Fin 16) (f m : Bool), live s = true → ioUp (cxlPort s p.val) = true →
    (s.sys.idOk = false → exec (.spdmRequest p f m) s = .next (mailbox p .identity [] s)) ∧
    (s.sys.idOk = true → f = true → m = true →
      exec (.spdmRequest p f m) s = .next (mailbox p .ok s.sys.certChain (setCxl s p.val { cxlPort s p.val with spdm := true }))) ∧
    (s.sys.idOk = true → (f = false ∨ m = false) → exec (.spdmRequest p f m) s = .next (mailbox p .denied [] s))) ∧
  (∀ (s : State) (p : Fin 16) (on : Bool), live s = true → ioUp (cxlPort s p.val) = true →
    ((cxlPort s p.val).spdm = true →
      exec (.ideKeyManagement p on) s = .next (mailbox p .ok [] (setCxl s p.val { cxlPort s p.val with ide := on }))) ∧
    ((cxlPort s p.val).spdm = false → exec (.ideKeyManagement p on) s = .next (mailbox p .denied [] s))) ∧
  (∀ (s : State) (p : Fin 16) (f m on : Bool), live s = true → ioUp (cxlPort s p.val) = false →
    exec (.spdmRequest p f m) s = .next s ∧ exec (.ideKeyManagement p on) s = .next s) ∧
  (∀ (s : State) (c : Instr) (port : Fin 16), live s = true → mailRow c = some port →
     (srcUp s (.cxl port) = false → exec c s = .next s) ∧
     (srcUp s (.cxl port) = true →
       (busyPort s (.cxl port) = true → exec c s = .next (mailbox port .busy [] s)) ∧
       (busyPort s (.cxl port) = false →
         (s.fw.hinge.isSome = true → exec c s = .next (owe ⟨.cxl port, 0, 1, 0, 0, true⟩ 9 0 { s with fw := { s.fw with held := s.fw.held ++ [c] } })) ∧
         (s.fw.hinge = none → fwRuns s = false → exec c s = .next (mailbox port .noFw [] s)))))

/-! ### CXL ports (R293 to R295, R300, R308, R313 to R315) -/

/-- The link of a CXL port (R293 to R295, R315). A training of a port that nothing holds in reset, or a retry of one that is DOWN, ends as
cxlTrained says: UP at full rate and at least the narrowest width, IO_ONLY with a record below full rate, DOWN below the narrowest width, where
the port's held requests fail and its CXL.io requests are lost. A loss of the link retrains it and counts it; a loss of lanes keeps it at a width
that is wide enough, counted, or takes it DOWN; on a port without CXL.io it changes nothing. The partner's width of 4, 8 or 16 lanes within the
trained width is followed where L0p is enabled on an UP port, and any other request changes nothing. L1 is left. Loopback is refused by a
training port, counted as a retrain, and changes nothing on another. An integrity failure of an IDE stream takes the link DOWN with a record, its
held requests failing, and changes nothing without a stream. -/
def Obligations.CxlLinks : Prop :=
  (∀ (s : State) (p : Fin 16) (w : Nat) (full : Bool), live s = true → cxlFree s p.val = true → (cxlPort s p.val).perst = false →
    (cxlPort s p.val).st = .training → exec (.cxlLinkUp p w full) s = .next (settled (cxlTrained p.val w full s))) ∧
  (∀ (s : State) (p : Fin 16) (w : Nat) (full : Bool), live s = true → cxlFree s p.val = true → (cxlPort s p.val).perst = false →
    (cxlPort s p.val).dead = false → (cxlPort s p.val).st = .down →
    exec (.cxlTrainRetry p w full) s = .next (settled (cxlTrained p.val w full s))) ∧
  (∀ (s : State) (p w : Nat), minWidth s ≤ w →
    cxlTrained p w true s = flushDma p (setCxl s p { cxlPort s p with
      st := .up, width := w, trained := w, low := false, l1 := false, mem := (cxlPort s p).mem || (fwRuns s && committed (cxlPort s p)) }) ∧
    cxlTrained p w false s = fault 0x10 9 none p w (setCxl s p { cxlPort s p with
      st := .ioOnly, width := w, trained := w, low := true, mem := false, l1 := false, dmaq := [] })) ∧
  (∀ (s : State) (p w : Nat) (full : Bool), w < minWidth s →
    cxlTrained p w full s = heldTimeout p (setCxl s p { cxlPort s p with st := .down, width := 0, trained := 0, dmaq := [] })) ∧
  (∀ (s : State) (p : Fin 16) (w : Nat), live s = true → ioUp (cxlPort s p.val) = true → w = 0 →
    endsIn (.cxlLinkDown p w) s (health (896 + p.val) 2 1 (bump (0x101014 + 0x40 * p.val)
      (setCxl s p.val { cxlPort s p.val with st := .training })))) ∧
  (∀ (s : State) (p : Fin 16) (w : Nat), live s = true → ioUp (cxlPort s p.val) = true → w ≠ 0 →
    exec (.cxlLinkDown p w) s = .next (settled (cxlLost p.val w s)) ∧
    (minWidth s ≤ w → cxlLost p.val w s = cxlRetrainEvent p.val (setCxl s p.val { cxlPort s p.val with width := w, trained := w })) ∧
    (w < minWidth s → cxlLost p.val w s = heldTimeout p.val (cxlRetrainEvent p.val
      (setCxl s p.val { cxlPort s p.val with st := .down, width := 0, trained := 0, dmaq := [] })))) ∧
  (∀ (s : State) (p : Fin 16) (w : Nat), live s = true → ioUp (cxlPort s p.val) = false → endsIn (.cxlLinkDown p w) s s) ∧
  (∀ (s : State) (p : Fin 16) (w : Nat), live s = true →
    ((cxlPort s p.val).st = .up → l0pEn s = true → (w = 4 ∨ w = 8 ∨ w = 16) → w ≤ (cxlPort s p.val).trained →
      exec (.l0pRequest p w) s = .next (setCxl s p.val { cxlPort s p.val with width := w })) ∧
    (((cxlPort s p.val).st ≠ .up ∨ l0pEn s = false ∨ (w ≠ 4 ∧ w ≠ 8 ∧ w ≠ 16) ∨ (cxlPort s p.val).trained < w) → exec (.l0pRequest p w) s = .next s) ∧
    ((cxlPort s p.val).l1 = true → exec (.aspmL1Exit p) s = .next (setCxl s p.val { cxlPort s p.val with l1 := false })) ∧
    ((cxlPort s p.val).l1 = false → exec (.aspmL1Exit p) s = .next s) ∧
    ((cxlPort s p.val).st = .training → exec (.loopbackDirected p) s = .next (bump (0x101014 + 0x40 * p.val) s)) ∧
    ((cxlPort s p.val).st ≠ .training → exec (.loopbackDirected p) s = .next s)) ∧
  (∀ (s : State) (p : Fin 16), live s = true → (cxlPort s p.val).ide = true → exec (.ideIntegrityFailure p) s = .next (settled
    (heldTimeout p.val (faultAtSev 0x10 9 2 none p.val (setCxl s p.val { cxlPort s p.val with
      st := .down, ide := false, ideErr := true, width := 0, trained := 0, dmaq := [] }))))) ∧
  (∀ (s : State) (p : Fin 16), live s = true → (cxlPort s p.val).ide = false → endsIn (.ideIntegrityFailure p) s s)

/-- On a port with CXL.io: a decoder that meets R300 is committed, another reports a commit error and serves nothing; BI_ENABLE sets the port's
enable (R308); a hot reset resets the port with its link, which trains again, FLR and CXL reset reset the port and leave the link (R313); on
another port these five change nothing. PERST_N resets the port with its link and holds it; its release lets a port that nothing else holds
train, and changes no other port and nothing else (R313). The reset of a port of an attachment, in a module without partitions: decoders,
back-invalidation, IDE, SPDM and CXL.mem are cleared, held requests and waiting CXL.io requests go, the link is in reset where it goes down and
as it was where not; the event log stays; no other port changes; the attachment is no longer severed; no byte of the pool and no extent record
changes (R313, R314). The reset of a port without an attachment changes nothing. -/
def Obligations.CxlPortResets : Prop :=
  (∀ (s : State) (p : Fin 16) (r : Fin 4) (d : Decoder), live s = true → ioUp (cxlPort s p.val) = true →
    (decoderOk s p.val r.val d = true → exec (.hdmDecoderCommit p r d) s = .next (let c := cxlPort s p.val
      setCxl s p.val { c with dec := c.dec.set r.val (some d), decErr := c.decErr.set r.val false,
                              mem := c.mem || (c.st == .up && fwRuns s) })) ∧
    (decoderOk s p.val r.val d = false → exec (.hdmDecoderCommit p r d) s = .next (let c := cxlPort s p.val
      setCxl s p.val { c with dec := c.dec.set r.val none, decErr := c.decErr.set r.val true })) ∧
    (∀ on, exec (.biEnable p on) s = .next (setCxl s p.val { cxlPort s p.val with bi := on })) ∧
    exec (.hotReset p) s = .next (settled (cxlTrain p.val (portReset p.val true s))) ∧
    exec (.functionLevelReset p) s = .next (settled (portReset p.val false s)) ∧
    exec (.cxlReset p) s = .next (settled (portReset p.val false s))) ∧
  (∀ (s : State) (p : Fin 16) (r : Fin 4) (d : Decoder) (on : Bool), live s = true → ioUp (cxlPort s p.val) = false →
    exec (.hdmDecoderCommit p r d) s = .next s ∧ exec (.biEnable p on) s = .next s ∧ exec (.hotReset p) s = .next s ∧
    exec (.functionLevelReset p) s = .next s ∧ exec (.cxlReset p) s = .next s) ∧
  (∀ (s : State) (p : Fin 16), live s = true → exec (.perstNAssert p) s = .next
    (settled (portReset p.val true (setCxl s p.val { cxlPort s p.val with perst := true })))) ∧
  (∀ (s : State) (p : Fin 16), live s = true → cxlFree s p.val = true → (cxlPort s p.val).dead = false →
    (cxlPort s p.val).st = .reset → ∃ t, exec (.perstNRelease p) s = .next t ∧
      cxlPort t p.val = { cxlPort s p.val with perst := false, st := .training, trained := 0, width := 0 } ∧
      (∀ k, k ≠ p.val → cxlPort t k = cxlPort s k) ∧ sameBut [.cxl] s t) ∧
  (∀ (s : State) (p a : Nat) (down : Bool), attachOf s p = some a → s.parts = [] →
    let t := portReset p down s
    (cxlPort t p).dec = CxlPort.init.dec ∧ (cxlPort t p).bi = false ∧ (cxlPort t p).ide = false ∧ (cxlPort t p).spdm = false ∧
    (cxlPort t p).mem = false ∧ (cxlPort t p).held = [] ∧ (cxlPort t p).dmaq = [] ∧ (down = true → (cxlPort t p).st = .reset ∧ (cxlPort t p).width = 0) ∧
    (down = false → (cxlPort t p).st = (cxlPort s p).st) ∧ (cxlPort t p).evts = (cxlPort s p).evts ∧
    (∀ k, k ≠ p → cxlPort t k = cxlPort s k) ∧ a ∉ t.pool.severed ∧ t.pool.mem = s.pool.mem ∧ t.pool.ext = s.pool.ext) ∧
  (∀ (s : State) (p : Nat) (down : Bool), attachOf s p = none → portReset p down s = s)

/-! ### A host's accesses (R25, R46, R78, R81, R300 to R310) -/

/-- CXL_MEM_LOAD has the effect of hostArrive, and then what has become possible happens. In a quiet state without the brake, of an UP port with
CXL.mem: a load that a committed decoder covers on the port's own position, of an ACTIVE partition, an accepted extent, a cached leaf with read
rights, and a home here that admits it, neither COHERENT nor waiting for a second copy, without a wrong bit in its stripe or an uncorrectable
word in its line, returns the line's 64 bytes and changes no byte of the pool, and nothing but what has left the module, the CXL ports and the
order of the translation cache (R25, R300 to R304). -/
def Obligations.HostLoad : Prop :=
  (∀ (s : State) (m : MemReq) (snp : Snp), live s = true →
    exec (.cxlMemLoad m snp) s = .next (settled (hostArrive ⟨m, snp, none⟩ s))) ∧
  (∀ (s : State) (m : MemReq) (snp : Snp) (att r p i : Nat) (d : Decoder) (c : CEnt) (t : Target) (e : Ext),
    live s = true → quiet s = true → attachOf s m.port.val = some att → (cxlPort s m.port.val).mem = true → (cxlPort s m.port.val).st = .up →
    braked s = false → decoderOf s m.port.val m.hpa = some (r, d) → onPosition d m.hpa = true → partInSlot s att r = some p →
    (part s p).st = .active → acceptedAt s p att (lineAddr (m.hpa - d.base)) = true →
    cached s p (lineAddr (m.hpa - d.base) / 65536) = some c → Leaf.r c.leaf = true →
    targetOf s (lineAddr (m.hpa - d.base)) c.level c.leaf = .ok t → t.mod = s.sys.moduleId → t.rd = none →
    admitAt s (part s p).prm.jobTag t.addr 64 (some t.ext) none = .ok (i, e) → e.coherent = false →
    mirrorTouch s t.addr 64 = none → (∀ f ∈ s.pool.flip, f.1 / 32 ≠ t.addr / 256) → badIn s t.addr 64 = [] →
    ∃ u, exec (.cxlMemLoad m snp) s = .next u ∧
      u.out = .memData m.port m.hpa (poolBytes s t.addr 64) (match snp with | .data => 1 | .inv => 2 | _ => 0) false :: s.out ∧
      u.pool = s.pool ∧ sameBut [.out, .cxl, .xlt] s u)

/-- CXL_MEM_STORE has the effect of hostArrive, and then what has become possible happens. In a quiet state without the brake, of an UP port with
CXL.mem: a store that a committed decoder covers on the port's own position, of an ACTIVE partition that is not closing, an accepted extent, a
cached leaf with write rights, and a home here that admits it, SHACKLED and not COHERENT, without a wrong bit in its stripe and touching no
uncorrectable word in part, writes the bytes that its mask enables and no other byte of the pool, is completed, and changes no extent record, no
snoop entry, and nothing but what has left the module, the CXL ports, the order of the translation cache and the pool (R25, R58, R300 to R304).
-/
def Obligations.HostStore : Prop :=
  (∀ (s : State) (m : MemReq) (mask : List Bool) (data : Bytes) (mv : MetaVal), live s = true →
    exec (.cxlMemStore m mask data mv) s = .next (settled (hostArrive ⟨m, .noOp, some ⟨mask, data, mv⟩⟩ s))) ∧
  (∀ (s : State) (m : MemReq) (x : StoreArgs) (att r p i : Nat) (d : Decoder) (c : CEnt) (t : Target) (e : Ext),
    live s = true → quiet s = true → attachOf s m.port.val = some att → (cxlPort s m.port.val).mem = true → (cxlPort s m.port.val).st = .up →
    braked s = false → decoderOf s m.port.val m.hpa = some (r, d) → onPosition d m.hpa = true → partInSlot s att r = some p →
    (part s p).st = .active → acceptedAt s p att (lineAddr (m.hpa - d.base)) = true → closing s p = false →
    cached s p (lineAddr (m.hpa - d.base) / 65536) = some c → Leaf.w c.leaf = true →
    targetOf s (lineAddr (m.hpa - d.base)) c.level c.leaf = .ok t → t.mod = s.sys.moduleId → t.rd = none →
    admitAt s (part s p).prm.jobTag t.addr 64 (some t.ext) none = .ok (i, e) → e.coherent = false → e.st = .shackled →
    (∀ f ∈ s.pool.flip, f.1 / 32 ≠ t.addr / 256) → mergeBad s t.addr x.bytes x.part = [] →
    ∃ u, exec (.cxlMemStore m x.mask x.data x.mv) s = .next u ∧
      (∀ k, k < 64 → u.pool.mem.get 0#8 (t.addr + k) =
        (if enabled x.part k = true then (x.bytes[k]?).getD 0#8 else s.pool.mem.get 0#8 (t.addr + k))) ∧
      (∀ a, a < t.addr ∨ t.addr + 64 ≤ a → u.pool.mem.get 0#8 a = s.pool.mem.get 0#8 a) ∧
      u.out = .memCmp m.port m.hpa 0 :: s.out ∧ u.pool.ext = s.pool.ext ∧ u.pool.snoop = s.pool.snoop ∧
      sameBut [.out, .cxl, .xlt, .pool] s u)

/-- A host's answer to a back-invalidation is taken where one of its attachment is awaited (biAnswer), and else counted as late (R78, R308);
where it was the last, the line waits for none any more and no other line and no byte of the pool changes. A back-invalidation that is awaited
and not answered severs the attachment (R81), which leaves every byte of the pool; where none is awaited nothing happens. A CXL.io read that no
packet shares ends with its data (dmaDone) or fails, by its completion or its timeout (dmaFail); of those that one packet has on several ports
the last ends it and the first that fails ends all; a completion or timeout of no read changes nothing; either lets the port send what waits
there, which is nothing where nothing does (R26, R309, R310). A landing counter is read whole by a host of its partition's attachment, and
another form of read is unsupported and recorded (R46). -/
def Obligations.HostEvents : Prop :=
  (∀ (s : State) (p : Fin 16) (line a m n : Nat) (keep : Bool), live s = true → attachOf s p.val = some a → (snoop s line).bi = some (m, n) →
    bitOf m a = true → exec (.biRsp p line keep) s = .next (settled (biAnswer line a keep s))) ∧
  (∀ (s : State) (p : Fin 16) (line a : Nat) (keep : Bool), live s = true → attachOf s p.val = some a → (snoop s line).bi = none →
    exec (.biRsp p line keep) s = .next (bump 0x380004 s)) ∧
  (∀ (s : State) (p : Fin 16) (line a m n : Nat) (keep : Bool), live s = true → attachOf s p.val = some a → (snoop s line).bi = some (m, n) →
    bitOf m a = false → exec (.biRsp p line keep) s = .next (bump 0x380004 s)) ∧
  (∀ (s : State) (line a m n : Nat), live s = true → (snoop s line).bi = some (m, n) → bitOf m a = true →
    exec (.biTimeout line a) s = .next (settled (sever line a s))) ∧
  (∀ (s : State) (line a : Nat), live s = true → (snoop s line).bi = none → exec (.biTimeout line a) s = .next s) ∧
  (∀ (s : State) (line a n : Nat) (keep : Bool), a < 16 → (snoop s line).bi = some (2 ^ a, n) →
    let t := biAnswer line a keep s
    (snoop t line).bi = none ∧ (∀ k, k ≠ line → snoop t k = snoop s k) ∧ t.pool.mem = s.pool.mem ∧ sameBut [.pool] s t) ∧
  (∀ (s : State) (line a : Nat), a ∈ (sever line a s).pool.severed ∧ (sever line a s).pool.mem = s.pool.mem ∧
    sameBut [.seed, .pool, .regs, .flt] s (sever line a s)) ∧
  (∀ (s : State) (id p : Nat) (f : DmaFor) (data : Bytes), live s = true → s.cxl.dma.find id = some (p, f) →
    let x := flushDma p { s with cxl := { s.cxl with dma := s.cxl.dma.del id } }
    let z := flushDma p { s with cxl := { s.cxl with dma := (s.cxl.dma.del id).filter (fun e => e.2.2 ≠ f) } }
    (shared f = false →
      exec (.cxlIoCompletion id true data) s = .next (settled (dmaDone f data x)) ∧
      exec (.cxlIoCompletion id false data) s = .next (settled (dmaFail p f x)) ∧ exec (.cxlIoTimeout id) s = .next (settled (dmaFail p f x))) ∧
    (shared f = true →
      ((∃ e ∈ s.cxl.dma.del id, e.2.2 = f) → exec (.cxlIoCompletion id true data) s = .next (settled x)) ∧
      ((∀ e ∈ s.cxl.dma.del id, e.2.2 ≠ f) → exec (.cxlIoCompletion id true data) s = .next (settled (dmaDone f data x))) ∧
      exec (.cxlIoCompletion id false data) s = .next (settled (dmaFail p f z)) ∧ exec (.cxlIoTimeout id) s = .next (settled (dmaFail p f z)))) ∧
  (∀ (s : State) (p : Nat), (cxlPort s p).dmaq = [] → flushDma p s = s) ∧
  (∀ (s : State) (id : Nat) (ok : Bool) (data : Bytes), live s = true → s.cxl.dma.find id = none →
    exec (.cxlIoCompletion id ok data) s = .next s ∧ exec (.cxlIoTimeout id) s = .next s) ∧
  (∀ (s : State) (p : Fin 16) (n a k : Nat), live s = true → attachOf s p.val = some a → n < 65536 → partOfCtr s n = some k →
    boundTo s k a = true →
    exec (.landingCounterRead p (0x400000 + 8 * n) 8) s = .next (emit (.regResp (.host p) 0 .ok (s.ctrs.get 0 n)) s)) ∧
  (∀ (s : State) (p : Fin 16) (off size a : Nat), live s = true → attachOf s p.val = some a → (size ≠ 8 ∨ off % 8 ≠ 0) →
    exec (.landingCounterRead p off size) s = .next (faultAt 0 0 none off (emit (.unsupported p) s)))

/-! ### Descriptors and queues (R25, R34 to R53, R127 to R150, R161 to R165) -/

/-- A descriptor of a live module that `canStart` lets its queue start (R38, R120, R136, R139, R183, R342, R411). `newborn` is the operation that
it becomes, with a WID of its own that is not 0; in `begun` its 64 bytes have been read from the ring by CXL.io, it has left the ring and it is
the youngest started operation of its queue, and no other queue has changed; `spent` counts 64 bytes of the quantum for one that moves none
(R139) and does what has then become possible. A well-formed one (R127 to R133) of each of the ten rows has its row's effect: NOP completes with
OK, a FENCE completes where nothing is before it, and each of the others starts by its operation of that name. One that is not well formed
completes with FORMAT. One that may not start, or whose opcode is another row's, changes nothing. An ATOMIC whose address is not aligned to its
size completes with ALIGN, its address as RESULT, and no byte of memory and no counter changes (R31). -/
def Obligations.Descriptors : Prop :=
  (∀ (s : State) (q : Nat) (d : Desc), live s = true → canStart s q d = true → formatOk d = true →
    let o := newborn s q d
    let b := begun s q d
    (D.opcode d = 0 → exec (.nop q d) s = .next (spent q o (complete q o.idx St.ok 0 0 b))) ∧
    (D.opcode d = 1 → exec (.put q d) s = .next (spent q o (startMove q o b))) ∧
    (D.opcode d = 2 → exec (.get q d) s = .next (spent q o (startMove q o b))) ∧
    (D.opcode d = 3 → exec (.copyTile q d) s = .next (spent q o (startMove q o b))) ∧
    (D.opcode d = 4 → exec (.atomic q d) s = .next (spent q o (startAtomic q o b))) ∧
    (D.opcode d = 5 → exec (.wait q d) s = .next (spent q o (startWait q o b))) ∧
    (D.opcode d = 6 → exec (.fence q d) s = .next (spent q o (checkFences q b))) ∧
    (D.opcode d = 7 → exec (.signal q d) s = .next (spent q o (startSignal q o b))) ∧
    (D.opcode d = 8 → exec (.coll q d) s = .next (spent q o (startColl q o b))) ∧
    (D.opcode d = 9 → exec (.epochClose q d) s = .next (spent q o (startClose q o b)))) ∧
  (∀ (c : Instr) (s : State) (k q : Nat) (d : Desc), live s = true → descRow c = some (k, q, d) → canStart s q d = true →
    (D.opcode d = k ∨ 10 ≤ D.opcode d) → formatOk d = false →
    exec c s = .next (spent q (newborn s q d) (complete q (newborn s q d).idx St.format 0 0 (begun s q d)))) ∧
  (∀ (c : Instr) (s : State) (k q : Nat) (d : Desc), live s = true → descRow c = some (k, q, d) →
    (canStart s q d = false ∨ (D.opcode d ≠ k ∧ D.opcode d < 10)) → exec c s = .next s) ∧
  (∀ (s : State) (q : Nat) (d : Desc), (que (begun s q d) q).head = ((que s q).head + 1) % 2 ^ (que s q).sqLog2 ∧
    (que (begun s q d) q).ops = (que s q).ops ++ [newborn s q d] ∧ (∀ k, k ≠ q → que (begun s q d) k = que s k) ∧
    (newborn s q d).wid ≠ 0 ∧ sameBut [.out, .qs, .fab, .cxl] s (begun s q d) ∧
    (∀ p, dmaPort s (que s q).attach ((que s q).sqBase + 64 * (que s q).head) = some p →
      (begun s q d).out = .dmaRead s.cxl.nextId p ((que s q).sqBase + 64 * (que s q).head) 64 :: s.out ∧
      (begun s q d).cxl = { s.cxl with nextId := s.cxl.nextId + 1 })) ∧
  (∀ (s : State) (q : Nat) (d : Desc), live s = true → canStart s q d = true → formatOk d = true → D.opcode d = 4 →
    (queEpid s (que s q)).isSome = true → D.atomAddr d % atomWidth (D.atomType d) ≠ 0 →
    let o := newborn s q d
    let x := complete q o.idx St.align 0 (D.atomAddr d) (begun s q d)
    exec (.atomic q d) s = .next (spent q o x) ∧ x.pool = s.pool ∧ x.ctrs = s.ctrs)

/-- A started operation that completes leaves its queue, takes the next slot of the completion ring, which counts as unconsumed, turns the phase
over at the end of the ring, and disarms the queue's vector; where it does not halt its queue, the queue keeps its state and head, and every
other queue keeps all it has (R134, R136, R137). The 16 bytes of its record are one posted write at that slot where a port of the attachment is
UP and holds nothing back; they wait in turn at a port that retrains; they are lost where no port holds them (log entry 109). An armed vector is
sent on the attachment's lowest UP port (R123, R311). A failed HALT descriptor halts its queue and no other (R122). An operation that is not
there completes nothing. A landing counter rises by what lands and stays at its greatest value with a record of class 8, and no other counter
changes; where no WAIT is pending, nothing else changes (R42, R43). -/
def Obligations.CompletionRecord : Prop :=
  (∀ (s : State) (q idx st n r : Nat) (o : Op), (que s q).op idx = some o → (D.halt o.d = false ∨ st = 0) →
    let x := que s q
    let a := x.cqBase + 16 * x.cqTail
    let b := recordBytes idx st (D.opcode o.d) x.phase n r
    let t := complete q idx st n r s
    (que t q).ops = x.ops.filter (fun p => p.idx ≠ idx) ∧ (que t q).cqTail = (x.cqTail + 1) % 2 ^ x.cqLog2 ∧
    (que t q).phase = (if x.cqTail + 1 = 2 ^ x.cqLog2 then !x.phase else x.phase) ∧ (que t q).used = x.used + 1 ∧ (que t q).arm = false ∧
    (que t q).st = x.st ∧ (que t q).head = x.head ∧ (∀ k, k ≠ q → que t k = que s k) ∧ sameBut [.out, .qs, .fab, .cxl] s t ∧
    (x.cqBase % 16 = 0 → x.arm = false →
      (∀ p, dmaPort s x.attach a = some p → (cxlPort s p).dmaq = [] → t.out = .dmaWrite p a b :: s.out ∧
        ((cxlPort s p).l1 = false → t.cxl = s.cxl)) ∧
      (dmaHolds (cxlPort s (dmaVia s x.attach a)) = false → t.out = s.out ∧ t.cxl = s.cxl) ∧
      (dmaHolds (cxlPort s (dmaVia s x.attach a)) = true → (cxlPort s (dmaVia s x.attach a)).st ≠ .up → t.out = s.out ∧
        (cxlPort t (dmaVia s x.attach a)).dmaq = (cxlPort s (dmaVia s x.attach a)).dmaq ++ [.dmaWrite (dmaVia s x.attach a) a b])) ∧
    (x.arm = true → ∀ u, upPort s x.attach = some u → t.out.head? = some (.msix u x.msix))) ∧
  (∀ (s : State) (q idx st n r : Nat) (o : Op), (que s q).op idx = some o → D.halt o.d = true → st ≠ 0 →
    (que (complete q idx st n r s) q).st = .halted ∧ (∀ k, k ≠ q → que (complete q idx st n r s) k = que s k)) ∧
  (∀ (s : State) (q idx st n r : Nat), (que s q).op idx = none → complete q idx st n r s = s) ∧
  (∀ (s : State) (c n : Nat), let t := raiseCtr c n s
    t.ctrs.get 0 c = Nat.min (2 ^ 64 - 1) (s.ctrs.get 0 c + n) ∧ (∀ k, k ≠ c → t.ctrs.get 0 k = s.ctrs.get 0 k) ∧
    (2 ^ 64 - 1 < s.ctrs.get 0 c + n → s.flt.q.length < 4096 → ∃ r ∈ t.flt.q, r.cls = 8 ∧ r.addr = c ∧ r.seq = s.flt.seq % 2 ^ 32)) ∧
  (∀ (s : State) (c n : Nat), (∀ e ∈ s.qs.ctx, ∀ o ∈ e.2.ops, D.opcode o.d ≠ 5) →
    let t := raiseCtr c n s
    (s.ctrs.get 0 c + n ≤ 2 ^ 64 - 1 → t.flt = s.flt) ∧ t.qs = s.qs ∧ sameBut [.ctrs, .flt, .regs] s t)

/-- QUANTUM_GRANT gives a free engine to the queue that `nextQueue` names, for WEIGHT times 64 KiB, with a prefetcher the queue already has;
without firmware, in a Hinge pause, with a core halted, braked, for an engine in use or for any other queue it changes nothing (R139 to R141,
R146, R411). QUANTUM_END frees an engine whose quantum is spent or whose queue is not ready, and otherwise changes nothing (R139). The queue that
`nextQueue` names is ready, and no ready queue without an engine has a lower class number (R140).
TABLE_WALK_DONE: a walk whose invalidation number is not its partition's any more is dropped and counted where a prefetcher asked for it, and
otherwise begins again under the number now in force; one whose number is in force ends by `walkFound`, which for a demand with a leaf at its end
caches the leaf under that number and answers what waited for it; without such a walk nothing changes (R102 to R105, R113).
PREFETCH_REPLY: without its prefetch, or for one that was cancelled, it is counted; else it fills its 4,096 bytes and 16 valid bits of the
queue's segment of its page. PREFETCH_TIMEOUT takes its prefetch off and counts it, with no fault record and no other change outside the fabric's
own state; without its prefetch it changes nothing (R147 to R150).
EPOCH_CLOSE_DRAIN_DONE of a closing partition that `drained` says is drained ends the close; not drained, or not closing, it changes nothing.
With the close the epoch rises modulo 2^32, the partition's counters read 0 and no other counter changes, the partition keeps its state, no other
partition changes and no byte of the pool changes (R52). -/
def Obligations.Engines : Prop :=
  (∀ (s : State) (e : Fin 32) (q : Nat), live s = true →
    (fwRuns s = true → s.fw.hinge = none → s.dbg.halted = [] → braked s = false → s.qs.engines.find e.val = none → nextQueue s = some q →
      (s.qs.fetchers.find q).isSome = true →
      exec (.quantumGrant e q) s = .next (settled (tracePoint 0 (que s q).part
        (leBytes 8 q ++ leBytes 8 e.val ++ leBytes 8 ((que s q).weight * 65536))
        { s with qs := { s.qs with engines := s.qs.engines.ins e.val ⟨q, (que s q).weight * 65536⟩,
                                   pointer := s.qs.pointer.ins (que s q).cls q } }))) ∧
    ((fwRuns s = false ∨ s.fw.hinge.isSome = true ∨ s.dbg.halted ≠ [] ∨ braked s = true ∨ (s.qs.engines.find e.val).isSome = true ∨
      nextQueue s ≠ some q) → exec (.quantumGrant e q) s = .next s)) ∧
  (∀ (s : State) (e : Fin 32), live s = true → s.qs.engines.find e.val = none → exec (.quantumEnd e) s = .next s) ∧
  (∀ (s : State) (e : Fin 32) (g : Engine), live s = true → s.qs.engines.find e.val = some g →
    ((g.left = 0 ∨ queReady s g.q = false) → ∃ t, exec (.quantumEnd e) s = .next t ∧ t.qs.engines = s.qs.engines.del e.val ∧
      t.qs.ctx = s.qs.ctx ∧ t.qs.segs = s.qs.segs ∧ (queReady s g.q = true → t.qs.fetchers = s.qs.fetchers) ∧
      (queReady s g.q = false → t.qs.fetchers = s.qs.fetchers.del g.q) ∧ sameBut [.fw, .qs] s t) ∧
    (g.left ≠ 0 → queReady s g.q = true → exec (.quantumEnd e) s = .next s)) ∧
  (∀ (s : State) (q : Nat), nextQueue s = some q →
    queReady s q = true ∧ ∀ k, k ∈ s.qs.ctx.map Prod.fst → queReady s k = true → engineOf s k = none → (que s q).cls ≤ (que s k).cls) ∧
  (∀ (s : State) (p fva : Nat) (bad : Bool) (w : Walk), live s = true →
    s.xlt.walks.find? (fun x => x.part == p && x.page == fva / 65536) = some w →
    let rest := { s with xlt := { s.xlt with walks := s.xlt.walks.erase w } }
    (w.seq ≠ (part s p).invSeq → w.pf = true → exec (.tableWalkDone p fva bad) s = .next (settled (bump 0x1C0008 rest))) ∧
    (w.seq ≠ (part s p).invSeq → w.pf = false → exec (.tableWalkDone p fva bad) s = .next (emit (.walk p fva)
      { s with xlt := { s.xlt with walks := s.xlt.walks.erase w ++ [{ w with seq := (part s p).invSeq }] } })) ∧
    (w.seq = (part s p).invSeq → exec (.tableWalkDone p fva bad) s = .next (settled (walkFound w bad rest))) ∧
    (∀ lv l, w.pf = false → w.ops = [] → (walkOf rest p (fva / 65536)).fin = .leaf lv l → walkFound w false rest =
      w.loads.foldl (fun s a => hostWalked p (.leaf lv l) w.seq a s)
        (cacheLeaf p (fva / 65536) lv l w.seq false (cachePtrs p (walkOf rest p (fva / 65536)).ptrs rest)))) ∧
  (∀ (s : State) (p fva : Nat) (bad : Bool), live s = true → (∀ w ∈ s.xlt.walks, ¬(w.part = p ∧ w.page = fva / 65536)) →
    exec (.tableWalkDone p fva bad) s = .next s) ∧
  (∀ (s : State) (id : Nat) (data : Bytes) (valid : List Bool), live s = true → s.fab.reqs.find id = none →
    (s.qs.pf.find id = none → endsIn (.prefetchReply id data valid) s (bump 0x280004 s)) ∧
    (∀ f, s.qs.pf.find id = some f →
      let u := { s with qs := { s.qs with pf := s.qs.pf.del id } }
      (f.cancelled = true → endsIn (.prefetchReply id data valid) s (bump 0x280004 u)) ∧
      (f.cancelled = false → endsIn (.prefetchReply id data valid) s { u with qs := { u.qs with segs := s.qs.segs.map (fun g =>
        if g.q = f.q ∧ g.part = f.part ∧ g.page = f.page ∧ g.idx = f.idx then
          { g with data := g.data.take f.off ++ (data ++ zeroBytes 4096).take 4096 ++ g.data.drop (f.off + 4096),
                   valid := g.valid.take (f.off / 256) ++ (valid ++ List.replicate 16 false).take 16 ++ g.valid.drop (f.off / 256 + 16) }
        else g) } }))) ∧
  (∀ (s : State) (id : Nat) (data : Bytes) (valid : List Bool) (r : OutReq), live s = true → s.fab.reqs.find id = some r →
    r.serves = .prefetch → exec (.prefetchReply id data valid) s =
      .next (settled (prefetchFilled id data valid (delReq id (ackFlow (flowKey r.src r.dst 1) 1 0 id false s))))) ∧
  (∀ (s : State) (id : Nat), live s = true → (s.qs.pf.find id = none → exec (.prefetchTimeout id) s = .next s) ∧
    (∀ f, s.qs.pf.find id = some f → ∃ t, exec (.prefetchTimeout id) s = .next t ∧ t.qs = { s.qs with pf := s.qs.pf.del id } ∧
      t.regs = (bump 0x280008 s).regs ∧ sameBut [.regs, .qs, .fab] s t)) ∧
  (∀ (s : State) (p : Nat), live s = true → ((part s p).closing = none ∨ drained s p = false) →
    exec (.epochCloseDrainDone p) s = .next s) ∧
  (∀ (s : State) (p : Nat) (l : List (Nat × Nat)), live s = true → (part s p).closing = some l → drained s p = true →
    exec (.epochCloseDrainDone p) s = .next (settled (closeEnd p l s))) ∧
  (∀ (s : State) (p : Nat) (l : List (Nat × Nat)), let t := closeEnd p l s
    (part t p).epoch = ((part s p).epoch + 1) % 2 ^ 32 ∧ (part t p).closing = none ∧ (part t p).st = (part s p).st ∧
    (∀ c, (part s p).prm.cBase ≤ c → c < (part s p).prm.cBase + (part s p).prm.cCount → t.ctrs.get 0 c = 0) ∧
    (∀ c, c < (part s p).prm.cBase ∨ (part s p).prm.cBase + (part s p).prm.cCount ≤ c → t.ctrs.get 0 c = s.ctrs.get 0 c) ∧
    (∀ k, k ≠ p → part t k = part s k) ∧ t.pool = s.pool)

/-! ### Flows and packets (R25, R34, R42, R83, R85, R108, R219 to R229, R233, R234, R253, R255, R328 to R340, R387, R503, R504) -/

/-- FLOW_IDLE_CLOSE: a flow with nothing unacknowledged and nothing waiting, neither closing nor frozen, sends a CLOSE under a new WID; without
an entry nothing changes (R331). RETX_DUE: a flow that is not frozen sets its timer again, counts and sends each of its recorded packets again,
in order, with HOPS, DETOURED and CE clear; a frozen one only sets its timer (R334). CC_WINDOW_END: every flow of a channel under congestion
control and every multicast PUT takes its new rate, which does not exceed RATE_MAX, its marks are cleared, and nothing else changes than the
greatest rate of new flows (R234, R241). DUP_SUPPRESS_EXPIRY takes the suppression entry off (R336). PACKET_EXPIRY: the copy of the packet that
has waited longest in a queue or without a route is discarded, counted and recorded; with no such copy, one held in the reorder store is; with
neither, nothing changes (R253). NO_ROUTE_EXPIRY: a packet without a route is discarded, counted and recorded; without one nothing changes
(R223). REDIRECT_WAIT_EXPIRY: a redirected request that waits is refused DENIED; without one nothing changes (R108). REQUEST_TIMEOUT of a request
of its EPID, that is no mirror control exchange and no rebuild, outside a repair's hold: a record of class 3 is written, the request ends with
TIMEOUT, and Deadbolt with cause 1 starts for a partition that is IDLE or ACTIVE; during the hold the expiry is kept for its end; without such a
request nothing changes (R34). LOST_FLOW_FREE of a lost module frees the flow entries, and the shadow entries, of its EPIDs; of any other module
it changes nothing (R328). -/
def Obligations.FlowTimers : Prop :=
  (∀ (s : State) (src dst vc : Nat), live s = true →
    let k := flowKey src dst vc
    (∀ f, s.fab.sflow.find k = some f → f.recs = [] → f.queue = [] → f.closing = false → f.frozen = false →
      exec (.flowIdleClose src dst vc) s = .next (settled (sendFlow
        { h := { mkHdr (takeWid s).2 ((partOfJob (takeWid s).2 f.job).getD 64) src dst vc 0 (takeWid s).1 true with job := f.job, close := true },
          rd := none, body := .close, tr := .zero } (takeWid s).2))) ∧
    (s.fab.sflow.find k = none → exec (.flowIdleClose src dst vc) s = .next s ∧ endsIn (.retxDue src dst vc) s s) ∧
    (∀ f, s.fab.sflow.find k = some f → f.frozen = false → exec (.retxDue src dst vc) s = .next (settled (f.recs.foldl (fun s q =>
      forwardRecorded { q with h := { q.h with hops := 0, detoured := false, ce := false } } (bump 0x6004C s))
      (setFlow s k { f with retxUs := s.now / 1000 + retxUs s })))) ∧
    (∀ f, s.fab.sflow.find k = some f → f.frozen = true →
      endsIn (.retxDue src dst vc) s (setFlow s k { f with retxUs := s.now / 1000 + retxUs s }))) ∧
  (∀ s : State, live s = true → ∃ t, exec .ccWindowEnd s = .next t ∧
    t.fab.sflow = s.fab.sflow.map (fun e => (e.1, { e.2 with
      rate := if e.1 % 8 = 0 ∨ e.1 % 8 = 2 then e.2.rate else newRate s e.2.gotAck e.2.gotEcho e.2.rate, gotAck := false, gotEcho := false })) ∧
    t.fab.runs = s.fab.runs.map (fun r => { r with rate := newRate s r.gotAck r.gotEcho r.rate, gotAck := false, gotEcho := false }) ∧
    t.fab.ccMax = rateMax s ∧ (∀ a b n, newRate s a b n ≤ 64 * rateMax s) ∧ t.fab.ep = s.fab.ep ∧ t.fab.reqs = s.fab.reqs ∧
    t.fab.dflow = s.fab.dflow ∧ t.fab.voq = s.fab.voq ∧ sameBut [.fab] s t) ∧
  (∀ (s : State) (src wid : Nat), live s = true →
    endsIn (.dupSuppressExpiry src wid) s { s with fab := { s.fab with dup := s.fab.dup.del (dupKey src wid) } }) ∧
  (∀ (s : State) (src dst vc seq : Nat), live s = true →
    (∀ q, oldest (waitingCopies src dst vc seq s) = some q → exec (.packetExpiry src dst vc seq) s =
      .next (settled (faultAt 0xE 6 none dst (bump 0x80020 (discardQueued q s))))) ∧
    (∀ d x, waitingCopies src dst vc seq s = [] → s.fab.dflow.find (flowKey src dst vc) = some d → d.held.find seq = some (some x) →
      exec (.packetExpiry src dst vc seq) s = .next (settled (faultAt 0xE 6 none dst (bump 0x80020
        (setDFlow (flowKey src dst vc) { d with held := d.held.del seq } s))))) ∧
    (waitingCopies src dst vc seq s = [] → s.fab.dflow.find (flowKey src dst vc) = none → exec (.packetExpiry src dst vc seq) s = .next s) ∧
    (∀ q, s.fab.noRoute.find? (isQueued src dst vc seq) = some q → exec (.noRouteExpiry src dst vc seq) s =
      .next (linkWork (faultAt 0xE 7 none dst (bump 0x60024
        (dropQueued q { s with fab := { s.fab with noRoute := s.fab.noRoute.erase q } }))))) ∧
    (s.fab.noRoute.any (isQueued src dst vc seq) = false → exec (.noRouteExpiry src dst vc seq) s = .next s) ∧
    (∀ x, s.fab.redirWait.filter (fun y => isPkt src dst vc seq y.1) = [x] → exec (.redirectWaitExpiry src dst vc seq) s =
      .next (settled (poolRefuse x.1.h x.1.body St.denied
        { s with fab := { s.fab with redirWait := s.fab.redirWait.filter (fun y => !isPkt src dst vc seq y.1) } }))) ∧
    (s.fab.redirWait.filter (fun y => isPkt src dst vc seq y.1) = [] → exec (.redirectWaitExpiry src dst vc seq) s = .next s)) ∧
  (∀ (s : State) (src wid : Nat) (r : OutReq), live s = true → s.fab.reqs.find wid = some r → r.src = src → s.rep.hold = none →
    (∀ k, r.serves ≠ .mctl k) → (∀ n k, r.serves ≠ .rebuild n k) →
    let t := endReq wid St.timeout (faultAt 3 (reqBlock r.serves) (some r.part) r.dst s)
    exec (.requestTimeout src wid) s = .next (settled
      (if (part s r.part).st = .idle ∨ (part s r.part).st = .active
       then originate (part t r.part).prm.jobTag 1 t.sys.moduleId src t else t))) ∧
  (∀ (s : State) (src wid : Nat) (r : OutReq), live s = true → s.fab.reqs.find wid = some r → r.src = src → s.rep.hold.isSome = true →
    (wid ∉ s.rep.late → exec (.requestTimeout src wid) s = .next { s with rep := { s.rep with late := s.rep.late ++ [wid] } }) ∧
    (wid ∈ s.rep.late → exec (.requestTimeout src wid) s = .next s)) ∧
  (∀ (s : State) (src wid : Nat), live s = true → (∀ r, s.fab.reqs.find wid = some r → r.src ≠ src) →
    exec (.requestTimeout src wid) s = .next s) ∧
  (∀ (s : State) (m : Nat), live s = true → (isLost s m = false → exec (.lostFlowFree m) s = .next s) ∧
    (isLost s m = true →
      let far (k : Nat) : Bool := (endpoint s k).v && (endpoint s k).home == m && !(endpoint s k).isLocal
      exec (.lostFlowFree m) s = .next (settled { s with fab := { s.fab with
        sflow := s.fab.sflow.keep (fun k _ => !(far (k / 8 / 2 ^ 17) || far (k / 8 % 2 ^ 17))),
        dflow := s.fab.dflow.keep (fun k _ => !(far (k / 8 / 2 ^ 17) || far (k / 8 % 2 ^ 17))),
        shadow := s.fab.shadow.keep (fun k _ => !far (k / 8192 / 8)) } })))

/-- FABRIC_PACKET_TRANSIT on a live module: on a port that is not up nothing happens; above 4,096 bytes, or in another number of flits
than its length gives, the packet's cells pass, and it is discarded, counted and recorded (R255); for an EPID of another module it is copied to the analysis port where it is to be, and at its hop limit
discarded, counted and recorded, else taken into the buffer and routed (R219, R222, R237); for an invalid EPID it is discarded and counted
(R211). One that is routed and finds no port waits (R223). A write, a read or an ATOMIC of this module for an invalid EPID is refused by its Ward
(R24).
For an EPID of this module (`forHere`): one that the Ward finds late is dropped and counted (R10); one of a partition that does not authenticate
is discarded, counted and recorded (R387). ACKNOWLEDGEMENT: one that the Ward passes and that authenticates, and one that the Ward clears with a
zero trailer, acts at once (R332, R333). REPLY on VC2, passed and authentic, acts at once; on another channel it acts in its turn and is
acknowledged (R25, R32). UNPROTECTED_REFUSAL, passed, is judged by `unprotected`: where its WID names no request, it is discarded as a packet
that does not authenticate; where it names one of its two EPIDs whose flow holds no packets, other than of a mirror control exchange or a
rebuild, a record of class 0x1C is written and the request ends DENIED (R503). -/
def Obligations.PacketArrival : Prop :=
  (∀ (s : State) (port : Fin 64) (q : Pkt) (n : Nat), live s = true →
    (portUp s port.val = false → endsIn (.fabricPacketTransit port q n) s s) ∧
    (portUp s port.val = true → (4096 < q.h.len ∨ n ≠ pktCells q) → exec (.fabricPacketTransit port q n) s = .next (settled (bump 0x8001C
      (faultAt 0xE 6 none q.h.dst (passCells port.val q.h.vc q.h.hops n s))))) ∧
    (portUp s port.val = true → q.h.len ≤ 4096 → n = pktCells q → (endpoint s q.h.dst).v = true → (endpoint s q.h.dst).isLocal = false →
      let x := anaCopy port.val false q s
      (hopLimit s ≤ q.h.hops → exec (.fabricPacketTransit port q n) s = .next (settled (faultAt 0xE 7 none q.h.dst
        (bump 0x6001C (passCells port.val q.h.vc q.h.hops (pktCells q) x))))) ∧
      (q.h.hops < hopLimit s → exec (.fabricPacketTransit port q n) s = .next (settled (forwardTransit port.val q x)))) ∧
    (portUp s port.val = true → q.h.len ≤ 4096 → n = pktCells q → (endpoint s q.h.dst).v = false →
      exec (.fabricPacketTransit port q n) s = .next (settled (bump 0x60024 (entered (some port) q s))))) ∧
  (∀ (s : State) (q : Pkt) (p : Nat), let x := takeFabric p q.h.vc q.h.hops (pktCells q) s
    (endpoint s q.h.dst).v = true → (endpoint s q.h.dst).isLocal = false → isLost s (endpoint s q.h.dst).home = false →
    choosePort x.2 q.h = none →
    forwardTransit p q s = { x.2 with fab := { x.2.fab with noRoute := x.2.fab.noRoute ++ [⟨p, x.1, s.now, .pkt q⟩] } }) ∧
  (∀ (s : State) (e : Env), live s = true → (endpoint s e.h.dst).v = false →
    (∀ b, exec (.fabricWrite none e b) s = .next (settled (wardDeny e.h (.write b) s))) ∧
    (∀ b, exec (.fabricReadRequest none e b) s = .next (settled (wardDeny e.h (.read b) s))) ∧
    (∀ b, exec (.atomicRequest none e b) s = .next (settled (wardDeny e.h (.atomic b) s)))) ∧
  (∀ (s : State) (port : Fin 64) (q : Pkt), forHere s (some port) q = true →
    let x := entered (some port) q s
    (ward x q.h q.rd q.body = .late →
      exec (.fabricPacketTransit port q (pktCells q)) s = .next (settled (bump 0x380004 x))) ∧
    (∀ p, ward x q.h q.rd q.body = .pass p → q.tr ≠ .zero → authOk x p q = false →
      exec (.fabricPacketTransit port q (pktCells q)) s = .next (settled (faultAt 0x1C 0 (some p) q.h.src (bump 0x40010 x))))) ∧
  (∀ (s : State) (port : Option (Fin 64)) (e : Env) (st : Nat), forHere s port (rowPkt e (.ack st)) = true →
    let x := entered port (rowPkt e (.ack st)) s
    (∀ p, ward x e.h e.rd (.ack st) = .pass p → e.tr ≠ .zero → authOk x p (rowPkt e (.ack st)) = true →
      exec (.acknowledgement port e st) s = .next (settled (ackArrive e.h st (handOver port e.h x)))) ∧
    (ward x e.h e.rd (.ack st) = .clear → e.tr = .zero →
      exec (.acknowledgement port e st) s = .next (settled (ackArrive e.h st (handOver port e.h x))))) ∧
  (∀ (s : State) (port : Option (Fin 64)) (e : Env) (p st : Nat) (d : Bytes) (v : List Bool), forHere s port (rowPkt e (.reply st d v)) = true →
    let x := entered port (rowPkt e (.reply st d v)) s
    ward x e.h e.rd (.reply st d v) = .pass p → authOk x p (rowPkt e (.reply st d v)) = true → e.h.vc = 2 →
    exec (.reply port e st d v) s = .next (settled (replyArrive e.h st d v (handOver port e.h x)))) ∧
  (∀ (s : State) (port : Option (Fin 64)) (e : Env) (p st : Nat) (d : Bytes) (v : List Bool), passes s port (rowPkt e (.reply st d v)) p = true →
    e.h.vc ≠ 2 → e.rd = none → e.h.mc = false → exec (.reply port e st d v) s = .next (settled
      (landed e.h false (replyArrive e.h st d v (opened s port (rowPkt e (.reply st d v))))))) ∧
  (∀ (s : State) (port : Option (Fin 64)) (e : Env) (p : Nat),
    let q := rowPkt { e with tr := .zero } (.ack St.denied)
    let x := entered port q s
    forHere s port q = true → ward x e.h e.rd (.ack St.denied) = .pass p →
    exec (.unprotectedRefusal port e) s = .next (settled (unprotected e.h St.denied x))) ∧
  (∀ (s : State) (h : Hdr), (s.fab.reqs.find h.wid = none → ∀ st, unprotected h st s = authFail (partOfJob s h.job) h s) ∧
    (∀ r, s.fab.reqs.find h.wid = some r → h.vc = 2 → h.len = 0 → h.wid ≠ 0 → r.src = h.dst → r.dst = h.src →
      s.fab.sflow.find (flowKey h.dst h.src h.ackedVc) = none → (∀ k, r.serves ≠ .mctl k) → (∀ n k, r.serves ≠ .rebuild n k) →
      unprotected h St.denied s = endReq h.wid St.denied (faultAt 0x1C 0 (some r.part) h.src s)))

/-- A packet for this module that the Ward passes for partition p, that authenticates, and that is the one its flow expects (`passes`), takes
effect in the state `opened`, in which it has crossed to its block and is its flow's open packet. FABRIC_WRITE, FABRIC_READ_REQUEST and
ATOMIC_REQUEST to the pool, unicast and not redirected, of a partition that is not closing where they write, with a counter of the partition and
an extent that admits them, make their access at their home (R10, R25, R30, R35, R42, R52); FABRIC_WRITE to a device address is written to the
accelerator by `deviceWrite` (R26). SIGNAL_ARRIVAL raises its counter and is acknowledged; of a closing partition it is refused with CLOSED (R42,
R52). DELIVERY_REPORT is counted for its run (R229). FLOW_CLOSE ends its flow (R331). REDIRECT_REQUEST goes through `redirectApply` (R108, R340).
MIRROR_WRITE of an extent mirrored here is applied where the tables have room for what it leaves, and otherwise discarded without acknowledgement
(R83, R331, R336, R337); REBUILD_STEP of one is applied (R85). MIRROR_CONTROL, which the Ward clears with a zero trailer, in its turn, is
acknowledged and judged (R504). MULTICAST_LEG goes through `legApply` (R228, R229). -/
def Obligations.PacketEffects : Prop :=
  (∀ (s : State) (port : Option (Fin 64)) (e : Env) (p i a x : Nat) (b : WriteBody) (r : Ext), b.dest = .home a x →
    passes s port (rowPkt e (.write b)) p = true → e.rd = none → e.h.mc = false → closing s p = false → ctrBad s p b.ctr = false →
    admitAt s e.h.job a b.data.length (some x) none = .ok (i, r) → exec (.fabricWrite port e b) s = .next (settled
      (access i r { who := .fabric e.h port, addr := a, ext := x, redirect := none, what := .write b.data b.mask b.ctr b.total } false
        (opened s port (rowPkt e (.write b)))))) ∧
  (∀ (s : State) (port : Option (Fin 64)) (e : Env) (p a : Nat) (b : WriteBody), b.dest = .device a →
    passes s port (rowPkt e (.write b)) p = true → e.rd = none → e.h.mc = false → closing s p = false → ctrBad s p b.ctr = false →
    exec (.fabricWrite port e b) s = .next (settled
      (deviceWrite p (endpoint s e.h.dst).attach e.h port b a (opened s port (rowPkt e (.write b)))))) ∧
  (∀ (s : State) (port : Option (Fin 64)) (e : Env) (p i : Nat) (b : ReadBody) (r : Ext), passes s port (rowPkt e (.read b)) p = true →
    e.rd = none → e.h.mc = false → e.h.vc ≠ 7 → admitAt s e.h.job b.addr b.len (some b.ext) none = .ok (i, r) →
    exec (.fabricReadRequest port e b) s = .next (settled
      (access i r { who := .fabric e.h port, addr := b.addr, ext := b.ext, redirect := none, what := .read b.len b.kind } false
        (opened s port (rowPkt e (.read b)))))) ∧
  (∀ (s : State) (port : Option (Fin 64)) (e : Env) (p i : Nat) (b : AtomBody) (r : Ext), passes s port (rowPkt e (.atomic b)) p = true →
    e.rd = none → e.h.mc = false → closing s p = false → ctrBad s p b.ctr = false →
    admitAt s e.h.job b.addr (atomWidth b.ty) (some b.ext) none = .ok (i, r) → exec (.atomicRequest port e b) s = .next (settled
      (access i r
        { who := .fabric e.h port, addr := b.addr, ext := b.ext, redirect := none, what := .atomic b.op b.ty b.operand b.compare b.ctr } false
        (opened s port (rowPkt e (.atomic b)))))) ∧
  (∀ (s : State) (port : Option (Fin 64)) (e : Env) (p c v : Nat), passes s port (rowPkt e (.signal c v)) p = true → e.rd = none →
    e.h.mc = false → closing s p = false → partOfCtr s c = some p →
    exec (.signalArrival port e c v) s = .next (settled (landed e.h false (raiseCtr c v (opened s port (rowPkt e (.signal c v))))))) ∧
  (∀ (s : State) (port : Option (Fin 64)) (e : Env) (p c v : Nat), passes s port (rowPkt e (.signal c v)) p = true → e.rd = none →
    e.h.mc = false → closing s p = true →
    exec (.signalArrival port e c v) s = .next (settled (refused e.h St.closed (opened s port (rowPkt e (.signal c v)))))) ∧
  (∀ (s : State) (port : Option (Fin 64)) (e : Env) (p : Nat) (x : Bool), passes s port (rowPkt e (.report x)) p = true → e.rd = none →
    e.h.mc = false → exec (.deliveryReport port e x) s = .next (settled (reportApply e.h x (opened s port (rowPkt e (.report x)))))) ∧
  (∀ (s : State) (port : Option (Fin 64)) (e : Env) (p : Nat), e.h.close = true → passes s port (rowPkt e .close) p = true → e.rd = none →
    e.h.mc = false → exec (.flowClose port e) s = .next (settled (closeApply e.h (opened s port (rowPkt e .close))))) ∧
  (∀ (s : State) (port : Option (Fin 64)) (e : Env) (p : Nat) (b : Body) (r : Redirect), passes s port (rowPkt e b) p = true → e.rd = some r →
    (∀ st, b ≠ .ack st) → (∀ st d v, b = .reply st d v → e.h.vc ≠ 2) →
    exec (.redirectRequest port e b) s = .next (settled (redirectApply p (rowPkt e b) port r (opened s port (rowPkt e b))))) ∧
  (∀ (s : State) (port : Option (Fin 64)) (e : Env) (p n : Nat) (b : MirrorBody) (r : Ext), passes s port (rowPkt e (.mirror b)) p = true →
    e.rd = none → e.h.mc = false → mirrorExt s b.home b.ext = some (n, r) →
    let x := opened s port (rowPkt e (.mirror b))
    (mirrorRoom x e.h b = true → exec (.mirrorWrite port e b) s = .next (settled (mirrorApply e.h b r x))) ∧
    (mirrorRoom x e.h b = false → exec (.mirrorWrite port e b) s = .next (settled (turnAway e.h x)))) ∧
  (∀ (s : State) (port : Option (Fin 64)) (e : Env) (p n : Nat) (b : RebuildBody) (r : Ext), passes s port (rowPkt e (.rebuild b)) p = true →
    e.rd = none → e.h.mc = false → mirrorExt s b.home b.ext = some (n, r) →
    exec (.rebuildStep port e b) s = .next (settled (rebuildApply e.h b n r (opened s port (rowPkt e (.rebuild b)))))) ∧
  (∀ (s : State) (port : Option (Fin 64)) (e : Env) (m : MirrorCtl), forHere s port (rowPkt e (.mctl m)) = true → e.tr = .zero → e.rd = none →
    e.h.mc = false → e.h.close = false → inTurn (entered port (rowPkt e (.mctl m)) s) e.h = true →
    exec (.mirrorControl port e m) s = .next (settled (mctlApply (endpoint s e.h.src).home e.h.job e.h.gen m
      (landed e.h true (opened s port (rowPkt e (.mctl m))))))) ∧
  (∀ (s : State) (port : Option (Fin 64)) (e : Env) (p : Nat) (b : Body), e.h.mc = true → passes s port (rowPkt e b) p = true → e.rd = none →
    (∀ st, b ≠ .ack st) → (∀ st d v, b = .reply st d v → e.h.vc ≠ 2) →
    exec (.multicastLeg port e b) s = .next (settled (legApply p e.h port b (opened s port (rowPkt e b)))))

/-- HEADER, CONTRIBUTION, RESULT_CHUNK, DONE, GO, ABORT, ALL_TO_ALL_REPORT and CAUSE, unicast and not redirected, that pass the Ward for a
partition, authenticate and come in their turn (`passes`) have their effect in the state `opened`: the header and the chunk at their vertex, the
result at its collective, and the records at their context; all but the result, which is acknowledged as its bytes land, are acknowledged at once
(R165 to R181). ARRIVAL_TIMEOUT of a vertex that waits for one of its two operands, in a group with ARRIVAL_MS, raises cause 0x43 with the lowest
rank of the missing operand's subtree; of one that has both or neither, or of a group without ARRIVAL_MS, it changes nothing (R182). -/
def Obligations.CollectiveRecords : Prop :=
  (∀ (s : State) (port : Option (Fin 64)) (e : Env) (p k v : Nat) (left : Bool) (r : CollRec) (c : CollOp), e.rd = none → e.h.mc = false →
    passes s port (rowPkt e (.header k v left r c)) p = true → exec (.header port e k v left r c) s =
      .next (settled (landed e.h false (vertHeader e.h k v left r c (opened s port (rowPkt e (.header k v left r c))))))) ∧
  (∀ (s : State) (port : Option (Fin 64)) (e : Env) (p : Nat) (b : ChunkBody), e.rd = none → e.h.mc = false →
    passes s port (rowPkt e (.chunk b)) p = true → exec (.contribution port e b) s =
      .next (settled (landed e.h false (vertChunk e.h b (opened s port (rowPkt e (.chunk b))))))) ∧
  (∀ (s : State) (port : Option (Fin 64)) (e : Env) (p : Nat) (b : ResultBody), e.rd = none → e.h.mc = false →
    passes s port (rowPkt e (.result b)) p = true →
    exec (.resultChunk port e b) s = .next (settled (resultArrive e.h b (opened s port (rowPkt e (.result b)))))) ∧
  (∀ (s : State) (port : Option (Fin 64)) (e : Env) (p : Nat) (r : CollRec), e.rd = none → e.h.mc = false →
    (passes s port (rowPkt e (.done r)) p = true → exec (.done port e r) s =
      .next (settled (landed e.h false (recArrive e.h.job (.done r) (opened s port (rowPkt e (.done r))))))) ∧
    (passes s port (rowPkt e (.go r)) p = true → exec (.go port e r) s =
      .next (settled (landed e.h false (recArrive e.h.job (.go r) (opened s port (rowPkt e (.go r))))))) ∧
    (passes s port (rowPkt e (.abort r)) p = true → exec (.abort port e r) s =
      .next (settled (landed e.h false (recArrive e.h.job (.abort r) (opened s port (rowPkt e (.abort r))))))) ∧
    (passes s port (rowPkt e (.a2aReport r)) p = true → exec (.allToAllReport port e r) s =
      .next (settled (landed e.h false (a2aReported e.h r (opened s port (rowPkt e (.a2aReport r))))))) ∧
    (passes s port (rowPkt e (.cause r)) p = true → exec (.cause port e r) s =
      .next (settled (landed e.h false (causeArrive e.h r (opened s port (rowPkt e (.cause r)))))))) ∧
  (∀ (s : State) (ctx seq lv vtx : Nat) (g : Grp) (v : CVert), live s = true → s.col.grps.find ctx = some g → vertOf s ctx seq lv vtx = some v →
    (g.p.arrivalMs ≠ 0 → v.lh = none → v.rh.isSome = true →
      exec (.arrivalTimeout ctx seq lv vtx) s = .next (settled (colCause g seq 0x43 vtx (rankMod s g vtx) s))) ∧
    (g.p.arrivalMs ≠ 0 → v.lh.isSome = true → v.rh = none →
      exec (.arrivalTimeout ctx seq lv vtx) s = .next (settled (colCause g seq 0x43 (vtx + 2 ^ lv) (rankMod s g (vtx + 2 ^ lv)) s))) ∧
    ((g.p.arrivalMs = 0 ∨ v.lh.isSome = v.rh.isSome) → exec (.arrivalTimeout ctx seq lv vtx) s = .next s))

/-! ### Biria links (R266, R270 to R291) -/

/-- FLIT_RECEIVED on a live module: on a port that is not lit nothing happens. A flit whose codewords do not decode, or whose CRC fails after
they do, is counted, sets NAK and is answered by an IDLE flit; corrected bytes are counted (R272, R274). One that passes goes to `goodFlit`; the
port and the switch go on, and it is answered by an IDLE flit where nothing sequenced went out (R271). Of a flit that passes: TYPE 3 is counted
and discarded; an IDLE flit of zeros only acknowledges; without NAK, a DATA or LINK flit on a port still lit whose LSEQ is not the expected one
sets NAK, and one in sequence advances the expected LSEQ modulo 16,384, clears NAK, gives its credit, and is taken as DATA or as a link message
(R271, R274).
LINK_NOP lets the port and the switch go on (R277). PORT_IDLE puts a lit port into idle power, and changes nothing on another (R266).
REPLAY_TIMEOUT of a lit port with unacknowledged flits, not stopped for a swap, below its limit of consecutive replays, counts and sends them all
again; at the limit the port goes DOWN; without such flits, stopped, or not lit it changes nothing (R276, R282). -/
def Obligations.Flits : Prop :=
  (∀ (s : State) (p : Fin 64) (f : Bytes), live s = true →
    let u (s : State) : State := setOpt (bump (0xC100C + 0x40 * p.val) s) p.val { optPort s p.val with nak := true }
    ((optPort s p.val).lit = false → endsIn (.flitReceived p f) s s) ∧
    ((optPort s p.val).lit = true → flitCorrect f = none → exec (.flitReceived p f) s = .next (settled (sendIdle p.val (u s)))) ∧
    (∀ c n, (optPort s p.val).lit = true → flitCorrect f = some (c, n) → flitCheck f = none →
      exec (.flitReceived p f) s = .next (settled (sendIdle p.val (u (bumpN (0xC1010 + 0x40 * p.val) n s))))) ∧
    (∀ c n g m, (optPort s p.val).lit = true → flitCorrect f = some (c, n) → flitCheck f = some (g, m) →
      exec (.flitReceived p f) s = .next (settled (answerIdle p.val (optPort s p.val).next
        (switch (txPort p.val (goodFlit p.val g (bumpN (0xC1010 + 0x40 * p.val) n s)))))))) ∧
  (∀ (s : State) (p : Nat) (g : Bytes), let h := flitHdrOf g
    let x := ackTo p h.ack s
    (h.type = 3 → goodFlit p g s = bump (0xC100C + 0x40 * p) s) ∧
    (h.type = 0 → h.crCount = 0 → g.drop 8 = zeroBytes 240 → h.nak = false → goodFlit p g s = x) ∧
    ((h.type = 1 ∨ h.type = 2) → h.nak = false → (optPort x p).lit = true →
      (h.lseq ≠ (optPort x p).expect → goodFlit p g s = setOpt x p { optPort x p with nak := true }) ∧
      (h.lseq = (optPort x p).expect →
        let y := takeReturn h.crVc h.crClass h.crShared h.crCount (optPort x p)
        let z := setOpt x p { y with expect := (y.expect + 1) % 16384, nak := false }
        goodFlit p g s = (if h.type = 1 then dataFlit p h.sop h.eop h.abandon g z else applyLink p g z)))) ∧
  (∀ (s : State) (p : Fin 64), live s = true → exec (.linkNop p) s = .next (settled (switch (txPort p.val s))) ∧
    ((optPort s p.val).lit = true → exec (.portIdle p) s = .next (setOpt s p.val { optPort s p.val with idle := true })) ∧
    ((optPort s p.val).lit = false → exec (.portIdle p) s = .next s ∧ exec (.replayTimeout p) s = .next s) ∧
    ((optPort s p.val).lit = true → ((optPort s p.val).sent = [] ∨ (optPort s p.val).stall = true) → exec (.replayTimeout p) s = .next s) ∧
    ((optPort s p.val).lit = true → (optPort s p.val).sent ≠ [] → (optPort s p.val).stall = false →
      ((optPort s p.val).replays < replayLimit s → exec (.replayTimeout p) s = .next
        (resendFlits p.val (health (576 + p.val) 0 1 (bump (0xC1014 + 0x40 * p.val)
          (setOpt s p.val { optPort s p.val with replays := (optPort s p.val).replays + 1 }))))) ∧
      (replayLimit s ≤ (optPort s p.val).replays → exec (.replayTimeout p) s = .next (goDown p.val s))))

/-- On a port that is not lit, SWAP_REQ, SWAP_DONE, SWAP_ABORT, CAL_START, CAL_END, LANES, WAVELENGTH_FAILURE, SWAP_CHECK_DONE, SWAP_TIMEOUT and
CAL_MEASURE_DONE change nothing (R277, R280). On a lit one:
SWAP_REQ of the receiver for a lane's own wavelength, toward the spare, with no swap and no calibration of the sending direction under way,
begins that swap, and stops DATA for a failure (R282). SWAP_DONE of a failure swap under way moves the lane, retires the wavelength it leaves,
counts the event and replays (R282). SWAP_ABORT with reason 2 of a planned swap under way ends it (R283). CAL_START of a wavelength below its
pre-emptive threshold begins its calibration at the receiver; CAL_END without retirement of the wavelength in calibration makes it the spare
(R285). LANES gives its direction the map it names and counts the event (R284). WAVELENGTH_FAILURE of a lane's wavelength, with a spare and no
swap under way, counts in its health and asks for its swap (R281, R282). SWAP_CHECK_DONE that passes for a planned swap moves the lane and
calibrates the wavelength it leaves (R283, R285). CAL_MEASURE_DONE ends the calibration at the sender, with the wavelength the spare or retired
(R285).
SWAP_TIMEOUT with no failure swap under way changes nothing; with one, on a lit port, it takes the port DOWN (R282, R283). SPARE_ROTATION of a
port that `mayRotate`, with a spare, no swap and no calibration, asks for the planned swap of the next working wavelength above the spare; of one
that may not it changes nothing (R285). -/
def Obligations.LinkLanes : Prop :=
  (∀ (s : State) (p : Fin 64), live s = true → (optPort s p.val).lit = false →
    (∀ dir lane src dst f, exec (.swapReq p dir lane src dst f) s = .next s) ∧
    (∀ dir lane dst n, endsIn (.swapDone p dir lane dst n) s s) ∧ (∀ dir lane r, endsIn (.swapAbort p dir lane r) s s) ∧
    (∀ w, exec (.calStart p w) s = .next s) ∧ (∀ w r, exec (.calEnd p w r) s = .next s) ∧
    (∀ dir n m k, exec (.lanes p dir n m k) s = .next s) ∧ (∀ w, exec (.wavelengthFailure p w) s = .next s) ∧
    (∀ ok, exec (.swapCheckDone p ok) s = .next s) ∧ exec (.swapTimeout p) s = .next s ∧ (∀ ok, exec (.calMeasureDone p ok) s = .next s)) ∧
  (∀ (s : State) (p : Fin 64) (lane src dst : Nat) (f : Bool), live s = true → (optPort s p.val).lit = true →
    (optPort s p.val).tx.map[lane]? = some src → (optPort s p.val).tx.swap = none → (optPort s p.val).tx.cal = none →
    (optPort s p.val).tx.spare = some dst → exec (.swapReq p true lane src dst f) s = .next (let o := optPort s p.val
      setOpt s p.val { o with tx := { o.tx with swap := some ⟨lane, src, dst, f⟩ }, stall := f })) ∧
  (∀ (s : State) (p : Fin 64) (x : Swap) (n : Nat), live s = true → (optPort s p.val).lit = true → (optPort s p.val).tx.swap = some x →
    x.failed = true → exec (.swapDone p true x.lane x.dst n) s = .next (settled (let o := optPort s p.val
      restate p.val (replay p.val false (laneEvent p.val (setOpt s p.val { o with tx := retire x.src (moveLane x o.tx), stall := false })))))) ∧
  (∀ (s : State) (p : Fin 64) (x : Swap), live s = true → (optPort s p.val).lit = true → (optPort s p.val).tx.swap = some x →
    x.failed = false → exec (.swapAbort p true x.lane 2) s = .next (settled (let o := optPort s p.val
      setOpt s p.val { o with tx := { o.tx with swap := none }, stall := false }))) ∧
  (∀ (s : State) (p : Fin 64) (w : Nat), live s = true → (optPort s p.val).lit = true → doomed s (9 * p.val + w) = false →
    exec (.calStart p w) s = .next (let o := optPort s p.val; setOpt s p.val { o with rx := { o.rx with cal := some w } })) ∧
  (∀ (s : State) (p : Fin 64) (w : Nat), live s = true → (optPort s p.val).lit = true → (optPort s p.val).rx.cal = some w →
    exec (.calEnd p w false) s = .next (let o := optPort s p.val
      restate p.val (setOpt s p.val { o with rx := { o.rx with cal := none, spare := some w } }))) ∧
  (∀ (s : State) (p : Fin 64) (dir : Bool) (n m k : Nat), live s = true → (optPort s p.val).lit = true →
    let w := lanesOf (Nat.min n 8) m
    let cut (d : Dir) : Dir := { d with map := w, swap := none, retired := rising (d.retired ++ d.map.filter (fun x => !w.contains x)) }
    exec (.lanes p dir n m k) s = .next (let o := optPort s p.val
      restate p.val (laneEvent p.val
        (setOpt s p.val (if dir then { o with tx := cut o.tx } else { o with rx := cut o.rx }))))) ∧
  (∀ (s : State) (p : Fin 64) (w : Fin 9) (lane d : Nat), live s = true → (optPort s p.val).lit = true →
    (optPort s p.val).rx.map.idxOf? w.val = some lane → (optPort s p.val).rx.swap = none → (optPort s p.val).rx.spare = some d →
    exec (.wavelengthFailure p w) s = .next (let h := health (9 * p.val + w.val) 1 1 s
      let o := optPort s p.val
      sendLink p.val 2 [1, lane, w.val, d, 1] (setOpt h p.val { o with
        rx := { o.rx with lost := w.val :: o.rx.lost, swap := some ⟨lane, w.val, d, true⟩, spare := some d, cal := none } }))) ∧
  (∀ (s : State) (p : Fin 64) (x : Swap), live s = true → (optPort s p.val).lit = true → (optPort s p.val).rx.swap = some x →
    x.failed = false → exec (.swapCheckDone p true) s = .next (let o := optPort s p.val
      restate p.val (sendLink p.val 3 [1, x.lane, x.dst, o.expect]
        (setOpt s p.val { o with rx := { moveLane x o.rx with cal := some x.src } })))) ∧
  (∀ (s : State) (p : Fin 64), live s = true → swapping (optPort s p.val).rx = false → swapping (optPort s p.val).tx = false →
    exec (.swapTimeout p) s = .next s) ∧
  (∀ (s : State) (p : Fin 64), live s = true → (optPort s p.val).lit = true →
    (swapping (optPort s p.val).rx = true ∨ swapping (optPort s p.val).tx = true) →
    ∃ t, exec (.swapTimeout p) s = .next t ∧ t = swapLate p.val s ∧ (optPort t p.val).st = .down) ∧
  (∀ (s : State) (p : Fin 64), live s = true →
    (∀ d w lane, mayRotate s p.val = true → (optPort s p.val).tx.spare = some d → rotateNext (optPort s p.val).tx.map d = some w →
      (optPort s p.val).tx.map.idxOf? w = some lane → (optPort s p.val).tx.swap = none → (optPort s p.val).tx.cal = none →
      exec (.spareRotation p) s = .next (sendLink p.val 2 [0, lane, w, d, 0]
        (setOpt s p.val { optPort s p.val with tx := { (optPort s p.val).tx with swap := some ⟨lane, w, d, false⟩ } }))) ∧
    (mayRotate s p.val = false → exec (.spareRotation p) s = .next s)) ∧
  (∀ (s : State) (p : Fin 64) (w : Nat) (ok : Bool), live s = true → (optPort s p.val).lit = true → (optPort s p.val).tx.cal = some w →
    exec (.calMeasureDone p ok) s = .next (let o := optPort s p.val
      restate p.val (sendLink p.val 6 [w, if ok then 0 else 1] (setOpt s p.val { o with tx := calOver w (!ok) o.tx }))))

/-- TRAINING_STEP_DONE of a port that may train and is TRAINING: below step 4 the next step follows; at step 4 the port sends its TRAIN message
and goes to step 5; at step 5 it goes to step 6 where it has heard its neighbour, and stays otherwise; at step 6 the receiving direction takes
the lanes measured: with fewer than MIN_LANES it stays at step 6, and otherwise it sends TRAIN again, goes to step 7 and comes up where it may
(R278). Of a port that may not train, or is not TRAINING, TRAINING_STEP_DONE and TRAINING_RETRY change nothing; TRAINING_RETRY at step 5 sends
TRAIN again, at another step it changes nothing. TRAIN at step 5 or later notes the neighbour and the proposed lanes, and the port comes up where
it may; on a lit port it gives the sending direction the proposed lanes; on one that is OFF or DOWN it changes nothing. A port at step 7 with its
neighbour known, whose lanes give it a state other than DOWN, takes that state and advertises its credit.
PHY_PLL_LOSS takes a port that is not OFF DOWN, with its PLL unlocked; where it had sent nothing unacknowledged and no packet was being cut
through, no other port changes (R288). PHY_PLL_RELOCK only notes the lock where the port is not DOWN; of a DOWN port that is enabled and may
train it begins a training from step 4 (R288). PORT_STATE_CHANGE goes through `tellState`; it changes nothing where the state has been told;
where a port that was not lit has another state that is neither lit nor DOWN, that is recorded with severity 0 and told to repair (R280, R323).
-/
def Obligations.LinkTraining : Prop :=
  (∀ (s : State) (p : Fin 64) (ok mg : List Nat), live s = true → trainable s p.val = true → (optPort s p.val).st = .training →
    ((optPort s p.val).step < 4 →
      exec (.trainingStepDone p ok mg) s = .next (setOpt s p.val { optPort s p.val with step := (optPort s p.val).step + 1 })) ∧
    ((optPort s p.val).step = 4 → exec (.trainingStepDone p ok mg) s = .next (let m := alive (optPort s p.val).rx
      sendTrain p.val { (optPort s p.val).rx with map := m.take 8, spare := if m.length = 9 then m.getLast? else none }
        (setOpt s p.val { optPort s p.val with step := 5 }))) ∧
    ((optPort s p.val).step = 5 → (optPort s p.val).nbr.isSome = true →
      exec (.trainingStepDone p ok mg) s = .next (setOpt s p.val { optPort s p.val with step := 6 })) ∧
    ((optPort s p.val).step = 5 → (optPort s p.val).nbr = none → exec (.trainingStepDone p ok mg) s = .next s) ∧
    ((optPort s p.val).step = 6 → (measured ok mg (optPort s p.val).rx).map.length < minLanes s →
      exec (.trainingStepDone p ok mg) s = .next
        (setOpt s p.val { optPort s p.val with rx := measured ok mg (optPort s p.val).rx })) ∧
    ((optPort s p.val).step = 6 → minLanes s ≤ (measured ok mg (optPort s p.val).rx).map.length →
      exec (.trainingStepDone p ok mg) s = .next (enterUp p.val (sendTrain p.val (measured ok mg (optPort s p.val).rx)
        (setOpt s p.val { optPort s p.val with rx := measured ok mg (optPort s p.val).rx, step := 7 }))))) ∧
  (∀ (s : State) (p : Fin 64) (ok mg : List Nat), live s = true → (trainable s p.val = false ∨ (optPort s p.val).st ≠ .training) →
    exec (.trainingStepDone p ok mg) s = .next s ∧ exec (.trainingRetry p) s = .next s) ∧
  (∀ (s : State) (p : Fin 64), live s = true → trainable s p.val = true → (optPort s p.val).st = .training → (optPort s p.val).step = 5 →
    exec (.trainingRetry p) s = .next (let m := alive (optPort s p.val).rx
      sendTrain p.val { (optPort s p.val).rx with map := m.take 8, spare := if m.length = 9 then m.getLast? else none } s)) ∧
  (∀ (s : State) (p : Fin 64), live s = true → (optPort s p.val).step ≠ 5 → exec (.trainingRetry p) s = .next s) ∧
  (∀ (s : State) (p : Fin 64) (m n k mn mp : Nat), live s = true → (optPort s p.val).lit = true →
    exec (.train p m n k mn mp) s = .next (restate p.val
      (setOpt s p.val { optPort s p.val with tx := proposed k mp (optPort s p.val).tx }))) ∧
  (∀ (s : State) (p : Fin 64) (m n k mn mp : Nat), live s = true → (optPort s p.val).st = .training → 5 ≤ (optPort s p.val).step →
    exec (.train p m n k mn mp) s = .next (enterUp p.val (foundNbr p.val m n
      (setOpt s p.val { optPort s p.val with nbr := some (m, n), tx := proposed k mp (optPort s p.val).tx })))) ∧
  (∀ (s : State) (p : Fin 64) (m n k mn mp : Nat), live s = true → ((optPort s p.val).st = .off ∨ (optPort s p.val).st = .down) →
    exec (.train p m n k mn mp) s = .next s) ∧
  (∀ (s : State) (p : Nat), (optPort s p).st = .training → (optPort s p).step = 7 → (optPort s p).nbr.isSome = true →
    portState s (optPort s p) ≠ .down →
    ∃ t, t = setOpt s p { optPort s p with st := portState s (optPort s p), step := 0 } ∧
      enterUp p s = advertise p { t with rep := { s.rep with isolated := false } }) ∧
  (∀ (s : State) (p : Fin 64), live s = true → (∃ t, exec (.phyPllLoss p) s = .next t ∧ (optPort t p.val).pll = false ∧
      ((optPort s p.val).st ≠ .off → (optPort t p.val).st = .down) ∧
      ((optPort s p.val).sent = [] → (optPort s p.val).data = [] → s.fab.cuts = [] →
        (∀ k, k ≠ p.val → optPort t k = optPort s k) ∧ sameBut [.seed, .hlt, .regs, .flt, .opt] s t)) ∧
    ((optPort s p.val).st ≠ .down → exec (.phyPllRelock p) s = .next (setOpt s p.val { optPort s p.val with pll := true })) ∧
    ((optPort s p.val).st = .down → optEn s p.val = true →
      exec (.phyPllRelock p) s = .next (quickRetrain p.val (setOpt s p.val { optPort s p.val with pll := true })) ∧
      (trainable (setOpt s p.val { optPort s p.val with pll := true }) p.val = true →
        ∃ t, exec (.phyPllRelock p) s = .next t ∧ (optPort t p.val).st = .training ∧ (optPort t p.val).step = 4))) ∧
  (∀ (s : State) (p : Fin 64), live s = true → exec (.portStateChange p) s = .next (settled (tellState p.val s)) ∧
    ((optPort s p.val).st = (optPort s p.val).told → endsIn (.portStateChange p) s s) ∧
    ((optPort s p.val).st ≠ (optPort s p.val).told → (optPort s p.val).st ≠ .down → (optPort s p.val).lit = false →
      (optPort s p.val).told ∉ [OptSt.up, .spareless, .degraded] →
      exec (.portStateChange p) s = .next (settled (changeLsa (faultSev 0xF 8 0 none p.val (optPort s p.val).st.code
        (setOpt s p.val { optPort s p.val with told := (optPort s p.val).st }))))))

/-! ### Repair (R323 to R329) -/

/-- LSA_PERIODIC: the module stores and floods an advertisement of its own links under a sequence number that rises modulo 2^32; no other
origin's changes, and where no port is up nothing leaves the module (R323). LSA_RECEIVED on a port that is not up changes nothing. On one that is
up the message's cells pass; one of this module's own origin, or no newer than the one stored, has no further effect than what
the ports may then send (R324, log entry 31); a newer one is stored in place of its origin's and flooded on the other ports, and starts the
hold where none runs and its content differs (R324, R326). LSA_AGE_OUT of another origin takes it out of the database where it cannot be
reached, and changes nothing where it can (R324).
REPAIR_HOLD_END ends the hold: the unreachable are declared lost, the path sets are installed, the end is counted, the ports that health has
retired go, and the requests whose timers had expired are judged; without a hold nothing changes (R326 to R328, R34, R346). ISOLATION_TIMEOUT
isolates a module without a link, and changes nothing with one, or once isolated (R329).
TRAY_RELEASE_ASSERT marks the module LEAVING, advertises it and reports 0x8012 with its ACTIVE partitions and the extents that it homes and
mirrors; TRAY_RELEASE_DEASSERT takes the mark back and advertises; each changes nothing where it is done already (R342). -/
def Obligations.Repair : Prop :=
  (∀ s : State, live s = true → ∃ t, exec .lsaPeriodic s = .next t ∧ t = originateLsa s ∧ t.rep.lsaSeq = (s.rep.lsaSeq + 1) % 2 ^ 32 ∧
    t.rep.lsdb.find s.sys.moduleId = some (ownLsa s s.rep.lsaSeq) ∧
    (∀ k, k ≠ s.sys.moduleId → t.rep.lsdb.find k = s.rep.lsdb.find k) ∧ sameBut [.out, .regs, .rep, .fab, .opt] s t ∧
    ((∀ p, p < 64 → portUp s p = false) → sameBut [.rep] s t)) ∧
  (∀ (s : State) (p : Fin 64) (l : Lsa), live s = true →
    let x := passCells p.val 0 1 (Load.lsa l 0).cells s
    (portUp s p.val = false → exec (.lsaReceived p l) s = .next s) ∧
    (portUp s p.val = true → (l.origin = s.sys.moduleId ∨ ∃ o, s.rep.lsdb.find l.origin = some o ∧ newerSeq l.seq o.seq = false) →
      exec (.lsaReceived p l) s = .next (linkWork x)) ∧
    (portUp s p.val = true → l.origin ≠ s.sys.moduleId → (∀ o, s.rep.lsdb.find l.origin = some o → newerSeq l.seq o.seq = true) →
      ∃ t, exec (.lsaReceived p l) s = .next t ∧ t = linkWork (floodLsa l (some p.val) (storeLsa l x)) ∧
        t.rep.lsdb = s.rep.lsdb.ins l.origin l ∧
        ((∀ o, s.rep.lsdb.find l.origin = some o → sameLsa o l = false) → s.rep.hold = none → t.rep.hold = some s.now) ∧
        (s.rep.hold.isSome = true → t.rep.hold = s.rep.hold) ∧ sameBut [.out, .regs, .rep, .fab, .opt] s t)) ∧
  (∀ (s : State) (o : Nat), live s = true → o ≠ s.sys.moduleId →
    (reachable s o = false → exec (.lsaAgeOut o) s = .next { s with rep := { s.rep with lsdb := s.rep.lsdb.del o } }) ∧
    (reachable s o = true → exec (.lsaAgeOut o) s = .next s)) ∧
  (∀ s : State, live s = true → (s.rep.hold = none → endsIn .repairHoldEnd s s) ∧
    (∀ t, s.rep.hold = some t → exec .repairHoldEnd s = .next (settled (lateRequests s.fab.ep (retirePorts (bump 0x60048 (installAll
      (loseUnreachable { s with rep := { s.rep with hold := none, lastUs := Nat.min ((s.now - t) / 1000) 16383 } }))))))) ∧
    ((linked s = true ∨ s.rep.isolated = true) → endsIn .isolationTimeout s s) ∧
    (linked s = false → s.rep.isolated = false → exec .isolationTimeout s = .next (settled (isolate s)))) ∧
  (∀ s : State, live s = true → s.rep.leaving = false → exec .trayReleaseAssert s = .next
    (report 0x8012 (s.parts.filter (fun e => e.2.st == .active)).length (ownExtents s)
      (changeLsa { s with rep := { s.rep with leaving := true } }))) ∧
  (∀ s : State, live s = true → s.rep.leaving = true → exec .trayReleaseAssert s = .next s) ∧
  (∀ s : State, live s = true → s.rep.leaving = true →
    exec .trayReleaseDeassert s = .next (settled (changeLsa { s with rep := { s.rep with leaving := false } }))) ∧
  (∀ s : State, live s = true → s.rep.leaving = false → exec .trayReleaseDeassert s = .next s)

/-! ### Registers (R46, R123 to R125, R373, R379 to R382, R410, R417, R418, R421, R461 to R482) -/

/-- FLT_POP, FLT_STAT_LOST_CLEAR, LATCH_SNAP, UNLOCK, IND_DATA_WRITE, CFGCRC_REF_WRITE, SET_ALIAS_WRITE, CLR_ALIAS_WRITE, TGL_ALIAS_WRITE,
REGISTER_WRITE, OPT_PORT_ENABLE, OPT_PORT_RETRAIN, CXL_PORT_RETRAIN, CAP_COMMAND, CLK_GATE_OFF_REQ, CLK_OBS_WRITE and HLT_PLAN_RUN are writes of
a register at the offset that `regRow` gives, while the module runs. From a manager in a new transaction, at an aligned offset outside the
counter window and the doorbells: with the lease, or at a register that needs none, the write reaches its register by `writeReg`, uses up the
unlock, and is answered with the status it gives; without the lease it is answered LEASE and counted. A misaligned one is answered RANGE; a
repeated transaction gets its stored response again (R381, R463, R465, R469, R496). Firmware's own, of 4 bytes and aligned, reaches its register
by `writeReg`. A host's at no doorbell is refused by its class, counted and recorded (R382).
At a register with fields that may be set by an alias, other than those with an action or another home: where an RW-L bit would change without
the unlock, `writeReg` answers DENIED and no configuration register changes; otherwise it answers OK, the register takes the bits that may be
written with each field in its range, and no other register changes. An alias sets, clears or toggles the bits of the data that may be written
(R466 to R469).
DOORBELL of a queue, from the host of a port of attachment `att` that carries CXL.io, as 8 bytes at the doorbell itself: where the queue's
partition is bound there and ACTIVE, the queue is enabled and of that attachment and the reserved bits are zero, both indices in their rings ring
it, and an index beyond its ring halts the queue (R10, R123, R124). Where the partition is not bound there, the write is dropped, counted and
recorded; of a partition that is RESETTING or TORN it is dropped in silence; of another that is not ACTIVE it is refused with a record (R10,
R124, R355, R374, R382). -/
def Obligations.RegisterWrites : Prop :=
  (∀ (c : Instr) (s : State) (a : RAcc) (l : Link) (off o : Nat) (d : Word) (k : WriteKind), regRow c = some (a, off, d) → running s = true →
    a.who = .mgt l → freshTxn s l a.txn = true → off % 4 = 0 → inCounters off = false → resolve off = some (o, k) → inDoorbells o = false →
    let w := writeReg (.mgt l) (linkIdx l) o k d (acc s (linkIdx l)).unlocked (mgrHeard s l)
    ((s.mgt.holder = some l ∨ leaseFreeReg o = true) → exec c s = .next (regAnswered l a.txn w.1 0 (settled w.2))) ∧
    (s.mgt.holder ≠ some l → leaseFreeReg o = false →
      exec c s = .next (regAnswered l a.txn .lease 0 (bump 0x4000C (heard (.mgt l) s))))) ∧
  (∀ (c : Instr) (s : State) (a : RAcc) (l : Link) (off : Nat) (d : Word), regRow c = some (a, off, d) → running s = true → a.who = .mgt l →
    (freshTxn s l a.txn = true → off % 4 ≠ 0 → exec c s = .next (regAnswered l a.txn .range 0 (heard (.mgt l) s))) ∧
    (∀ o, linkStored s l a.txn = some o → exec c s = .next (emit o (heard (.mgt l) s)))) ∧
  (∀ (c : Instr) (s : State) (a : RAcc) (off o : Nat) (d : Word) (k : WriteKind), regRow c = some (a, off, d) → running s = true →
    a.who = .ctrl → fwRuns s = true → a.size = 4 → off % 4 = 0 → inCounters off = false → resolve off = some (o, k) → inDoorbells o = false →
    let x := accOf s .ctrl
    exec c s = .next (settled
      (writeReg .ctrl x o k d (acc s x).unlocked (setAcc s x { acc s x with unlocked := false })).2)) ∧
  (∀ (c : Instr) (s : State) (a : RAcc) (off o att : Nat) (d : Word) (k : WriteKind) (p : Fin 16), regRow c = some (a, off, d) →
    running s = true → a.who = .host p → ioUp (cxlPort s p.val) = true → attachOf s p.val = some att → resolve off = some (o, k) →
    inDoorbells o = false → exec c s = .next (faultAt 0 0 none off (bump 0x40008 s))) ∧
  (∀ (s : State) (w : Acc) (x off : Nat) (k : WriteKind) (d : Word) (u : Bool) (r : RegDef), regDef off = some r → r.writable = true →
    r.aliasMask ≠ 0#32 →
    off ∉ [0x8, 0xC, 0x10, 0x1C, 0x20, 0x28, 0x10008, 0x20004, 0x2000C, 0x30000, 0x380000, 0x38000C, 0x3C0010] →
    ¬(0xC1000 ≤ off ∧ off < 0xC2000) → ¬(0x101000 ≤ off ∧ off < 0x101400) →
    let v := clampAll r (newBits r k (cfgReg s off) d)
    ((v.1 ^^^ cfgReg s off) &&& BitVec.ofNat 32 r.rwl ≠ 0#32 → u = false →
      (writeReg w x off k d u s).1 = .denied ∧ (∀ o, cfgReg (writeReg w x off k d u s).2 o = cfgReg s o)) ∧
    (((v.1 ^^^ cfgReg s off) &&& BitVec.ofNat 32 r.rwl = 0#32 ∨ u = true) →
      let t := (writeReg w x off k d u s).2
      (writeReg w x off k d u s).1 = .ok ∧ cfgReg t off = v.1 ∧ (∀ o, o ≠ off → cfgReg t o = cfgReg s o) ∧
      sameBut [.seed, .regs, .flt] s t)) ∧
  (∀ (r : RegDef) (v d : Word), newBits r .set v d = v ||| (d &&& r.aliasMask) ∧ newBits r .clr v d = v &&& ~~~(d &&& r.aliasMask) ∧
    newBits r .tgl v d = v ^^^ (d &&& r.aliasMask)) ∧
  (∀ (s : State) (p : Fin 16) (q n : Nat) (v : DWord) (a : RAcc) (att : Nat), a.who = .host p → running s = true → q < 65536 →
    attachOf s p.val = some att → ioUp (cxlPort s p.val) = true → partOfQueue s q = some n → a.size = 8 →
    (boundTo s n att = true → (part s n).st = .active → (que s q).st ≠ .disabled → (que s q).attach = att → bitsOf v.toNat 63 33 = 0 →
      (bitsOf v.toNat 15 0 < 2 ^ (que s q).sqLog2 → bitsOf v.toNat 31 16 < 2 ^ (que s q).cqLog2 →
        exec (.doorbell a q v true) s = .next (ringDoorbell q v s)) ∧
      ((2 ^ (que s q).sqLog2 ≤ bitsOf v.toNat 15 0 ∨ 2 ^ (que s q).cqLog2 ≤ bitsOf v.toNat 31 16) →
        exec (.doorbell a q v true) s = .next (doorbellHalts q s))) ∧
    (boundTo s n att = false → exec (.doorbell a q v true) s =
      .next (faultAt 0 2 none (0x200000 + 8 * q) (bump 0x28000C (bump 0x40008 s)))) ∧
    (boundTo s n att = true → ((part s n).st = .resetting ∨ (part s n).st = .torn) → exec (.doorbell a q v true) s = .next s) ∧
    (boundTo s n att = true → (part s n).st ∉ [PartSt.active, .resetting, .torn] →
      exec (.doorbell a q v true) s = .next (faultAt 0 0 (some n) (0x200000 + 8 * q) s)))

/-- A write of the manager with the lease, in a new transaction, while no changed RSV-P bit stands, leaves a state `t` in which, against the
state in which it is heard: FLT_POP of 1 takes the oldest fault record off the queue and keeps the rest, LOST and SEQ (R373); FLT_STAT_LOST_CLEAR
clears LOST and the overflow counters and keeps the records (R373); LATCH_SNAP of 1 holds a snapshot under the next number, with the time (R476);
UNLOCK unlocks its own accessor with the right key, locks it with another, and leaves every other accessor alone (R469); IND_DATA_WRITE steps its
accessor's TOP_IND_ADDR by 4 modulo 2^32 and writes nothing (R472); CFGCRC_REF_WRITE takes the reference and arms the comparison (R478);
HLT_PLAN_RUN of 1 begins a plan where firmware runs (R421); CAP_COMMAND of a cap at or above lit-idle and without reserved bits stores it, and of
one below it stores lit-idle and sets CAP_CLAMPED (R410); OPT_PORT_ENABLE of 3, which sets EN, of a port that is OFF with its PLL locked and the
lasers on, begins its training at step 1 (R278, R432); OPT_PORT_RETRAIN of 7 of an enabled port that is DOWN, with its PLL locked and the lasers
on, begins one at step 4 (R278); CXL_PORT_RETRAIN of 1 of a port that carries CXL.io puts it into TRAINING (R294, R317); CLK_OBS_WRITE of 16 bits
stores them (R418); CLK_GATE_OFF_REQ that its unlock lets through stores its five bits, and one of 0 opens every domain (R417, R469). Nothing
else changes than the parts named. UNLOCK_LAPSE locks its accessor (R469). IND_DATA_READ of a manager answers the word at TOP_IND_ADDR and steps
it (R472); TOP_TIME_LO_READ answers the low half of the time and keeps the high half for its accessor (R480). CFGCRC_PASS stores the CRC; where
the comparison is armed and differs, it sets CFG_ERR, ends the comparison, and, where the fault queue has room, records it with class 0x16 and
severity 2 (R477, R478). -/
def Obligations.RegisterActions : Prop :=
  (∀ (s : State) (a : RAcc) (l : Link), mgrWrites s a l → unbound s = false →
    let h := mgrHeard s l
    let x := linkIdx l
    (∃ t, answersReg (.fltPop a 1#32) s a l t ∧ t.flt.q = s.flt.q.drop 1 ∧ t.flt.lost = s.flt.lost ∧ t.flt.seq = s.flt.seq ∧
      sameBut [.regs, .flt] h t) ∧
    (∃ t, answersReg (.fltStatLostClear a 0x2000#32) s a l t ∧ t.flt.lost = false ∧ t.flt.q = s.flt.q ∧
      (∀ o, 0x380100 ≤ o → o < 0x380200 → t.regs.cnt.get 0 o = 0) ∧ sameBut [.regs, .flt] h t) ∧
    (∃ t, answersReg (.latchSnap a 1#32) s a l t ∧ t.regs.held.isSome = true ∧ t.regs.latchSeq = (s.regs.latchSeq + 1) % 65536 ∧
      t.regs.latchNs = s.now ∧ sameBut [.regs] h t) ∧
    (∀ k, ∃ t, answersReg (.unlock a k) s a l t ∧ (acc t x).unlocked = (k == 0x4C4F434B#32) ∧ (∀ y, y ≠ x → acc t y = acc s y) ∧
      sameBut [.regs] h t) ∧
    (∀ d, ∃ t, answersReg (.indDataWrite a d) s a l t ∧ (acc t x).ind = ((acc s x).ind / 4 * 4 + 4) % 2 ^ 32 + (acc s x).ind % 4 ∧
      t.regs.ind = s.regs.ind ∧ sameBut [.regs] h t) ∧
    (∀ d, ∃ t, answersReg (.cfgcrcRefWrite a d) s a l t ∧ t.regs.ref = d ∧ t.regs.armed = true ∧ t.regs.cfg = s.regs.cfg ∧
      sameBut [.regs] h t) ∧
    (fwRuns s = true → ∃ t, answersReg (.hltPlanRun a 1#32) s a l t ∧ t.hlt = { s.hlt with plan := true } ∧ sameBut [.regs, .hlt] h t) ∧
    (∀ v : Word, v.toNat < 2048 → ∃ t, answersReg (.capCommand a v) s a l t ∧
      (litIdle s ≤ v.toNat → cfgReg t 0x20004 = v ∧ sameBut [.regs] h t) ∧
      (v.toNat < litIdle s → cfgReg t 0x20004 = BitVec.ofNat 32 (litIdle s) ∧ t.pwr = { s.pwr with capClamped := true } ∧
        sameBut [.seed, .pwr, .regs, .flt] h t)) ∧
    (∀ p : Fin 64, (optPort s p.val).st = .off → optEn s p.val = false → lasersOn s = true → (optPort s p.val).pll = true →
      ∃ t, answersReg (.optPortEnable a p 3#32) s a l t ∧ optEn t p.val = true ∧ (optPort t p.val).st = .training ∧ (optPort t p.val).step = 1) ∧
    (∀ p : Fin 64, (optPort s p.val).st = .down → optEn s p.val = true → lasersOn s = true → (optPort s p.val).pll = true →
      ∃ t, answersReg (.optPortRetrain a p 7#32) s a l t ∧ optEn t p.val = true ∧ (optPort t p.val).st = .training ∧ (optPort t p.val).step = 4) ∧
    (∀ p : Fin 16, ioUp (cxlPort s p.val) = true →
      ∃ t, answersReg (.cxlPortRetrain a p 1#32) s a l t ∧ cxlPort t p.val = { cxlPort s p.val with st := .training }) ∧
    (∀ v : Word, v.toNat < 65536 → ∃ t, answersReg (.clkObsWrite a v) s a l t ∧ cfgReg t 0x10004 = v ∧ sameBut [.regs] h t) ∧
    (∀ v : Word, v.toNat < 32 → ((acc s x).unlocked = true ∨ v = cfgReg s 0x10008) →
      ∃ t, answersReg (.clkGateOffReq a v) s a l t ∧ cfgReg t 0x10008 = v ∧ (v = 0#32 → s.clk.gated < 32 → t.clk.gated = 0) ∧
        sameBut [.clk, .regs] h t)) ∧
  (∀ (s : State) (a : Acc), live s = true →
    exec (.unlockLapse a) s = .next (setAcc s (accOf s a) { acc s (accOf s a) with unlocked := false })) ∧
  (∀ (s : State) (a : RAcc) (l : Link), live s = true → a.who = .mgt l → freshTxn s l a.txn = true →
    exec (.indDataRead a) s = .next (regAnswered l a.txn .ok (readInd (heard (.mgt l) s) (linkIdx l)).toNat (advanceInd (linkIdx l) (heard (.mgt l) s))) ∧
    exec (.topTimeLoRead a) s = .next (regAnswered l a.txn .ok (s.now % 2 ^ 32)
      (let h := heard (.mgt l) s
       setAcc h (linkIdx l) { acc s (linkIdx l) with timeHi := s.now / 2 ^ 32 % 2 ^ 32 }))) ∧
  (∀ s : State, running s = true →
    ((s.regs.armed = false ∨ configCrc s = s.regs.ref) → exec .cfgcrcPass s = .next { s with regs := { s.regs with crc := configCrc s } }) ∧
    (s.regs.armed = true → configCrc s ≠ s.regs.ref → ∃ t, exec .cfgcrcPass s = .next t ∧ t.regs.cfgErr = true ∧ t.regs.armed = false ∧
      t.regs.crc = configCrc s ∧ (s.flt.q.length < 4096 → ∃ r, t.flt.q = s.flt.q ++ [r] ∧ r.cls = 0x16 ∧ r.sev = 2) ∧
      sameBut [.regs, .flt] s t))

/-- A fault record (R369, R371): the queue takes it while it holds fewer than 4,096, oldest first; a full queue keeps what it holds, the record's
class counts it, and LOST is set. SEQ counts it either way, and nothing else changes. -/
def Obligations.FaultQueue : Prop :=
  ∀ (s : State) (cls block sev : Nat) (p : Option Nat) (addr detail : Nat), cls < 64 →
    let t := faultSev cls block sev p addr detail s
    t.flt.seq = (s.flt.seq + 1) % 2 ^ 32 ∧
    (s.flt.q.length < 4096 → t.flt.q = s.flt.q ++ [⟨cls, block, sev, p, s.flt.seq % 2 ^ 32, s.now, addr, detail⟩] ∧ t.flt.lost = s.flt.lost ∧
      sameBut [.flt] s t) ∧
    (4096 ≤ s.flt.q.length → t.flt.q = s.flt.q ∧ t.flt.lost = true ∧
      t.regs.cnt.get 0 (0x380100 + 4 * cls) = Nat.min cntMax (s.regs.cnt.get 0 (0x380100 + 4 * cls) + 1) ∧
      (∀ o, o ≠ 0x380100 + 4 * cls → t.regs.cnt.get 0 o = s.regs.cnt.get 0 o) ∧ sameBut [.regs, .flt] s t)

/-! ### The debug port (R456 to R459) -/

/-- With the debug port enabled, no access unfinished and the module live (`dbgReady`), a frame whose CRC holds is answered with the result of
the frame before it (`dbgShown`), and (R456 to R458): NOP does no more. HALT of a core below 16 halts it and no core that is halted runs, with
status 0; BP_SET and BP_CLEAR set and clear its breakpoint, with status 0. RESUME and STEP of a halted core release it, and let it run while it
stays halted, with status 0; CORE_RD of one of its registers returns the value it has, and CORE_WR writes it, with status 0 and no other register
of the core changed. RESUME, STEP and CORE_RD of a core that is not halted give status 3 and change nothing else but free values. MEM_WR at an
aligned address below 32 MiB with all cores halted writes its four bytes and no other byte, with status 0; MEM_RD of a word that has been written
so returns it. MEM_RD, MEM_WR, REG_RD and REG_WR at an address that is not aligned give status 6. REG_RD and REG_WR outside the counter window at
an offset that resolves read and write the register as the debug accessor, a refused write with status 1. PART_RD and PART_WR go through
`debugPart`, which without the partition's consent to DEBUG gives status 1, counted and recorded.
BREAKPOINT_HIT of a breakpoint that is set, with the port enabled and firmware running, halts its core; with the port disabled, or no such
breakpoint, it changes nothing (R457). DBG_EN_RISE enables the port and notes that it has been; DBG_EN_FALL of an enabled port with no core
halted, and nothing under way in the data path, disables it, with no breakpoint and no access left, and changes nothing else but free values; of
a disabled port it changes nothing (R458, R459). While DBG_EN is low a frame changes nothing; while an access has not finished it is answered
BUSY and changes nothing else but free values; one whose CRC fails is answered like another, does nothing, and has status 4 as its result (R456,
R458). -/
def Obligations.DebugOperations : Prop :=
  (∀ s : State, dbgReady s = true → exec (.dbgNop true) s = .next (dbgShown s)) ∧
  (∀ (s : State) (c : Nat), dbgReady s = true → c < 16 →
    exec (.halt true c) s = .next (resultSt 0 (haltCore c (dbgShown s))) ∧ c ∈ (haltCore c s).dbg.halted ∧
    (∀ k, k ∈ s.dbg.halted → k ∈ (haltCore c s).dbg.halted) ∧
    (∀ a d, exec (.bpSet true c a d) s = .next (resultSt 0
      { dbgShown s with dbg := { s.dbg with bps := s.dbg.bps.ins (8 * c + d % 8) a } })) ∧
    (∀ d, exec (.bpClear true c d) s = .next (resultSt 0
      { dbgShown s with dbg := { s.dbg with bps := s.dbg.bps.del (8 * c + d % 8) } }))) ∧
  (∀ (s : State) (c : Nat), dbgReady s = true → c < 16 → c ∈ s.dbg.halted →
    exec (.resume true c) s = .next (resultSt 0 (resumeCore c (dbgShown s))) ∧ c ∉ (resumeCore c s).dbg.halted ∧
    exec (.step true c) s = .next (resultSt 0 (coreRuns c (dbgShown s))) ∧ (coreRuns c s).dbg.halted = s.dbg.halted ∧
    (∀ a, coreReg a = true → exec (.coreRd true c a) s = .next (result 0 (coreVal s c a) (dbgShown s))) ∧
    (∀ a d, coreReg a = true → ∃ t, exec (.coreWr true c a d) s = .next t ∧ coreVal t c a = d % 2 ^ 32 ∧ t.dbg.lastSt = 0 ∧
      (∀ k, k < 65536 → k ≠ a → coreVal t c k = coreVal s c k) ∧ sameBut [.out, .seed, .dbg] s t)) ∧
  (∀ (s : State) (c : Nat), dbgReady s = true → c < 16 → c ∉ s.dbg.halted → ∀ i ∈ [Instr.resume true c, .step true c, .coreRd true c 0],
    ∃ t, exec i s = .next t ∧ t.dbg.lastSt = 3 ∧ sameBut [.out, .seed, .dbg] s t) ∧
  (∀ (s : State) (c : Fin 16) (n : Fin 8), live s = true →
    (s.dbg.en = true → fwRuns s = true → (s.dbg.bps.find (8 * c.val + n.val)).isSome = true →
      exec (.breakpointHit c n) s = .next (haltCore c.val s)) ∧
    ((s.dbg.en = false ∨ s.dbg.bps.find (8 * c.val + n.val) = none) → exec (.breakpointHit c n) s = .next s)) ∧
  (∀ (s : State) (a : Nat) (d : Word), dbgReady s = true → a % 4 = 0 → a < 2 ^ 25 →
    (s.dbg.halted.length = 16 → ∃ t, exec (.memWr true a d) s = .next t ∧ t.dbg.mem.bytes a 4 = leBytes 4 d.toNat ∧ t.dbg.lastSt = 0 ∧
      (∀ b, b < a ∨ a + 4 ≤ b → t.dbg.mem.get 0#8 b = s.dbg.mem.get 0#8 b) ∧ sameBut [.out, .seed, .dbg] s t) ∧
    ((s.dbg.mem.find a).isSome = true → exec (.memRd true a) s = .next (result 0 (leNat (s.dbg.mem.bytes a 4)) (dbgShown s)))) ∧
  (∀ (s : State) (a : Nat) (d : Word), dbgReady s = true → a % 4 ≠ 0 →
    exec (.memRd true a) s = .next (resultSt 6 (dbgShown s)) ∧ exec (.memWr true a d) s = .next (resultSt 6 (dbgShown s)) ∧
    exec (.regRd true a) s = .next (resultSt 6 (dbgShown s)) ∧ exec (.regWr true a d) s = .next (resultSt 6 (dbgShown s))) ∧
  (∀ (s : State) (a o : Nat) (d : Word) (k : WriteKind), dbgReady s = true → a % 4 = 0 → inCounters a = false → resolve a = some (o, k) →
    exec (.regRd true a) s = .next (result 0 (readVal s (accIdx .debug 0) o).toNat (readSide (accIdx .debug 0) o (dbgShown s))) ∧
    exec (.regWr true a d) s = .next (let w := windowWrite .debug (accIdx .debug 0) o k d (dbgShown s)
      resultSt (if w.1 = .ok then 0 else 1) w.2)) ∧
  (∀ (s : State) (p a : Nat) (d : Word), dbgReady s = true →
    exec (.partRd true p a) s = .next (debugPart p a none (dbgShown s)) ∧
    exec (.partWr true p a d) s = .next (debugPart p a (some (leBytes 4 d.toNat)) (dbgShown s)) ∧
    (consents (part s p) 0 = false → debugPart p a none s = resultSt 1 (classRefused a s))) ∧
  (∀ s : State, live s = true →
    exec .dbgEnRise s = .next { s with dbg := { s.dbg with en := true }, sys := { s.sys with debugSeen := true } } ∧
    (s.dbg.en = false → exec .dbgEnFall s = .next s) ∧
    (s.dbg.en = true → s.dbg.halted = [] → quiet s = true → ∃ t, exec .dbgEnFall s = .next t ∧
      t.dbg.en = false ∧ t.dbg.bps = [] ∧ t.dbg.busy = none ∧ sameBut [.seed, .dbg] s t)) ∧
  (∀ (c : Instr) (s : State) (ok : Bool), live s = true → dbgRow c = some ok → s.dbg.en = false → exec c s = .next s) ∧
  (∀ (c : Instr) (s : State) (ok : Bool), live s = true → dbgRow c = some ok → s.dbg.en = true → s.dbg.busy.isSome = true →
    ∃ t v, exec c s = .next t ∧ t.out = .debug 2 v :: s.out ∧ sameBut [.out, .seed] s t) ∧
  (∀ (c : Instr) (s : State), dbgReady s = true → dbgRow c = some false →
    ∃ t, exec c s = .next t ∧ t.dbg.lastSt = 4 ∧ t.out = .debug s.dbg.lastSt s.dbg.lastData :: s.out ∧ t.dbg.halted = s.dbg.halted ∧
      t.dbg.bps = s.dbg.bps ∧ t.dbg.regs = s.dbg.regs ∧ t.dbg.mem = s.dbg.mem ∧ sameBut [.out, .seed, .dbg] s t)
end

