-- ==== Sys2Proof/Laws/Table.lean ====
section
/-! SUPPORT. Laws of sparse tables: every operation keeps the canonical form, a read after a write gives the value written, and a write
leaves every other number alone. -/

namespace Sys2Proof.Machine

/-! ### Rising numbers -/

/-- Every number of the table lies above `k`. -/
def Tab.above {α : Type} (k : Nat) (t : Tab α) : Prop := ∀ e ∈ t, k < e.1

theorem Tab.sorted_cons {α : Type} (k : Nat) (v : α) (t : Tab α) :
    Tab.sorted ((k, v) :: t) = true ↔ Tab.above k t ∧ t.sorted = true := by
  induction t generalizing k v with
  | nil => simp [Tab.sorted, Tab.above]
  | cons e t ih =>
    obtain ⟨k', v'⟩ := e
    constructor
    · intro h
      simp only [Tab.sorted, Bool.and_eq_true, decide_eq_true_eq] at h
      refine ⟨?_, h.2⟩
      intro e he
      rcases List.mem_cons.1 he with rfl | he
      · exact h.1
      · exact Nat.lt_trans h.1 (((ih k' v').1 h.2).1 e he)
    · intro h
      simp only [Tab.sorted, Bool.and_eq_true, decide_eq_true_eq]
      exact ⟨h.1 (k', v') (by simp), h.2⟩

theorem Tab.mem_del {α : Type} (t : Tab α) (k : Nat) (e : Nat × α) (h : e ∈ t.del k) : e ∈ t := List.mem_of_mem_filter h

theorem Tab.mem_ins {α : Type} (t : Tab α) (k : Nat) (v : α) (e : Nat × α) (h : e ∈ t.ins k v) : e = (k, v) ∨ e ∈ t := by
  induction t with
  | nil => simpa [Tab.ins] using h
  | cons x t ih =>
    obtain ⟨k', v'⟩ := x
    simp only [Tab.ins] at h
    split at h
    · rcases List.mem_cons.1 h with h | h
      · exact .inl h
      · exact .inr (List.mem_cons_of_mem _ h)
    · split at h
      · rcases List.mem_cons.1 h with h | h
        · exact .inl h
        · exact .inr h
      · rcases List.mem_cons.1 h with h | h
        · exact .inr (h ▸ List.mem_cons_self)
        · rcases ih h with h | h
          · exact .inl h
          · exact .inr (List.mem_cons_of_mem _ h)

theorem Tab.sorted_filter {α : Type} (t : Tab α) (p : Nat × α → Bool) (h : t.sorted = true) :
    Tab.sorted (List.filter p t : Tab α) = true := by
  induction t with
  | nil => rfl
  | cons x t ih =>
    obtain ⟨k', v'⟩ := x
    have hs := (Tab.sorted_cons k' v' t).1 h
    simp only [List.filter]
    split
    · exact (Tab.sorted_cons k' v' _).2 ⟨fun e he => hs.1 e (List.mem_of_mem_filter he), ih hs.2⟩
    · exact ih hs.2

theorem Tab.sorted_del {α : Type} (t : Tab α) (k : Nat) (h : t.sorted = true) : (t.del k).sorted = true := Tab.sorted_filter t _ h

theorem Tab.sorted_ins {α : Type} (t : Tab α) (k : Nat) (v : α) (h : t.sorted = true) : (t.ins k v).sorted = true := by
  induction t with
  | nil => rfl
  | cons x t ih =>
    obtain ⟨k', v'⟩ := x
    have hs := (Tab.sorted_cons k' v' t).1 h
    simp only [Tab.ins]
    split
    · next he => exact (Tab.sorted_cons k v t).2 ⟨he ▸ hs.1, hs.2⟩
    · split
      · next hlt =>
        refine (Tab.sorted_cons k v _).2 ⟨?_, h⟩
        intro e he
        rcases List.mem_cons.1 he with rfl | he
        · exact hlt
        · exact Nat.lt_trans hlt (hs.1 e he)
      · next hne hnl =>
        refine (Tab.sorted_cons k' v' _).2 ⟨?_, ih hs.2⟩
        intro e he
        rcases Tab.mem_ins t k v e he with rfl | he
        · simp only; omega
        · exact hs.1 e he

/-! ### The canonical form -/

theorem Tab.wf_iff {α : Type} [DecidableEq α] (d : α) (t : Tab α) :
    t.wf d = true ↔ t.sorted = true ∧ ∀ e ∈ t, e.2 ≠ d := by
  simp [Tab.wf]

theorem Tab.wf_nil {α : Type} [DecidableEq α] (d : α) : Tab.wf d ([] : Tab α) = true := rfl

theorem Tab.wf_del {α : Type} [DecidableEq α] (d : α) (t : Tab α) (k : Nat) (h : t.wf d = true) : (t.del k).wf d = true := by
  rw [Tab.wf_iff] at *
  exact ⟨Tab.sorted_del t k h.1, fun e he => h.2 e (Tab.mem_del t k e he)⟩

theorem Tab.wf_put {α : Type} [DecidableEq α] (d : α) (t : Tab α) (k : Nat) (v : α) (h : t.wf d = true) :
    (t.put d k v).wf d = true := by
  simp only [Tab.put]
  split
  · exact Tab.wf_del d t k h
  · next hv =>
    rw [Tab.wf_iff] at *
    refine ⟨Tab.sorted_ins t k v h.1, fun e he => ?_⟩
    rcases Tab.mem_ins t k v e he with rfl | he
    · exact hv
    · exact h.2 e he

theorem Tab.wf_filter {α : Type} [DecidableEq α] (d : α) (t : Tab α) (p : Nat × α → Bool) (h : t.wf d = true) :
    Tab.wf d (List.filter p t : Tab α) = true := by
  rw [Tab.wf_iff] at *
  exact ⟨Tab.sorted_filter t p h.1, fun e he => h.2 e (List.mem_of_mem_filter he)⟩

theorem Tab.wf_keep {α : Type} [DecidableEq α] (d : α) (t : Tab α) (p : Nat → α → Bool) (h : t.wf d = true) :
    (t.keep p).wf d = true := Tab.wf_filter d t _ h

theorem Tab.wf_clearRange {α : Type} [DecidableEq α] (d : α) (t : Tab α) (a n : Nat) (h : t.wf d = true) :
    (t.clearRange a n).wf d = true := Tab.wf_filter d t _ h

theorem Tab.wf_putBytes (m : Tab Byte) (a : Nat) (bs : Bytes) (h : m.wf 0#8 = true) : (m.putBytes a bs).wf 0#8 = true := by
  induction bs generalizing m a with
  | nil => exact h
  | cons b bs ih => exact ih _ _ (Tab.wf_put 0#8 m a b h)

/-! ### Reading what was written -/

theorem Tab.get_ins {α : Type} (d : α) (t : Tab α) (k : Nat) (v : α) (j : Nat) :
    (t.ins k v).get d j = if j = k then v else t.get d j := by
  induction t with
  | nil => simp [Tab.ins, Tab.get]
  | cons x t ih =>
    obtain ⟨k', v'⟩ := x
    simp only [Tab.ins]
    split
    · next he => subst he; simp only [Tab.get]; split <;> rfl
    · split
      · simp only [Tab.get]
      · simp only [Tab.get, ih]
        split
        · next hj => rw [if_neg (by omega)]
        · rfl

theorem Tab.get_filter {α : Type} (d : α) (t : Tab α) (p : Nat → Bool) (j : Nat) :
    Tab.get d (List.filter (fun e => p e.1) t : Tab α) j = if p j then t.get d j else d := by
  induction t with
  | nil => simp [Tab.get]
  | cons x t ih =>
    obtain ⟨k', v'⟩ := x
    by_cases hp : p k' <;> by_cases hj : j = k' <;> simp_all [Tab.get]

theorem Tab.get_del {α : Type} (d : α) (t : Tab α) (k j : Nat) : (t.del k).get d j = if j = k then d else t.get d j := by
  rw [Tab.del, Tab.get_filter d t (fun x => x != k)]
  by_cases h : j = k <;> simp [h]

theorem Tab.get_put {α : Type} [DecidableEq α] (d : α) (t : Tab α) (k : Nat) (v : α) (j : Nat) :
    (t.put d k v).get d j = if j = k then v else t.get d j := by
  simp only [Tab.put]
  split
  · next hv => rw [Tab.get_del, hv]
  · exact Tab.get_ins d t k v j

theorem Tab.get_put_self {α : Type} [DecidableEq α] (d : α) (t : Tab α) (k : Nat) (v : α) : (t.put d k v).get d k = v := by
  simp [Tab.get_put]

theorem Tab.get_clearRange {α : Type} (d : α) (t : Tab α) (a n j : Nat) :
    (t.clearRange a n).get d j = if a ≤ j ∧ j < a + n then d else t.get d j := by
  rw [Tab.clearRange, Tab.get_filter d t (fun x => x < a || a + n ≤ x)]
  by_cases h : a ≤ j ∧ j < a + n
  · rw [if_pos h, if_neg (by simp; omega)]
  · rw [if_neg h, if_pos (by simp; omega)]

theorem Tab.find_ins {α : Type} (t : Tab α) (k : Nat) (v : α) (j : Nat) :
    (t.ins k v).find j = if j = k then some v else t.find j := by
  induction t with
  | nil => simp [Tab.ins, Tab.find]
  | cons x t ih =>
    obtain ⟨k', v'⟩ := x
    simp only [Tab.ins]
    split
    · next he => subst he; simp only [Tab.find]; split <;> rfl
    · split
      · simp only [Tab.find]
      · simp only [Tab.find, ih]
        split
        · next hj => rw [if_neg (by omega)]
        · rfl

theorem Tab.find_filter {α : Type} (t : Tab α) (p : Nat → Bool) (j : Nat) :
    Tab.find (List.filter (fun e => p e.1) t : Tab α) j = if p j then t.find j else none := by
  induction t with
  | nil => simp [Tab.find]
  | cons x t ih =>
    obtain ⟨k', v'⟩ := x
    by_cases hp : p k' <;> by_cases hj : j = k' <;> simp_all [Tab.find]

theorem Tab.find_del {α : Type} (t : Tab α) (k j : Nat) : (t.del k).find j = if j = k then none else t.find j := by
  rw [Tab.del, Tab.find_filter t (fun x => x != k)]
  by_cases h : j = k <;> simp [h]

theorem Tab.get_find {α : Type} (d : α) (t : Tab α) (k : Nat) : t.get d k = (t.find k).getD d := by
  induction t with
  | nil => rfl
  | cons x t ih =>
    obtain ⟨k', v'⟩ := x
    simp only [Tab.get, Tab.find, ih]
    split <;> rfl

theorem Tab.get_mapD {α : Type} [DecidableEq α] (d : α) (f : Nat → α → α) (t : Tab α) (j : Nat) :
    (t.mapD d f).get d j = match t.find j with | some v => f j v | none => d := by
  induction t with
  | nil => rfl
  | cons x t ih =>
    obtain ⟨k', v'⟩ := x
    simp only [Tab.mapD]
    by_cases hj : j = k'
    · subst hj
      split
      · next h => simp [Tab.get_del, Tab.find, h]
      · simp [Tab.get, Tab.find]
    · split
      · simp [Tab.get_del, Tab.find, hj, ih]
      · simp [Tab.get, Tab.find, hj, ih]

/-- Every byte outside the written range reads as before, and every byte in it reads as written. -/
theorem Tab.get_putBytes (m : Tab Byte) (a : Nat) (bs : Bytes) (j : Nat) :
    (m.putBytes a bs).get 0#8 j = if a ≤ j ∧ j < a + bs.length then (bs[j - a]?).getD 0#8 else m.get 0#8 j := by
  induction bs generalizing m a with
  | nil =>
    simp only [Tab.putBytes, List.length_nil, Nat.add_zero]
    rw [if_neg (by omega)]
  | cons b bs ih =>
    simp only [Tab.putBytes, ih, List.length_cons]
    by_cases hj : j = a
    · subst hj
      rw [if_neg (by omega), if_pos (by omega), Tab.get_put_self]
      simp
    · by_cases hr : a + 1 ≤ j ∧ j < a + 1 + bs.length
      · rw [if_pos hr, if_pos (by omega)]
        obtain ⟨n, rfl⟩ : ∃ n, j = a + 1 + n := ⟨j - (a + 1), by omega⟩
        have h1 : a + 1 + n - (a + 1) = n := by omega
        have h2 : a + 1 + n - a = n + 1 := by omega
        rw [h1, h2]
        simp
      · rw [if_neg hr, Tab.get_put, if_neg hj, if_neg (by omega)]

end Sys2Proof.Machine
end

