-- ==== Sys2Proof/Laws/Memory.lean ====
section
/-! SUPPORT. Pool memory (R56 to R61, R73): every operation keeps its canonical form, and what each byte reads as after it. -/

namespace Sys2Proof.Machine

theorem writeCells_wf (a : Nat) (mask : Option (List Bool)) (skip : List Nat) (bs : Bytes) (i : Nat) (m : Tab Byte) (h : m.wf 0#8 = true) :
    (writeCells m a mask skip i bs).wf 0#8 = true := by
  induction bs generalizing i m with
  | nil => exact h
  | cons b bs ih =>
    refine ih (i + 1) _ ?_
    split
    · exact Tab.wf_put _ _ _ _ h
    · exact h

/-- A byte that a write reaches, enables and does not skip reads as written; every other reads as before. -/
theorem writeCells_get (a : Nat) (mask : Option (List Bool)) (skip : List Nat) (bs : Bytes) (i : Nat) (m : Tab Byte) (j : Nat) :
    (writeCells m a mask skip i bs).get 0#8 j =
      if a + i ≤ j ∧ j < a + i + bs.length ∧ enabled mask (j - a) = true ∧ skip.contains (j / 8) = false
      then (bs[j - a - i]?).getD 0#8 else m.get 0#8 j := by
  induction bs generalizing i m with
  | nil => rw [if_neg (by simp only [List.length_nil]; omega)]; rfl
  | cons b bs ih =>
    rw [writeCells, ih]
    by_cases hj : j = a + i
    · subst hj
      rw [if_neg (by omega)]
      by_cases he : enabled mask i = true ∧ skip.contains ((a + i) / 8) = false
      · rw [if_pos (by rw [he.1, he.2]; rfl), if_pos ⟨by omega, by simp, by simpa [Nat.add_sub_cancel_left] using he⟩, Tab.get_put_self]
        simp
      · rw [if_neg (by simpa using he), if_neg (by simpa [Nat.add_sub_cancel_left] using he)]
    · have hp : (if enabled mask i && !skip.contains ((a + i) / 8) then m.put 0#8 (a + i) b else m).get 0#8 j = m.get 0#8 j := by
        split
        · rw [Tab.get_put, if_neg hj]
        · rfl
      rw [hp]
      by_cases hr : a + (i + 1) ≤ j ∧ j < a + (i + 1) + bs.length ∧ enabled mask (j - a) = true ∧ skip.contains (j / 8) = false
      · have he : j - a - i = (j - a - (i + 1)) + 1 := by omega
        rw [if_pos hr, if_pos ⟨by omega, by simp only [List.length_cons]; omega, hr.2.2⟩, he, List.getElem?_cons_succ]
      · rw [if_neg hr, if_neg fun hc => hr ⟨by omega, (by have h1 := hc.1; have h2 := hc.2.1; simp only [List.length_cons] at h2; omega), hc.2.2⟩]

/-- A write keeps the canonical form. -/
theorem writeMem_canonical (a : Nat) (data : Bytes) (mask : Option (List Bool)) (s : State) (h : memCanonical s) :
    memCanonical (writeMem a data mask s) := writeCells_wf a mask _ data 0 _ h

/-- After a write, a byte that it enables and that lies in no word kept for its poison reads as written; every other reads as before. -/
theorem writeMem_get (a : Nat) (data : Bytes) (mask : Option (List Bool)) (s : State) (j : Nat) :
    (writeMem a data mask s).pool.mem.get 0#8 j =
      if a ≤ j ∧ j < a + data.length ∧ enabled mask (j - a) = true ∧ (mergeBad s a data mask).contains (j / 8) = false
      then (data[j - a]?).getD 0#8 else s.pool.mem.get 0#8 j := writeCells_get a mask _ data 0 s.pool.mem j

/-- A scrub keeps the canonical form. -/
theorem scrubRange_canonical (a n : Nat) (s : State) (h : memCanonical s) : memCanonical (scrubRange a n s) := Tab.wf_clearRange _ _ a n h

/-- After a scrub, the range reads zero and every other byte as before. -/
theorem scrubRange_get (a n : Nat) (s : State) (j : Nat) :
    (scrubRange a n s).pool.mem.get 0#8 j = if a ≤ j ∧ j < a + n then 0#8 else s.pool.mem.get 0#8 j := Tab.get_clearRange _ _ _ _ _

/-- Marking words as poisoned changes no byte. -/
theorem poisonWords_mem (ws : List Nat) (s : State) : (poisonWords ws s).pool.mem = s.pool.mem := rfl

/-- Memory after reset has the canonical form. -/
theorem reset_canonical : memCanonical State.reset := rfl

end Sys2Proof.Machine
end

