-- ==== Sys2Proof/Laws/Sets.lean ====
section
/-! SUPPORT. One lemma for each field and each of the operations that set one entry of the data path: what it leaves alone. -/

namespace Sys2Proof.Machine

/-! ### Extent records (R65, R66) -/

@[simp] theorem setExt_pending (n : Nat) (e : Ext) (s : State) : (setExt n e s).pending = s.pending := rfl
@[simp] theorem setExt_out (n : Nat) (e : Ext) (s : State) : (setExt n e s).out = s.out := rfl
@[simp] theorem setExt_seed (n : Nat) (e : Ext) (s : State) : (setExt n e s).seed = s.seed := rfl
@[simp] theorem setExt_now (n : Nat) (e : Ext) (s : State) : (setExt n e s).now = s.now := rfl
@[simp] theorem setExt_sys (n : Nat) (e : Ext) (s : State) : (setExt n e s).sys = s.sys := rfl
@[simp] theorem setExt_clk (n : Nat) (e : Ext) (s : State) : (setExt n e s).clk = s.clk := rfl
@[simp] theorem setExt_pwr (n : Nat) (e : Ext) (s : State) : (setExt n e s).pwr = s.pwr := rfl
@[simp] theorem setExt_hlt (n : Nat) (e : Ext) (s : State) : (setExt n e s).hlt = s.hlt := rfl
@[simp] theorem setExt_mgt (n : Nat) (e : Ext) (s : State) : (setExt n e s).mgt = s.mgt := rfl
@[simp] theorem setExt_fw (n : Nat) (e : Ext) (s : State) : (setExt n e s).fw = s.fw := rfl
@[simp] theorem setExt_regs (n : Nat) (e : Ext) (s : State) : (setExt n e s).regs = s.regs := rfl
@[simp] theorem setExt_flt (n : Nat) (e : Ext) (s : State) : (setExt n e s).flt = s.flt := rfl
@[simp] theorem setExt_dbg (n : Nat) (e : Ext) (s : State) : (setExt n e s).dbg = s.dbg := rfl
@[simp] theorem setExt_parts (n : Nat) (e : Ext) (s : State) : (setExt n e s).parts = s.parts := rfl
@[simp] theorem setExt_dossiers (n : Nat) (e : Ext) (s : State) : (setExt n e s).dossiers = s.dossiers := rfl
@[simp] theorem setExt_xlt (n : Nat) (e : Ext) (s : State) : (setExt n e s).xlt = s.xlt := rfl
@[simp] theorem setExt_qs (n : Nat) (e : Ext) (s : State) : (setExt n e s).qs = s.qs := rfl
@[simp] theorem setExt_ctrs (n : Nat) (e : Ext) (s : State) : (setExt n e s).ctrs = s.ctrs := rfl
@[simp] theorem setExt_fab (n : Nat) (e : Ext) (s : State) : (setExt n e s).fab = s.fab := rfl
@[simp] theorem setExt_cxl (n : Nat) (e : Ext) (s : State) : (setExt n e s).cxl = s.cxl := rfl
@[simp] theorem setExt_rep (n : Nat) (e : Ext) (s : State) : (setExt n e s).rep = s.rep := rfl
@[simp] theorem setExt_opt (n : Nat) (e : Ext) (s : State) : (setExt n e s).opt = s.opt := rfl
@[simp] theorem setExt_col (n : Nat) (e : Ext) (s : State) : (setExt n e s).col = s.col := rfl

/-! ### Snoop-filter entries (R77) -/

@[simp] theorem setSnoop_pending (line : Nat) (x : Snoop) (s : State) : (setSnoop line x s).pending = s.pending := rfl
@[simp] theorem setSnoop_out (line : Nat) (x : Snoop) (s : State) : (setSnoop line x s).out = s.out := rfl
@[simp] theorem setSnoop_seed (line : Nat) (x : Snoop) (s : State) : (setSnoop line x s).seed = s.seed := rfl
@[simp] theorem setSnoop_now (line : Nat) (x : Snoop) (s : State) : (setSnoop line x s).now = s.now := rfl
@[simp] theorem setSnoop_sys (line : Nat) (x : Snoop) (s : State) : (setSnoop line x s).sys = s.sys := rfl
@[simp] theorem setSnoop_clk (line : Nat) (x : Snoop) (s : State) : (setSnoop line x s).clk = s.clk := rfl
@[simp] theorem setSnoop_pwr (line : Nat) (x : Snoop) (s : State) : (setSnoop line x s).pwr = s.pwr := rfl
@[simp] theorem setSnoop_hlt (line : Nat) (x : Snoop) (s : State) : (setSnoop line x s).hlt = s.hlt := rfl
@[simp] theorem setSnoop_mgt (line : Nat) (x : Snoop) (s : State) : (setSnoop line x s).mgt = s.mgt := rfl
@[simp] theorem setSnoop_fw (line : Nat) (x : Snoop) (s : State) : (setSnoop line x s).fw = s.fw := rfl
@[simp] theorem setSnoop_regs (line : Nat) (x : Snoop) (s : State) : (setSnoop line x s).regs = s.regs := rfl
@[simp] theorem setSnoop_flt (line : Nat) (x : Snoop) (s : State) : (setSnoop line x s).flt = s.flt := rfl
@[simp] theorem setSnoop_dbg (line : Nat) (x : Snoop) (s : State) : (setSnoop line x s).dbg = s.dbg := rfl
@[simp] theorem setSnoop_parts (line : Nat) (x : Snoop) (s : State) : (setSnoop line x s).parts = s.parts := rfl
@[simp] theorem setSnoop_dossiers (line : Nat) (x : Snoop) (s : State) : (setSnoop line x s).dossiers = s.dossiers := rfl
@[simp] theorem setSnoop_xlt (line : Nat) (x : Snoop) (s : State) : (setSnoop line x s).xlt = s.xlt := rfl
@[simp] theorem setSnoop_qs (line : Nat) (x : Snoop) (s : State) : (setSnoop line x s).qs = s.qs := rfl
@[simp] theorem setSnoop_ctrs (line : Nat) (x : Snoop) (s : State) : (setSnoop line x s).ctrs = s.ctrs := rfl
@[simp] theorem setSnoop_fab (line : Nat) (x : Snoop) (s : State) : (setSnoop line x s).fab = s.fab := rfl
@[simp] theorem setSnoop_cxl (line : Nat) (x : Snoop) (s : State) : (setSnoop line x s).cxl = s.cxl := rfl
@[simp] theorem setSnoop_rep (line : Nat) (x : Snoop) (s : State) : (setSnoop line x s).rep = s.rep := rfl
@[simp] theorem setSnoop_opt (line : Nat) (x : Snoop) (s : State) : (setSnoop line x s).opt = s.opt := rfl
@[simp] theorem setSnoop_col (line : Nat) (x : Snoop) (s : State) : (setSnoop line x s).col = s.col := rfl

/-! ### Source flows (R331) -/

@[simp] theorem setFlow_pending (s : State) (k : Nat) (f : SFlow) : (setFlow s k f).pending = s.pending := rfl
@[simp] theorem setFlow_out (s : State) (k : Nat) (f : SFlow) : (setFlow s k f).out = s.out := rfl
@[simp] theorem setFlow_seed (s : State) (k : Nat) (f : SFlow) : (setFlow s k f).seed = s.seed := rfl
@[simp] theorem setFlow_now (s : State) (k : Nat) (f : SFlow) : (setFlow s k f).now = s.now := rfl
@[simp] theorem setFlow_sys (s : State) (k : Nat) (f : SFlow) : (setFlow s k f).sys = s.sys := rfl
@[simp] theorem setFlow_clk (s : State) (k : Nat) (f : SFlow) : (setFlow s k f).clk = s.clk := rfl
@[simp] theorem setFlow_pwr (s : State) (k : Nat) (f : SFlow) : (setFlow s k f).pwr = s.pwr := rfl
@[simp] theorem setFlow_hlt (s : State) (k : Nat) (f : SFlow) : (setFlow s k f).hlt = s.hlt := rfl
@[simp] theorem setFlow_mgt (s : State) (k : Nat) (f : SFlow) : (setFlow s k f).mgt = s.mgt := rfl
@[simp] theorem setFlow_fw (s : State) (k : Nat) (f : SFlow) : (setFlow s k f).fw = s.fw := rfl
@[simp] theorem setFlow_regs (s : State) (k : Nat) (f : SFlow) : (setFlow s k f).regs = s.regs := rfl
@[simp] theorem setFlow_flt (s : State) (k : Nat) (f : SFlow) : (setFlow s k f).flt = s.flt := rfl
@[simp] theorem setFlow_dbg (s : State) (k : Nat) (f : SFlow) : (setFlow s k f).dbg = s.dbg := rfl
@[simp] theorem setFlow_parts (s : State) (k : Nat) (f : SFlow) : (setFlow s k f).parts = s.parts := rfl
@[simp] theorem setFlow_dossiers (s : State) (k : Nat) (f : SFlow) : (setFlow s k f).dossiers = s.dossiers := rfl
@[simp] theorem setFlow_pool (s : State) (k : Nat) (f : SFlow) : (setFlow s k f).pool = s.pool := rfl
@[simp] theorem setFlow_xlt (s : State) (k : Nat) (f : SFlow) : (setFlow s k f).xlt = s.xlt := rfl
@[simp] theorem setFlow_qs (s : State) (k : Nat) (f : SFlow) : (setFlow s k f).qs = s.qs := rfl
@[simp] theorem setFlow_ctrs (s : State) (k : Nat) (f : SFlow) : (setFlow s k f).ctrs = s.ctrs := rfl
@[simp] theorem setFlow_cxl (s : State) (k : Nat) (f : SFlow) : (setFlow s k f).cxl = s.cxl := rfl
@[simp] theorem setFlow_rep (s : State) (k : Nat) (f : SFlow) : (setFlow s k f).rep = s.rep := rfl
@[simp] theorem setFlow_opt (s : State) (k : Nat) (f : SFlow) : (setFlow s k f).opt = s.opt := rfl
@[simp] theorem setFlow_col (s : State) (k : Nat) (f : SFlow) : (setFlow s k f).col = s.col := rfl

/-! ### Destination flows (R331) -/

@[simp] theorem setDFlow_pending (k : Nat) (d : DFlow) (s : State) : (setDFlow k d s).pending = s.pending := rfl
@[simp] theorem setDFlow_out (k : Nat) (d : DFlow) (s : State) : (setDFlow k d s).out = s.out := rfl
@[simp] theorem setDFlow_seed (k : Nat) (d : DFlow) (s : State) : (setDFlow k d s).seed = s.seed := rfl
@[simp] theorem setDFlow_now (k : Nat) (d : DFlow) (s : State) : (setDFlow k d s).now = s.now := rfl
@[simp] theorem setDFlow_sys (k : Nat) (d : DFlow) (s : State) : (setDFlow k d s).sys = s.sys := rfl
@[simp] theorem setDFlow_clk (k : Nat) (d : DFlow) (s : State) : (setDFlow k d s).clk = s.clk := rfl
@[simp] theorem setDFlow_pwr (k : Nat) (d : DFlow) (s : State) : (setDFlow k d s).pwr = s.pwr := rfl
@[simp] theorem setDFlow_hlt (k : Nat) (d : DFlow) (s : State) : (setDFlow k d s).hlt = s.hlt := rfl
@[simp] theorem setDFlow_mgt (k : Nat) (d : DFlow) (s : State) : (setDFlow k d s).mgt = s.mgt := rfl
@[simp] theorem setDFlow_fw (k : Nat) (d : DFlow) (s : State) : (setDFlow k d s).fw = s.fw := rfl
@[simp] theorem setDFlow_regs (k : Nat) (d : DFlow) (s : State) : (setDFlow k d s).regs = s.regs := rfl
@[simp] theorem setDFlow_flt (k : Nat) (d : DFlow) (s : State) : (setDFlow k d s).flt = s.flt := rfl
@[simp] theorem setDFlow_dbg (k : Nat) (d : DFlow) (s : State) : (setDFlow k d s).dbg = s.dbg := rfl
@[simp] theorem setDFlow_parts (k : Nat) (d : DFlow) (s : State) : (setDFlow k d s).parts = s.parts := rfl
@[simp] theorem setDFlow_dossiers (k : Nat) (d : DFlow) (s : State) : (setDFlow k d s).dossiers = s.dossiers := rfl
@[simp] theorem setDFlow_pool (k : Nat) (d : DFlow) (s : State) : (setDFlow k d s).pool = s.pool := rfl
@[simp] theorem setDFlow_xlt (k : Nat) (d : DFlow) (s : State) : (setDFlow k d s).xlt = s.xlt := rfl
@[simp] theorem setDFlow_qs (k : Nat) (d : DFlow) (s : State) : (setDFlow k d s).qs = s.qs := rfl
@[simp] theorem setDFlow_ctrs (k : Nat) (d : DFlow) (s : State) : (setDFlow k d s).ctrs = s.ctrs := rfl
@[simp] theorem setDFlow_cxl (k : Nat) (d : DFlow) (s : State) : (setDFlow k d s).cxl = s.cxl := rfl
@[simp] theorem setDFlow_rep (k : Nat) (d : DFlow) (s : State) : (setDFlow k d s).rep = s.rep := rfl
@[simp] theorem setDFlow_opt (k : Nat) (d : DFlow) (s : State) : (setDFlow k d s).opt = s.opt := rfl
@[simp] theorem setDFlow_col (k : Nat) (d : DFlow) (s : State) : (setDFlow k d s).col = s.col := rfl

/-! ### Output lanes of the switch (R246) -/

@[simp] theorem setLane_pending (l : Nat) (x : OutLane) (s : State) : (setLane l x s).pending = s.pending := rfl
@[simp] theorem setLane_out (l : Nat) (x : OutLane) (s : State) : (setLane l x s).out = s.out := rfl
@[simp] theorem setLane_seed (l : Nat) (x : OutLane) (s : State) : (setLane l x s).seed = s.seed := rfl
@[simp] theorem setLane_now (l : Nat) (x : OutLane) (s : State) : (setLane l x s).now = s.now := rfl
@[simp] theorem setLane_sys (l : Nat) (x : OutLane) (s : State) : (setLane l x s).sys = s.sys := rfl
@[simp] theorem setLane_clk (l : Nat) (x : OutLane) (s : State) : (setLane l x s).clk = s.clk := rfl
@[simp] theorem setLane_pwr (l : Nat) (x : OutLane) (s : State) : (setLane l x s).pwr = s.pwr := rfl
@[simp] theorem setLane_hlt (l : Nat) (x : OutLane) (s : State) : (setLane l x s).hlt = s.hlt := rfl
@[simp] theorem setLane_mgt (l : Nat) (x : OutLane) (s : State) : (setLane l x s).mgt = s.mgt := rfl
@[simp] theorem setLane_fw (l : Nat) (x : OutLane) (s : State) : (setLane l x s).fw = s.fw := rfl
@[simp] theorem setLane_regs (l : Nat) (x : OutLane) (s : State) : (setLane l x s).regs = s.regs := rfl
@[simp] theorem setLane_flt (l : Nat) (x : OutLane) (s : State) : (setLane l x s).flt = s.flt := rfl
@[simp] theorem setLane_dbg (l : Nat) (x : OutLane) (s : State) : (setLane l x s).dbg = s.dbg := rfl
@[simp] theorem setLane_parts (l : Nat) (x : OutLane) (s : State) : (setLane l x s).parts = s.parts := rfl
@[simp] theorem setLane_dossiers (l : Nat) (x : OutLane) (s : State) : (setLane l x s).dossiers = s.dossiers := rfl
@[simp] theorem setLane_pool (l : Nat) (x : OutLane) (s : State) : (setLane l x s).pool = s.pool := rfl
@[simp] theorem setLane_xlt (l : Nat) (x : OutLane) (s : State) : (setLane l x s).xlt = s.xlt := rfl
@[simp] theorem setLane_qs (l : Nat) (x : OutLane) (s : State) : (setLane l x s).qs = s.qs := rfl
@[simp] theorem setLane_ctrs (l : Nat) (x : OutLane) (s : State) : (setLane l x s).ctrs = s.ctrs := rfl
@[simp] theorem setLane_cxl (l : Nat) (x : OutLane) (s : State) : (setLane l x s).cxl = s.cxl := rfl
@[simp] theorem setLane_rep (l : Nat) (x : OutLane) (s : State) : (setLane l x s).rep = s.rep := rfl
@[simp] theorem setLane_opt (l : Nat) (x : OutLane) (s : State) : (setLane l x s).opt = s.opt := rfl
@[simp] theorem setLane_col (l : Nat) (x : OutLane) (s : State) : (setLane l x s).col = s.col := rfl

/-! ### Multicast packets under way (R229) -/

@[simp] theorem setRun_pending (r : McRun) (s : State) : (setRun r s).pending = s.pending := rfl
@[simp] theorem setRun_out (r : McRun) (s : State) : (setRun r s).out = s.out := rfl
@[simp] theorem setRun_seed (r : McRun) (s : State) : (setRun r s).seed = s.seed := rfl
@[simp] theorem setRun_now (r : McRun) (s : State) : (setRun r s).now = s.now := rfl
@[simp] theorem setRun_sys (r : McRun) (s : State) : (setRun r s).sys = s.sys := rfl
@[simp] theorem setRun_clk (r : McRun) (s : State) : (setRun r s).clk = s.clk := rfl
@[simp] theorem setRun_pwr (r : McRun) (s : State) : (setRun r s).pwr = s.pwr := rfl
@[simp] theorem setRun_hlt (r : McRun) (s : State) : (setRun r s).hlt = s.hlt := rfl
@[simp] theorem setRun_mgt (r : McRun) (s : State) : (setRun r s).mgt = s.mgt := rfl
@[simp] theorem setRun_fw (r : McRun) (s : State) : (setRun r s).fw = s.fw := rfl
@[simp] theorem setRun_regs (r : McRun) (s : State) : (setRun r s).regs = s.regs := rfl
@[simp] theorem setRun_flt (r : McRun) (s : State) : (setRun r s).flt = s.flt := rfl
@[simp] theorem setRun_dbg (r : McRun) (s : State) : (setRun r s).dbg = s.dbg := rfl
@[simp] theorem setRun_parts (r : McRun) (s : State) : (setRun r s).parts = s.parts := rfl
@[simp] theorem setRun_dossiers (r : McRun) (s : State) : (setRun r s).dossiers = s.dossiers := rfl
@[simp] theorem setRun_pool (r : McRun) (s : State) : (setRun r s).pool = s.pool := rfl
@[simp] theorem setRun_xlt (r : McRun) (s : State) : (setRun r s).xlt = s.xlt := rfl
@[simp] theorem setRun_qs (r : McRun) (s : State) : (setRun r s).qs = s.qs := rfl
@[simp] theorem setRun_ctrs (r : McRun) (s : State) : (setRun r s).ctrs = s.ctrs := rfl
@[simp] theorem setRun_cxl (r : McRun) (s : State) : (setRun r s).cxl = s.cxl := rfl
@[simp] theorem setRun_rep (r : McRun) (s : State) : (setRun r s).rep = s.rep := rfl
@[simp] theorem setRun_opt (r : McRun) (s : State) : (setRun r s).opt = s.opt := rfl
@[simp] theorem setRun_col (r : McRun) (s : State) : (setRun r s).col = s.col := rfl

/-! ### Descriptors started -/

@[simp] theorem setOp_pending (q : Nat) (o : Op) (s : State) : (setOp q o s).pending = s.pending := rfl
@[simp] theorem setOp_out (q : Nat) (o : Op) (s : State) : (setOp q o s).out = s.out := rfl
@[simp] theorem setOp_seed (q : Nat) (o : Op) (s : State) : (setOp q o s).seed = s.seed := rfl
@[simp] theorem setOp_now (q : Nat) (o : Op) (s : State) : (setOp q o s).now = s.now := rfl
@[simp] theorem setOp_sys (q : Nat) (o : Op) (s : State) : (setOp q o s).sys = s.sys := rfl
@[simp] theorem setOp_clk (q : Nat) (o : Op) (s : State) : (setOp q o s).clk = s.clk := rfl
@[simp] theorem setOp_pwr (q : Nat) (o : Op) (s : State) : (setOp q o s).pwr = s.pwr := rfl
@[simp] theorem setOp_hlt (q : Nat) (o : Op) (s : State) : (setOp q o s).hlt = s.hlt := rfl
@[simp] theorem setOp_mgt (q : Nat) (o : Op) (s : State) : (setOp q o s).mgt = s.mgt := rfl
@[simp] theorem setOp_fw (q : Nat) (o : Op) (s : State) : (setOp q o s).fw = s.fw := rfl
@[simp] theorem setOp_regs (q : Nat) (o : Op) (s : State) : (setOp q o s).regs = s.regs := rfl
@[simp] theorem setOp_flt (q : Nat) (o : Op) (s : State) : (setOp q o s).flt = s.flt := rfl
@[simp] theorem setOp_dbg (q : Nat) (o : Op) (s : State) : (setOp q o s).dbg = s.dbg := rfl
@[simp] theorem setOp_parts (q : Nat) (o : Op) (s : State) : (setOp q o s).parts = s.parts := rfl
@[simp] theorem setOp_dossiers (q : Nat) (o : Op) (s : State) : (setOp q o s).dossiers = s.dossiers := rfl
@[simp] theorem setOp_pool (q : Nat) (o : Op) (s : State) : (setOp q o s).pool = s.pool := rfl
@[simp] theorem setOp_xlt (q : Nat) (o : Op) (s : State) : (setOp q o s).xlt = s.xlt := rfl
@[simp] theorem setOp_ctrs (q : Nat) (o : Op) (s : State) : (setOp q o s).ctrs = s.ctrs := rfl
@[simp] theorem setOp_fab (q : Nat) (o : Op) (s : State) : (setOp q o s).fab = s.fab := rfl
@[simp] theorem setOp_cxl (q : Nat) (o : Op) (s : State) : (setOp q o s).cxl = s.cxl := rfl
@[simp] theorem setOp_rep (q : Nat) (o : Op) (s : State) : (setOp q o s).rep = s.rep := rfl
@[simp] theorem setOp_opt (q : Nat) (o : Op) (s : State) : (setOp q o s).opt = s.opt := rfl
@[simp] theorem setOp_col (q : Nat) (o : Op) (s : State) : (setOp q o s).col = s.col := rfl

/-! ### Group contexts (R153) -/

@[simp] theorem setGrp_pending (ctx : Nat) (g : Grp) (s : State) : (setGrp ctx g s).pending = s.pending := rfl
@[simp] theorem setGrp_out (ctx : Nat) (g : Grp) (s : State) : (setGrp ctx g s).out = s.out := rfl
@[simp] theorem setGrp_seed (ctx : Nat) (g : Grp) (s : State) : (setGrp ctx g s).seed = s.seed := rfl
@[simp] theorem setGrp_now (ctx : Nat) (g : Grp) (s : State) : (setGrp ctx g s).now = s.now := rfl
@[simp] theorem setGrp_sys (ctx : Nat) (g : Grp) (s : State) : (setGrp ctx g s).sys = s.sys := rfl
@[simp] theorem setGrp_clk (ctx : Nat) (g : Grp) (s : State) : (setGrp ctx g s).clk = s.clk := rfl
@[simp] theorem setGrp_pwr (ctx : Nat) (g : Grp) (s : State) : (setGrp ctx g s).pwr = s.pwr := rfl
@[simp] theorem setGrp_hlt (ctx : Nat) (g : Grp) (s : State) : (setGrp ctx g s).hlt = s.hlt := rfl
@[simp] theorem setGrp_mgt (ctx : Nat) (g : Grp) (s : State) : (setGrp ctx g s).mgt = s.mgt := rfl
@[simp] theorem setGrp_fw (ctx : Nat) (g : Grp) (s : State) : (setGrp ctx g s).fw = s.fw := rfl
@[simp] theorem setGrp_regs (ctx : Nat) (g : Grp) (s : State) : (setGrp ctx g s).regs = s.regs := rfl
@[simp] theorem setGrp_flt (ctx : Nat) (g : Grp) (s : State) : (setGrp ctx g s).flt = s.flt := rfl
@[simp] theorem setGrp_dbg (ctx : Nat) (g : Grp) (s : State) : (setGrp ctx g s).dbg = s.dbg := rfl
@[simp] theorem setGrp_parts (ctx : Nat) (g : Grp) (s : State) : (setGrp ctx g s).parts = s.parts := rfl
@[simp] theorem setGrp_dossiers (ctx : Nat) (g : Grp) (s : State) : (setGrp ctx g s).dossiers = s.dossiers := rfl
@[simp] theorem setGrp_pool (ctx : Nat) (g : Grp) (s : State) : (setGrp ctx g s).pool = s.pool := rfl
@[simp] theorem setGrp_xlt (ctx : Nat) (g : Grp) (s : State) : (setGrp ctx g s).xlt = s.xlt := rfl
@[simp] theorem setGrp_qs (ctx : Nat) (g : Grp) (s : State) : (setGrp ctx g s).qs = s.qs := rfl
@[simp] theorem setGrp_ctrs (ctx : Nat) (g : Grp) (s : State) : (setGrp ctx g s).ctrs = s.ctrs := rfl
@[simp] theorem setGrp_fab (ctx : Nat) (g : Grp) (s : State) : (setGrp ctx g s).fab = s.fab := rfl
@[simp] theorem setGrp_cxl (ctx : Nat) (g : Grp) (s : State) : (setGrp ctx g s).cxl = s.cxl := rfl
@[simp] theorem setGrp_rep (ctx : Nat) (g : Grp) (s : State) : (setGrp ctx g s).rep = s.rep := rfl
@[simp] theorem setGrp_opt (ctx : Nat) (g : Grp) (s : State) : (setGrp ctx g s).opt = s.opt := rfl

/-! ### Members of collectives -/

@[simp] theorem setMem_pending (m : CMem) (s : State) : (setMem m s).pending = s.pending := rfl
@[simp] theorem setMem_out (m : CMem) (s : State) : (setMem m s).out = s.out := rfl
@[simp] theorem setMem_seed (m : CMem) (s : State) : (setMem m s).seed = s.seed := rfl
@[simp] theorem setMem_now (m : CMem) (s : State) : (setMem m s).now = s.now := rfl
@[simp] theorem setMem_sys (m : CMem) (s : State) : (setMem m s).sys = s.sys := rfl
@[simp] theorem setMem_clk (m : CMem) (s : State) : (setMem m s).clk = s.clk := rfl
@[simp] theorem setMem_pwr (m : CMem) (s : State) : (setMem m s).pwr = s.pwr := rfl
@[simp] theorem setMem_hlt (m : CMem) (s : State) : (setMem m s).hlt = s.hlt := rfl
@[simp] theorem setMem_mgt (m : CMem) (s : State) : (setMem m s).mgt = s.mgt := rfl
@[simp] theorem setMem_fw (m : CMem) (s : State) : (setMem m s).fw = s.fw := rfl
@[simp] theorem setMem_regs (m : CMem) (s : State) : (setMem m s).regs = s.regs := rfl
@[simp] theorem setMem_flt (m : CMem) (s : State) : (setMem m s).flt = s.flt := rfl
@[simp] theorem setMem_dbg (m : CMem) (s : State) : (setMem m s).dbg = s.dbg := rfl
@[simp] theorem setMem_parts (m : CMem) (s : State) : (setMem m s).parts = s.parts := rfl
@[simp] theorem setMem_dossiers (m : CMem) (s : State) : (setMem m s).dossiers = s.dossiers := rfl
@[simp] theorem setMem_pool (m : CMem) (s : State) : (setMem m s).pool = s.pool := rfl
@[simp] theorem setMem_xlt (m : CMem) (s : State) : (setMem m s).xlt = s.xlt := rfl
@[simp] theorem setMem_qs (m : CMem) (s : State) : (setMem m s).qs = s.qs := rfl
@[simp] theorem setMem_ctrs (m : CMem) (s : State) : (setMem m s).ctrs = s.ctrs := rfl
@[simp] theorem setMem_fab (m : CMem) (s : State) : (setMem m s).fab = s.fab := rfl
@[simp] theorem setMem_cxl (m : CMem) (s : State) : (setMem m s).cxl = s.cxl := rfl
@[simp] theorem setMem_rep (m : CMem) (s : State) : (setMem m s).rep = s.rep := rfl
@[simp] theorem setMem_opt (m : CMem) (s : State) : (setMem m s).opt = s.opt := rfl

/-! ### Top vertices -/

@[simp] theorem setTop_pending (t : CTop) (s : State) : (setTop t s).pending = s.pending := rfl
@[simp] theorem setTop_out (t : CTop) (s : State) : (setTop t s).out = s.out := rfl
@[simp] theorem setTop_seed (t : CTop) (s : State) : (setTop t s).seed = s.seed := rfl
@[simp] theorem setTop_now (t : CTop) (s : State) : (setTop t s).now = s.now := rfl
@[simp] theorem setTop_sys (t : CTop) (s : State) : (setTop t s).sys = s.sys := rfl
@[simp] theorem setTop_clk (t : CTop) (s : State) : (setTop t s).clk = s.clk := rfl
@[simp] theorem setTop_pwr (t : CTop) (s : State) : (setTop t s).pwr = s.pwr := rfl
@[simp] theorem setTop_hlt (t : CTop) (s : State) : (setTop t s).hlt = s.hlt := rfl
@[simp] theorem setTop_mgt (t : CTop) (s : State) : (setTop t s).mgt = s.mgt := rfl
@[simp] theorem setTop_fw (t : CTop) (s : State) : (setTop t s).fw = s.fw := rfl
@[simp] theorem setTop_regs (t : CTop) (s : State) : (setTop t s).regs = s.regs := rfl
@[simp] theorem setTop_flt (t : CTop) (s : State) : (setTop t s).flt = s.flt := rfl
@[simp] theorem setTop_dbg (t : CTop) (s : State) : (setTop t s).dbg = s.dbg := rfl
@[simp] theorem setTop_parts (t : CTop) (s : State) : (setTop t s).parts = s.parts := rfl
@[simp] theorem setTop_dossiers (t : CTop) (s : State) : (setTop t s).dossiers = s.dossiers := rfl
@[simp] theorem setTop_pool (t : CTop) (s : State) : (setTop t s).pool = s.pool := rfl
@[simp] theorem setTop_xlt (t : CTop) (s : State) : (setTop t s).xlt = s.xlt := rfl
@[simp] theorem setTop_qs (t : CTop) (s : State) : (setTop t s).qs = s.qs := rfl
@[simp] theorem setTop_ctrs (t : CTop) (s : State) : (setTop t s).ctrs = s.ctrs := rfl
@[simp] theorem setTop_fab (t : CTop) (s : State) : (setTop t s).fab = s.fab := rfl
@[simp] theorem setTop_cxl (t : CTop) (s : State) : (setTop t s).cxl = s.cxl := rfl
@[simp] theorem setTop_rep (t : CTop) (s : State) : (setTop t s).rep = s.rep := rfl
@[simp] theorem setTop_opt (t : CTop) (s : State) : (setTop t s).opt = s.opt := rfl

/-! ### What they set -/

@[simp] theorem setExt_ext (n : Nat) (e : Ext) (s : State) : (setExt n e s).pool.ext = s.pool.ext.put Ext.init n e := rfl
@[simp] theorem setExt_mem (n : Nat) (e : Ext) (s : State) : (setExt n e s).pool.mem = s.pool.mem := rfl
@[simp] theorem setFlow_sflow (s : State) (k : Nat) (f : SFlow) : (setFlow s k f).fab.sflow = s.fab.sflow.ins k f := rfl
@[simp] theorem setDFlow_dflow (k : Nat) (d : DFlow) (s : State) : (setDFlow k d s).fab.dflow = s.fab.dflow.ins k d := rfl
@[simp] theorem setDFlow_ep (k : Nat) (d : DFlow) (s : State) : (setDFlow k d s).fab.ep = s.fab.ep := rfl
@[simp] theorem setGrp_grps (ctx : Nat) (g : Grp) (s : State) : (setGrp ctx g s).col.grps = s.col.grps.ins ctx g := rfl

end Sys2Proof.Machine
end

