-- ==== Sys2Proof/Laws/State.lean ====
section
/-! SUPPORT. One lemma for each field and each of the operations that change single parts of the state: what it leaves alone. -/

namespace Sys2Proof.Machine

/-! ### What leaves the module -/

@[simp] theorem emit_pending (o : Out) (s : State) : (emit o s).pending = s.pending := rfl
@[simp] theorem emit_seed (o : Out) (s : State) : (emit o s).seed = s.seed := rfl
@[simp] theorem emit_now (o : Out) (s : State) : (emit o s).now = s.now := rfl
@[simp] theorem emit_sys (o : Out) (s : State) : (emit o s).sys = s.sys := rfl
@[simp] theorem emit_clk (o : Out) (s : State) : (emit o s).clk = s.clk := rfl
@[simp] theorem emit_pwr (o : Out) (s : State) : (emit o s).pwr = s.pwr := rfl
@[simp] theorem emit_hlt (o : Out) (s : State) : (emit o s).hlt = s.hlt := rfl
@[simp] theorem emit_mgt (o : Out) (s : State) : (emit o s).mgt = s.mgt := rfl
@[simp] theorem emit_fw (o : Out) (s : State) : (emit o s).fw = s.fw := rfl
@[simp] theorem emit_regs (o : Out) (s : State) : (emit o s).regs = s.regs := rfl
@[simp] theorem emit_flt (o : Out) (s : State) : (emit o s).flt = s.flt := rfl
@[simp] theorem emit_dbg (o : Out) (s : State) : (emit o s).dbg = s.dbg := rfl
@[simp] theorem emit_parts (o : Out) (s : State) : (emit o s).parts = s.parts := rfl
@[simp] theorem emit_dossiers (o : Out) (s : State) : (emit o s).dossiers = s.dossiers := rfl
@[simp] theorem emit_pool (o : Out) (s : State) : (emit o s).pool = s.pool := rfl
@[simp] theorem emit_xlt (o : Out) (s : State) : (emit o s).xlt = s.xlt := rfl
@[simp] theorem emit_qs (o : Out) (s : State) : (emit o s).qs = s.qs := rfl
@[simp] theorem emit_ctrs (o : Out) (s : State) : (emit o s).ctrs = s.ctrs := rfl
@[simp] theorem emit_fab (o : Out) (s : State) : (emit o s).fab = s.fab := rfl
@[simp] theorem emit_cxl (o : Out) (s : State) : (emit o s).cxl = s.cxl := rfl
@[simp] theorem emit_rep (o : Out) (s : State) : (emit o s).rep = s.rep := rfl
@[simp] theorem emit_opt (o : Out) (s : State) : (emit o s).opt = s.opt := rfl
@[simp] theorem emit_col (o : Out) (s : State) : (emit o s).col = s.col := rfl

/-! ### Registers -/

@[simp] theorem bumpN_pending (off n : Nat) (s : State) : (bumpN off n s).pending = s.pending := rfl
@[simp] theorem bumpN_out (off n : Nat) (s : State) : (bumpN off n s).out = s.out := rfl
@[simp] theorem bumpN_seed (off n : Nat) (s : State) : (bumpN off n s).seed = s.seed := rfl
@[simp] theorem bumpN_now (off n : Nat) (s : State) : (bumpN off n s).now = s.now := rfl
@[simp] theorem bumpN_sys (off n : Nat) (s : State) : (bumpN off n s).sys = s.sys := rfl
@[simp] theorem bumpN_clk (off n : Nat) (s : State) : (bumpN off n s).clk = s.clk := rfl
@[simp] theorem bumpN_pwr (off n : Nat) (s : State) : (bumpN off n s).pwr = s.pwr := rfl
@[simp] theorem bumpN_hlt (off n : Nat) (s : State) : (bumpN off n s).hlt = s.hlt := rfl
@[simp] theorem bumpN_mgt (off n : Nat) (s : State) : (bumpN off n s).mgt = s.mgt := rfl
@[simp] theorem bumpN_fw (off n : Nat) (s : State) : (bumpN off n s).fw = s.fw := rfl
@[simp] theorem bumpN_flt (off n : Nat) (s : State) : (bumpN off n s).flt = s.flt := rfl
@[simp] theorem bumpN_dbg (off n : Nat) (s : State) : (bumpN off n s).dbg = s.dbg := rfl
@[simp] theorem bumpN_parts (off n : Nat) (s : State) : (bumpN off n s).parts = s.parts := rfl
@[simp] theorem bumpN_dossiers (off n : Nat) (s : State) : (bumpN off n s).dossiers = s.dossiers := rfl
@[simp] theorem bumpN_pool (off n : Nat) (s : State) : (bumpN off n s).pool = s.pool := rfl
@[simp] theorem bumpN_xlt (off n : Nat) (s : State) : (bumpN off n s).xlt = s.xlt := rfl
@[simp] theorem bumpN_qs (off n : Nat) (s : State) : (bumpN off n s).qs = s.qs := rfl
@[simp] theorem bumpN_ctrs (off n : Nat) (s : State) : (bumpN off n s).ctrs = s.ctrs := rfl
@[simp] theorem bumpN_fab (off n : Nat) (s : State) : (bumpN off n s).fab = s.fab := rfl
@[simp] theorem bumpN_cxl (off n : Nat) (s : State) : (bumpN off n s).cxl = s.cxl := rfl
@[simp] theorem bumpN_rep (off n : Nat) (s : State) : (bumpN off n s).rep = s.rep := rfl
@[simp] theorem bumpN_opt (off n : Nat) (s : State) : (bumpN off n s).opt = s.opt := rfl
@[simp] theorem bumpN_col (off n : Nat) (s : State) : (bumpN off n s).col = s.col := rfl

@[simp] theorem bump_pending (off : Nat) (s : State) : (bump off s).pending = s.pending := rfl
@[simp] theorem bump_out (off : Nat) (s : State) : (bump off s).out = s.out := rfl
@[simp] theorem bump_seed (off : Nat) (s : State) : (bump off s).seed = s.seed := rfl
@[simp] theorem bump_now (off : Nat) (s : State) : (bump off s).now = s.now := rfl
@[simp] theorem bump_sys (off : Nat) (s : State) : (bump off s).sys = s.sys := rfl
@[simp] theorem bump_clk (off : Nat) (s : State) : (bump off s).clk = s.clk := rfl
@[simp] theorem bump_pwr (off : Nat) (s : State) : (bump off s).pwr = s.pwr := rfl
@[simp] theorem bump_hlt (off : Nat) (s : State) : (bump off s).hlt = s.hlt := rfl
@[simp] theorem bump_mgt (off : Nat) (s : State) : (bump off s).mgt = s.mgt := rfl
@[simp] theorem bump_fw (off : Nat) (s : State) : (bump off s).fw = s.fw := rfl
@[simp] theorem bump_flt (off : Nat) (s : State) : (bump off s).flt = s.flt := rfl
@[simp] theorem bump_dbg (off : Nat) (s : State) : (bump off s).dbg = s.dbg := rfl
@[simp] theorem bump_parts (off : Nat) (s : State) : (bump off s).parts = s.parts := rfl
@[simp] theorem bump_dossiers (off : Nat) (s : State) : (bump off s).dossiers = s.dossiers := rfl
@[simp] theorem bump_pool (off : Nat) (s : State) : (bump off s).pool = s.pool := rfl
@[simp] theorem bump_xlt (off : Nat) (s : State) : (bump off s).xlt = s.xlt := rfl
@[simp] theorem bump_qs (off : Nat) (s : State) : (bump off s).qs = s.qs := rfl
@[simp] theorem bump_ctrs (off : Nat) (s : State) : (bump off s).ctrs = s.ctrs := rfl
@[simp] theorem bump_fab (off : Nat) (s : State) : (bump off s).fab = s.fab := rfl
@[simp] theorem bump_cxl (off : Nat) (s : State) : (bump off s).cxl = s.cxl := rfl
@[simp] theorem bump_rep (off : Nat) (s : State) : (bump off s).rep = s.rep := rfl
@[simp] theorem bump_opt (off : Nat) (s : State) : (bump off s).opt = s.opt := rfl
@[simp] theorem bump_col (off : Nat) (s : State) : (bump off s).col = s.col := rfl

@[simp] theorem setCfg_pending (s : State) (off : Nat) (v : Word) : (setCfg s off v).pending = s.pending := rfl
@[simp] theorem setCfg_out (s : State) (off : Nat) (v : Word) : (setCfg s off v).out = s.out := rfl
@[simp] theorem setCfg_seed (s : State) (off : Nat) (v : Word) : (setCfg s off v).seed = s.seed := rfl
@[simp] theorem setCfg_now (s : State) (off : Nat) (v : Word) : (setCfg s off v).now = s.now := rfl
@[simp] theorem setCfg_sys (s : State) (off : Nat) (v : Word) : (setCfg s off v).sys = s.sys := rfl
@[simp] theorem setCfg_clk (s : State) (off : Nat) (v : Word) : (setCfg s off v).clk = s.clk := rfl
@[simp] theorem setCfg_pwr (s : State) (off : Nat) (v : Word) : (setCfg s off v).pwr = s.pwr := rfl
@[simp] theorem setCfg_hlt (s : State) (off : Nat) (v : Word) : (setCfg s off v).hlt = s.hlt := rfl
@[simp] theorem setCfg_mgt (s : State) (off : Nat) (v : Word) : (setCfg s off v).mgt = s.mgt := rfl
@[simp] theorem setCfg_fw (s : State) (off : Nat) (v : Word) : (setCfg s off v).fw = s.fw := rfl
@[simp] theorem setCfg_flt (s : State) (off : Nat) (v : Word) : (setCfg s off v).flt = s.flt := rfl
@[simp] theorem setCfg_dbg (s : State) (off : Nat) (v : Word) : (setCfg s off v).dbg = s.dbg := rfl
@[simp] theorem setCfg_parts (s : State) (off : Nat) (v : Word) : (setCfg s off v).parts = s.parts := rfl
@[simp] theorem setCfg_dossiers (s : State) (off : Nat) (v : Word) : (setCfg s off v).dossiers = s.dossiers := rfl
@[simp] theorem setCfg_pool (s : State) (off : Nat) (v : Word) : (setCfg s off v).pool = s.pool := rfl
@[simp] theorem setCfg_xlt (s : State) (off : Nat) (v : Word) : (setCfg s off v).xlt = s.xlt := rfl
@[simp] theorem setCfg_qs (s : State) (off : Nat) (v : Word) : (setCfg s off v).qs = s.qs := rfl
@[simp] theorem setCfg_ctrs (s : State) (off : Nat) (v : Word) : (setCfg s off v).ctrs = s.ctrs := rfl
@[simp] theorem setCfg_fab (s : State) (off : Nat) (v : Word) : (setCfg s off v).fab = s.fab := rfl
@[simp] theorem setCfg_cxl (s : State) (off : Nat) (v : Word) : (setCfg s off v).cxl = s.cxl := rfl
@[simp] theorem setCfg_rep (s : State) (off : Nat) (v : Word) : (setCfg s off v).rep = s.rep := rfl
@[simp] theorem setCfg_opt (s : State) (off : Nat) (v : Word) : (setCfg s off v).opt = s.opt := rfl
@[simp] theorem setCfg_col (s : State) (off : Nat) (v : Word) : (setCfg s off v).col = s.col := rfl

@[simp] theorem setAcc_pending (s : State) (a : Nat) (x : AccSt) : (setAcc s a x).pending = s.pending := rfl
@[simp] theorem setAcc_out (s : State) (a : Nat) (x : AccSt) : (setAcc s a x).out = s.out := rfl
@[simp] theorem setAcc_seed (s : State) (a : Nat) (x : AccSt) : (setAcc s a x).seed = s.seed := rfl
@[simp] theorem setAcc_now (s : State) (a : Nat) (x : AccSt) : (setAcc s a x).now = s.now := rfl
@[simp] theorem setAcc_sys (s : State) (a : Nat) (x : AccSt) : (setAcc s a x).sys = s.sys := rfl
@[simp] theorem setAcc_clk (s : State) (a : Nat) (x : AccSt) : (setAcc s a x).clk = s.clk := rfl
@[simp] theorem setAcc_pwr (s : State) (a : Nat) (x : AccSt) : (setAcc s a x).pwr = s.pwr := rfl
@[simp] theorem setAcc_hlt (s : State) (a : Nat) (x : AccSt) : (setAcc s a x).hlt = s.hlt := rfl
@[simp] theorem setAcc_mgt (s : State) (a : Nat) (x : AccSt) : (setAcc s a x).mgt = s.mgt := rfl
@[simp] theorem setAcc_fw (s : State) (a : Nat) (x : AccSt) : (setAcc s a x).fw = s.fw := rfl
@[simp] theorem setAcc_flt (s : State) (a : Nat) (x : AccSt) : (setAcc s a x).flt = s.flt := rfl
@[simp] theorem setAcc_dbg (s : State) (a : Nat) (x : AccSt) : (setAcc s a x).dbg = s.dbg := rfl
@[simp] theorem setAcc_parts (s : State) (a : Nat) (x : AccSt) : (setAcc s a x).parts = s.parts := rfl
@[simp] theorem setAcc_dossiers (s : State) (a : Nat) (x : AccSt) : (setAcc s a x).dossiers = s.dossiers := rfl
@[simp] theorem setAcc_pool (s : State) (a : Nat) (x : AccSt) : (setAcc s a x).pool = s.pool := rfl
@[simp] theorem setAcc_xlt (s : State) (a : Nat) (x : AccSt) : (setAcc s a x).xlt = s.xlt := rfl
@[simp] theorem setAcc_qs (s : State) (a : Nat) (x : AccSt) : (setAcc s a x).qs = s.qs := rfl
@[simp] theorem setAcc_ctrs (s : State) (a : Nat) (x : AccSt) : (setAcc s a x).ctrs = s.ctrs := rfl
@[simp] theorem setAcc_fab (s : State) (a : Nat) (x : AccSt) : (setAcc s a x).fab = s.fab := rfl
@[simp] theorem setAcc_cxl (s : State) (a : Nat) (x : AccSt) : (setAcc s a x).cxl = s.cxl := rfl
@[simp] theorem setAcc_rep (s : State) (a : Nat) (x : AccSt) : (setAcc s a x).rep = s.rep := rfl
@[simp] theorem setAcc_opt (s : State) (a : Nat) (x : AccSt) : (setAcc s a x).opt = s.opt := rfl
@[simp] theorem setAcc_col (s : State) (a : Nat) (x : AccSt) : (setAcc s a x).col = s.col := rfl

/-! ### Tables -/

@[simp] theorem setPart_pending (s : State) (n : Nat) (p : Part) : (setPart s n p).pending = s.pending := rfl
@[simp] theorem setPart_out (s : State) (n : Nat) (p : Part) : (setPart s n p).out = s.out := rfl
@[simp] theorem setPart_seed (s : State) (n : Nat) (p : Part) : (setPart s n p).seed = s.seed := rfl
@[simp] theorem setPart_now (s : State) (n : Nat) (p : Part) : (setPart s n p).now = s.now := rfl
@[simp] theorem setPart_sys (s : State) (n : Nat) (p : Part) : (setPart s n p).sys = s.sys := rfl
@[simp] theorem setPart_clk (s : State) (n : Nat) (p : Part) : (setPart s n p).clk = s.clk := rfl
@[simp] theorem setPart_pwr (s : State) (n : Nat) (p : Part) : (setPart s n p).pwr = s.pwr := rfl
@[simp] theorem setPart_hlt (s : State) (n : Nat) (p : Part) : (setPart s n p).hlt = s.hlt := rfl
@[simp] theorem setPart_mgt (s : State) (n : Nat) (p : Part) : (setPart s n p).mgt = s.mgt := rfl
@[simp] theorem setPart_fw (s : State) (n : Nat) (p : Part) : (setPart s n p).fw = s.fw := rfl
@[simp] theorem setPart_regs (s : State) (n : Nat) (p : Part) : (setPart s n p).regs = s.regs := rfl
@[simp] theorem setPart_flt (s : State) (n : Nat) (p : Part) : (setPart s n p).flt = s.flt := rfl
@[simp] theorem setPart_dbg (s : State) (n : Nat) (p : Part) : (setPart s n p).dbg = s.dbg := rfl
@[simp] theorem setPart_dossiers (s : State) (n : Nat) (p : Part) : (setPart s n p).dossiers = s.dossiers := rfl
@[simp] theorem setPart_pool (s : State) (n : Nat) (p : Part) : (setPart s n p).pool = s.pool := rfl
@[simp] theorem setPart_xlt (s : State) (n : Nat) (p : Part) : (setPart s n p).xlt = s.xlt := rfl
@[simp] theorem setPart_qs (s : State) (n : Nat) (p : Part) : (setPart s n p).qs = s.qs := rfl
@[simp] theorem setPart_ctrs (s : State) (n : Nat) (p : Part) : (setPart s n p).ctrs = s.ctrs := rfl
@[simp] theorem setPart_fab (s : State) (n : Nat) (p : Part) : (setPart s n p).fab = s.fab := rfl
@[simp] theorem setPart_cxl (s : State) (n : Nat) (p : Part) : (setPart s n p).cxl = s.cxl := rfl
@[simp] theorem setPart_rep (s : State) (n : Nat) (p : Part) : (setPart s n p).rep = s.rep := rfl
@[simp] theorem setPart_opt (s : State) (n : Nat) (p : Part) : (setPart s n p).opt = s.opt := rfl
@[simp] theorem setPart_col (s : State) (n : Nat) (p : Part) : (setPart s n p).col = s.col := rfl

@[simp] theorem setQue_pending (s : State) (q : Nat) (x : Que) : (setQue s q x).pending = s.pending := rfl
@[simp] theorem setQue_out (s : State) (q : Nat) (x : Que) : (setQue s q x).out = s.out := rfl
@[simp] theorem setQue_seed (s : State) (q : Nat) (x : Que) : (setQue s q x).seed = s.seed := rfl
@[simp] theorem setQue_now (s : State) (q : Nat) (x : Que) : (setQue s q x).now = s.now := rfl
@[simp] theorem setQue_sys (s : State) (q : Nat) (x : Que) : (setQue s q x).sys = s.sys := rfl
@[simp] theorem setQue_clk (s : State) (q : Nat) (x : Que) : (setQue s q x).clk = s.clk := rfl
@[simp] theorem setQue_pwr (s : State) (q : Nat) (x : Que) : (setQue s q x).pwr = s.pwr := rfl
@[simp] theorem setQue_hlt (s : State) (q : Nat) (x : Que) : (setQue s q x).hlt = s.hlt := rfl
@[simp] theorem setQue_mgt (s : State) (q : Nat) (x : Que) : (setQue s q x).mgt = s.mgt := rfl
@[simp] theorem setQue_fw (s : State) (q : Nat) (x : Que) : (setQue s q x).fw = s.fw := rfl
@[simp] theorem setQue_regs (s : State) (q : Nat) (x : Que) : (setQue s q x).regs = s.regs := rfl
@[simp] theorem setQue_flt (s : State) (q : Nat) (x : Que) : (setQue s q x).flt = s.flt := rfl
@[simp] theorem setQue_dbg (s : State) (q : Nat) (x : Que) : (setQue s q x).dbg = s.dbg := rfl
@[simp] theorem setQue_parts (s : State) (q : Nat) (x : Que) : (setQue s q x).parts = s.parts := rfl
@[simp] theorem setQue_dossiers (s : State) (q : Nat) (x : Que) : (setQue s q x).dossiers = s.dossiers := rfl
@[simp] theorem setQue_pool (s : State) (q : Nat) (x : Que) : (setQue s q x).pool = s.pool := rfl
@[simp] theorem setQue_xlt (s : State) (q : Nat) (x : Que) : (setQue s q x).xlt = s.xlt := rfl
@[simp] theorem setQue_ctrs (s : State) (q : Nat) (x : Que) : (setQue s q x).ctrs = s.ctrs := rfl
@[simp] theorem setQue_fab (s : State) (q : Nat) (x : Que) : (setQue s q x).fab = s.fab := rfl
@[simp] theorem setQue_cxl (s : State) (q : Nat) (x : Que) : (setQue s q x).cxl = s.cxl := rfl
@[simp] theorem setQue_rep (s : State) (q : Nat) (x : Que) : (setQue s q x).rep = s.rep := rfl
@[simp] theorem setQue_opt (s : State) (q : Nat) (x : Que) : (setQue s q x).opt = s.opt := rfl
@[simp] theorem setQue_col (s : State) (q : Nat) (x : Que) : (setQue s q x).col = s.col := rfl

@[simp] theorem setOpt_pending (s : State) (p : Nat) (o : OptPort) : (setOpt s p o).pending = s.pending := rfl
@[simp] theorem setOpt_out (s : State) (p : Nat) (o : OptPort) : (setOpt s p o).out = s.out := rfl
@[simp] theorem setOpt_seed (s : State) (p : Nat) (o : OptPort) : (setOpt s p o).seed = s.seed := rfl
@[simp] theorem setOpt_now (s : State) (p : Nat) (o : OptPort) : (setOpt s p o).now = s.now := rfl
@[simp] theorem setOpt_sys (s : State) (p : Nat) (o : OptPort) : (setOpt s p o).sys = s.sys := rfl
@[simp] theorem setOpt_clk (s : State) (p : Nat) (o : OptPort) : (setOpt s p o).clk = s.clk := rfl
@[simp] theorem setOpt_pwr (s : State) (p : Nat) (o : OptPort) : (setOpt s p o).pwr = s.pwr := rfl
@[simp] theorem setOpt_hlt (s : State) (p : Nat) (o : OptPort) : (setOpt s p o).hlt = s.hlt := rfl
@[simp] theorem setOpt_mgt (s : State) (p : Nat) (o : OptPort) : (setOpt s p o).mgt = s.mgt := rfl
@[simp] theorem setOpt_fw (s : State) (p : Nat) (o : OptPort) : (setOpt s p o).fw = s.fw := rfl
@[simp] theorem setOpt_regs (s : State) (p : Nat) (o : OptPort) : (setOpt s p o).regs = s.regs := rfl
@[simp] theorem setOpt_flt (s : State) (p : Nat) (o : OptPort) : (setOpt s p o).flt = s.flt := rfl
@[simp] theorem setOpt_dbg (s : State) (p : Nat) (o : OptPort) : (setOpt s p o).dbg = s.dbg := rfl
@[simp] theorem setOpt_parts (s : State) (p : Nat) (o : OptPort) : (setOpt s p o).parts = s.parts := rfl
@[simp] theorem setOpt_dossiers (s : State) (p : Nat) (o : OptPort) : (setOpt s p o).dossiers = s.dossiers := rfl
@[simp] theorem setOpt_pool (s : State) (p : Nat) (o : OptPort) : (setOpt s p o).pool = s.pool := rfl
@[simp] theorem setOpt_xlt (s : State) (p : Nat) (o : OptPort) : (setOpt s p o).xlt = s.xlt := rfl
@[simp] theorem setOpt_qs (s : State) (p : Nat) (o : OptPort) : (setOpt s p o).qs = s.qs := rfl
@[simp] theorem setOpt_ctrs (s : State) (p : Nat) (o : OptPort) : (setOpt s p o).ctrs = s.ctrs := rfl
@[simp] theorem setOpt_fab (s : State) (p : Nat) (o : OptPort) : (setOpt s p o).fab = s.fab := rfl
@[simp] theorem setOpt_cxl (s : State) (p : Nat) (o : OptPort) : (setOpt s p o).cxl = s.cxl := rfl
@[simp] theorem setOpt_rep (s : State) (p : Nat) (o : OptPort) : (setOpt s p o).rep = s.rep := rfl
@[simp] theorem setOpt_col (s : State) (p : Nat) (o : OptPort) : (setOpt s p o).col = s.col := rfl

@[simp] theorem setCxl_pending (s : State) (p : Nat) (o : CxlPort) : (setCxl s p o).pending = s.pending := rfl
@[simp] theorem setCxl_out (s : State) (p : Nat) (o : CxlPort) : (setCxl s p o).out = s.out := rfl
@[simp] theorem setCxl_seed (s : State) (p : Nat) (o : CxlPort) : (setCxl s p o).seed = s.seed := rfl
@[simp] theorem setCxl_now (s : State) (p : Nat) (o : CxlPort) : (setCxl s p o).now = s.now := rfl
@[simp] theorem setCxl_sys (s : State) (p : Nat) (o : CxlPort) : (setCxl s p o).sys = s.sys := rfl
@[simp] theorem setCxl_clk (s : State) (p : Nat) (o : CxlPort) : (setCxl s p o).clk = s.clk := rfl
@[simp] theorem setCxl_pwr (s : State) (p : Nat) (o : CxlPort) : (setCxl s p o).pwr = s.pwr := rfl
@[simp] theorem setCxl_hlt (s : State) (p : Nat) (o : CxlPort) : (setCxl s p o).hlt = s.hlt := rfl
@[simp] theorem setCxl_mgt (s : State) (p : Nat) (o : CxlPort) : (setCxl s p o).mgt = s.mgt := rfl
@[simp] theorem setCxl_fw (s : State) (p : Nat) (o : CxlPort) : (setCxl s p o).fw = s.fw := rfl
@[simp] theorem setCxl_regs (s : State) (p : Nat) (o : CxlPort) : (setCxl s p o).regs = s.regs := rfl
@[simp] theorem setCxl_flt (s : State) (p : Nat) (o : CxlPort) : (setCxl s p o).flt = s.flt := rfl
@[simp] theorem setCxl_dbg (s : State) (p : Nat) (o : CxlPort) : (setCxl s p o).dbg = s.dbg := rfl
@[simp] theorem setCxl_parts (s : State) (p : Nat) (o : CxlPort) : (setCxl s p o).parts = s.parts := rfl
@[simp] theorem setCxl_dossiers (s : State) (p : Nat) (o : CxlPort) : (setCxl s p o).dossiers = s.dossiers := rfl
@[simp] theorem setCxl_pool (s : State) (p : Nat) (o : CxlPort) : (setCxl s p o).pool = s.pool := rfl
@[simp] theorem setCxl_xlt (s : State) (p : Nat) (o : CxlPort) : (setCxl s p o).xlt = s.xlt := rfl
@[simp] theorem setCxl_qs (s : State) (p : Nat) (o : CxlPort) : (setCxl s p o).qs = s.qs := rfl
@[simp] theorem setCxl_ctrs (s : State) (p : Nat) (o : CxlPort) : (setCxl s p o).ctrs = s.ctrs := rfl
@[simp] theorem setCxl_fab (s : State) (p : Nat) (o : CxlPort) : (setCxl s p o).fab = s.fab := rfl
@[simp] theorem setCxl_rep (s : State) (p : Nat) (o : CxlPort) : (setCxl s p o).rep = s.rep := rfl
@[simp] theorem setCxl_opt (s : State) (p : Nat) (o : CxlPort) : (setCxl s p o).opt = s.opt := rfl
@[simp] theorem setCxl_col (s : State) (p : Nat) (o : CxlPort) : (setCxl s p o).col = s.col := rfl

@[simp] theorem owe_pending (r : Req) (why key : Nat) (s : State) : (owe r why key s).pending = s.pending := rfl
@[simp] theorem owe_out (r : Req) (why key : Nat) (s : State) : (owe r why key s).out = s.out := rfl
@[simp] theorem owe_seed (r : Req) (why key : Nat) (s : State) : (owe r why key s).seed = s.seed := rfl
@[simp] theorem owe_now (r : Req) (why key : Nat) (s : State) : (owe r why key s).now = s.now := rfl
@[simp] theorem owe_sys (r : Req) (why key : Nat) (s : State) : (owe r why key s).sys = s.sys := rfl
@[simp] theorem owe_clk (r : Req) (why key : Nat) (s : State) : (owe r why key s).clk = s.clk := rfl
@[simp] theorem owe_pwr (r : Req) (why key : Nat) (s : State) : (owe r why key s).pwr = s.pwr := rfl
@[simp] theorem owe_hlt (r : Req) (why key : Nat) (s : State) : (owe r why key s).hlt = s.hlt := rfl
@[simp] theorem owe_fw (r : Req) (why key : Nat) (s : State) : (owe r why key s).fw = s.fw := rfl
@[simp] theorem owe_regs (r : Req) (why key : Nat) (s : State) : (owe r why key s).regs = s.regs := rfl
@[simp] theorem owe_flt (r : Req) (why key : Nat) (s : State) : (owe r why key s).flt = s.flt := rfl
@[simp] theorem owe_dbg (r : Req) (why key : Nat) (s : State) : (owe r why key s).dbg = s.dbg := rfl
@[simp] theorem owe_parts (r : Req) (why key : Nat) (s : State) : (owe r why key s).parts = s.parts := rfl
@[simp] theorem owe_dossiers (r : Req) (why key : Nat) (s : State) : (owe r why key s).dossiers = s.dossiers := rfl
@[simp] theorem owe_pool (r : Req) (why key : Nat) (s : State) : (owe r why key s).pool = s.pool := rfl
@[simp] theorem owe_xlt (r : Req) (why key : Nat) (s : State) : (owe r why key s).xlt = s.xlt := rfl
@[simp] theorem owe_qs (r : Req) (why key : Nat) (s : State) : (owe r why key s).qs = s.qs := rfl
@[simp] theorem owe_ctrs (r : Req) (why key : Nat) (s : State) : (owe r why key s).ctrs = s.ctrs := rfl
@[simp] theorem owe_fab (r : Req) (why key : Nat) (s : State) : (owe r why key s).fab = s.fab := rfl
@[simp] theorem owe_cxl (r : Req) (why key : Nat) (s : State) : (owe r why key s).cxl = s.cxl := rfl
@[simp] theorem owe_rep (r : Req) (why key : Nat) (s : State) : (owe r why key s).rep = s.rep := rfl
@[simp] theorem owe_opt (r : Req) (why key : Nat) (s : State) : (owe r why key s).opt = s.opt := rfl
@[simp] theorem owe_col (r : Req) (why key : Nat) (s : State) : (owe r why key s).col = s.col := rfl

/-! ### Free values -/

@[simp] theorem freeVal_pending (m : Nat) (s : State) : ((freeVal m s).2).pending = s.pending := rfl
@[simp] theorem freeVal_out (m : Nat) (s : State) : ((freeVal m s).2).out = s.out := rfl
@[simp] theorem freeVal_now (m : Nat) (s : State) : ((freeVal m s).2).now = s.now := rfl
@[simp] theorem freeVal_sys (m : Nat) (s : State) : ((freeVal m s).2).sys = s.sys := rfl
@[simp] theorem freeVal_clk (m : Nat) (s : State) : ((freeVal m s).2).clk = s.clk := rfl
@[simp] theorem freeVal_pwr (m : Nat) (s : State) : ((freeVal m s).2).pwr = s.pwr := rfl
@[simp] theorem freeVal_hlt (m : Nat) (s : State) : ((freeVal m s).2).hlt = s.hlt := rfl
@[simp] theorem freeVal_mgt (m : Nat) (s : State) : ((freeVal m s).2).mgt = s.mgt := rfl
@[simp] theorem freeVal_fw (m : Nat) (s : State) : ((freeVal m s).2).fw = s.fw := rfl
@[simp] theorem freeVal_regs (m : Nat) (s : State) : ((freeVal m s).2).regs = s.regs := rfl
@[simp] theorem freeVal_flt (m : Nat) (s : State) : ((freeVal m s).2).flt = s.flt := rfl
@[simp] theorem freeVal_dbg (m : Nat) (s : State) : ((freeVal m s).2).dbg = s.dbg := rfl
@[simp] theorem freeVal_parts (m : Nat) (s : State) : ((freeVal m s).2).parts = s.parts := rfl
@[simp] theorem freeVal_dossiers (m : Nat) (s : State) : ((freeVal m s).2).dossiers = s.dossiers := rfl
@[simp] theorem freeVal_pool (m : Nat) (s : State) : ((freeVal m s).2).pool = s.pool := rfl
@[simp] theorem freeVal_xlt (m : Nat) (s : State) : ((freeVal m s).2).xlt = s.xlt := rfl
@[simp] theorem freeVal_qs (m : Nat) (s : State) : ((freeVal m s).2).qs = s.qs := rfl
@[simp] theorem freeVal_ctrs (m : Nat) (s : State) : ((freeVal m s).2).ctrs = s.ctrs := rfl
@[simp] theorem freeVal_fab (m : Nat) (s : State) : ((freeVal m s).2).fab = s.fab := rfl
@[simp] theorem freeVal_cxl (m : Nat) (s : State) : ((freeVal m s).2).cxl = s.cxl := rfl
@[simp] theorem freeVal_rep (m : Nat) (s : State) : ((freeVal m s).2).rep = s.rep := rfl
@[simp] theorem freeVal_opt (m : Nat) (s : State) : ((freeVal m s).2).opt = s.opt := rfl
@[simp] theorem freeVal_col (m : Nat) (s : State) : ((freeVal m s).2).col = s.col := rfl

/-! ### Fault records -/

@[simp] theorem faultSev_pending (cls block sev : Nat) (p : Option Nat) (addr detail : Nat) (s : State) : (faultSev cls block sev p addr detail s).pending = s.pending := by unfold faultSev; dsimp only; split <;> rfl
@[simp] theorem faultSev_out (cls block sev : Nat) (p : Option Nat) (addr detail : Nat) (s : State) : (faultSev cls block sev p addr detail s).out = s.out := by unfold faultSev; dsimp only; split <;> rfl
@[simp] theorem faultSev_seed (cls block sev : Nat) (p : Option Nat) (addr detail : Nat) (s : State) : (faultSev cls block sev p addr detail s).seed = s.seed := by unfold faultSev; dsimp only; split <;> rfl
@[simp] theorem faultSev_now (cls block sev : Nat) (p : Option Nat) (addr detail : Nat) (s : State) : (faultSev cls block sev p addr detail s).now = s.now := by unfold faultSev; dsimp only; split <;> rfl
@[simp] theorem faultSev_sys (cls block sev : Nat) (p : Option Nat) (addr detail : Nat) (s : State) : (faultSev cls block sev p addr detail s).sys = s.sys := by unfold faultSev; dsimp only; split <;> rfl
@[simp] theorem faultSev_clk (cls block sev : Nat) (p : Option Nat) (addr detail : Nat) (s : State) : (faultSev cls block sev p addr detail s).clk = s.clk := by unfold faultSev; dsimp only; split <;> rfl
@[simp] theorem faultSev_pwr (cls block sev : Nat) (p : Option Nat) (addr detail : Nat) (s : State) : (faultSev cls block sev p addr detail s).pwr = s.pwr := by unfold faultSev; dsimp only; split <;> rfl
@[simp] theorem faultSev_hlt (cls block sev : Nat) (p : Option Nat) (addr detail : Nat) (s : State) : (faultSev cls block sev p addr detail s).hlt = s.hlt := by unfold faultSev; dsimp only; split <;> rfl
@[simp] theorem faultSev_mgt (cls block sev : Nat) (p : Option Nat) (addr detail : Nat) (s : State) : (faultSev cls block sev p addr detail s).mgt = s.mgt := by unfold faultSev; dsimp only; split <;> rfl
@[simp] theorem faultSev_fw (cls block sev : Nat) (p : Option Nat) (addr detail : Nat) (s : State) : (faultSev cls block sev p addr detail s).fw = s.fw := by unfold faultSev; dsimp only; split <;> rfl
@[simp] theorem faultSev_dbg (cls block sev : Nat) (p : Option Nat) (addr detail : Nat) (s : State) : (faultSev cls block sev p addr detail s).dbg = s.dbg := by unfold faultSev; dsimp only; split <;> rfl
@[simp] theorem faultSev_parts (cls block sev : Nat) (p : Option Nat) (addr detail : Nat) (s : State) : (faultSev cls block sev p addr detail s).parts = s.parts := by unfold faultSev; dsimp only; split <;> rfl
@[simp] theorem faultSev_dossiers (cls block sev : Nat) (p : Option Nat) (addr detail : Nat) (s : State) : (faultSev cls block sev p addr detail s).dossiers = s.dossiers := by unfold faultSev; dsimp only; split <;> rfl
@[simp] theorem faultSev_pool (cls block sev : Nat) (p : Option Nat) (addr detail : Nat) (s : State) : (faultSev cls block sev p addr detail s).pool = s.pool := by unfold faultSev; dsimp only; split <;> rfl
@[simp] theorem faultSev_xlt (cls block sev : Nat) (p : Option Nat) (addr detail : Nat) (s : State) : (faultSev cls block sev p addr detail s).xlt = s.xlt := by unfold faultSev; dsimp only; split <;> rfl
@[simp] theorem faultSev_qs (cls block sev : Nat) (p : Option Nat) (addr detail : Nat) (s : State) : (faultSev cls block sev p addr detail s).qs = s.qs := by unfold faultSev; dsimp only; split <;> rfl
@[simp] theorem faultSev_ctrs (cls block sev : Nat) (p : Option Nat) (addr detail : Nat) (s : State) : (faultSev cls block sev p addr detail s).ctrs = s.ctrs := by unfold faultSev; dsimp only; split <;> rfl
@[simp] theorem faultSev_fab (cls block sev : Nat) (p : Option Nat) (addr detail : Nat) (s : State) : (faultSev cls block sev p addr detail s).fab = s.fab := by unfold faultSev; dsimp only; split <;> rfl
@[simp] theorem faultSev_cxl (cls block sev : Nat) (p : Option Nat) (addr detail : Nat) (s : State) : (faultSev cls block sev p addr detail s).cxl = s.cxl := by unfold faultSev; dsimp only; split <;> rfl
@[simp] theorem faultSev_rep (cls block sev : Nat) (p : Option Nat) (addr detail : Nat) (s : State) : (faultSev cls block sev p addr detail s).rep = s.rep := by unfold faultSev; dsimp only; split <;> rfl
@[simp] theorem faultSev_opt (cls block sev : Nat) (p : Option Nat) (addr detail : Nat) (s : State) : (faultSev cls block sev p addr detail s).opt = s.opt := by unfold faultSev; dsimp only; split <;> rfl
@[simp] theorem faultSev_col (cls block sev : Nat) (p : Option Nat) (addr detail : Nat) (s : State) : (faultSev cls block sev p addr detail s).col = s.col := by unfold faultSev; dsimp only; split <;> rfl

@[simp] theorem fault_pending (cls block : Nat) (p : Option Nat) (addr detail : Nat) (s : State) : (fault cls block p addr detail s).pending = s.pending := faultSev_pending ..
@[simp] theorem fault_out (cls block : Nat) (p : Option Nat) (addr detail : Nat) (s : State) : (fault cls block p addr detail s).out = s.out := faultSev_out ..
@[simp] theorem fault_seed (cls block : Nat) (p : Option Nat) (addr detail : Nat) (s : State) : (fault cls block p addr detail s).seed = s.seed := faultSev_seed ..
@[simp] theorem fault_now (cls block : Nat) (p : Option Nat) (addr detail : Nat) (s : State) : (fault cls block p addr detail s).now = s.now := faultSev_now ..
@[simp] theorem fault_sys (cls block : Nat) (p : Option Nat) (addr detail : Nat) (s : State) : (fault cls block p addr detail s).sys = s.sys := faultSev_sys ..
@[simp] theorem fault_clk (cls block : Nat) (p : Option Nat) (addr detail : Nat) (s : State) : (fault cls block p addr detail s).clk = s.clk := faultSev_clk ..
@[simp] theorem fault_pwr (cls block : Nat) (p : Option Nat) (addr detail : Nat) (s : State) : (fault cls block p addr detail s).pwr = s.pwr := faultSev_pwr ..
@[simp] theorem fault_hlt (cls block : Nat) (p : Option Nat) (addr detail : Nat) (s : State) : (fault cls block p addr detail s).hlt = s.hlt := faultSev_hlt ..
@[simp] theorem fault_mgt (cls block : Nat) (p : Option Nat) (addr detail : Nat) (s : State) : (fault cls block p addr detail s).mgt = s.mgt := faultSev_mgt ..
@[simp] theorem fault_fw (cls block : Nat) (p : Option Nat) (addr detail : Nat) (s : State) : (fault cls block p addr detail s).fw = s.fw := faultSev_fw ..
@[simp] theorem fault_dbg (cls block : Nat) (p : Option Nat) (addr detail : Nat) (s : State) : (fault cls block p addr detail s).dbg = s.dbg := faultSev_dbg ..
@[simp] theorem fault_parts (cls block : Nat) (p : Option Nat) (addr detail : Nat) (s : State) : (fault cls block p addr detail s).parts = s.parts := faultSev_parts ..
@[simp] theorem fault_dossiers (cls block : Nat) (p : Option Nat) (addr detail : Nat) (s : State) : (fault cls block p addr detail s).dossiers = s.dossiers := faultSev_dossiers ..
@[simp] theorem fault_pool (cls block : Nat) (p : Option Nat) (addr detail : Nat) (s : State) : (fault cls block p addr detail s).pool = s.pool := faultSev_pool ..
@[simp] theorem fault_xlt (cls block : Nat) (p : Option Nat) (addr detail : Nat) (s : State) : (fault cls block p addr detail s).xlt = s.xlt := faultSev_xlt ..
@[simp] theorem fault_qs (cls block : Nat) (p : Option Nat) (addr detail : Nat) (s : State) : (fault cls block p addr detail s).qs = s.qs := faultSev_qs ..
@[simp] theorem fault_ctrs (cls block : Nat) (p : Option Nat) (addr detail : Nat) (s : State) : (fault cls block p addr detail s).ctrs = s.ctrs := faultSev_ctrs ..
@[simp] theorem fault_fab (cls block : Nat) (p : Option Nat) (addr detail : Nat) (s : State) : (fault cls block p addr detail s).fab = s.fab := faultSev_fab ..
@[simp] theorem fault_cxl (cls block : Nat) (p : Option Nat) (addr detail : Nat) (s : State) : (fault cls block p addr detail s).cxl = s.cxl := faultSev_cxl ..
@[simp] theorem fault_rep (cls block : Nat) (p : Option Nat) (addr detail : Nat) (s : State) : (fault cls block p addr detail s).rep = s.rep := faultSev_rep ..
@[simp] theorem fault_opt (cls block : Nat) (p : Option Nat) (addr detail : Nat) (s : State) : (fault cls block p addr detail s).opt = s.opt := faultSev_opt ..
@[simp] theorem fault_col (cls block : Nat) (p : Option Nat) (addr detail : Nat) (s : State) : (fault cls block p addr detail s).col = s.col := faultSev_col ..

@[simp] theorem faultAtSev_pending (cls block sev : Nat) (p : Option Nat) (addr : Nat) (s : State) : (faultAtSev cls block sev p addr s).pending = s.pending := faultSev_pending ..
@[simp] theorem faultAtSev_out (cls block sev : Nat) (p : Option Nat) (addr : Nat) (s : State) : (faultAtSev cls block sev p addr s).out = s.out := faultSev_out ..
@[simp] theorem faultAtSev_now (cls block sev : Nat) (p : Option Nat) (addr : Nat) (s : State) : (faultAtSev cls block sev p addr s).now = s.now := faultSev_now ..
@[simp] theorem faultAtSev_sys (cls block sev : Nat) (p : Option Nat) (addr : Nat) (s : State) : (faultAtSev cls block sev p addr s).sys = s.sys := faultSev_sys ..
@[simp] theorem faultAtSev_clk (cls block sev : Nat) (p : Option Nat) (addr : Nat) (s : State) : (faultAtSev cls block sev p addr s).clk = s.clk := faultSev_clk ..
@[simp] theorem faultAtSev_pwr (cls block sev : Nat) (p : Option Nat) (addr : Nat) (s : State) : (faultAtSev cls block sev p addr s).pwr = s.pwr := faultSev_pwr ..
@[simp] theorem faultAtSev_hlt (cls block sev : Nat) (p : Option Nat) (addr : Nat) (s : State) : (faultAtSev cls block sev p addr s).hlt = s.hlt := faultSev_hlt ..
@[simp] theorem faultAtSev_mgt (cls block sev : Nat) (p : Option Nat) (addr : Nat) (s : State) : (faultAtSev cls block sev p addr s).mgt = s.mgt := faultSev_mgt ..
@[simp] theorem faultAtSev_fw (cls block sev : Nat) (p : Option Nat) (addr : Nat) (s : State) : (faultAtSev cls block sev p addr s).fw = s.fw := faultSev_fw ..
@[simp] theorem faultAtSev_dbg (cls block sev : Nat) (p : Option Nat) (addr : Nat) (s : State) : (faultAtSev cls block sev p addr s).dbg = s.dbg := faultSev_dbg ..
@[simp] theorem faultAtSev_parts (cls block sev : Nat) (p : Option Nat) (addr : Nat) (s : State) : (faultAtSev cls block sev p addr s).parts = s.parts := faultSev_parts ..
@[simp] theorem faultAtSev_dossiers (cls block sev : Nat) (p : Option Nat) (addr : Nat) (s : State) : (faultAtSev cls block sev p addr s).dossiers = s.dossiers := faultSev_dossiers ..
@[simp] theorem faultAtSev_pool (cls block sev : Nat) (p : Option Nat) (addr : Nat) (s : State) : (faultAtSev cls block sev p addr s).pool = s.pool := faultSev_pool ..
@[simp] theorem faultAtSev_xlt (cls block sev : Nat) (p : Option Nat) (addr : Nat) (s : State) : (faultAtSev cls block sev p addr s).xlt = s.xlt := faultSev_xlt ..
@[simp] theorem faultAtSev_qs (cls block sev : Nat) (p : Option Nat) (addr : Nat) (s : State) : (faultAtSev cls block sev p addr s).qs = s.qs := faultSev_qs ..
@[simp] theorem faultAtSev_ctrs (cls block sev : Nat) (p : Option Nat) (addr : Nat) (s : State) : (faultAtSev cls block sev p addr s).ctrs = s.ctrs := faultSev_ctrs ..
@[simp] theorem faultAtSev_fab (cls block sev : Nat) (p : Option Nat) (addr : Nat) (s : State) : (faultAtSev cls block sev p addr s).fab = s.fab := faultSev_fab ..
@[simp] theorem faultAtSev_cxl (cls block sev : Nat) (p : Option Nat) (addr : Nat) (s : State) : (faultAtSev cls block sev p addr s).cxl = s.cxl := faultSev_cxl ..
@[simp] theorem faultAtSev_rep (cls block sev : Nat) (p : Option Nat) (addr : Nat) (s : State) : (faultAtSev cls block sev p addr s).rep = s.rep := faultSev_rep ..
@[simp] theorem faultAtSev_opt (cls block sev : Nat) (p : Option Nat) (addr : Nat) (s : State) : (faultAtSev cls block sev p addr s).opt = s.opt := faultSev_opt ..
@[simp] theorem faultAtSev_col (cls block sev : Nat) (p : Option Nat) (addr : Nat) (s : State) : (faultAtSev cls block sev p addr s).col = s.col := faultSev_col ..

@[simp] theorem faultAt_pending (cls block : Nat) (p : Option Nat) (addr : Nat) (s : State) : (faultAt cls block p addr s).pending = s.pending := faultAtSev_pending ..
@[simp] theorem faultAt_out (cls block : Nat) (p : Option Nat) (addr : Nat) (s : State) : (faultAt cls block p addr s).out = s.out := faultAtSev_out ..
@[simp] theorem faultAt_now (cls block : Nat) (p : Option Nat) (addr : Nat) (s : State) : (faultAt cls block p addr s).now = s.now := faultAtSev_now ..
@[simp] theorem faultAt_sys (cls block : Nat) (p : Option Nat) (addr : Nat) (s : State) : (faultAt cls block p addr s).sys = s.sys := faultAtSev_sys ..
@[simp] theorem faultAt_clk (cls block : Nat) (p : Option Nat) (addr : Nat) (s : State) : (faultAt cls block p addr s).clk = s.clk := faultAtSev_clk ..
@[simp] theorem faultAt_pwr (cls block : Nat) (p : Option Nat) (addr : Nat) (s : State) : (faultAt cls block p addr s).pwr = s.pwr := faultAtSev_pwr ..
@[simp] theorem faultAt_hlt (cls block : Nat) (p : Option Nat) (addr : Nat) (s : State) : (faultAt cls block p addr s).hlt = s.hlt := faultAtSev_hlt ..
@[simp] theorem faultAt_mgt (cls block : Nat) (p : Option Nat) (addr : Nat) (s : State) : (faultAt cls block p addr s).mgt = s.mgt := faultAtSev_mgt ..
@[simp] theorem faultAt_fw (cls block : Nat) (p : Option Nat) (addr : Nat) (s : State) : (faultAt cls block p addr s).fw = s.fw := faultAtSev_fw ..
@[simp] theorem faultAt_dbg (cls block : Nat) (p : Option Nat) (addr : Nat) (s : State) : (faultAt cls block p addr s).dbg = s.dbg := faultAtSev_dbg ..
@[simp] theorem faultAt_parts (cls block : Nat) (p : Option Nat) (addr : Nat) (s : State) : (faultAt cls block p addr s).parts = s.parts := faultAtSev_parts ..
@[simp] theorem faultAt_dossiers (cls block : Nat) (p : Option Nat) (addr : Nat) (s : State) : (faultAt cls block p addr s).dossiers = s.dossiers := faultAtSev_dossiers ..
@[simp] theorem faultAt_pool (cls block : Nat) (p : Option Nat) (addr : Nat) (s : State) : (faultAt cls block p addr s).pool = s.pool := faultAtSev_pool ..
@[simp] theorem faultAt_xlt (cls block : Nat) (p : Option Nat) (addr : Nat) (s : State) : (faultAt cls block p addr s).xlt = s.xlt := faultAtSev_xlt ..
@[simp] theorem faultAt_qs (cls block : Nat) (p : Option Nat) (addr : Nat) (s : State) : (faultAt cls block p addr s).qs = s.qs := faultAtSev_qs ..
@[simp] theorem faultAt_ctrs (cls block : Nat) (p : Option Nat) (addr : Nat) (s : State) : (faultAt cls block p addr s).ctrs = s.ctrs := faultAtSev_ctrs ..
@[simp] theorem faultAt_fab (cls block : Nat) (p : Option Nat) (addr : Nat) (s : State) : (faultAt cls block p addr s).fab = s.fab := faultAtSev_fab ..
@[simp] theorem faultAt_cxl (cls block : Nat) (p : Option Nat) (addr : Nat) (s : State) : (faultAt cls block p addr s).cxl = s.cxl := faultAtSev_cxl ..
@[simp] theorem faultAt_rep (cls block : Nat) (p : Option Nat) (addr : Nat) (s : State) : (faultAt cls block p addr s).rep = s.rep := faultAtSev_rep ..
@[simp] theorem faultAt_opt (cls block : Nat) (p : Option Nat) (addr : Nat) (s : State) : (faultAt cls block p addr s).opt = s.opt := faultAtSev_opt ..
@[simp] theorem faultAt_col (cls block : Nat) (p : Option Nat) (addr : Nat) (s : State) : (faultAt cls block p addr s).col = s.col := faultAtSev_col ..

@[simp] theorem faultAny_pending (cls block sev : Nat) (p : Option Nat) (s : State) : (faultAny cls block sev p s).pending = s.pending := faultAtSev_pending ..
@[simp] theorem faultAny_out (cls block sev : Nat) (p : Option Nat) (s : State) : (faultAny cls block sev p s).out = s.out := faultAtSev_out ..
@[simp] theorem faultAny_now (cls block sev : Nat) (p : Option Nat) (s : State) : (faultAny cls block sev p s).now = s.now := faultAtSev_now ..
@[simp] theorem faultAny_sys (cls block sev : Nat) (p : Option Nat) (s : State) : (faultAny cls block sev p s).sys = s.sys := faultAtSev_sys ..
@[simp] theorem faultAny_clk (cls block sev : Nat) (p : Option Nat) (s : State) : (faultAny cls block sev p s).clk = s.clk := faultAtSev_clk ..
@[simp] theorem faultAny_pwr (cls block sev : Nat) (p : Option Nat) (s : State) : (faultAny cls block sev p s).pwr = s.pwr := faultAtSev_pwr ..
@[simp] theorem faultAny_hlt (cls block sev : Nat) (p : Option Nat) (s : State) : (faultAny cls block sev p s).hlt = s.hlt := faultAtSev_hlt ..
@[simp] theorem faultAny_mgt (cls block sev : Nat) (p : Option Nat) (s : State) : (faultAny cls block sev p s).mgt = s.mgt := faultAtSev_mgt ..
@[simp] theorem faultAny_fw (cls block sev : Nat) (p : Option Nat) (s : State) : (faultAny cls block sev p s).fw = s.fw := faultAtSev_fw ..
@[simp] theorem faultAny_dbg (cls block sev : Nat) (p : Option Nat) (s : State) : (faultAny cls block sev p s).dbg = s.dbg := faultAtSev_dbg ..
@[simp] theorem faultAny_parts (cls block sev : Nat) (p : Option Nat) (s : State) : (faultAny cls block sev p s).parts = s.parts := faultAtSev_parts ..
@[simp] theorem faultAny_dossiers (cls block sev : Nat) (p : Option Nat) (s : State) : (faultAny cls block sev p s).dossiers = s.dossiers := faultAtSev_dossiers ..
@[simp] theorem faultAny_pool (cls block sev : Nat) (p : Option Nat) (s : State) : (faultAny cls block sev p s).pool = s.pool := faultAtSev_pool ..
@[simp] theorem faultAny_xlt (cls block sev : Nat) (p : Option Nat) (s : State) : (faultAny cls block sev p s).xlt = s.xlt := faultAtSev_xlt ..
@[simp] theorem faultAny_qs (cls block sev : Nat) (p : Option Nat) (s : State) : (faultAny cls block sev p s).qs = s.qs := faultAtSev_qs ..
@[simp] theorem faultAny_ctrs (cls block sev : Nat) (p : Option Nat) (s : State) : (faultAny cls block sev p s).ctrs = s.ctrs := faultAtSev_ctrs ..
@[simp] theorem faultAny_fab (cls block sev : Nat) (p : Option Nat) (s : State) : (faultAny cls block sev p s).fab = s.fab := faultAtSev_fab ..
@[simp] theorem faultAny_cxl (cls block sev : Nat) (p : Option Nat) (s : State) : (faultAny cls block sev p s).cxl = s.cxl := faultAtSev_cxl ..
@[simp] theorem faultAny_rep (cls block sev : Nat) (p : Option Nat) (s : State) : (faultAny cls block sev p s).rep = s.rep := faultAtSev_rep ..
@[simp] theorem faultAny_opt (cls block sev : Nat) (p : Option Nat) (s : State) : (faultAny cls block sev p s).opt = s.opt := faultAtSev_opt ..
@[simp] theorem faultAny_col (cls block sev : Nat) (p : Option Nat) (s : State) : (faultAny cls block sev p s).col = s.col := faultAtSev_col ..

/-! ### Reports -/

@[simp] theorem reportOn_pending (l : Link) (code : Nat) (payload : Bytes) (s : State) : (reportOn l code payload s).pending = s.pending := by unfold reportOn; cases l <;> (dsimp only; split <;> rfl)
@[simp] theorem reportOn_seed (l : Link) (code : Nat) (payload : Bytes) (s : State) : (reportOn l code payload s).seed = s.seed := by unfold reportOn; cases l <;> (dsimp only; split <;> rfl)
@[simp] theorem reportOn_now (l : Link) (code : Nat) (payload : Bytes) (s : State) : (reportOn l code payload s).now = s.now := by unfold reportOn; cases l <;> (dsimp only; split <;> rfl)
@[simp] theorem reportOn_sys (l : Link) (code : Nat) (payload : Bytes) (s : State) : (reportOn l code payload s).sys = s.sys := by unfold reportOn; cases l <;> (dsimp only; split <;> rfl)
@[simp] theorem reportOn_clk (l : Link) (code : Nat) (payload : Bytes) (s : State) : (reportOn l code payload s).clk = s.clk := by unfold reportOn; cases l <;> (dsimp only; split <;> rfl)
@[simp] theorem reportOn_pwr (l : Link) (code : Nat) (payload : Bytes) (s : State) : (reportOn l code payload s).pwr = s.pwr := by unfold reportOn; cases l <;> (dsimp only; split <;> rfl)
@[simp] theorem reportOn_hlt (l : Link) (code : Nat) (payload : Bytes) (s : State) : (reportOn l code payload s).hlt = s.hlt := by unfold reportOn; cases l <;> (dsimp only; split <;> rfl)
@[simp] theorem reportOn_mgt (l : Link) (code : Nat) (payload : Bytes) (s : State) : (reportOn l code payload s).mgt = s.mgt := by unfold reportOn; cases l <;> (dsimp only; split <;> rfl)
@[simp] theorem reportOn_flt (l : Link) (code : Nat) (payload : Bytes) (s : State) : (reportOn l code payload s).flt = s.flt := by unfold reportOn; cases l <;> (dsimp only; split <;> rfl)
@[simp] theorem reportOn_dbg (l : Link) (code : Nat) (payload : Bytes) (s : State) : (reportOn l code payload s).dbg = s.dbg := by unfold reportOn; cases l <;> (dsimp only; split <;> rfl)
@[simp] theorem reportOn_parts (l : Link) (code : Nat) (payload : Bytes) (s : State) : (reportOn l code payload s).parts = s.parts := by unfold reportOn; cases l <;> (dsimp only; split <;> rfl)
@[simp] theorem reportOn_dossiers (l : Link) (code : Nat) (payload : Bytes) (s : State) : (reportOn l code payload s).dossiers = s.dossiers := by unfold reportOn; cases l <;> (dsimp only; split <;> rfl)
@[simp] theorem reportOn_pool (l : Link) (code : Nat) (payload : Bytes) (s : State) : (reportOn l code payload s).pool = s.pool := by unfold reportOn; cases l <;> (dsimp only; split <;> rfl)
@[simp] theorem reportOn_xlt (l : Link) (code : Nat) (payload : Bytes) (s : State) : (reportOn l code payload s).xlt = s.xlt := by unfold reportOn; cases l <;> (dsimp only; split <;> rfl)
@[simp] theorem reportOn_qs (l : Link) (code : Nat) (payload : Bytes) (s : State) : (reportOn l code payload s).qs = s.qs := by unfold reportOn; cases l <;> (dsimp only; split <;> rfl)
@[simp] theorem reportOn_ctrs (l : Link) (code : Nat) (payload : Bytes) (s : State) : (reportOn l code payload s).ctrs = s.ctrs := by unfold reportOn; cases l <;> (dsimp only; split <;> rfl)
@[simp] theorem reportOn_fab (l : Link) (code : Nat) (payload : Bytes) (s : State) : (reportOn l code payload s).fab = s.fab := by unfold reportOn; cases l <;> (dsimp only; split <;> rfl)
@[simp] theorem reportOn_cxl (l : Link) (code : Nat) (payload : Bytes) (s : State) : (reportOn l code payload s).cxl = s.cxl := by unfold reportOn; cases l <;> (dsimp only; split <;> rfl)
@[simp] theorem reportOn_rep (l : Link) (code : Nat) (payload : Bytes) (s : State) : (reportOn l code payload s).rep = s.rep := by unfold reportOn; cases l <;> (dsimp only; split <;> rfl)
@[simp] theorem reportOn_opt (l : Link) (code : Nat) (payload : Bytes) (s : State) : (reportOn l code payload s).opt = s.opt := by unfold reportOn; cases l <;> (dsimp only; split <;> rfl)
@[simp] theorem reportOn_col (l : Link) (code : Nat) (payload : Bytes) (s : State) : (reportOn l code payload s).col = s.col := by unfold reportOn; cases l <;> (dsimp only; split <;> rfl)

@[simp] theorem reportRaw_pending (code : Nat) (payload : Bytes) (s : State) : (reportRaw code payload s).pending = s.pending := (reportOn_pending ..).trans (reportOn_pending ..)
@[simp] theorem reportRaw_seed (code : Nat) (payload : Bytes) (s : State) : (reportRaw code payload s).seed = s.seed := (reportOn_seed ..).trans (reportOn_seed ..)
@[simp] theorem reportRaw_now (code : Nat) (payload : Bytes) (s : State) : (reportRaw code payload s).now = s.now := (reportOn_now ..).trans (reportOn_now ..)
@[simp] theorem reportRaw_sys (code : Nat) (payload : Bytes) (s : State) : (reportRaw code payload s).sys = s.sys := (reportOn_sys ..).trans (reportOn_sys ..)
@[simp] theorem reportRaw_clk (code : Nat) (payload : Bytes) (s : State) : (reportRaw code payload s).clk = s.clk := (reportOn_clk ..).trans (reportOn_clk ..)
@[simp] theorem reportRaw_pwr (code : Nat) (payload : Bytes) (s : State) : (reportRaw code payload s).pwr = s.pwr := (reportOn_pwr ..).trans (reportOn_pwr ..)
@[simp] theorem reportRaw_hlt (code : Nat) (payload : Bytes) (s : State) : (reportRaw code payload s).hlt = s.hlt := (reportOn_hlt ..).trans (reportOn_hlt ..)
@[simp] theorem reportRaw_mgt (code : Nat) (payload : Bytes) (s : State) : (reportRaw code payload s).mgt = s.mgt := (reportOn_mgt ..).trans (reportOn_mgt ..)
@[simp] theorem reportRaw_flt (code : Nat) (payload : Bytes) (s : State) : (reportRaw code payload s).flt = s.flt := (reportOn_flt ..).trans (reportOn_flt ..)
@[simp] theorem reportRaw_dbg (code : Nat) (payload : Bytes) (s : State) : (reportRaw code payload s).dbg = s.dbg := (reportOn_dbg ..).trans (reportOn_dbg ..)
@[simp] theorem reportRaw_parts (code : Nat) (payload : Bytes) (s : State) : (reportRaw code payload s).parts = s.parts := (reportOn_parts ..).trans (reportOn_parts ..)
@[simp] theorem reportRaw_dossiers (code : Nat) (payload : Bytes) (s : State) : (reportRaw code payload s).dossiers = s.dossiers := (reportOn_dossiers ..).trans (reportOn_dossiers ..)
@[simp] theorem reportRaw_pool (code : Nat) (payload : Bytes) (s : State) : (reportRaw code payload s).pool = s.pool := (reportOn_pool ..).trans (reportOn_pool ..)
@[simp] theorem reportRaw_xlt (code : Nat) (payload : Bytes) (s : State) : (reportRaw code payload s).xlt = s.xlt := (reportOn_xlt ..).trans (reportOn_xlt ..)
@[simp] theorem reportRaw_qs (code : Nat) (payload : Bytes) (s : State) : (reportRaw code payload s).qs = s.qs := (reportOn_qs ..).trans (reportOn_qs ..)
@[simp] theorem reportRaw_ctrs (code : Nat) (payload : Bytes) (s : State) : (reportRaw code payload s).ctrs = s.ctrs := (reportOn_ctrs ..).trans (reportOn_ctrs ..)
@[simp] theorem reportRaw_fab (code : Nat) (payload : Bytes) (s : State) : (reportRaw code payload s).fab = s.fab := (reportOn_fab ..).trans (reportOn_fab ..)
@[simp] theorem reportRaw_cxl (code : Nat) (payload : Bytes) (s : State) : (reportRaw code payload s).cxl = s.cxl := (reportOn_cxl ..).trans (reportOn_cxl ..)
@[simp] theorem reportRaw_rep (code : Nat) (payload : Bytes) (s : State) : (reportRaw code payload s).rep = s.rep := (reportOn_rep ..).trans (reportOn_rep ..)
@[simp] theorem reportRaw_opt (code : Nat) (payload : Bytes) (s : State) : (reportRaw code payload s).opt = s.opt := (reportOn_opt ..).trans (reportOn_opt ..)
@[simp] theorem reportRaw_col (code : Nat) (payload : Bytes) (s : State) : (reportRaw code payload s).col = s.col := (reportOn_col ..).trans (reportOn_col ..)

@[simp] theorem report_pending (code subject detail : Nat) (s : State) : (report code subject detail s).pending = s.pending := reportRaw_pending ..
@[simp] theorem report_seed (code subject detail : Nat) (s : State) : (report code subject detail s).seed = s.seed := reportRaw_seed ..
@[simp] theorem report_now (code subject detail : Nat) (s : State) : (report code subject detail s).now = s.now := reportRaw_now ..
@[simp] theorem report_sys (code subject detail : Nat) (s : State) : (report code subject detail s).sys = s.sys := reportRaw_sys ..
@[simp] theorem report_clk (code subject detail : Nat) (s : State) : (report code subject detail s).clk = s.clk := reportRaw_clk ..
@[simp] theorem report_pwr (code subject detail : Nat) (s : State) : (report code subject detail s).pwr = s.pwr := reportRaw_pwr ..
@[simp] theorem report_hlt (code subject detail : Nat) (s : State) : (report code subject detail s).hlt = s.hlt := reportRaw_hlt ..
@[simp] theorem report_mgt (code subject detail : Nat) (s : State) : (report code subject detail s).mgt = s.mgt := reportRaw_mgt ..
@[simp] theorem report_flt (code subject detail : Nat) (s : State) : (report code subject detail s).flt = s.flt := reportRaw_flt ..
@[simp] theorem report_dbg (code subject detail : Nat) (s : State) : (report code subject detail s).dbg = s.dbg := reportRaw_dbg ..
@[simp] theorem report_parts (code subject detail : Nat) (s : State) : (report code subject detail s).parts = s.parts := reportRaw_parts ..
@[simp] theorem report_dossiers (code subject detail : Nat) (s : State) : (report code subject detail s).dossiers = s.dossiers := reportRaw_dossiers ..
@[simp] theorem report_pool (code subject detail : Nat) (s : State) : (report code subject detail s).pool = s.pool := reportRaw_pool ..
@[simp] theorem report_xlt (code subject detail : Nat) (s : State) : (report code subject detail s).xlt = s.xlt := reportRaw_xlt ..
@[simp] theorem report_qs (code subject detail : Nat) (s : State) : (report code subject detail s).qs = s.qs := reportRaw_qs ..
@[simp] theorem report_ctrs (code subject detail : Nat) (s : State) : (report code subject detail s).ctrs = s.ctrs := reportRaw_ctrs ..
@[simp] theorem report_fab (code subject detail : Nat) (s : State) : (report code subject detail s).fab = s.fab := reportRaw_fab ..
@[simp] theorem report_cxl (code subject detail : Nat) (s : State) : (report code subject detail s).cxl = s.cxl := reportRaw_cxl ..
@[simp] theorem report_rep (code subject detail : Nat) (s : State) : (report code subject detail s).rep = s.rep := reportRaw_rep ..
@[simp] theorem report_opt (code subject detail : Nat) (s : State) : (report code subject detail s).opt = s.opt := reportRaw_opt ..
@[simp] theorem report_col (code subject detail : Nat) (s : State) : (report code subject detail s).col = s.col := reportRaw_col ..

/-! ### The log ring, trace points and event logs -/

@[simp] theorem logEntry_pending (source level : Nat) (p : Option Nat) (point code : Nat) (data : Bytes) (s : State) : (logEntry source level p point code data s).pending = s.pending := rfl
@[simp] theorem logEntry_out (source level : Nat) (p : Option Nat) (point code : Nat) (data : Bytes) (s : State) : (logEntry source level p point code data s).out = s.out := rfl
@[simp] theorem logEntry_seed (source level : Nat) (p : Option Nat) (point code : Nat) (data : Bytes) (s : State) : (logEntry source level p point code data s).seed = s.seed := rfl
@[simp] theorem logEntry_now (source level : Nat) (p : Option Nat) (point code : Nat) (data : Bytes) (s : State) : (logEntry source level p point code data s).now = s.now := rfl
@[simp] theorem logEntry_sys (source level : Nat) (p : Option Nat) (point code : Nat) (data : Bytes) (s : State) : (logEntry source level p point code data s).sys = s.sys := rfl
@[simp] theorem logEntry_clk (source level : Nat) (p : Option Nat) (point code : Nat) (data : Bytes) (s : State) : (logEntry source level p point code data s).clk = s.clk := rfl
@[simp] theorem logEntry_pwr (source level : Nat) (p : Option Nat) (point code : Nat) (data : Bytes) (s : State) : (logEntry source level p point code data s).pwr = s.pwr := rfl
@[simp] theorem logEntry_hlt (source level : Nat) (p : Option Nat) (point code : Nat) (data : Bytes) (s : State) : (logEntry source level p point code data s).hlt = s.hlt := rfl
@[simp] theorem logEntry_mgt (source level : Nat) (p : Option Nat) (point code : Nat) (data : Bytes) (s : State) : (logEntry source level p point code data s).mgt = s.mgt := rfl
@[simp] theorem logEntry_regs (source level : Nat) (p : Option Nat) (point code : Nat) (data : Bytes) (s : State) : (logEntry source level p point code data s).regs = s.regs := rfl
@[simp] theorem logEntry_flt (source level : Nat) (p : Option Nat) (point code : Nat) (data : Bytes) (s : State) : (logEntry source level p point code data s).flt = s.flt := rfl
@[simp] theorem logEntry_dbg (source level : Nat) (p : Option Nat) (point code : Nat) (data : Bytes) (s : State) : (logEntry source level p point code data s).dbg = s.dbg := rfl
@[simp] theorem logEntry_parts (source level : Nat) (p : Option Nat) (point code : Nat) (data : Bytes) (s : State) : (logEntry source level p point code data s).parts = s.parts := rfl
@[simp] theorem logEntry_dossiers (source level : Nat) (p : Option Nat) (point code : Nat) (data : Bytes) (s : State) : (logEntry source level p point code data s).dossiers = s.dossiers := rfl
@[simp] theorem logEntry_pool (source level : Nat) (p : Option Nat) (point code : Nat) (data : Bytes) (s : State) : (logEntry source level p point code data s).pool = s.pool := rfl
@[simp] theorem logEntry_xlt (source level : Nat) (p : Option Nat) (point code : Nat) (data : Bytes) (s : State) : (logEntry source level p point code data s).xlt = s.xlt := rfl
@[simp] theorem logEntry_qs (source level : Nat) (p : Option Nat) (point code : Nat) (data : Bytes) (s : State) : (logEntry source level p point code data s).qs = s.qs := rfl
@[simp] theorem logEntry_ctrs (source level : Nat) (p : Option Nat) (point code : Nat) (data : Bytes) (s : State) : (logEntry source level p point code data s).ctrs = s.ctrs := rfl
@[simp] theorem logEntry_fab (source level : Nat) (p : Option Nat) (point code : Nat) (data : Bytes) (s : State) : (logEntry source level p point code data s).fab = s.fab := rfl
@[simp] theorem logEntry_cxl (source level : Nat) (p : Option Nat) (point code : Nat) (data : Bytes) (s : State) : (logEntry source level p point code data s).cxl = s.cxl := rfl
@[simp] theorem logEntry_rep (source level : Nat) (p : Option Nat) (point code : Nat) (data : Bytes) (s : State) : (logEntry source level p point code data s).rep = s.rep := rfl
@[simp] theorem logEntry_opt (source level : Nat) (p : Option Nat) (point code : Nat) (data : Bytes) (s : State) : (logEntry source level p point code data s).opt = s.opt := rfl
@[simp] theorem logEntry_col (source level : Nat) (p : Option Nat) (point code : Nat) (data : Bytes) (s : State) : (logEntry source level p point code data s).col = s.col := rfl

@[simp] theorem tracePoint_pending (pt p : Nat) (data : Bytes) (s : State) : (tracePoint pt p data s).pending = s.pending := by unfold tracePoint; split <;> rfl
@[simp] theorem tracePoint_out (pt p : Nat) (data : Bytes) (s : State) : (tracePoint pt p data s).out = s.out := by unfold tracePoint; split <;> rfl
@[simp] theorem tracePoint_seed (pt p : Nat) (data : Bytes) (s : State) : (tracePoint pt p data s).seed = s.seed := by unfold tracePoint; split <;> rfl
@[simp] theorem tracePoint_now (pt p : Nat) (data : Bytes) (s : State) : (tracePoint pt p data s).now = s.now := by unfold tracePoint; split <;> rfl
@[simp] theorem tracePoint_sys (pt p : Nat) (data : Bytes) (s : State) : (tracePoint pt p data s).sys = s.sys := by unfold tracePoint; split <;> rfl
@[simp] theorem tracePoint_clk (pt p : Nat) (data : Bytes) (s : State) : (tracePoint pt p data s).clk = s.clk := by unfold tracePoint; split <;> rfl
@[simp] theorem tracePoint_pwr (pt p : Nat) (data : Bytes) (s : State) : (tracePoint pt p data s).pwr = s.pwr := by unfold tracePoint; split <;> rfl
@[simp] theorem tracePoint_hlt (pt p : Nat) (data : Bytes) (s : State) : (tracePoint pt p data s).hlt = s.hlt := by unfold tracePoint; split <;> rfl
@[simp] theorem tracePoint_mgt (pt p : Nat) (data : Bytes) (s : State) : (tracePoint pt p data s).mgt = s.mgt := by unfold tracePoint; split <;> rfl
@[simp] theorem tracePoint_regs (pt p : Nat) (data : Bytes) (s : State) : (tracePoint pt p data s).regs = s.regs := by unfold tracePoint; split <;> rfl
@[simp] theorem tracePoint_flt (pt p : Nat) (data : Bytes) (s : State) : (tracePoint pt p data s).flt = s.flt := by unfold tracePoint; split <;> rfl
@[simp] theorem tracePoint_dbg (pt p : Nat) (data : Bytes) (s : State) : (tracePoint pt p data s).dbg = s.dbg := by unfold tracePoint; split <;> rfl
@[simp] theorem tracePoint_parts (pt p : Nat) (data : Bytes) (s : State) : (tracePoint pt p data s).parts = s.parts := by unfold tracePoint; split <;> rfl
@[simp] theorem tracePoint_dossiers (pt p : Nat) (data : Bytes) (s : State) : (tracePoint pt p data s).dossiers = s.dossiers := by unfold tracePoint; split <;> rfl
@[simp] theorem tracePoint_pool (pt p : Nat) (data : Bytes) (s : State) : (tracePoint pt p data s).pool = s.pool := by unfold tracePoint; split <;> rfl
@[simp] theorem tracePoint_xlt (pt p : Nat) (data : Bytes) (s : State) : (tracePoint pt p data s).xlt = s.xlt := by unfold tracePoint; split <;> rfl
@[simp] theorem tracePoint_qs (pt p : Nat) (data : Bytes) (s : State) : (tracePoint pt p data s).qs = s.qs := by unfold tracePoint; split <;> rfl
@[simp] theorem tracePoint_ctrs (pt p : Nat) (data : Bytes) (s : State) : (tracePoint pt p data s).ctrs = s.ctrs := by unfold tracePoint; split <;> rfl
@[simp] theorem tracePoint_fab (pt p : Nat) (data : Bytes) (s : State) : (tracePoint pt p data s).fab = s.fab := by unfold tracePoint; split <;> rfl
@[simp] theorem tracePoint_cxl (pt p : Nat) (data : Bytes) (s : State) : (tracePoint pt p data s).cxl = s.cxl := by unfold tracePoint; split <;> rfl
@[simp] theorem tracePoint_rep (pt p : Nat) (data : Bytes) (s : State) : (tracePoint pt p data s).rep = s.rep := by unfold tracePoint; split <;> rfl
@[simp] theorem tracePoint_opt (pt p : Nat) (data : Bytes) (s : State) : (tracePoint pt p data s).opt = s.opt := by unfold tracePoint; split <;> rfl
@[simp] theorem tracePoint_col (pt p : Nat) (data : Bytes) (s : State) : (tracePoint pt p data s).col = s.col := by unfold tracePoint; split <;> rfl

@[simp] theorem event_pending (a kind : Nat) (args : List Nat) (s : State) : (event a kind args s).pending = s.pending := by unfold event; split; rfl; dsimp only; split <;> rfl
@[simp] theorem event_seed (a kind : Nat) (args : List Nat) (s : State) : (event a kind args s).seed = s.seed := by unfold event; split; rfl; dsimp only; split <;> rfl
@[simp] theorem event_now (a kind : Nat) (args : List Nat) (s : State) : (event a kind args s).now = s.now := by unfold event; split; rfl; dsimp only; split <;> rfl
@[simp] theorem event_sys (a kind : Nat) (args : List Nat) (s : State) : (event a kind args s).sys = s.sys := by unfold event; split; rfl; dsimp only; split <;> rfl
@[simp] theorem event_clk (a kind : Nat) (args : List Nat) (s : State) : (event a kind args s).clk = s.clk := by unfold event; split; rfl; dsimp only; split <;> rfl
@[simp] theorem event_pwr (a kind : Nat) (args : List Nat) (s : State) : (event a kind args s).pwr = s.pwr := by unfold event; split; rfl; dsimp only; split <;> rfl
@[simp] theorem event_hlt (a kind : Nat) (args : List Nat) (s : State) : (event a kind args s).hlt = s.hlt := by unfold event; split; rfl; dsimp only; split <;> rfl
@[simp] theorem event_mgt (a kind : Nat) (args : List Nat) (s : State) : (event a kind args s).mgt = s.mgt := by unfold event; split; rfl; dsimp only; split <;> rfl
@[simp] theorem event_fw (a kind : Nat) (args : List Nat) (s : State) : (event a kind args s).fw = s.fw := by unfold event; split; rfl; dsimp only; split <;> rfl
@[simp] theorem event_regs (a kind : Nat) (args : List Nat) (s : State) : (event a kind args s).regs = s.regs := by unfold event; split; rfl; dsimp only; split <;> rfl
@[simp] theorem event_flt (a kind : Nat) (args : List Nat) (s : State) : (event a kind args s).flt = s.flt := by unfold event; split; rfl; dsimp only; split <;> rfl
@[simp] theorem event_dbg (a kind : Nat) (args : List Nat) (s : State) : (event a kind args s).dbg = s.dbg := by unfold event; split; rfl; dsimp only; split <;> rfl
@[simp] theorem event_parts (a kind : Nat) (args : List Nat) (s : State) : (event a kind args s).parts = s.parts := by unfold event; split; rfl; dsimp only; split <;> rfl
@[simp] theorem event_dossiers (a kind : Nat) (args : List Nat) (s : State) : (event a kind args s).dossiers = s.dossiers := by unfold event; split; rfl; dsimp only; split <;> rfl
@[simp] theorem event_pool (a kind : Nat) (args : List Nat) (s : State) : (event a kind args s).pool = s.pool := by unfold event; split; rfl; dsimp only; split <;> rfl
@[simp] theorem event_xlt (a kind : Nat) (args : List Nat) (s : State) : (event a kind args s).xlt = s.xlt := by unfold event; split; rfl; dsimp only; split <;> rfl
@[simp] theorem event_qs (a kind : Nat) (args : List Nat) (s : State) : (event a kind args s).qs = s.qs := by unfold event; split; rfl; dsimp only; split <;> rfl
@[simp] theorem event_ctrs (a kind : Nat) (args : List Nat) (s : State) : (event a kind args s).ctrs = s.ctrs := by unfold event; split; rfl; dsimp only; split <;> rfl
@[simp] theorem event_fab (a kind : Nat) (args : List Nat) (s : State) : (event a kind args s).fab = s.fab := by unfold event; split; rfl; dsimp only; split <;> rfl
@[simp] theorem event_rep (a kind : Nat) (args : List Nat) (s : State) : (event a kind args s).rep = s.rep := by unfold event; split; rfl; dsimp only; split <;> rfl
@[simp] theorem event_opt (a kind : Nat) (args : List Nat) (s : State) : (event a kind args s).opt = s.opt := by unfold event; split; rfl; dsimp only; split <;> rfl
@[simp] theorem event_col (a kind : Nat) (args : List Nat) (s : State) : (event a kind args s).col = s.col := by unfold event; split; rfl; dsimp only; split <;> rfl

@[simp] theorem health_pending (i kind n : Nat) (s : State) : (health i kind n s).pending = s.pending := rfl
@[simp] theorem health_out (i kind n : Nat) (s : State) : (health i kind n s).out = s.out := rfl
@[simp] theorem health_seed (i kind n : Nat) (s : State) : (health i kind n s).seed = s.seed := rfl
@[simp] theorem health_now (i kind n : Nat) (s : State) : (health i kind n s).now = s.now := rfl
@[simp] theorem health_sys (i kind n : Nat) (s : State) : (health i kind n s).sys = s.sys := rfl
@[simp] theorem health_clk (i kind n : Nat) (s : State) : (health i kind n s).clk = s.clk := rfl
@[simp] theorem health_pwr (i kind n : Nat) (s : State) : (health i kind n s).pwr = s.pwr := rfl
@[simp] theorem health_mgt (i kind n : Nat) (s : State) : (health i kind n s).mgt = s.mgt := rfl
@[simp] theorem health_fw (i kind n : Nat) (s : State) : (health i kind n s).fw = s.fw := rfl
@[simp] theorem health_regs (i kind n : Nat) (s : State) : (health i kind n s).regs = s.regs := rfl
@[simp] theorem health_flt (i kind n : Nat) (s : State) : (health i kind n s).flt = s.flt := rfl
@[simp] theorem health_dbg (i kind n : Nat) (s : State) : (health i kind n s).dbg = s.dbg := rfl
@[simp] theorem health_parts (i kind n : Nat) (s : State) : (health i kind n s).parts = s.parts := rfl
@[simp] theorem health_dossiers (i kind n : Nat) (s : State) : (health i kind n s).dossiers = s.dossiers := rfl
@[simp] theorem health_pool (i kind n : Nat) (s : State) : (health i kind n s).pool = s.pool := rfl
@[simp] theorem health_xlt (i kind n : Nat) (s : State) : (health i kind n s).xlt = s.xlt := rfl
@[simp] theorem health_qs (i kind n : Nat) (s : State) : (health i kind n s).qs = s.qs := rfl
@[simp] theorem health_ctrs (i kind n : Nat) (s : State) : (health i kind n s).ctrs = s.ctrs := rfl
@[simp] theorem health_fab (i kind n : Nat) (s : State) : (health i kind n s).fab = s.fab := rfl
@[simp] theorem health_cxl (i kind n : Nat) (s : State) : (health i kind n s).cxl = s.cxl := rfl
@[simp] theorem health_rep (i kind n : Nat) (s : State) : (health i kind n s).rep = s.rep := rfl
@[simp] theorem health_opt (i kind n : Nat) (s : State) : (health i kind n s).opt = s.opt := rfl
@[simp] theorem health_col (i kind n : Nat) (s : State) : (health i kind n s).col = s.col := rfl

/-! ### Responses -/

@[simp] theorem respond_pending (src : Src) (txn tag minor : Nat) (st : Status) (b : Bytes) (s : State) : (respond src txn tag minor st b s).pending = s.pending := by unfold respond; cases src <;> rfl
@[simp] theorem respond_seed (src : Src) (txn tag minor : Nat) (st : Status) (b : Bytes) (s : State) : (respond src txn tag minor st b s).seed = s.seed := by unfold respond; cases src <;> rfl
@[simp] theorem respond_now (src : Src) (txn tag minor : Nat) (st : Status) (b : Bytes) (s : State) : (respond src txn tag minor st b s).now = s.now := by unfold respond; cases src <;> rfl
@[simp] theorem respond_sys (src : Src) (txn tag minor : Nat) (st : Status) (b : Bytes) (s : State) : (respond src txn tag minor st b s).sys = s.sys := by unfold respond; cases src <;> rfl
@[simp] theorem respond_clk (src : Src) (txn tag minor : Nat) (st : Status) (b : Bytes) (s : State) : (respond src txn tag minor st b s).clk = s.clk := by unfold respond; cases src <;> rfl
@[simp] theorem respond_pwr (src : Src) (txn tag minor : Nat) (st : Status) (b : Bytes) (s : State) : (respond src txn tag minor st b s).pwr = s.pwr := by unfold respond; cases src <;> rfl
@[simp] theorem respond_hlt (src : Src) (txn tag minor : Nat) (st : Status) (b : Bytes) (s : State) : (respond src txn tag minor st b s).hlt = s.hlt := by unfold respond; cases src <;> rfl
@[simp] theorem respond_fw (src : Src) (txn tag minor : Nat) (st : Status) (b : Bytes) (s : State) : (respond src txn tag minor st b s).fw = s.fw := by unfold respond; cases src <;> rfl
@[simp] theorem respond_regs (src : Src) (txn tag minor : Nat) (st : Status) (b : Bytes) (s : State) : (respond src txn tag minor st b s).regs = s.regs := by unfold respond; cases src <;> rfl
@[simp] theorem respond_flt (src : Src) (txn tag minor : Nat) (st : Status) (b : Bytes) (s : State) : (respond src txn tag minor st b s).flt = s.flt := by unfold respond; cases src <;> rfl
@[simp] theorem respond_dbg (src : Src) (txn tag minor : Nat) (st : Status) (b : Bytes) (s : State) : (respond src txn tag minor st b s).dbg = s.dbg := by unfold respond; cases src <;> rfl
@[simp] theorem respond_parts (src : Src) (txn tag minor : Nat) (st : Status) (b : Bytes) (s : State) : (respond src txn tag minor st b s).parts = s.parts := by unfold respond; cases src <;> rfl
@[simp] theorem respond_dossiers (src : Src) (txn tag minor : Nat) (st : Status) (b : Bytes) (s : State) : (respond src txn tag minor st b s).dossiers = s.dossiers := by unfold respond; cases src <;> rfl
@[simp] theorem respond_pool (src : Src) (txn tag minor : Nat) (st : Status) (b : Bytes) (s : State) : (respond src txn tag minor st b s).pool = s.pool := by unfold respond; cases src <;> rfl
@[simp] theorem respond_xlt (src : Src) (txn tag minor : Nat) (st : Status) (b : Bytes) (s : State) : (respond src txn tag minor st b s).xlt = s.xlt := by unfold respond; cases src <;> rfl
@[simp] theorem respond_qs (src : Src) (txn tag minor : Nat) (st : Status) (b : Bytes) (s : State) : (respond src txn tag minor st b s).qs = s.qs := by unfold respond; cases src <;> rfl
@[simp] theorem respond_ctrs (src : Src) (txn tag minor : Nat) (st : Status) (b : Bytes) (s : State) : (respond src txn tag minor st b s).ctrs = s.ctrs := by unfold respond; cases src <;> rfl
@[simp] theorem respond_fab (src : Src) (txn tag minor : Nat) (st : Status) (b : Bytes) (s : State) : (respond src txn tag minor st b s).fab = s.fab := by unfold respond; cases src <;> rfl
@[simp] theorem respond_cxl (src : Src) (txn tag minor : Nat) (st : Status) (b : Bytes) (s : State) : (respond src txn tag minor st b s).cxl = s.cxl := by unfold respond; cases src <;> rfl
@[simp] theorem respond_rep (src : Src) (txn tag minor : Nat) (st : Status) (b : Bytes) (s : State) : (respond src txn tag minor st b s).rep = s.rep := by unfold respond; cases src <;> rfl
@[simp] theorem respond_opt (src : Src) (txn tag minor : Nat) (st : Status) (b : Bytes) (s : State) : (respond src txn tag minor st b s).opt = s.opt := by unfold respond; cases src <;> rfl
@[simp] theorem respond_col (src : Src) (txn tag minor : Nat) (st : Status) (b : Bytes) (s : State) : (respond src txn tag minor st b s).col = s.col := by unfold respond; cases src <;> rfl

@[simp] theorem answer_pending (r : Req) (st : Status) (b : Bytes) (s : State) : (answer r st b s).pending = s.pending := respond_pending ..
@[simp] theorem answer_seed (r : Req) (st : Status) (b : Bytes) (s : State) : (answer r st b s).seed = s.seed := respond_seed ..
@[simp] theorem answer_now (r : Req) (st : Status) (b : Bytes) (s : State) : (answer r st b s).now = s.now := respond_now ..
@[simp] theorem answer_sys (r : Req) (st : Status) (b : Bytes) (s : State) : (answer r st b s).sys = s.sys := respond_sys ..
@[simp] theorem answer_clk (r : Req) (st : Status) (b : Bytes) (s : State) : (answer r st b s).clk = s.clk := respond_clk ..
@[simp] theorem answer_pwr (r : Req) (st : Status) (b : Bytes) (s : State) : (answer r st b s).pwr = s.pwr := respond_pwr ..
@[simp] theorem answer_hlt (r : Req) (st : Status) (b : Bytes) (s : State) : (answer r st b s).hlt = s.hlt := respond_hlt ..
@[simp] theorem answer_fw (r : Req) (st : Status) (b : Bytes) (s : State) : (answer r st b s).fw = s.fw := respond_fw ..
@[simp] theorem answer_regs (r : Req) (st : Status) (b : Bytes) (s : State) : (answer r st b s).regs = s.regs := respond_regs ..
@[simp] theorem answer_flt (r : Req) (st : Status) (b : Bytes) (s : State) : (answer r st b s).flt = s.flt := respond_flt ..
@[simp] theorem answer_dbg (r : Req) (st : Status) (b : Bytes) (s : State) : (answer r st b s).dbg = s.dbg := respond_dbg ..
@[simp] theorem answer_parts (r : Req) (st : Status) (b : Bytes) (s : State) : (answer r st b s).parts = s.parts := respond_parts ..
@[simp] theorem answer_dossiers (r : Req) (st : Status) (b : Bytes) (s : State) : (answer r st b s).dossiers = s.dossiers := respond_dossiers ..
@[simp] theorem answer_pool (r : Req) (st : Status) (b : Bytes) (s : State) : (answer r st b s).pool = s.pool := respond_pool ..
@[simp] theorem answer_xlt (r : Req) (st : Status) (b : Bytes) (s : State) : (answer r st b s).xlt = s.xlt := respond_xlt ..
@[simp] theorem answer_qs (r : Req) (st : Status) (b : Bytes) (s : State) : (answer r st b s).qs = s.qs := respond_qs ..
@[simp] theorem answer_ctrs (r : Req) (st : Status) (b : Bytes) (s : State) : (answer r st b s).ctrs = s.ctrs := respond_ctrs ..
@[simp] theorem answer_fab (r : Req) (st : Status) (b : Bytes) (s : State) : (answer r st b s).fab = s.fab := respond_fab ..
@[simp] theorem answer_cxl (r : Req) (st : Status) (b : Bytes) (s : State) : (answer r st b s).cxl = s.cxl := respond_cxl ..
@[simp] theorem answer_rep (r : Req) (st : Status) (b : Bytes) (s : State) : (answer r st b s).rep = s.rep := respond_rep ..
@[simp] theorem answer_opt (r : Req) (st : Status) (b : Bytes) (s : State) : (answer r st b s).opt = s.opt := respond_opt ..
@[simp] theorem answer_col (r : Req) (st : Status) (b : Bytes) (s : State) : (answer r st b s).col = s.col := respond_col ..

@[simp] theorem heard_pending (src : Src) (s : State) : (heard src s).pending = s.pending := by unfold heard; cases src with | cxl p => rfl | mgt l => (dsimp only; split <;> rfl)
@[simp] theorem heard_out (src : Src) (s : State) : (heard src s).out = s.out := by unfold heard; cases src with | cxl p => rfl | mgt l => (dsimp only; split <;> rfl)
@[simp] theorem heard_seed (src : Src) (s : State) : (heard src s).seed = s.seed := by unfold heard; cases src with | cxl p => rfl | mgt l => (dsimp only; split <;> rfl)
@[simp] theorem heard_now (src : Src) (s : State) : (heard src s).now = s.now := by unfold heard; cases src with | cxl p => rfl | mgt l => (dsimp only; split <;> rfl)
@[simp] theorem heard_sys (src : Src) (s : State) : (heard src s).sys = s.sys := by unfold heard; cases src with | cxl p => rfl | mgt l => (dsimp only; split <;> rfl)
@[simp] theorem heard_clk (src : Src) (s : State) : (heard src s).clk = s.clk := by unfold heard; cases src with | cxl p => rfl | mgt l => (dsimp only; split <;> rfl)
@[simp] theorem heard_pwr (src : Src) (s : State) : (heard src s).pwr = s.pwr := by unfold heard; cases src with | cxl p => rfl | mgt l => (dsimp only; split <;> rfl)
@[simp] theorem heard_hlt (src : Src) (s : State) : (heard src s).hlt = s.hlt := by unfold heard; cases src with | cxl p => rfl | mgt l => (dsimp only; split <;> rfl)
@[simp] theorem heard_fw (src : Src) (s : State) : (heard src s).fw = s.fw := by unfold heard; cases src with | cxl p => rfl | mgt l => (dsimp only; split <;> rfl)
@[simp] theorem heard_regs (src : Src) (s : State) : (heard src s).regs = s.regs := by unfold heard; cases src with | cxl p => rfl | mgt l => (dsimp only; split <;> rfl)
@[simp] theorem heard_flt (src : Src) (s : State) : (heard src s).flt = s.flt := by unfold heard; cases src with | cxl p => rfl | mgt l => (dsimp only; split <;> rfl)
@[simp] theorem heard_dbg (src : Src) (s : State) : (heard src s).dbg = s.dbg := by unfold heard; cases src with | cxl p => rfl | mgt l => (dsimp only; split <;> rfl)
@[simp] theorem heard_parts (src : Src) (s : State) : (heard src s).parts = s.parts := by unfold heard; cases src with | cxl p => rfl | mgt l => (dsimp only; split <;> rfl)
@[simp] theorem heard_dossiers (src : Src) (s : State) : (heard src s).dossiers = s.dossiers := by unfold heard; cases src with | cxl p => rfl | mgt l => (dsimp only; split <;> rfl)
@[simp] theorem heard_pool (src : Src) (s : State) : (heard src s).pool = s.pool := by unfold heard; cases src with | cxl p => rfl | mgt l => (dsimp only; split <;> rfl)
@[simp] theorem heard_xlt (src : Src) (s : State) : (heard src s).xlt = s.xlt := by unfold heard; cases src with | cxl p => rfl | mgt l => (dsimp only; split <;> rfl)
@[simp] theorem heard_qs (src : Src) (s : State) : (heard src s).qs = s.qs := by unfold heard; cases src with | cxl p => rfl | mgt l => (dsimp only; split <;> rfl)
@[simp] theorem heard_ctrs (src : Src) (s : State) : (heard src s).ctrs = s.ctrs := by unfold heard; cases src with | cxl p => rfl | mgt l => (dsimp only; split <;> rfl)
@[simp] theorem heard_fab (src : Src) (s : State) : (heard src s).fab = s.fab := by unfold heard; cases src with | cxl p => rfl | mgt l => (dsimp only; split <;> rfl)
@[simp] theorem heard_cxl (src : Src) (s : State) : (heard src s).cxl = s.cxl := by unfold heard; cases src with | cxl p => rfl | mgt l => (dsimp only; split <;> rfl)
@[simp] theorem heard_rep (src : Src) (s : State) : (heard src s).rep = s.rep := by unfold heard; cases src with | cxl p => rfl | mgt l => (dsimp only; split <;> rfl)
@[simp] theorem heard_opt (src : Src) (s : State) : (heard src s).opt = s.opt := by unfold heard; cases src with | cxl p => rfl | mgt l => (dsimp only; split <;> rfl)
@[simp] theorem heard_col (src : Src) (s : State) : (heard src s).col = s.col := by unfold heard; cases src with | cxl p => rfl | mgt l => (dsimp only; split <;> rfl)

/-! ### What the operations set -/

@[simp] theorem emit_out (o : Out) (s : State) : (emit o s).out = o :: s.out := rfl
@[simp] theorem setPart_parts (s : State) (n : Nat) (p : Part) : (setPart s n p).parts = s.parts.put Part.init n p := rfl
@[simp] theorem setQue_ctx (s : State) (q : Nat) (x : Que) : (setQue s q x).qs.ctx = s.qs.ctx.put Que.init q x := rfl
@[simp] theorem setOpt_opt (s : State) (p : Nat) (x : OptPort) : (setOpt s p x).opt = s.opt.put OptPort.init p x := rfl
@[simp] theorem setCxl_ports (s : State) (p : Nat) (x : CxlPort) : (setCxl s p x).cxl.ports = s.cxl.ports.put CxlPort.init p x := rfl
@[simp] theorem setAcc_accs (s : State) (a : Nat) (x : AccSt) : (setAcc s a x).regs.accs = s.regs.accs.put AccSt.init a x := rfl
@[simp] theorem owe_owed (r : Req) (why key : Nat) (s : State) :
    (owe r why key s).mgt.owed = s.mgt.owed ++ [⟨r.src, r.txn, r.tag, r.minor, why, key⟩] := rfl
@[simp] theorem heard_holder (src : Src) (s : State) : (heard src s).mgt.holder = s.mgt.holder := by
  unfold heard; cases src with
  | cxl p => rfl
  | mgt l => (dsimp only; split <;> rfl)
@[simp] theorem heard_last (src : Src) (s : State) : (heard src s).mgt.last = s.mgt.last := by
  unfold heard; cases src with
  | cxl p => rfl
  | mgt l => (dsimp only; split <;> rfl)
@[simp] theorem heard_owed (src : Src) (s : State) : (heard src s).mgt.owed = s.mgt.owed := by
  unfold heard; cases src with
  | cxl p => rfl
  | mgt l => (dsimp only; split <;> rfl)

end Sys2Proof.Machine
end

