-- ==== Sys2Proof/Laws/Ops.lean ====
section
/-! SUPPORT. How a command runs: the forms that every command shares, under the conditions of Safety.lean. -/

namespace Sys2Proof.Machine

/-! ### Wrappers -/

theorem run_live {f : State → State} {s : State} (h : live s = true) : run f s = .next (f s) := by
  simp only [live, Bool.and_eq_true, Bool.not_eq_true'] at h
  simp [run, h.1, h.2]

theorem runWrite_running {f : State → State} {s : State} (h : running s = true) : runWrite f s = .next (f s) := by
  simp [runWrite, h]

theorem runAon_live {f : State → State} {s : State} (h : aonLive s = true) : runAon f s = .next (f s) := by
  simp only [aonLive, Bool.and_eq_true, Bool.not_eq_true'] at h
  simp [runAon, h.1, h.2]

theorem runPower_next {f : State → State} {s : State} : runPower f s = .next (f s) := rfl

theorem live_of_served {s : State} (h : served s = true) : live s = true := by
  simp only [served, Bool.and_eq_true] at h; exact h.1

theorem running_of_live {s : State} (h : live s = true) : running s = true := by
  simp only [live, Bool.and_eq_true] at h; exact h.1

theorem aonLive_of_live {s : State} (h : live s = true) : aonLive s = true := by
  simp only [live, running, aonLive, Bool.and_eq_true] at *; exact ⟨h.1.1.1.1, h.2⟩

/-- Whether the module runs rests on three parts of the state. -/
theorem live_congr {s t : State} (h1 : t.sys = s.sys) (h2 : t.clk = s.clk) (h3 : t.regs = s.regs) : live t = live s := by
  simp only [live, running, unbound, h1, h2, h3]

/-! ### The holder of the lease is heard -/

theorem heard_form (src : Src) (s : State) : ∃ g, heard src s = { s with mgt := g } := by
  unfold heard
  cases src with
  | cxl p => exact ⟨s.mgt, rfl⟩
  | mgt l =>
    dsimp only
    split
    · exact ⟨_, rfl⟩
    · exact ⟨s.mgt, rfl⟩

theorem heard_srcUp (src src' : Src) (s : State) : srcUp (heard src s) src' = srcUp s src' := by
  obtain ⟨g, h⟩ := heard_form src s
  rw [h]; cases src' <;> rfl

theorem heard_srcAttach (src src' : Src) (s : State) : srcAttach (heard src s) src' = srcAttach s src' := by
  obtain ⟨g, h⟩ := heard_form src s
  rw [h]; cases src' <;> rfl

theorem heard_busyPort (src src' : Src) (s : State) : busyPort (heard src s) src' = busyPort s src' := by simp [busyPort]

theorem heard_stored (src : Src) (r : Req) (s : State) : stored (heard src s) r = stored s r := by
  unfold stored; cases r.src <;> simp

theorem heard_versionOk (src : Src) (r : Req) (s : State) : versionOk (heard src s) r = versionOk s r := by simp [versionOk]

theorem heard_fwRuns (src : Src) (s : State) : fwRuns (heard src s) = fwRuns s := by simp [fwRuns]

theorem heard_leaseBad (src : Src) (r : Req) (m : Msg) (s : State) : leaseBad (heard src s) r m = leaseBad s r m := by
  unfold leaseBad; cases r.src <;> simp

theorem heard_part (src : Src) (s : State) (p : Nat) : part (heard src s) p = part s p := by simp [part]

theorem heard_classBad (src : Src) (r : Req) (m : Msg) (p : Option Nat) (s : State) :
    classBad (heard src s) r m p = classBad s r m p := by
  unfold classBad
  rw [heard_srcAttach]
  simp [boundTo, heard_part]

theorem heard_queOwner (src : Src) (s : State) (q : Nat) : queOwner (heard src s) q = queOwner s q := by
  simp [queOwner, partOfQueue]

/-! ### Messages -/

theorem not_owed {s : State} {src : Src} (h : busyPort s src = false) (f : Owed → Bool) (hf : ∀ o, f o = true → o.src = src) :
    ¬(s.mgt.owed.any f = true) := by
  simp only [busyPort, List.any_eq_false, beq_iff_eq] at h
  intro hh
  obtain ⟨o, ho, hfo⟩ := List.any_eq_true.1 hh
  exact h o ho (hf o hfo)

/-- An admitted message meets its row's own checks, and then has its effect. -/
theorem message_admitted {r : Req} {m : Msg} {p : Option Nat} {c : Instr} {checks : State → List (Bool × Status)}
    {eff : State → Answer} {s : State} (h : admits s r m p = true) :
    message r m p c checks eff s =
      (match firstFail (checks (heard r.src s)) with
       | some st => answer r st [] (if st = .lost then disagree m.opcode (heard r.src s) else heard r.src s)
       | none =>
         match eff (heard r.src s) with
         | (s', some b) => answer r .ok b s'
         | (s', none) => s') := by
  simp only [admits, Bool.and_eq_true, Bool.not_eq_true', Option.isNone_iff_eq_none, Bool.or_eq_true, beq_iff_eq] at h
  obtain ⟨⟨⟨⟨⟨⟨⟨⟨hu, hst⟩, hb⟩, hh⟩, hv⟩, hl⟩, hr⟩, hle⟩, hc⟩ := h
  have hb' : busyPort (heard r.src s) r.src = false := by rw [heard_busyPort]; exact hb
  have h7 : ((heard r.src s).fw.hinge.isSome && m.opcode != 7) = false := by
    rw [heard_fw]
    rcases hh with hh | hh
    · simp [hh]
    · simp [hh]
  have hv' : ¬(m.opcode ≠ 1 ∧ (!versionOk (heard r.src s) r) = true) := by
    rw [heard_versionOk]
    rcases hv with hv | hv
    · simp [hv]
    · simp [hv]
  have hr' : (!m.rom && !fwRuns (heard r.src s)) = false := by
    rw [heard_fwRuns]
    rcases hr with hr | hr <;> simp [hr]
  unfold message
  rw [if_neg (by simp [hu])]
  simp only [heard_stored, hst]
  rw [if_neg (not_owed hb' _ (fun o h => by simp only [Bool.and_eq_true, beq_iff_eq] at h; exact h.1.1)), if_neg (by simp [hb']),
    if_neg (by rw [h7]; decide)]
  unfold serve
  rw [if_neg hv', if_neg (by simp [hl]), if_neg (by simp [hr']), if_neg (by simp [heard_leaseBad, hle]),
    if_neg (by simp [heard_classBad, hc])]
  all_goals rfl

/-- An admitted message that none of its row's checks refuses. -/
theorem message_served {r : Req} {m : Msg} {p : Option Nat} {c : Instr} {checks : State → List (Bool × Status)}
    {eff : State → Answer} {s : State} (h : admits s r m p = true) (hc : firstFail (checks (heard r.src s)) = none) :
    message r m p c checks eff s =
      (match eff (heard r.src s) with
       | (s', some b) => answer r .ok b s'
       | (s', none) => s') := by
  rw [message_admitted h, hc]

/-! ### The data path at rest -/

theorem foldl_still {α : Type} (f : State → α → State) (l : List α) (s : State) (h : ∀ x ∈ l, f s x = s) : l.foldl f s = s := by
  induction l with
  | nil => rfl
  | cons x l ih =>
    rw [List.foldl_cons, h x (by simp)]
    exact ih (fun y hy => h y (List.mem_cons_of_mem _ hy))

theorem quiet_parts {s : State} (h : quiet s = true) :
    s.pool.waits = [] ∧ s.fab.redirWait = [] ∧ s.fab.waitFlow = [] ∧ switchQuiet s = true
      ∧ (∀ e ∈ s.fab.sflow, e.2.queue = [] ∧ (e.2.frozen = true → e.2.recs = []))
      ∧ (∀ e ∈ s.fab.dflow, e.2.open_ = true ∨ e.2.held.find e.2.next = none)
      ∧ s.qs.engines = [] ∧ s.qs.fetchers = [] ∧ s.col.mems = [] ∧ s.col.wait = [] ∧ (∀ e ∈ s.pool.ext, e.2.atRest = true)
      ∧ (∀ e ∈ s.cxl.ports, e.2.held = []) ∧ s.clk.gated = 0 ∧ s.clk.closed = [] := by
  simp only [quiet, Bool.and_eq_true, List.isEmpty_iff, List.all_eq_true, Bool.or_eq_true, Bool.not_eq_true', beq_iff_eq,
    Option.isNone_iff_eq_none] at h
  obtain ⟨⟨⟨⟨⟨⟨⟨⟨⟨⟨⟨⟨⟨h1, h2⟩, h3⟩, hs⟩, h4⟩, h5⟩, h6⟩, h7⟩, h8⟩, hw⟩, he⟩, h9⟩, h10⟩, h11⟩ := h
  refine ⟨h1, h2, h3, hs, fun e he => ⟨(h4 e he).1, fun hf => ?_⟩, h5, h6, h7, h8, hw, he, h9, h10, h11⟩
  rcases (h4 e he).2 with h | h
  · rw [h] at hf; exact absurd hf (by decide)
  · exact h

theorem someReady_nil (s : State) (l : List (Why × Access)) : someReady s l [] = false := by simp [someReady]

theorem quiet_stirs {s : State} (h : quiet s = true) : stirs s = false := by
  obtain ⟨h1, h2, -, -, -, h5, -⟩ := quiet_parts h
  have hr : heldReady s = none := by
    simp only [heldReady, List.find?_eq_none]
    intro e he
    rcases h5 e he with h | h <;> simp [h]
  simp [stirs, h1, h2, hr, someReady_nil]

theorem react_still {s : State} (h : stirs s = false) (n : Nat) : react n s = s := by
  cases n with
  | zero => rfl
  | succ n => simp [react, h]

/-- A port that the table lists, or an OFF one: what holds of all that are listed and of an OFF one holds of it. -/
theorem optPort_all {s : State} {P : OptPort → Prop} (h0 : P OptPort.init) (h : ∀ e ∈ s.opt, P e.2) (p : Nat) : P (optPort s p) := by
  have : ∀ t : Tab OptPort, (∀ e ∈ t, P e.2) → P (t.get OptPort.init p) := by
    intro t; induction t with
    | nil => intro _; exact h0
    | cons x t ih =>
      obtain ⟨k, v⟩ := x
      intro ht
      simp only [Tab.get]
      split
      · exact ht (k, v) (by simp)
      · simpa [Tab.get] using ih (fun e he => ht e (List.mem_cons_of_mem _ he))
  exact this s.opt h

/-- With nothing in its queues, at its blocks, on its links or on the way to the analysis port, the switch has nothing to do. -/
theorem switch_quiet {s : State} (h : switchQuiet s = true) : switch s = s := by
  simp only [switchQuiet, Bool.and_eq_true, List.isEmpty_iff, List.all_eq_true] at h
  obtain ⟨⟨⟨hv, -⟩, hq⟩, ho⟩ := h
  have hp : ∀ p, (optPort s p).atRest = true := optPort_all (P := fun o => o.atRest = true) (by decide) ho
  have hreq : requests [] s = [] := by
    simp only [requests, List.flatMap_eq_nil_iff]
    intro e he
    rw [hv e he]
  have hm : matchSlot [] s = ([], s) := by simp [matchSlot, iteration, hreq, grantsOf]
  have hslots : slots (queuedCells s + 1) [] s = s := by simp [slots, hm]
  have hg : s.opt.foldl (fun s e => grantShared e.1 s) s = s := by
    refine foldl_still _ _ _ (fun e _ => ?_)
    have := hp e.1
    simp only [OptPort.atRest, Bool.and_eq_true, Bool.not_eq_true', Bool.or_eq_true, decide_eq_true_eq] at this
    simp only [grantShared]
    rw [if_neg]
    rintro ⟨h1, h2, -⟩
    rcases this.2 with h | h
    · rw [h] at h1; exact absurd h1 (by decide)
    · omega
  have ht : s.opt.foldl (fun s e => if (optPort s e.1).busy then txPort e.1 s else s) s = s := by
    refine foldl_still _ _ _ (fun e _ => ?_)
    have := hp e.1
    simp only [OptPort.atRest, Bool.and_eq_true, Bool.not_eq_true'] at this
    simp [this.1]
  simp [switch, hslots, linkWork, hg, ht, flushCopies, hq, copyRun]

/-- With nothing under way a command's effect brings nothing more about. -/
theorem kick_quiet {s : State} (h : quiet s = true) : kick s = s := by
  have hs := quiet_stirs h
  obtain ⟨-, -, h3, hsw, h4, -, h6, -, h8, hw, -⟩ := quiet_parts h
  have hred : redirectAll s = s := by
    unfold redirectAll
    refine foldl_still _ _ _ (fun e he => ?_)
    have := h4 e he
    split
    · next hc =>
      simp only [Bool.and_eq_true, Bool.not_eq_true', List.isEmpty_eq_false_iff] at hc
      exact absurd (by simp [this.1, this.2 hc.1]) hc.2
    · rfl
  have hb : retryBlocks s = s := by
    have : s.fab.blocks = [] := by
      simp only [switchQuiet, Bool.and_eq_true, List.isEmpty_iff] at hsw; exact hsw.1.1.2
    have hb : { s with fab := { s.fab with blocks := [] } } = s := by rw [← this]
    unfold retryBlocks; rw [this, hb]; rfl
  have hwf : { s with fab := { s.fab with waitFlow := [] } } = s := by rw [← h3]
  have hflow : s.fab.sflow.foldl (fun s e => pushFlow e.1 e.2.queue.length s) s = s :=
    foldl_still _ _ _ (fun e he => by rw [(h4 e he).1]; rfl)
  have hpush : pushAll s = s := by
    unfold pushAll
    simp only [switch_quiet hsw, hb, hflow]
    rw [h3, hwf]
    rfl
  have hoff : offerAll s = s := by simp [offerAll, hw, offerRun]
  have hpump : pumpAll s = s := by simp [pumpAll, h6]
  have hcol : colKick s = s := by unfold colKick; rw [h8]; rfl
  unfold kick
  simp only [react_still hs, hred, hpush, hoff, hpump, hcol]

theorem settled_quiet {s : State} (h : quiet s = true) : settled s = s := by
  obtain ⟨-, -, -, -, -, -, -, h7, -, -, he, h9, h10, h11⟩ := quiet_parts h
  have ho : openGates s = s := by simp [openGates, h10, h11]
  have hh : someHeld s = false := by
    simp only [someHeld, List.any_eq_false]
    intro e he
    simp [h9 e he]
  have hc : callBack s = s := by
    unfold callBack
    rw [List.filter_eq_nil_iff.2]
    · rfl
    · intro e hm
      have := he e hm
      simp only [Ext.atRest, Bool.and_eq_true, Bool.not_eq_true'] at this
      simpa using this.2
  have hl : laterAll s = s := by
    unfold laterAll
    rw [List.filter_eq_nil_iff.2]
    · rfl
    · intro e hm
      have := he e hm
      simp only [Ext.atRest, Bool.and_eq_true] at this
      simp [this.1]
  unfold settled
  simp [ho, kick_quiet h, hh, hc, hl, h7]

/-! ### Ready commands -/

theorem live_of_canRun {s : State} {c : Instr} (h : canRun s c = true) : live s = true := by
  simp only [canRun, Bool.and_eq_true] at h; exact h.1

theorem admits_of_canRun {s : State} {c : Instr} {r : Req} {m : Msg} {p : Option Nat} (h : canRun s c = true)
    (hm : msgRow s c = some (r, m, p)) : admits s r m p = true := by
  simp only [canRun, Bool.and_eq_true, hm] at h; exact h.2

/-- A ready message that none of its row's checks refuses answers a next state: its response after its effect. -/
theorem canRun_served {r : Req} {m : Msg} {p : Option Nat} {c : Instr} {checks : State → List (Bool × Status)}
    {eff : State → Answer} {s : State} (h : canRun s c = true) (hm : msgRow s c = some (r, m, p))
    (hc : firstFail (checks (heard r.src s)) = none) :
    run (message r m p c checks eff) s =
      .next (match eff (heard r.src s) with
       | (s', some b) => answer r .ok b s'
       | (s', none) => s') := by
  rw [run_live (live_of_canRun h), message_served (admits_of_canRun h hm) hc]

theorem firstFail_nil : firstFail [] = none := rfl

theorem firstFail_cons (b : Bool) (st : Status) (l : List (Bool × Status)) :
    firstFail ((b, st) :: l) = if b then some st else firstFail l := rfl

end Sys2Proof.Machine
end

