-- ==== Sys2Proof/Laws/Switch.lean ====
section
/-! SUPPORT. What the sending side of a link, and copying, can change: the ports, what leaves the module, the copies that wait. -/

namespace Sys2Proof.Machine

/-- `t` is `s` but for its ports and what has left the module. -/
def SentFrom (s t : State) : Prop := t = { s with opt := t.opt, out := t.out }

theorem SentFrom.refl (s : State) : SentFrom s s := rfl

theorem SentFrom.trans {s t u : State} (h : SentFrom s t) (h' : SentFrom t u) : SentFrom s u := by
  unfold SentFrom at *
  rw [h] at h'
  exact h'

theorem sentFrom_setOpt (s : State) (p : Nat) (o : OptPort) : SentFrom s (setOpt s p o) := rfl

theorem sentFrom_putFlit (p : Nat) (h : FlitHdr) (m : Bytes) (s : State) : SentFrom s (putFlit p h m s) := rfl

theorem sentFrom_sendSeq (p : Nat) (f : TxFlit) (s : State) : SentFrom s (sendSeq p f s) := by
  unfold sendSeq
  exact SentFrom.trans (sentFrom_setOpt s p _) (sentFrom_putFlit _ _ _ _)

theorem sentFrom_txNext (p : Nat) (s t : State) (h : txNext p s = some t) : SentFrom s t := by
  unfold txNext at h
  dsimp only at h
  repeat' split at h
  · exact nomatch h
  · rw [← Option.some.inj h]; exact SentFrom.trans (sentFrom_setOpt s p _) (sentFrom_sendSeq _ _ _)
  · rw [← Option.some.inj h]; exact SentFrom.trans (sentFrom_setOpt s p _) (sentFrom_sendSeq _ _ _)
  · exact nomatch h
  · rw [← Option.some.inj h]; exact sentFrom_sendSeq _ _ _
  · exact nomatch h
  · rw [← Option.some.inj h]; exact sentFrom_sendSeq _ _ _

theorem sentFrom_txRun (p n : Nat) (s : State) : SentFrom s (txRun p n s) := by
  induction n generalizing s with
  | zero => exact SentFrom.refl s
  | succ n ih =>
    unfold txRun
    split
    · next t h => exact SentFrom.trans (sentFrom_txNext p s t h) (ih t)
    · exact SentFrom.refl s

theorem sentFrom_txPort (p : Nat) (s : State) : SentFrom s (txPort p s) := sentFrom_txRun p _ s

theorem sentFrom_sendLink (p opc : Nat) (a : List Nat) (s : State) : SentFrom s (sendLink p opc a s) := by
  unfold sendLink
  dsimp only
  split
  · exact SentFrom.trans (sentFrom_setOpt s p _) (sentFrom_txPort _ _)
  · exact SentFrom.refl s

theorem sentFrom_frameOut (p : Nat) (fs : List TxFlit) (s : State) : SentFrom s (frameOut p fs s) :=
  SentFrom.trans (sentFrom_setOpt s p _) (sentFrom_txPort _ _)

theorem sentFrom_pushRet (p vc cls : Nat) (b : Bool) (n : Nat) (s : State) : SentFrom s (pushRet p vc cls b n s) := by
  unfold pushRet
  dsimp only
  repeat' split
  all_goals rfl

/-- Cells that a packet gives back change nothing but its port. -/
theorem sentFrom_passCells (p vc cls n : Nat) (s : State) : SentFrom s (passCells p vc cls n s) := by
  unfold passCells takeFabric
  dsimp only
  split
  · exact sentFrom_setOpt s p _
  · exact sentFrom_pushRet p vc cls false n s

/-- `t` is `s` but for its ports, what has left the module, counts, and the copies that wait. -/
def CopiedFrom (s t : State) : Prop :=
  t = { s with opt := t.opt, out := t.out, regs := t.regs, fab := { s.fab with ana := t.fab.ana } }

theorem CopiedFrom.refl (s : State) : CopiedFrom s s := rfl

theorem CopiedFrom.trans {s t u : State} (h : CopiedFrom s t) (h' : CopiedFrom t u) : CopiedFrom s u := by
  unfold CopiedFrom at *
  rw [h] at h'
  exact h'

theorem SentFrom.copied {s t : State} (h : SentFrom s t) : CopiedFrom s t := by
  unfold SentFrom at h
  unfold CopiedFrom
  rw [h]

theorem copiedFrom_copyNext (s t : State) (h : copyNext s = some t) : CopiedFrom s t := by
  unfold copyNext at h
  dsimp only at h
  repeat' split at h
  · exact absurd h (by simp)
  · exact absurd h (by simp)
  · next q =>
    simp only [Option.some.injEq] at h
    rw [← h]
    refine CopiedFrom.trans ?_ (sentFrom_frameOut _ _ _).copied
    rfl

theorem copiedFrom_copyRun (n : Nat) (s : State) : CopiedFrom s (copyRun n s) := by
  induction n generalizing s with
  | zero => exact CopiedFrom.refl s
  | succ n ih =>
    unfold copyRun
    split
    · next t h => exact CopiedFrom.trans (copiedFrom_copyNext s t h) (ih t)
    · exact CopiedFrom.refl s

theorem copiedFrom_flushCopies (s : State) : CopiedFrom s (flushCopies s) := copiedFrom_copyRun _ s

/-- Copying a packet changes nothing but the copies that wait, the count of those lost, the analysis port, and what has left the module. -/
theorem copiedFrom_anaCopy (p : Nat) (b : Bool) (q : Pkt) (s : State) : CopiedFrom s (anaCopy p b q s) := by
  unfold anaCopy anaCopyBytes
  dsimp only
  repeat' split
  all_goals first
    | rfl
    | exact CopiedFrom.trans (by rfl) (copiedFrom_flushCopies _)

/-- What a packet leaves alone on its way in: all but its port, the copies, what has left the module and counts. -/
theorem copiedFrom_entered (port : Option (Fin 64)) (q : Pkt) (s : State) : CopiedFrom s (entered port q s) := by
  unfold entered
  split
  · exact CopiedFrom.trans (sentFrom_passCells _ _ _ _ s).copied (copiedFrom_anaCopy _ _ _ _)
  · exact CopiedFrom.refl s

theorem entered_endpoint (port : Option (Fin 64)) (q : Pkt) (s : State) (e : Nat) : endpoint (entered port q s) e = endpoint s e := by
  have h := copiedFrom_entered port q s
  unfold CopiedFrom at h
  rw [h]; rfl

end Sys2Proof.Machine
end

