-- ==== Sys2Proof/Laws/Packets.lean ====
section
/-! SUPPORT. How a packet comes to have its effect. -/

namespace Sys2Proof.Machine

/-- The later of two writes to a destination flow stands. -/
theorem setDFlow_setDFlow (k : Nat) (d e : DFlow) (s : State) : setDFlow k e (setDFlow k d s) = setDFlow k e s := by
  simp only [setDFlow]
  have : ∀ t : Tab DFlow, (t.ins k d).ins k e = t.ins k e := by
    intro t; induction t with
    | nil => simp [Tab.ins]
    | cons x t ih =>
      obtain ⟨k', v'⟩ := x
      simp only [Tab.ins]
      split
      · simp [Tab.ins]
      · split
        · simp [Tab.ins]
        · next h1 h2 => simp [Tab.ins, h1, h2, ih]
  simp [this]
/-- A destination flow reads as written. -/
theorem dflow_setDFlow_self (k : Nat) (d : DFlow) (s : State) : dflow (setDFlow k d s) k = d := by
  simp [dflow, setDFlow, Tab.find_ins]

/-- Crossing the switch leaves flows alone, and is the same whatever they are. -/
theorem handOver_setDFlow (port : Option (Fin 64)) (h : Hdr) (k : Nat) (d : DFlow) (s : State) :
    handOver port h (setDFlow k d s) = setDFlow k d (handOver port h s) := by
  unfold handOver
  cases port with
  | none => rfl
  | some n =>
    have : toPort (setDFlow k d s) h = toPort s h := rfl
    have ha : (setDFlow k d s).fab.accept = s.fab.accept := rfl
    simp only [this, ha]
    split <;> rfl

theorem dflow_handOver (port : Option (Fin 64)) (h : Hdr) (s : State) (k : Nat) : dflow (handOver port h s) k = dflow s k := by
  unfold handOver
  cases port with
  | none => rfl
  | some n => dsimp only; split <;> rfl

theorem nowUs_handOver (port : Option (Fin 64)) (h : Hdr) (s : State) : nowUs (handOver port h s) = nowUs s := by
  unfold handOver
  cases port with
  | none => rfl
  | some n => dsimp only; split <;> rfl

/-- The state in which a packet that comes in its turn takes effect. -/
def turned (port : Option (Fin 64)) (q : Pkt) (s : State) : State :=
  let x := handOver port q.h s
  let d := dflow x (hdrKey q.h)
  setDFlow (hdrKey q.h)
    { d with ce := if q.h.ce then d.ce ++ [q.h.seq] else d.ce, open_ := true, more := 0, lastUs := nowUs x, job := q.h.job } x

theorem takeUp_setDFlow (p : Nat) (q : Pkt) (port : Option (Fin 64)) (d : DFlow) (s : State) :
    takeUp p q port (setDFlow (hdrKey q.h) d s) = applyPkt p q port (
      setDFlow (hdrKey q.h) { d with open_ := true, more := 0, lastUs := nowUs s, job := q.h.job } (handOver port q.h s)) := by
  unfold takeUp
  dsimp only
  rw [handOver_setDFlow, dflow_setDFlow_self, setDFlow_setDFlow]
  congr 3
  exact nowUs_handOver port q.h s

/-- A packet that comes in its turn is taken up and applied at once (R225). -/
theorem seqArrive_inTurn (s : State) (port) (q : Pkt) (p : Nat) (h : inTurn s q.h = true) :
    seqArrive p q port s = applyPkt p q port (turned port q s) := by
  simp only [inTurn] at h
  have hc : ¬ (q.h.close = true ∧ (s.fab.dflow.find (hdrKey q.h)).isNone = true ∧ q.h.seq ≠ 0) := by
    rintro ⟨_, h2, h3⟩
    cases hf : s.fab.dflow.find (hdrKey q.h) with
    | none => simp [hf] at h; exact h3 h.1
    | some d => simp [hf] at h2
  simp only [seqArrive]
  rw [if_neg hc]
  cases hf : s.fab.dflow.find (hdrKey q.h) with
  | none =>
    simp only [hf, Bool.and_eq_true, beq_iff_eq, decide_eq_true_eq] at h
    have hd : dflow s (hdrKey q.h) = DFlow.init := by simp [dflow, hf]
    have hs : ∀ d : DFlow, DFlow.init.next = 0 := fun _ => rfl
    simp only [openFlow, hf, h.2, if_true, dflow_setDFlow_self, setDFlow_setDFlow, h.1]
    simp only [DFlow.init, takeUp_setDFlow, turned, dflow_handOver, hd, nowUs_handOver, h.1]
    simp
  | some d =>
    simp only [hf, Bool.and_eq_true, beq_iff_eq, Bool.not_eq_true'] at h
    have hd : dflow s (hdrKey q.h) = d := by simp [dflow, hf]
    simp only [openFlow, hf, hd, h.1, h.2, takeUp_setDFlow, turned, dflow_handOver, nowUs_handOver]
    simp

/-- A packet that passes (Safety.lean) has its effect on the state in which it is the open packet of its flow. -/
theorem packetIn_passes {s : State} {port} {q : Pkt} {p : Nat} (h : passes s port q p = true)
    (hb : (∀ st, q.body ≠ .ack st) ∧ (∀ st d v, q.body = .reply st d v → q.h.vc ≠ 2)) :
    live s = true ∧ packetIn q port s = applyPkt p q port (opened s port q) := by
  simp only [passes, forHere, Bool.and_eq_true, beq_iff_eq] at h
  obtain ⟨⟨⟨⟨hl, hp⟩, hv⟩, hloc⟩, ⟨hw, ha⟩, hi⟩ := h
  refine ⟨hl, ?_⟩
  have hv' : (endpoint (entered port q s) q.h.dst).v = true := by rw [entered_endpoint]; exact hv
  have hl' : (endpoint (entered port q s) q.h.dst).isLocal = true := by rw [entered_endpoint]; exact hloc
  have harr : packetIn q port s = (let s := entered port q s
      if !(endpoint s q.h.dst).v then (if port.isSome then bump 0x60024 s else wardDeny q.h q.body s)
      else if !(endpoint s q.h.dst).isLocal then forward q s
      else match ward s q.h q.rd q.body with
        | .late => dropLate s
        | .deny => wardDeny q.h q.body s
        | .clear => if q.tr = .zero then admitted 0 q port s else authFail none q.h s
        | .pass p => (match q.tr, q.body with
           | .zero, .ack st => unprotected q.h st s
           | _, _ => if authOk s p q then admitted p q port s else authFail (some p) q.h s)) := by
    cases port with
    | none => rfl
    | some n =>
      simp only [Bool.and_eq_true, decide_eq_true_eq] at hp
      have hin : packetIn q (some n) s = arrive q (some n) (passCells n.val q.h.vc q.h.hops (pktCells q) s) := by
        simp [packetIn, hp.1, Nat.not_lt.2 hp.2, hv, hloc]
      rw [hin]
      rfl
  rw [harr]
  simp only [hv', hl', hw]
  have h2 : (match q.tr, q.body with
      | .zero, .ack st => unprotected q.h st (entered port q s)
      | _, _ => if authOk (entered port q s) p q then admitted p q port (entered port q s) else authFail (some p) q.h (entered port q s))
      = admitted p q port (entered port q s) := by
    split
    · next h => exact absurd h (hb.1 _)
    · simp [ha]
  have h3 : admitted p q port (entered port q s) = seqArrive p q port (entered port q s) := by
    simp only [admitted]
    split
    · next h => exact absurd h (hb.1 _)
    · next h => rw [if_neg (hb.2 _ _ _ h)]
    · rfl
  simp only [Bool.not_true]
  rw [if_neg (by simp), if_neg (by simp), h2, h3, seqArrive_inTurn _ _ _ _ hi]
  rfl

end Sys2Proof.Machine
end

