-- ==== Sys2Proof/WellFormed.lean ====
section
/-! DEFINITION. Which terms stand for commands that can be sent: every operand fits the field that carries it (R216, R227, R271, R277, R323,
R332, R353, R384, R395, R442, R443, R447, R456, R463, R495). A value that fits its field may still be refused; a term that does not fit
stands for no command. -/

namespace Sys2Proof

/-- A value fits a field of `n` bits. -/
def fits (n v : Nat) : Bool := decide (v < 2 ^ n)

/-- Every value fits. -/
def fitsAll (n : Nat) (l : List Nat) : Bool := l.all (fits n)

/-- A message header (R442), and the TXN of the frame that brings it (R495). -/
def Req.wf (r : Req) : Bool := fits 8 r.major && fits 8 r.minor && fits 32 r.tag && fits 16 r.txn

/-- An access of the register window: 4 or 8 bytes, and the TXN of its frame (R463, R495). -/
def RAcc.wf (a : RAcc) : Bool := (a.size == 4 || a.size == 8) && fits 16 a.txn

/-- The fields of PART_SETUP, each in the smallest of 1, 2, 4 or 8 bytes (R376, R443). -/
def PartParams.wf (p : PartParams) : Bool :=
  fits 8 p.part && fits 32 p.jobTag && fits 64 p.tenant && (p.tenantKey.isEmpty || p.tenantKey.length == 1793)
    && fits 16 p.qBase && fits 32 p.qCount && fits 16 p.cBase && fits 32 p.cCount && fits 32 p.budget && fits 16 p.reqTimeout
    && fits 16 p.biTimeout

/-- The fields of EXT_ADD (R65, R447). -/
def ExtAddArgs.wf (a : ExtAddArgs) : Bool :=
  fits 16 a.ext && fits 64 a.base && fits 8 a.sizeLog2 && fits 64 a.fva && fits 8 a.part && fits 32 a.job && fits 64 a.tenant

/-- The fields of EXT_PRESENT (R65, R447). -/
def ExtPresentArgs.wf (a : ExtPresentArgs) : Bool :=
  fits 16 a.home && fits 16 a.ext && fits 64 a.base && fits 8 a.sizeLog2 && fits 64 a.fva && fits 8 a.part && fits 32 a.job && fits 16 a.mask

/-- The fields of QUE_CREATE (R447). -/
def QueArgs.wf (a : QueArgs) : Bool :=
  fits 16 a.q && fits 8 a.cls && fits 8 a.weight && fits 64 a.sqBase && fits 8 a.sqLog2 && fits 64 a.cqBase && fits 8 a.cqLog2 && fits 16 a.msix

/-- The fields of GRP_CREATE (R155, R443). -/
def GrpParams.wf (p : GrpParams) : Bool :=
  fits 32 p.groupTag && fits 32 p.jobTag && fits 8 p.part && fits 16 p.ctx && fits 8 p.weight && fits 8 p.latticeId && fits 8 p.share
    && fits 32 p.n && fits 8 p.chunkLog2 && fits 8 p.depth && fits 16 p.budget && fits 16 p.arrivalMs && fits 16 p.tree

/-- An entry of GRP_HOSTS (R447). -/
def HostEntry.wf (e : HostEntry) : Bool := fits 8 e.level && fits 32 e.first && fits 32 e.last && fits 16 e.host

/-- A tree entry: 31 branches, each field in its bits (R227). -/
def TreeEntry.wf (e : TreeEntry) : Bool :=
  fits 16 e.attachMask && fits 17 e.up && fits 6 e.part && fits 3 e.vc && fits 5 e.nbranch && fits 32 e.jobTag
    && e.branches.length == 31 && e.branches.all (fun b => fits 17 b.1 && fits 13 b.2)

/-- The fields of ANA_SET (R447). -/
def AnaArgs.wf (a : AnaArgs) : Bool :=
  fits 8 a.port && fits 8 a.src && fits 8 a.dir && fits 32 a.srcEpid && fits 32 a.dstEpid && fits 8 a.vc

/-- A packet header (R216, R332). -/
def Hdr.wf (h : Hdr) : Bool :=
  fits 17 h.dst && fits 17 h.src && fits 3 h.vc && fits 3 h.hops && fits 13 h.tree && fits 32 h.seq && fits 32 h.job && fits 8 h.gen
    && fits 13 h.len && fits 32 h.wid && fits 3 h.ackedVc

/-- A redirect block (R339). -/
def Redirect.wf (r : Redirect) : Bool := fits 32 r.origSeq && fits 13 r.origHome && decide (r.piece ≤ 2)

/-- A trailer: the count has 63 bits (R383). -/
def Trailer.wf : Trailer → Bool
  | .zero => true
  | .tagged n _ _ => fits 63 n

/-- The envelope of a packet. -/
def Env.wf (e : Env) : Bool := e.h.wf && (match e.rd with | some r => r.wf | none => true) && e.tr.wf

/-- A write's destination and data: at most 4,096 payload bytes (R216), and a mask as long as the data. -/
def WriteBody.wf (b : WriteBody) : Bool :=
  (match b.dest with | .home a x => fits 37 a && fits 14 x | .device a => fits 64 a)
    && decide (b.data.length ≤ 4096) && (match b.mask with | some m => m.length == b.data.length | none => true)
    && (match b.ctr with | some c => fits 16 c | none => true) && fits 32 b.total

/-- A read request (R25, R148). -/
def ReadBody.wf (b : ReadBody) : Bool := fits 37 b.addr && fits 14 b.ext && decide (b.len ≤ 65536)

/-- An ATOMIC request (R29, R132). -/
def AtomBody.wf (b : AtomBody) : Bool :=
  fits 37 b.addr && fits 14 b.ext && fits 4 b.op && fits 4 b.ty && fits 64 b.operand && fits 64 b.compare
    && (match b.ctr with | some c => fits 16 c | none => true)

/-- The origin block of a forwarded write (R337). -/
def Origin.wf (o : Origin) : Bool :=
  (match o.src with | some x => fits 17 x | none => true) && fits 3 o.vc && fits 32 o.seq && fits 32 o.wid && (match o.old with | some v => fits 64 v | none => true)

/-- A mirror write (R83, R337). -/
def MirrorBody.wf (b : MirrorBody) : Bool := fits 13 b.home && fits 14 b.ext && fits 37 b.off && decide (b.data.length ≤ 4096) && b.origin.wf

/-- A packet of a rebuild step: its bytes lie in the 1 MiB step (R85). -/
def RebuildBody.wf (b : RebuildBody) : Bool :=
  fits 13 b.home && fits 14 b.ext && fits 17 b.step && decide (b.off + b.data.length ≤ 2 ^ 20) && decide (b.data.length ≤ 4096)
    && b.poisoned.all (fun o => decide (o < b.data.length))

/-- A mirror control packet (R504). -/
def MirrorCtl.wf : MirrorCtl → Bool
  | .create x b z f t _ => fits 14 x && fits 37 b && fits 6 z && fits 50 f && fits 64 t
  | .created x st => fits 14 x && fits 8 st
  | .rebind x j t f => fits 14 x && fits 32 j && fits 64 t && fits 50 f
  | .rebound x st => fits 14 x && fits 8 st
  | .scrub x => fits 14 x
  | .scrubbed x st => fits 14 x && fits 8 st
  | .revoke x _ => fits 14 x
  | .revoked x st => fits 14 x && fits 8 st

/-- A collective record (R171). -/
def CollRec.wf (r : CollRec) : Bool :=
  fits 32 r.group && fits 32 r.seq && fits 64 r.sig && fits 24 r.lowRank && fits 8 r.chunkLog2
    && (match r.mismatch with | some m => fits 24 m | none => true)
    && (match r.chunkMismatch with | some m => fits 24 m | none => true) && fits 8 r.code

/-- The operation of a collective, in the widths of its descriptor (R132, R161). -/
def CollOp.wf (c : CollOp) : Bool :=
  fits 4 c.collop && fits 4 c.operator && fits 5 c.fmt && fits 40 c.elements && fits 17 c.root && fits 16 c.rowLen && fits 5 c.chunkLog2

/-- A data packet of a contribution (R172). -/
def ChunkBody.wf (b : ChunkBody) : Bool :=
  fits 32 b.group && fits 32 b.seq && fits 5 b.level && fits 17 b.vertex && decide (b.data.length ≤ 4096) && b.cop.wf

/-- A result chunk (R174). -/
def ResultBody.wf (b : ResultBody) : Bool := fits 32 b.group && fits 32 b.seq && decide (b.data.length ≤ 4096)

/-- What a packet carries. -/
def Body.wf : Body → Bool
  | .write b => b.wf
  | .read b => b.wf
  | .atomic b => b.wf
  | .signal c v => fits 16 c && fits 32 v
  | .reply st d v => fits 8 st && decide (d.length ≤ 65536) && (v.isEmpty || v.length == d.length / 8 || v.length == d.length / 256)
  | .ack st => fits 8 st
  | .report _ => true
  | .close => true
  | .mirror b => b.wf
  | .rebuild b => b.wf
  | .mctl m => m.wf
  | .header k v _ r c => fits 5 k && fits 17 v && r.wf && c.wf
  | .chunk b => b.wf
  | .result b => b.wf
  | .done r => r.wf
  | .go r => r.wf
  | .a2aReport r => r.wf
  | .cause r => r.wf
  | .abort r => r.wf

/-- A packet. -/
def Pkt.wf (p : Pkt) : Bool := p.h.wf && (match p.rd with | some r => r.wf | none => true) && p.body.wf && p.tr.wf

/-- A link-state advertisement: at most 64 port records (R323). -/
def Lsa.wf (l : Lsa) : Bool :=
  fits 13 l.origin && fits 32 l.seq && decide (l.ports.length ≤ 64)
    && l.ports.all (fun r => fits 6 r.port && fits 13 r.nbr && fits 6 r.nbrPort && fits 4 r.weight)

/-- A Deadbolt message (R353). -/
def Deadbolt.wf (d : Deadbolt) : Bool :=
  fits 16 d.origin && fits 32 d.seq && fits 32 d.job && fits 8 d.cause && fits 16 d.subject && fits 17 d.epid

/-- A CXL.mem request names a host physical address (R300). -/
def MemReq.wf (m : MemReq) : Bool := fits 64 m.hpa

/-- A decoder: a base address, and the fields of R300. -/
def Decoder.wf (d : Decoder) : Bool := fits 64 d.base && decide (d.size ≤ 2 ^ 64) && fits 8 d.ways && fits 16 d.gran && fits 8 d.pos

/-- A register offset of the 64 MiB window (R461). -/
def offWf (off : Nat) : Bool := fits 26 off

/-- The fields of a debug frame: TARGET 8 bits, ADDRESS 48, DATA 32 (R456). -/
def dbgWf (target addr data : Nat) : Bool := fits 8 target && fits 48 addr && fits 32 data

/-- A message with a partition number, carried in one byte. -/
def reqPart (r : Req) (p : Nat) : Bool := r.wf && fits 8 p

/-- The envelope and body of a packet row. -/
def envBody (e : Env) (b : Body) : Bool := e.wf && b.wf

/-- The keys of a flow: source and destination EPIDs and channel (R331). -/
def flowWf (src dst vc : Nat) : Bool := fits 17 src && fits 17 dst && fits 3 vc

/-- Every operand of a command fits its field. -/
def Instr.wf : Instr → Bool
  | .getVersion r => r.wf
  | .mgtHeartbeat r => r.wf
  | .leaseTake r => r.wf
  | .leaseRelease r => r.wf
  | .reportAck r seq => r.wf && fits 32 seq
  | .attestGet r nonce => r.wf && nonce.length == 32
  | .modReset r kind => r.wf && fits 8 kind
  | .fwStatus r => r.wf
  | .fwBegin r i h => r.wf && fits 32 i && fits 32 h
  | .fwData r region off data => r.wf && fits 8 region && fits 32 off && decide (data.length ≤ 4075)
  | .fwCommit r => r.wf
  | .fwAbort r => r.wf
  | .fwSessionTimeout => true
  | .partSetup r p => r.wf && p.wf
  | .partBind r p a slot => reqPart r p && fits 8 a && fits 8 slot
  | .partUnbind r p a slot => reqPart r p && fits 8 a && fits 8 slot
  | .keyLoad r p slot kid ct w => reqPart r p && fits 8 slot && fits 32 kid && ct.length == 1568 && w.length == 48
  | .partReset r p pol => reqPart r p && fits 8 pol
  | .genTagReuseWaitEnd p => fits 6 p
  | .partRelease r p => reqPart r p
  | .consentSet r p t => reqPart r p && t.length == 1312
  | .consentClear r p => reqPart r p
  | .partQuery r p => reqPart r p
  | .dossierRead r p off => reqPart r p && fits 16 off
  | .jobAbort r job => r.wf && fits 32 job
  | .extAdd r a => r.wf && a.wf
  | .extPresent r a => r.wf && a.wf
  | .extMirror r x t => r.wf && fits 16 x && fits 16 t
  | .extRevoke r h x d f => r.wf && fits 16 h && fits 16 x && fits 8 d && fits 32 f
  | .extShackle r x p job ten fva => reqPart r p && fits 16 x && fits 32 job && fits 64 ten && fits 64 fva
  | .extQuery r h x k => r.wf && fits 16 h && fits 16 x && fits 8 k
  | .xltMap r p fva pl ls => reqPart r p && fits 64 fva && fits 8 pl && decide (ls.length ≤ 255)
  | .xltUnmap r p fva n => reqPart r p && fits 64 fva && fits 64 n
  | .xltInval r p _ fva n => reqPart r p && fits 64 fva && fits 64 n
  | .xltInvalDrainDone _ => true
  | .xltQuery r p fva => reqPart r p && fits 64 fva
  | .queCreate r a => r.wf && a.wf
  | .queResume r q => r.wf && fits 16 q
  | .queDestroy r q => r.wf && fits 16 q
  | .queQuery r q => r.wf && fits 16 q
  | .grpCreate r p => r.wf && p.wf
  | .grpMembers r c f es => r.wf && fits 16 c && fits 32 f && fitsAll 32 es
  | .grpHosts r c es => r.wf && fits 16 c && es.all HostEntry.wf
  | .grpArm r c => r.wf && fits 16 c
  | .grpDestroy r c => r.wf && fits 16 c
  | .grpQuery r c => r.wf && fits 16 c
  | .epidAssign r e k a h => r.wf && fits 32 e && fits 8 k && fits 8 a && fits 16 h
  | .epidRelease r e => r.wf && fits 32 e
  | .treeWrite r t e => r.wf && fits 16 t && e.wf
  | .treeClear r t => r.wf && fits 16 t
  | .anaSet r a => r.wf && a.wf
  | .anaConsent r t => r.wf && t.length == 1312
  | .anaClear r _ _ job => r.wf && fits 32 job
  | .fabQuery r k i => r.wf && fits 8 k && fits 32 i
  | .powerLit r => r.wf
  | .powerDark r => r.wf
  | .selftest r k p => r.wf && fits 8 k && fits 8 p
  | .logRead r e n => r.wf && fits 32 e && fits 8 n
  | .ageRead r off => r.wf && fits 32 off
  | .traceSet r p m => reqPart r p && m.length == 32
  | .identify _ => true
  | .getSupportedLogs _ => true
  | .getLog _ => true
  | .getEventRecords _ => true
  | .clearEventRecords _ hs => fitsAll 16 hs
  | .getDynamicCapacityConfiguration _ => true
  | .addDynamicCapacityResponse _ h x _ => fits 13 h && fits 14 x
  | .presentAnswerTimeout a h x => fits 4 a && fits 13 h && fits 14 x
  | .releaseDynamicCapacity _ h x => fits 13 h && fits 14 x
  | .spdmRequest _ _ _ => true
  | .ideKeyManagement _ _ => true
  | .doorbell a q _ _ => a.wf && fits 16 q
  | .nop q _ => fits 16 q
  | .put q _ => fits 16 q
  | .get q _ => fits 16 q
  | .copyTile q _ => fits 16 q
  | .atomic q _ => fits 16 q
  | .wait q _ => fits 16 q
  | .fence q _ => fits 16 q
  | .signal q _ => fits 16 q
  | .coll q _ => fits 16 q
  | .epochClose q _ => fits 16 q
  | .epochCloseDrainDone p => fits 6 p
  | .quantumGrant _ q => fits 16 q
  | .quantumEnd _ => true
  | .tableWalkDone p fva _ => fits 6 p && fits 50 fva
  | .prefetchReply _ d v => decide (d.length ≤ 4096) && decide (v.length ≤ 16)
  | .prefetchTimeout _ => true
  | .cxlMemLoad m _ => m.wf
  | .cxlMemStore m mask d _ => m.wf && mask.length == 64 && d.length == 64
  | .biRsp _ l _ => fits 31 l
  | .biTimeout l a => fits 31 l && fits 4 a
  | .cxlIoCompletion _ _ d => decide (d.length ≤ 4096)
  | .cxlIoTimeout _ => true
  | .landingCounterRead _ off n => offWf off && (n == 4 || n == 8)
  | .hdmDecoderCommit _ _ d => d.wf
  | .biEnable _ _ => true
  | .perstNAssert _ => true
  | .perstNRelease _ => true
  | .hotReset _ => true
  | .functionLevelReset _ => true
  | .cxlReset _ => true
  | .cxlLinkUp _ w _ => fits 5 w
  | .cxlTrainRetry _ w _ => fits 5 w
  | .cxlLinkDown _ w => fits 5 w
  | .l0pRequest _ w => fits 5 w
  | .aspmL1Exit _ => true
  | .loopbackDirected _ => true
  | .ideIntegrityFailure _ => true
  | .trayReleaseAssert => true
  | .trayReleaseDeassert => true
  | .pwrBrakeAssert => true
  | .pwrBrakeRelease => true
  | .powerApplied => true
  | .inputLow => true
  | .inputBrake => true
  | .inputRecover => true
  | .inputOff => true
  | .inputHigh => true
  | .thermalCeiling => true
  | .thermalRelease => true
  | .thermalBrake => true
  | .thermalBrakeRelease => true
  | .thermalShutdown => true
  | .thermalRestart => true
  | .referencePresent => true
  | .rootPllLock => true
  | .referenceLoss => true
  | .rootRelock => true
  | .phyPllLoss _ => true
  | .phyPllRelock _ => true
  | .woquelImageRead _ => true
  | .identityRegenerated _ => true
  | .lightingDone => true
  | .darkeningDone => true
  | .governorTick d w v t g => fits 20 d && fits 16 w && fits 16 v && fits 8 t && fits 8 g
  | .staggerExpiry => true
  | .lullHoldExpiry => true
  | .capCommand a _ => a.wf
  | .portIdle _ => true
  | .unitGateIdle _ => true
  | .clkGateOffReq a _ => a.wf
  | .clkObsWrite a _ => a.wf
  | .marginPlanDaily => true
  | .hltPlanRun a _ => a.wf
  | .marginPlanDone => true
  | .gddrDeferredRetrain => true
  | .patrolRead a fs => fits 37 a && fs.all (fun f => decide (f.1 < 2 ^ 34) && decide (f.2 < 72))
  | .sramVminTest _ mv => fits 12 mv
  | .sensorUpdate _ _ => true
  | .healthSecond => true
  | .healthHour => true
  | .moduleFault a r => fits 64 a && fits 8 r
  | .flitReceived _ f => f.length == 256
  | .replayTimeout _ => true
  | .linkNop _ => true
  | .train _ n q l m w => fits 13 n && fits 6 q && fits 4 l && fits 4 m && fits 32 w
  | .swapReq _ _ l a b _ => fits 3 l && fits 4 a && fits 4 b
  | .swapDone _ _ l d n => fits 3 l && fits 4 d && fits 14 n
  | .swapAbort _ _ l x => fits 3 l && fits 8 x
  | .calStart _ w => fits 4 w
  | .calEnd _ w _ => fits 4 w
  | .lanes _ _ n m q => fits 4 n && fits 32 m && fits 14 q
  | .wavelengthFailure _ _ => true
  | .swapCheckDone _ _ => true
  | .swapTimeout _ => true
  | .spareRotation _ => true
  | .calMeasureDone _ _ => true
  | .trainingStepDone _ ps ms => fitsAll 4 ps && decide (ms.length ≤ 9)
  | .trainingRetry _ => true
  | .optPortEnable a _ _ => a.wf
  | .optPortRetrain a _ _ => a.wf
  | .cxlPortRetrain a _ _ => a.wf
  | .portStateChange _ => true
  | .lsaPeriodic => true
  | .lsaReceived _ l => l.wf
  | .lsaAgeOut o => fits 13 o
  | .repairHoldEnd => true
  | .isolationTimeout => true
  | .lostFlowFree m => fits 13 m
  | .flowIdleClose a b c => flowWf a b c
  | .retxDue a b c => flowWf a b c
  | .ccWindowEnd => true
  | .dupSuppressExpiry a w => fits 17 a && fits 32 w
  | .packetExpiry a b c n => flowWf a b c && fits 32 n
  | .noRouteExpiry a b c n => flowWf a b c && fits 32 n
  | .fabricPacketTransit _ p n => p.wf && decide (0 < n)
  | .fabricWrite _ e b => envBody e (.write b)
  | .fabricReadRequest _ e b => envBody e (.read b)
  | .atomicRequest _ e b => envBody e (.atomic b)
  | .signalArrival _ e c v => envBody e (.signal c v)
  | .reply _ e st d v => envBody e (.reply st d v)
  | .acknowledgement _ e st => envBody e (.ack st)
  | .deliveryReport _ e x => envBody e (.report x)
  | .flowClose _ e => envBody e .close
  | .redirectRequest _ e b => envBody e b && e.rd.isSome
  | .redirectWaitExpiry a b c n => flowWf a b c && fits 32 n
  | .mirrorWrite _ e b => envBody e (.mirror b)
  | .rebuildStep _ e b => envBody e (.rebuild b)
  | .mirrorControl _ e m => envBody e (.mctl m)
  | .unprotectedRefusal _ e => e.wf
  | .multicastLeg _ e b => envBody e b
  | .deadboltMessage _ m => m.wf
  | .requestTimeout a w => fits 17 a && fits 32 w
  | .header _ e k v l r c => envBody e (.header k v l r c)
  | .contribution _ e b => envBody e (.chunk b)
  | .resultChunk _ e b => envBody e (.result b)
  | .done _ e r => envBody e (.done r)
  | .go _ e r => envBody e (.go r)
  | .allToAllReport _ e r => envBody e (.a2aReport r)
  | .cause _ e r => envBody e (.cause r)
  | .abort _ e r => envBody e (.abort r)
  | .arrivalTimeout c n k v => fits 12 c && fits 32 n && fits 5 k && fits 17 v
  | .forcedRevokeTimeout k x => fits 2 k && fits 14 x
  | .revokeDrainDone k x => fits 2 k && fits 14 x
  | .scrubDone k x => fits 2 k && fits 14 x
  | .partReleaseScrubDone p => fits 6 p
  | .hingeTimeout => true
  | .fwmHingeAccept => true
  | .fwmHingeReject => true
  | .reportResend _ => true
  | .fltPop a _ => a.wf
  | .fltStatLostClear a _ => a.wf
  | .latchSnap a _ => a.wf
  | .unlock a _ => a.wf
  | .unlockLapse _ => true
  | .indDataRead a => a.wf
  | .indDataWrite a _ => a.wf
  | .topTimeLoRead a => a.wf
  | .cfgcrcRefWrite a _ => a.wf
  | .cfgcrcPass => true
  | .setAliasWrite a off _ => a.wf && offWf off
  | .clrAliasWrite a off _ => a.wf && offWf off
  | .tglAliasWrite a off _ => a.wf && offWf off
  | .registerWrite a off _ => a.wf && offWf off
  | .dbgEnRise => true
  | .dbgEnFall => true
  | .dbgNop _ => true
  | .halt _ t => dbgWf t 0 0
  | .resume _ t => dbgWf t 0 0
  | .step _ t => dbgWf t 0 0
  | .bpSet _ t a d => dbgWf t a d
  | .bpClear _ t d => dbgWf t 0 d
  | .breakpointHit _ _ => true
  | .coreRd _ t a => dbgWf t a 0
  | .coreWr _ t a d => dbgWf t a d
  | .memRd _ a => dbgWf 0 a 0
  | .memWr _ a _ => dbgWf 0 a 0
  | .regRd _ a => dbgWf 0 a 0
  | .regWr _ a _ => dbgWf 0 a 0
  | .partRd _ t a => dbgWf t a 0
  | .partWr _ t a _ => dbgWf t a 0

end Sys2Proof
end

