-- ==== Sys2Proof/Laws/PerInstr.lean ====
section
/-! SUPPORT. One law for every command, per constructor: what a message's fields say of it. -/

namespace Sys2Proof.Laws.MessageFields

open Sys2Proof.Machine

/-- A command that is a message of R447 carries a request whose fields fit theirs when the command's do, an opcode of 16 bits, and a sender
that its class permits (R379, R443). -/
def Statement (i : Instr) : Prop :=
  ∀ s r m p, msgRow s i = some (r, m, p) → (i.wf = true → r.wf = true) ∧ m.opcode < 65536 ∧ (m.mgr || m.host) = true

/-- A command that is no message. -/
theorem other {i : Instr} (h : ∀ s, msgRow s i = none) : Statement i := by
  intro s r m p hm
  rw [h s] at hm
  exact absurd hm (by simp)

/-- A command that is a message. -/
theorem message {i : Instr} {r : Req} {m : Msg} (p : State → Option Nat) (h : ∀ s, msgRow s i = some (r, m, p s))
    (w : i.wf = true → r.wf = true) (o : m.opcode < 65536) (c : (m.mgr || m.host) = true) : Statement i := by
  intro s r' m' p' hm
  rw [h s, Option.some.injEq, Prod.mk.injEq, Prod.mk.injEq] at hm
  obtain ⟨rfl, rfl, -⟩ := hm
  exact ⟨w, o, c⟩

theorem left {a b : Bool} (h : (a && b) = true) : a = true := (Bool.and_eq_true_iff.1 h).1

theorem getVersion (r : Req) : Statement (.getVersion r) :=
  message (m := ⟨1, false, true, true, true⟩) (fun _ => none) (fun _ => rfl) (fun w => w) (by decide) rfl
theorem mgtHeartbeat (r : Req) : Statement (.mgtHeartbeat r) :=
  message (m := ⟨2, false, true, false, true⟩) (fun _ => none) (fun _ => rfl) (fun w => w) (by decide) rfl
theorem leaseTake (r : Req) : Statement (.leaseTake r) :=
  message (m := ⟨3, false, true, false, true⟩) (fun _ => none) (fun _ => rfl) (fun w => w) (by decide) rfl
theorem leaseRelease (r : Req) : Statement (.leaseRelease r) :=
  message (m := ⟨4, true, true, false, true⟩) (fun _ => none) (fun _ => rfl) (fun w => w) (by decide) rfl
theorem reportAck (r : Req) (seq : Nat) : Statement (.reportAck r seq) :=
  message (m := ⟨5, false, true, false, true⟩) (fun _ => none) (fun _ => rfl) (fun w => left w) (by decide) rfl
theorem attestGet (r : Req) (nonce : Bytes) : Statement (.attestGet r nonce) :=
  message (m := ⟨6, false, true, true, true⟩) (fun _ => none) (fun _ => rfl) (fun w => left w) (by decide) rfl
theorem modReset (r : Req) (kind : Nat) : Statement (.modReset r kind) :=
  message (m := ⟨7, true, true, false, true⟩) (fun _ => none) (fun _ => rfl) (fun w => left w) (by decide) rfl
theorem fwStatus (r : Req) : Statement (.fwStatus r) :=
  message (m := ⟨8, false, true, true, true⟩) (fun _ => none) (fun _ => rfl) (fun w => w) (by decide) rfl
theorem fwBegin (r : Req) (imageLen histLen : Nat) : Statement (.fwBegin r imageLen histLen) :=
  message (m := ⟨0x101, true, true, true, true⟩) (fun _ => none) (fun _ => rfl) (fun w => left (left w)) (by decide) rfl
theorem fwData (r : Req) (region off : Nat) (data : Bytes) : Statement (.fwData r region off data) :=
  message (m := ⟨0x102, true, true, true, true⟩) (fun _ => none) (fun _ => rfl) (fun w => left (left (left w))) (by decide) rfl
theorem fwCommit (r : Req) : Statement (.fwCommit r) :=
  message (m := ⟨0x103, true, true, true, true⟩) (fun _ => none) (fun _ => rfl) (fun w => w) (by decide) rfl
theorem fwAbort (r : Req) : Statement (.fwAbort r) :=
  message (m := ⟨0x104, true, true, true, true⟩) (fun _ => none) (fun _ => rfl) (fun w => w) (by decide) rfl
theorem partSetup (r : Req) (p : PartParams) : Statement (.partSetup r p) :=
  message (m := ⟨0x201, true, true, false, false⟩) (fun _ => none) (fun _ => rfl) (fun w => left w) (by decide) rfl
theorem partBind (r : Req) (part attach slot : Nat) : Statement (.partBind r part attach slot) :=
  message (m := ⟨0x202, true, true, false, false⟩) (fun _ => none) (fun _ => rfl) (fun w => left (left (left w))) (by decide) rfl
theorem partUnbind (r : Req) (part attach slot : Nat) : Statement (.partUnbind r part attach slot) :=
  message (m := ⟨0x203, true, true, false, false⟩) (fun _ => none) (fun _ => rfl) (fun w => left (left (left w))) (by decide) rfl
theorem keyLoad (r : Req) (part slot keyId : Nat) (ct wrapped : Bytes) : Statement (.keyLoad r part slot keyId ct wrapped) :=
  message (m := ⟨0x204, true, true, false, false⟩) (fun _ => none) (fun _ => rfl) (fun w => left (left (left (left (left w))))) (by decide) rfl
theorem partReset (r : Req) (part policy : Nat) : Statement (.partReset r part policy) :=
  message (m := ⟨0x205, true, true, false, false⟩) (fun _ => none) (fun _ => rfl) (fun w => left (left w)) (by decide) rfl
theorem genTagReuseWaitEnd (part : Nat) : Statement (.genTagReuseWaitEnd part) := other fun _ => rfl
theorem partRelease (r : Req) (part : Nat) : Statement (.partRelease r part) :=
  message (m := ⟨0x206, true, true, false, false⟩) (fun _ => none) (fun _ => rfl) (fun w => left w) (by decide) rfl
theorem consentSet (r : Req) (part : Nat) (token : Bytes) : Statement (.consentSet r part token) :=
  message (m := ⟨0x207, true, true, true, false⟩) (fun _ => some part) (fun _ => rfl) (fun w => left (left w)) (by decide) rfl
theorem consentClear (r : Req) (part : Nat) : Statement (.consentClear r part) :=
  message (m := ⟨0x208, true, true, true, false⟩) (fun _ => some part) (fun _ => rfl) (fun w => left w) (by decide) rfl
theorem partQuery (r : Req) (part : Nat) : Statement (.partQuery r part) :=
  message (m := ⟨0x209, false, true, true, false⟩) (fun _ => some part) (fun _ => rfl) (fun w => left w) (by decide) rfl
theorem dossierRead (r : Req) (part off : Nat) : Statement (.dossierRead r part off) :=
  message (m := ⟨0x20A, false, true, false, false⟩) (fun _ => none) (fun _ => rfl) (fun w => left (left w)) (by decide) rfl
theorem jobAbort (r : Req) (job : Nat) : Statement (.jobAbort r job) :=
  message (m := ⟨0x20B, true, true, false, false⟩) (fun _ => none) (fun _ => rfl) (fun w => left w) (by decide) rfl
theorem extAdd (r : Req) (a : ExtAddArgs) : Statement (.extAdd r a) :=
  message (m := ⟨0x301, true, true, false, false⟩) (fun _ => none) (fun _ => rfl) (fun w => left w) (by decide) rfl
theorem extPresent (r : Req) (a : ExtPresentArgs) : Statement (.extPresent r a) :=
  message (m := ⟨0x302, true, true, false, false⟩) (fun _ => none) (fun _ => rfl) (fun w => left w) (by decide) rfl
theorem extMirror (r : Req) (ext target : Nat) : Statement (.extMirror r ext target) :=
  message (m := ⟨0x303, true, true, false, false⟩) (fun _ => none) (fun _ => rfl) (fun w => left (left w)) (by decide) rfl
theorem extRevoke (r : Req) (home ext disp forcedUs : Nat) : Statement (.extRevoke r home ext disp forcedUs) :=
  message (m := ⟨0x304, true, true, false, false⟩) (fun _ => none) (fun _ => rfl) (fun w => left (left (left (left w)))) (by decide) rfl
theorem extShackle (r : Req) (ext part job tenant fva : Nat) : Statement (.extShackle r ext part job tenant fva) :=
  message (m := ⟨0x305, true, true, false, false⟩) (fun _ => none) (fun _ => rfl) (fun w => left (left (left (left (left w))))) (by decide) rfl
theorem extQuery (r : Req) (home ext kind : Nat) : Statement (.extQuery r home ext kind) :=
  message (m := ⟨0x306, false, true, false, false⟩) (fun _ => none) (fun _ => rfl) (fun w => left (left (left w))) (by decide) rfl
theorem xltMap (r : Req) (part fva pageLog2 : Nat) (leaves : List (BitVec 128)) : Statement (.xltMap r part fva pageLog2 leaves) :=
  message (m := ⟨0x401, true, false, true, false⟩) (fun _ => some part) (fun _ => rfl) (fun w => left (left (left (left w)))) (by decide) rfl
theorem xltUnmap (r : Req) (part fva bytes : Nat) : Statement (.xltUnmap r part fva bytes) :=
  message (m := ⟨0x402, true, false, true, false⟩) (fun _ => some part) (fun _ => rfl) (fun w => left (left (left w))) (by decide) rfl
theorem xltInval (r : Req) (part : Nat) (all : Bool) (fva bytes : Nat) : Statement (.xltInval r part all fva bytes) :=
  message (m := ⟨0x403, true, false, true, false⟩) (fun _ => some part) (fun _ => rfl) (fun w => left (left (left w))) (by decide) rfl
theorem xltInvalDrainDone (src : Src) : Statement (.xltInvalDrainDone src) := other fun _ => rfl
theorem xltQuery (r : Req) (part fva : Nat) : Statement (.xltQuery r part fva) :=
  message (m := ⟨0x404, false, true, true, false⟩) (fun _ => some part) (fun _ => rfl) (fun w => left (left w)) (by decide) rfl
theorem queCreate (r : Req) (a : QueArgs) : Statement (.queCreate r a) :=
  message (m := ⟨0x411, true, false, true, false⟩) (fun s => queOwner s a.q) (fun _ => rfl) (fun w => left w) (by decide) rfl
theorem queResume (r : Req) (q : Nat) : Statement (.queResume r q) :=
  message (m := ⟨0x412, true, false, true, false⟩) (fun s => queOwner s q) (fun _ => rfl) (fun w => left w) (by decide) rfl
theorem queDestroy (r : Req) (q : Nat) : Statement (.queDestroy r q) :=
  message (m := ⟨0x413, true, false, true, false⟩) (fun s => queOwner s q) (fun _ => rfl) (fun w => left w) (by decide) rfl
theorem queQuery (r : Req) (q : Nat) : Statement (.queQuery r q) :=
  message (m := ⟨0x414, false, false, true, false⟩) (fun s => queOwner s q) (fun _ => rfl) (fun w => left w) (by decide) rfl
theorem grpCreate (r : Req) (p : GrpParams) : Statement (.grpCreate r p) :=
  message (m := ⟨0x501, true, true, false, false⟩) (fun _ => none) (fun _ => rfl) (fun w => left w) (by decide) rfl
theorem grpMembers (r : Req) (ctx first : Nat) (epids : List Nat) : Statement (.grpMembers r ctx first epids) :=
  message (m := ⟨0x502, true, true, false, false⟩) (fun _ => none) (fun _ => rfl) (fun w => left (left (left w))) (by decide) rfl
theorem grpHosts (r : Req) (ctx : Nat) (entries : List HostEntry) : Statement (.grpHosts r ctx entries) :=
  message (m := ⟨0x503, true, true, false, false⟩) (fun _ => none) (fun _ => rfl) (fun w => left (left w)) (by decide) rfl
theorem grpArm (r : Req) (ctx : Nat) : Statement (.grpArm r ctx) :=
  message (m := ⟨0x504, true, true, false, false⟩) (fun _ => none) (fun _ => rfl) (fun w => left w) (by decide) rfl
theorem grpDestroy (r : Req) (ctx : Nat) : Statement (.grpDestroy r ctx) :=
  message (m := ⟨0x505, true, true, false, false⟩) (fun _ => none) (fun _ => rfl) (fun w => left w) (by decide) rfl
theorem grpQuery (r : Req) (ctx : Nat) : Statement (.grpQuery r ctx) :=
  message (m := ⟨0x506, false, true, false, false⟩) (fun _ => none) (fun _ => rfl) (fun w => left w) (by decide) rfl
theorem epidAssign (r : Req) (epid kind attach home : Nat) : Statement (.epidAssign r epid kind attach home) :=
  message (m := ⟨0x601, true, true, false, false⟩) (fun _ => none) (fun _ => rfl) (fun w => left (left (left (left w)))) (by decide) rfl
theorem epidRelease (r : Req) (epid : Nat) : Statement (.epidRelease r epid) :=
  message (m := ⟨0x602, true, true, false, false⟩) (fun _ => none) (fun _ => rfl) (fun w => left w) (by decide) rfl
theorem treeWrite (r : Req) (tree : Nat) (e : TreeEntry) : Statement (.treeWrite r tree e) :=
  message (m := ⟨0x603, true, true, false, false⟩) (fun _ => none) (fun _ => rfl) (fun w => left (left w)) (by decide) rfl
theorem treeClear (r : Req) (tree : Nat) : Statement (.treeClear r tree) :=
  message (m := ⟨0x604, true, true, false, false⟩) (fun _ => none) (fun _ => rfl) (fun w => left w) (by decide) rfl
theorem anaSet (r : Req) (a : AnaArgs) : Statement (.anaSet r a) :=
  message (m := ⟨0x605, true, true, false, false⟩) (fun _ => none) (fun _ => rfl) (fun w => left w) (by decide) rfl
theorem anaConsent (r : Req) (token : Bytes) : Statement (.anaConsent r token) :=
  message (m := ⟨0x606, true, true, false, false⟩) (fun _ => none) (fun _ => rfl) (fun w => left w) (by decide) rfl
theorem anaClear (r : Req) (all disable : Bool) (job : Nat) : Statement (.anaClear r all disable job) :=
  message (m := ⟨0x607, true, true, false, false⟩) (fun _ => none) (fun _ => rfl) (fun w => left w) (by decide) rfl
theorem fabQuery (r : Req) (kind idx : Nat) : Statement (.fabQuery r kind idx) :=
  message (m := ⟨0x608, false, true, false, false⟩) (fun _ => none) (fun _ => rfl) (fun w => left (left w)) (by decide) rfl
theorem powerLit (r : Req) : Statement (.powerLit r) :=
  message (m := ⟨0x701, true, true, false, false⟩) (fun _ => none) (fun _ => rfl) (fun w => w) (by decide) rfl
theorem powerDark (r : Req) : Statement (.powerDark r) :=
  message (m := ⟨0x702, true, true, false, false⟩) (fun _ => none) (fun _ => rfl) (fun w => w) (by decide) rfl
theorem selftest (r : Req) (kind port : Nat) : Statement (.selftest r kind port) :=
  message (m := ⟨0x703, true, true, false, false⟩) (fun _ => none) (fun _ => rfl) (fun w => left (left w)) (by decide) rfl
theorem logRead (r : Req) (entry count : Nat) : Statement (.logRead r entry count) :=
  message (m := ⟨0x801, false, true, false, false⟩) (fun _ => none) (fun _ => rfl) (fun w => left (left w)) (by decide) rfl
theorem ageRead (r : Req) (off : Nat) : Statement (.ageRead r off) :=
  message (m := ⟨0x802, false, true, false, false⟩) (fun _ => none) (fun _ => rfl) (fun w => left w) (by decide) rfl
theorem traceSet (r : Req) (part : Nat) (mask : Bytes) : Statement (.traceSet r part mask) :=
  message (m := ⟨0x803, true, true, false, false⟩) (fun _ => none) (fun _ => rfl) (fun w => left (left w)) (by decide) rfl
theorem identify (port : Fin 16) : Statement (.identify port) := other fun _ => rfl
theorem getSupportedLogs (port : Fin 16) : Statement (.getSupportedLogs port) := other fun _ => rfl
theorem getLog (port : Fin 16) : Statement (.getLog port) := other fun _ => rfl
theorem getEventRecords (port : Fin 16) : Statement (.getEventRecords port) := other fun _ => rfl
theorem clearEventRecords (port : Fin 16) (handles : List Nat) : Statement (.clearEventRecords port handles) := other fun _ => rfl
theorem getDynamicCapacityConfiguration (port : Fin 16) : Statement (.getDynamicCapacityConfiguration port) := other fun _ => rfl
theorem addDynamicCapacityResponse (port : Fin 16) (home ext : Nat) (accept : Bool) : Statement (.addDynamicCapacityResponse port home ext accept) := other fun _ => rfl
theorem presentAnswerTimeout (attach home ext : Nat) : Statement (.presentAnswerTimeout attach home ext) := other fun _ => rfl
theorem releaseDynamicCapacity (port : Fin 16) (home ext : Nat) : Statement (.releaseDynamicCapacity port home ext) := other fun _ => rfl
theorem spdmRequest (port : Fin 16) (falcon mlkem : Bool) : Statement (.spdmRequest port falcon mlkem) := other fun _ => rfl
theorem ideKeyManagement (port : Fin 16) (enable : Bool) : Statement (.ideKeyManagement port enable) := other fun _ => rfl
theorem doorbell (a : RAcc) (q : Nat) (value : DWord) (viaBar : Bool) : Statement (.doorbell a q value viaBar) := other fun _ => rfl
theorem nop (q : Nat) (d : Desc) : Statement (.nop q d) := other fun _ => rfl
theorem put (q : Nat) (d : Desc) : Statement (.put q d) := other fun _ => rfl
theorem get (q : Nat) (d : Desc) : Statement (.get q d) := other fun _ => rfl
theorem copyTile (q : Nat) (d : Desc) : Statement (.copyTile q d) := other fun _ => rfl
theorem atomic (q : Nat) (d : Desc) : Statement (.atomic q d) := other fun _ => rfl
theorem wait (q : Nat) (d : Desc) : Statement (.wait q d) := other fun _ => rfl
theorem fence (q : Nat) (d : Desc) : Statement (.fence q d) := other fun _ => rfl
theorem signal (q : Nat) (d : Desc) : Statement (.signal q d) := other fun _ => rfl
theorem coll (q : Nat) (d : Desc) : Statement (.coll q d) := other fun _ => rfl
theorem epochClose (q : Nat) (d : Desc) : Statement (.epochClose q d) := other fun _ => rfl
theorem epochCloseDrainDone (part : Nat) : Statement (.epochCloseDrainDone part) := other fun _ => rfl
theorem quantumGrant (engine : Fin 32) (q : Nat) : Statement (.quantumGrant engine q) := other fun _ => rfl
theorem quantumEnd (engine : Fin 32) : Statement (.quantumEnd engine) := other fun _ => rfl
theorem tableWalkDone (part fva : Nat) (uncorrectable : Bool) : Statement (.tableWalkDone part fva uncorrectable) := other fun _ => rfl
theorem prefetchReply (id : Nat) (data : Bytes) (valid : List Bool) : Statement (.prefetchReply id data valid) := other fun _ => rfl
theorem prefetchTimeout (id : Nat) : Statement (.prefetchTimeout id) := other fun _ => rfl
theorem cxlMemLoad (m : MemReq) (snp : Snp) : Statement (.cxlMemLoad m snp) := other fun _ => rfl
theorem cxlMemStore (m : MemReq) (mask : List Bool) (data : Bytes) (mv : MetaVal) : Statement (.cxlMemStore m mask data mv) := other fun _ => rfl
theorem biRsp (port : Fin 16) (line : Nat) (keepShared : Bool) : Statement (.biRsp port line keepShared) := other fun _ => rfl
theorem biTimeout (line : Nat) (attach : Nat) : Statement (.biTimeout line attach) := other fun _ => rfl
theorem cxlIoCompletion (id : Nat) (ok : Bool) (data : Bytes) : Statement (.cxlIoCompletion id ok data) := other fun _ => rfl
theorem cxlIoTimeout (id : Nat) : Statement (.cxlIoTimeout id) := other fun _ => rfl
theorem landingCounterRead (port : Fin 16) (off size : Nat) : Statement (.landingCounterRead port off size) := other fun _ => rfl
theorem hdmDecoderCommit (port : Fin 16) (r : Fin 4) (d : Decoder) : Statement (.hdmDecoderCommit port r d) := other fun _ => rfl
theorem biEnable (port : Fin 16) (on : Bool) : Statement (.biEnable port on) := other fun _ => rfl
theorem perstNAssert (port : Fin 16) : Statement (.perstNAssert port) := other fun _ => rfl
theorem perstNRelease (port : Fin 16) : Statement (.perstNRelease port) := other fun _ => rfl
theorem hotReset (port : Fin 16) : Statement (.hotReset port) := other fun _ => rfl
theorem functionLevelReset (port : Fin 16) : Statement (.functionLevelReset port) := other fun _ => rfl
theorem cxlReset (port : Fin 16) : Statement (.cxlReset port) := other fun _ => rfl
theorem cxlLinkUp (port : Fin 16) (width : Nat) (fullRate : Bool) : Statement (.cxlLinkUp port width fullRate) := other fun _ => rfl
theorem cxlTrainRetry (port : Fin 16) (width : Nat) (fullRate : Bool) : Statement (.cxlTrainRetry port width fullRate) := other fun _ => rfl
theorem l0pRequest (port : Fin 16) (width : Nat) : Statement (.l0pRequest port width) := other fun _ => rfl
theorem loopbackDirected (port : Fin 16) : Statement (.loopbackDirected port) := other fun _ => rfl
theorem ideIntegrityFailure (port : Fin 16) : Statement (.ideIntegrityFailure port) := other fun _ => rfl
theorem phyPllLoss (port : Fin 64) : Statement (.phyPllLoss port) := other fun _ => rfl
theorem phyPllRelock (port : Fin 64) : Statement (.phyPllRelock port) := other fun _ => rfl
theorem woquelImageRead (flash : Option Bytes) : Statement (.woquelImageRead flash) := other fun _ => rfl
theorem identityRegenerated (ok : Bool) : Statement (.identityRegenerated ok) := other fun _ => rfl
theorem governorTick (demand draw vin tj gddr : Nat) : Statement (.governorTick demand draw vin tj gddr) := other fun _ => rfl
theorem capCommand (a : RAcc) (value : Word) : Statement (.capCommand a value) := other fun _ => rfl
theorem portIdle (port : Fin 64) : Statement (.portIdle port) := other fun _ => rfl
theorem unitGateIdle (unit : Nat) : Statement (.unitGateIdle unit) := other fun _ => rfl
theorem clkGateOffReq (a : RAcc) (value : Word) : Statement (.clkGateOffReq a value) := other fun _ => rfl
theorem clkObsWrite (a : RAcc) (value : Word) : Statement (.clkObsWrite a value) := other fun _ => rfl
theorem hltPlanRun (a : RAcc) (value : Word) : Statement (.hltPlanRun a value) := other fun _ => rfl
theorem patrolRead (addr : Nat) (flips : List (Nat × Nat)) : Statement (.patrolRead addr flips) := other fun _ => rfl
theorem sramVminTest (slice : Fin 256) (mv : Nat) : Statement (.sramVminTest slice mv) := other fun _ => rfl
theorem sensorUpdate (addr : BitVec 32) (value : Word) : Statement (.sensorUpdate addr value) := other fun _ => rfl
theorem moduleFault (addr : Nat) (region : Nat) : Statement (.moduleFault addr region) := other fun _ => rfl
theorem flitReceived (port : Fin 64) (flit : Bytes) : Statement (.flitReceived port flit) := other fun _ => rfl
theorem replayTimeout (port : Fin 64) : Statement (.replayTimeout port) := other fun _ => rfl
theorem linkNop (port : Fin 64) : Statement (.linkNop port) := other fun _ => rfl
theorem train (port : Fin 64) (nbr nbrPort lanes minLanes map : Nat) : Statement (.train port nbr nbrPort lanes minLanes map) := other fun _ => rfl
theorem swapReq (port : Fin 64) (dir : Bool) (lane src dst : Nat) (failed : Bool) : Statement (.swapReq port dir lane src dst failed) := other fun _ => rfl
theorem swapDone (port : Fin 64) (dir : Bool) (lane dst lseq : Nat) : Statement (.swapDone port dir lane dst lseq) := other fun _ => rfl
theorem swapAbort (port : Fin 64) (dir : Bool) (lane reason : Nat) : Statement (.swapAbort port dir lane reason) := other fun _ => rfl
theorem calStart (port : Fin 64) (w : Nat) : Statement (.calStart port w) := other fun _ => rfl
theorem calEnd (port : Fin 64) (w : Nat) (retired : Bool) : Statement (.calEnd port w retired) := other fun _ => rfl
theorem lanes (port : Fin 64) (dir : Bool) (count map lseq : Nat) : Statement (.lanes port dir count map lseq) := other fun _ => rfl
theorem wavelengthFailure (port : Fin 64) (w : Fin 9) : Statement (.wavelengthFailure port w) := other fun _ => rfl
theorem swapCheckDone (port : Fin 64) (ok : Bool) : Statement (.swapCheckDone port ok) := other fun _ => rfl
theorem swapTimeout (port : Fin 64) : Statement (.swapTimeout port) := other fun _ => rfl
theorem spareRotation (port : Fin 64) : Statement (.spareRotation port) := other fun _ => rfl
theorem calMeasureDone (port : Fin 64) (ok : Bool) : Statement (.calMeasureDone port ok) := other fun _ => rfl
theorem trainingStepDone (port : Fin 64) (passing margins : List Nat) : Statement (.trainingStepDone port passing margins) := other fun _ => rfl
theorem trainingRetry (port : Fin 64) : Statement (.trainingRetry port) := other fun _ => rfl
theorem optPortEnable (a : RAcc) (port : Fin 64) (value : Word) : Statement (.optPortEnable a port value) := other fun _ => rfl
theorem optPortRetrain (a : RAcc) (port : Fin 64) (value : Word) : Statement (.optPortRetrain a port value) := other fun _ => rfl
theorem cxlPortRetrain (a : RAcc) (port : Fin 16) (value : Word) : Statement (.cxlPortRetrain a port value) := other fun _ => rfl
theorem portStateChange (port : Fin 64) : Statement (.portStateChange port) := other fun _ => rfl
theorem lsaReceived (port : Fin 64) (l : Lsa) : Statement (.lsaReceived port l) := other fun _ => rfl
theorem lsaAgeOut (origin : Nat) : Statement (.lsaAgeOut origin) := other fun _ => rfl
theorem lostFlowFree (module : Nat) : Statement (.lostFlowFree module) := other fun _ => rfl
theorem flowIdleClose (src dst vc : Nat) : Statement (.flowIdleClose src dst vc) := other fun _ => rfl
theorem retxDue (src dst vc : Nat) : Statement (.retxDue src dst vc) := other fun _ => rfl
theorem dupSuppressExpiry (src wid : Nat) : Statement (.dupSuppressExpiry src wid) := other fun _ => rfl
theorem packetExpiry (src dst vc seq : Nat) : Statement (.packetExpiry src dst vc seq) := other fun _ => rfl
theorem noRouteExpiry (src dst vc seq : Nat) : Statement (.noRouteExpiry src dst vc seq) := other fun _ => rfl
theorem fabricPacketTransit (port : Fin 64) (p : Pkt) (n : Nat) : Statement (.fabricPacketTransit port p n) := other fun _ => rfl
theorem fabricWrite (port : Option (Fin 64)) (e : Env) (b : WriteBody) : Statement (.fabricWrite port e b) := other fun _ => rfl
theorem fabricReadRequest (port : Option (Fin 64)) (e : Env) (b : ReadBody) : Statement (.fabricReadRequest port e b) := other fun _ => rfl
theorem atomicRequest (port : Option (Fin 64)) (e : Env) (b : AtomBody) : Statement (.atomicRequest port e b) := other fun _ => rfl
theorem signalArrival (port : Option (Fin 64)) (e : Env) (ctr value : Nat) : Statement (.signalArrival port e ctr value) := other fun _ => rfl
theorem reply (port : Option (Fin 64)) (e : Env) (status : Nat) (data : Bytes) (valid : List Bool) : Statement (.reply port e status data valid) := other fun _ => rfl
theorem acknowledgement (port : Option (Fin 64)) (e : Env) (status : Nat) : Statement (.acknowledgement port e status) := other fun _ => rfl
theorem deliveryReport (port : Option (Fin 64)) (e : Env) (excluded : Bool) : Statement (.deliveryReport port e excluded) := other fun _ => rfl
theorem flowClose (port : Option (Fin 64)) (e : Env) : Statement (.flowClose port e) := other fun _ => rfl
theorem redirectRequest (port : Option (Fin 64)) (e : Env) (b : Body) : Statement (.redirectRequest port e b) := other fun _ => rfl
theorem redirectWaitExpiry (src dst vc seq : Nat) : Statement (.redirectWaitExpiry src dst vc seq) := other fun _ => rfl
theorem mirrorWrite (port : Option (Fin 64)) (e : Env) (b : MirrorBody) : Statement (.mirrorWrite port e b) := other fun _ => rfl
theorem rebuildStep (port : Option (Fin 64)) (e : Env) (b : RebuildBody) : Statement (.rebuildStep port e b) := other fun _ => rfl
theorem mirrorControl (port : Option (Fin 64)) (e : Env) (m : MirrorCtl) : Statement (.mirrorControl port e m) := other fun _ => rfl
theorem unprotectedRefusal (port : Option (Fin 64)) (e : Env) : Statement (.unprotectedRefusal port e) := other fun _ => rfl
theorem multicastLeg (port : Option (Fin 64)) (e : Env) (b : Body) : Statement (.multicastLeg port e b) := other fun _ => rfl
theorem deadboltMessage (port : Fin 64) (m : Deadbolt) : Statement (.deadboltMessage port m) := other fun _ => rfl
theorem requestTimeout (src wid : Nat) : Statement (.requestTimeout src wid) := other fun _ => rfl
theorem header (port : Option (Fin 64)) (e : Env) (level vertex : Nat) (left : Bool) (r : CollRec) (cop : CollOp) : Statement (.header port e level vertex left r cop) := other fun _ => rfl
theorem contribution (port : Option (Fin 64)) (e : Env) (b : ChunkBody) : Statement (.contribution port e b) := other fun _ => rfl
theorem resultChunk (port : Option (Fin 64)) (e : Env) (b : ResultBody) : Statement (.resultChunk port e b) := other fun _ => rfl
theorem done (port : Option (Fin 64)) (e : Env) (r : CollRec) : Statement (.done port e r) := other fun _ => rfl
theorem go (port : Option (Fin 64)) (e : Env) (r : CollRec) : Statement (.go port e r) := other fun _ => rfl
theorem allToAllReport (port : Option (Fin 64)) (e : Env) (r : CollRec) : Statement (.allToAllReport port e r) := other fun _ => rfl
theorem cause (port : Option (Fin 64)) (e : Env) (r : CollRec) : Statement (.cause port e r) := other fun _ => rfl
theorem abort (port : Option (Fin 64)) (e : Env) (r : CollRec) : Statement (.abort port e r) := other fun _ => rfl
theorem arrivalTimeout (ctx seq level vertex : Nat) : Statement (.arrivalTimeout ctx seq level vertex) := other fun _ => rfl
theorem forcedRevokeTimeout (kind ext : Nat) : Statement (.forcedRevokeTimeout kind ext) := other fun _ => rfl
theorem revokeDrainDone (kind ext : Nat) : Statement (.revokeDrainDone kind ext) := other fun _ => rfl
theorem scrubDone (kind ext : Nat) : Statement (.scrubDone kind ext) := other fun _ => rfl
theorem reportResend (l : Link) : Statement (.reportResend l) := other fun _ => rfl
theorem fltPop (a : RAcc) (value : Word) : Statement (.fltPop a value) := other fun _ => rfl
theorem fltStatLostClear (a : RAcc) (value : Word) : Statement (.fltStatLostClear a value) := other fun _ => rfl
theorem latchSnap (a : RAcc) (value : Word) : Statement (.latchSnap a value) := other fun _ => rfl
theorem unlock (a : RAcc) (key : Word) : Statement (.unlock a key) := other fun _ => rfl
theorem unlockLapse (a : Acc) : Statement (.unlockLapse a) := other fun _ => rfl
theorem indDataRead (a : RAcc) : Statement (.indDataRead a) := other fun _ => rfl
theorem indDataWrite (a : RAcc) (value : Word) : Statement (.indDataWrite a value) := other fun _ => rfl
theorem topTimeLoRead (a : RAcc) : Statement (.topTimeLoRead a) := other fun _ => rfl
theorem cfgcrcRefWrite (a : RAcc) (value : Word) : Statement (.cfgcrcRefWrite a value) := other fun _ => rfl
theorem setAliasWrite (a : RAcc) (off : Nat) (value : Word) : Statement (.setAliasWrite a off value) := other fun _ => rfl
theorem clrAliasWrite (a : RAcc) (off : Nat) (value : Word) : Statement (.clrAliasWrite a off value) := other fun _ => rfl
theorem tglAliasWrite (a : RAcc) (off : Nat) (value : Word) : Statement (.tglAliasWrite a off value) := other fun _ => rfl
theorem registerWrite (a : RAcc) (off : Nat) (value : Word) : Statement (.registerWrite a off value) := other fun _ => rfl
theorem dbgNop (frameOk : Bool) : Statement (.dbgNop frameOk) := other fun _ => rfl
theorem halt (frameOk : Bool) (target : Nat) : Statement (.halt frameOk target) := other fun _ => rfl
theorem resume (frameOk : Bool) (target : Nat) : Statement (.resume frameOk target) := other fun _ => rfl
theorem step (frameOk : Bool) (target : Nat) : Statement (.step frameOk target) := other fun _ => rfl
theorem bpSet (frameOk : Bool) (target addr data : Nat) : Statement (.bpSet frameOk target addr data) := other fun _ => rfl
theorem bpClear (frameOk : Bool) (target data : Nat) : Statement (.bpClear frameOk target data) := other fun _ => rfl
theorem breakpointHit (core : Fin 16) (n : Fin 8) : Statement (.breakpointHit core n) := other fun _ => rfl
theorem coreRd (frameOk : Bool) (target addr : Nat) : Statement (.coreRd frameOk target addr) := other fun _ => rfl
theorem coreWr (frameOk : Bool) (target addr data : Nat) : Statement (.coreWr frameOk target addr data) := other fun _ => rfl
theorem memRd (frameOk : Bool) (addr : Nat) : Statement (.memRd frameOk addr) := other fun _ => rfl
theorem memWr (frameOk : Bool) (addr : Nat) (data : Word) : Statement (.memWr frameOk addr data) := other fun _ => rfl
theorem regRd (frameOk : Bool) (addr : Nat) : Statement (.regRd frameOk addr) := other fun _ => rfl
theorem regWr (frameOk : Bool) (addr : Nat) (data : Word) : Statement (.regWr frameOk addr data) := other fun _ => rfl
theorem partRd (frameOk : Bool) (target addr : Nat) : Statement (.partRd frameOk target addr) := other fun _ => rfl
theorem partWr (frameOk : Bool) (target addr : Nat) (data : Word) : Statement (.partWr frameOk target addr data) := other fun _ => rfl
theorem partReleaseScrubDone (part : Nat) : Statement (.partReleaseScrubDone part) := other fun _ => rfl
theorem aspmL1Exit (port : Fin 16) : Statement (.aspmL1Exit port) := other fun _ => rfl
theorem cxlLinkDown (port : Fin 16) (width : Nat) : Statement (.cxlLinkDown port width) := other fun _ => rfl
theorem fwSessionTimeout : Statement (.fwSessionTimeout) := other fun _ => rfl
theorem trayReleaseAssert : Statement (.trayReleaseAssert) := other fun _ => rfl
theorem trayReleaseDeassert : Statement (.trayReleaseDeassert) := other fun _ => rfl
theorem pwrBrakeAssert : Statement (.pwrBrakeAssert) := other fun _ => rfl
theorem pwrBrakeRelease : Statement (.pwrBrakeRelease) := other fun _ => rfl
theorem powerApplied : Statement (.powerApplied) := other fun _ => rfl
theorem inputLow : Statement (.inputLow) := other fun _ => rfl
theorem inputBrake : Statement (.inputBrake) := other fun _ => rfl
theorem inputRecover : Statement (.inputRecover) := other fun _ => rfl
theorem inputOff : Statement (.inputOff) := other fun _ => rfl
theorem inputHigh : Statement (.inputHigh) := other fun _ => rfl
theorem thermalCeiling : Statement (.thermalCeiling) := other fun _ => rfl
theorem thermalRelease : Statement (.thermalRelease) := other fun _ => rfl
theorem thermalBrake : Statement (.thermalBrake) := other fun _ => rfl
theorem thermalShutdown : Statement (.thermalShutdown) := other fun _ => rfl
theorem thermalRestart : Statement (.thermalRestart) := other fun _ => rfl
theorem referencePresent : Statement (.referencePresent) := other fun _ => rfl
theorem rootPllLock : Statement (.rootPllLock) := other fun _ => rfl
theorem referenceLoss : Statement (.referenceLoss) := other fun _ => rfl
theorem rootRelock : Statement (.rootRelock) := other fun _ => rfl
theorem lightingDone : Statement (.lightingDone) := other fun _ => rfl
theorem darkeningDone : Statement (.darkeningDone) := other fun _ => rfl
theorem staggerExpiry : Statement (.staggerExpiry) := other fun _ => rfl
theorem lullHoldExpiry : Statement (.lullHoldExpiry) := other fun _ => rfl
theorem marginPlanDaily : Statement (.marginPlanDaily) := other fun _ => rfl
theorem gddrDeferredRetrain : Statement (.gddrDeferredRetrain) := other fun _ => rfl
theorem healthSecond : Statement (.healthSecond) := other fun _ => rfl
theorem healthHour : Statement (.healthHour) := other fun _ => rfl
theorem lsaPeriodic : Statement (.lsaPeriodic) := other fun _ => rfl
theorem repairHoldEnd : Statement (.repairHoldEnd) := other fun _ => rfl
theorem isolationTimeout : Statement (.isolationTimeout) := other fun _ => rfl
theorem ccWindowEnd : Statement (.ccWindowEnd) := other fun _ => rfl
theorem hingeTimeout : Statement (.hingeTimeout) := other fun _ => rfl
theorem fwmHingeAccept : Statement (.fwmHingeAccept) := other fun _ => rfl
theorem fwmHingeReject : Statement (.fwmHingeReject) := other fun _ => rfl
theorem cfgcrcPass : Statement (.cfgcrcPass) := other fun _ => rfl
theorem dbgEnRise : Statement (.dbgEnRise) := other fun _ => rfl
theorem dbgEnFall : Statement (.dbgEnFall) := other fun _ => rfl
theorem marginPlanDone : Statement (.marginPlanDone) := other fun _ => rfl
theorem thermalBrakeRelease : Statement (.thermalBrakeRelease) := other fun _ => rfl

end Sys2Proof.Laws.MessageFields
end

