-- ==== Sys2Proof/Laws/Xlat.lean ====
section
/-! SUPPORT. What the operations on translation tables do (R93, R97). -/

namespace Sys2Proof.Machine

/-- Where a partition's budget has room for a table and a place is found, the table is allocated there: its bytes are readable, and it is among the
partition's tables at its level. -/
theorem allocTable_some {p lv : Nat} {s : State} {n a : Nat} {us : List (Nat × Nat)} (hn : (2 ^ 37 - (poolTop s + 2 ^ 21)) / tableSize lv = n)
    (hu : placed s = us) (hb : tableBytes (part s p) + tableSize lv ≤ (part s p).prm.budget * 8192)
    (ha : findPlace (poolTop s + 2 ^ 21) (tableSize lv) n us (64 * us.length + 1) (Config.freeValue s.seed % n) = some a) :
    allocTable p lv s = some (a, readable a (tableSize lv)
      (setPart { s with seed := s.seed + 1 } p { part s p with tabs := (part s p).tabs.ins a lv })) := by
  subst hn hu
  have h : placed { s with seed := s.seed + 1 } = placed s := rfl
  simp only [allocTable, freeVal, h, if_neg (Nat.not_lt.mpr hb), ha]

/-- Where no table is placed, the first place asked for is free. -/
theorem findPlace_alone (base size n f k : Nat) : findPlace base size n [] (f + 1) k = some (base + size * (k % n)) := rfl

end Sys2Proof.Machine
end

