-- ==== Sys2Proof/Machine/Flags.lean ====
section
/-! DEFINITION. The output pins that the state decides (R369, R412, R418, R448, R484, R485). An output that no conversion supplies floats:
`none`. -/

namespace Sys2Proof.Machine

/-- The open-drain outputs float while every conversion output is off (R400, R412, R485). -/
def pinsFloat (s : State) : Bool := !s.sys.conv || s.sys.aonOnly

/-- An open-drain output: `some false` while it is driven low, `some true` while it is released, `none` while it floats. -/
def openDrain (s : State) (low : Bool) : Option Bool := if pinsFloat s then none else some (!low)

/-- A link holds an unacknowledged report, or a fault record waits and no firmware runs (R484). -/
def alertLow (s : State) : Bool := !s.fw.repA.isEmpty || !s.fw.repB.isEmpty || (!s.flt.q.isEmpty && !fwRuns s)

/-- ALERT_N (R484, R485). -/
def alertN (s : State) : Option Bool := openDrain s (alertLow s)

/-- THERM_N: low under the thermal ceiling, and from TJ 110 °C up (R412, R484, R485). -/
def thermN (s : State) : Option Bool := openDrain s (s.pwr.thermal || decide (110 ≤ s.pwr.tj))

/-- PRESENT_N is tied to ground inside the module (R484). -/
def presentN : Bool := false

/-- CLKOBS: the source that the output carries (1 to 9) and its divisor, once the change of selection is over; none while it is off (R418,
R426). -/
def clkObs (s : State) : Option (Nat × Nat) :=
  let v := (cfgReg s 0x10004).toNat
  let src := bitsOf v 3 0
  if src = 0 ∨ 9 < src then none else some (src, bitsOf v 15 4 + 1)

end Sys2Proof.Machine
end

