-- ==== Sys2Proof/Tests/Slice0.lean ====
section
/-! SUPPORT. Tests: a state in which each statement's hypotheses hold, clause by clause (wit_*); well-formed and ill-formed terms at the edge
of each check of WellFormed (smoke_*); the manual's worked examples and single steps whose results the manual gives (test_*). -/

open Sys2Proof Sys2Proof.Machine
set_option maxRecDepth 20000

namespace Sys2Proof.Tests

/-- The next state of an outcome. -/
def nextOf (x : Host.Outcome State Fault Refusal) : Option State :=
  match x with
  | .next s => some s
  | _ => none

/-- Every condition of a list holds. -/
def holds (l : List Bool) : Bool := l.all id

/-- A module in service: clocks locked, image and identity accepted, firmware running, links lit, the lease with manager A. -/
def up : State := { State.reset with
  now := 1000000
  clk := { State.reset.clk with src := 2, refOk := true, rootLock := true }
  sys := { State.reset.sys with moduleId := 5, imgRead := true, imgOk := true, idOk := true, idDone := true,
                                attachMap := [0, 1] ++ List.replicate 14 31 }
  pwr := { State.reset.pwr with st := .lit }
  mgt := { State.reset.mgt with holder := some .a }
  fw := { State.reset.fw with img := some ⟨1, [], 0, 0, 0, 0, true⟩ } }

/-- A request of manager A, of manager B, and of the host of CXL port 0. -/
def ra : Req := ⟨.mgt .a, 1, 1, 0, 1, true⟩
def rb : Req := ⟨.mgt .b, 1, 1, 0, 1, true⟩
def rc : Req := ⟨.cxl 0, 1, 1, 0, 1, true⟩

/-- A leaf that may be read, written and operated on atomically, for an extent of this module. -/
def leaf5 : BitVec 128 := BitVec.ofNat 128 (31 + 5 * 2 ^ 53)

/-- The tables of a partition in the reserve for the pages of one level-4 table: index in the levels 2 and 3, its leaves by index. -/
def tabs4 : List (Nat × Nat) := [(2 ^ 37 - 2 ^ 20, 1), (2 ^ 37 - 2 ^ 19, 2), (2 ^ 37 - 2 ^ 18, 3), (2 ^ 37 - 2 ^ 17, 4)]
def ents4 (i2 i3 : Nat) (ls : List (Nat × BitVec 128)) : List (Nat × BitVec 128) :=
  [(2 ^ 37 - 2 ^ 20, ptrEntry (2 ^ 37 - 2 ^ 19)), (2 ^ 37 - 2 ^ 19 + 16 * i2, ptrEntry (2 ^ 37 - 2 ^ 18)),
   (2 ^ 37 - 2 ^ 18 + 16 * i3, ptrEntry (2 ^ 37 - 2 ^ 17))] ++ ls.map (fun e => (2 ^ 37 - 2 ^ 17 + 16 * e.1, e.2))

/-- A HOME record: 64 MiB from address 0. -/
def home0 : Ext := { Ext.init with st := .shackled, log2 := 26, home := 5, part := 1, job := 77, tenant := 9, mask := 1, accepted := 1 }

/-- A partition of four queues and four counters from number `4 n`. -/
def prm (n job : Nat) : PartParams :=
  { PartParams.none with part := n, jobTag := job, tenant := 9, qBase := 4 * n, qCount := 4, cBase := 4 * n, cCount := 4, budget := 16,
                         reqTimeout := 50, biTimeout := 5 }

/-- A CXL port whose link is up, with a decoder of 1 PiB in place 1. -/
def cxlUp : CxlPort :=
  { CxlPort.init with st := .up, width := 16, trained := 16, mem := true, perst := false, dec := [none, some ⟨0, 2 ^ 50, 1, 256, 0⟩, none, none] }

/-- A fabric port whose link is up, with a spare in both directions. -/
def optUp : OptPort :=
  { OptPort.init with st := .up, told := .up, nbr := some (6, 1), rx := { Dir.init with map := List.range 8, spare := some 8 },
                      tx := { Dir.init with map := List.range 8, spare := some 8 }, shared := 100, granted := 256 }

/-- A module with work: partition 1 ACTIVE in slot 1 of attachment 0, partition 2 IDLE, an extent at home, queue 4 of partition 1, the
endpoints of this module and of module 6, a CXL port and a fabric port up. -/
def rich : State := { up with
  parts := [(1, { Part.init with st := .active, gen := 3, prm := prm 1 77, binds := [(0, 1)], cur := some ⟨1, [], none⟩,
                                   tabs := tabs4, ents := ents4 0 0 [(0, leaf5)] }),
            (2, { Part.init with st := .idle, prm := prm 2 88 })]
  pool := { up.pool with ext := [(0, home0)], mem := [(3, 7#8)] }
  xlt := { up.xlt with cache := [⟨1, 0, 4, leaf5, 0, false⟩] }
  qs := { up.qs with ctx := [(4, { Que.init with st := .running, part := 1, weight := 1, sqBase := 4096, sqLog2 := 4, cqBase := 8192, cqLog2 := 4, tail := 3 })] }
  fab := { up.fab with
    ep := [(0, ⟨true, true, 1, 0, 5, false, 0, []⟩), (1, ⟨true, true, 0, 0, 5, false, 0, []⟩), (2, ⟨true, true, 2, 0, 5, false, 0, []⟩),
           (10, ⟨true, false, 1, 0, 6, false, 0, [(0, 1)]⟩)],
    homeMap := [(5, (0, false)), (6, (10, false))] }
  cxl := { up.cxl with ports := [(0, cxlUp)] }
  opt := [(0, optUp)] }

/-- A fault record. -/
def rec0 : FRec := ⟨1, 0, 0, none, 0, 0, 0, 0⟩

theorem test_idle_reset : nextOf (step State.reset) = some State.reset := by decide

/-! ### Where the hypotheses of the statements hold -/
theorem wit_StepRunsTheCommand : holds [{ up with pending := [.inputOff, .inputLow] }.pending = .inputOff :: [.inputLow]] = true := by decide

theorem wit_IdleStep :
    (let s := State.reset
     let t := { up with flt := ⟨[rec0], 1, false⟩ }
     holds [s.pending = [], s.fw.held = [], s.flt.q = [],
            t.pending = [], t.fw.held = [], t.flt.q = rec0 :: [], live t, fwRuns t, t.fw.hinge = none, t.fw.repA.length < 64]) = true := by
  decide

/-- A module whose RSV-P bit stands changed. -/
def changed : State := { up with regs := { up.regs with accs := [(0, ⟨1, false, false, 0, 0⟩)] } }

theorem wit_OnlyStop : unbound up = false ∧ exec .thermalRelease changed = .fault .notBound := ⟨by decide, by rfl⟩

theorem wit_NoPowerKept :
    (let s := { State.reset with sys := { State.reset.sys with conv := false }, pending := [.inputLow, .thermalRestart] }
     holds [noPower s, (nextOf (step s)).isSome]) = true := by decide

theorem wit_ShutDownKept :
    (let s := { rich with sys := { rich.sys with aonOnly := true }, pending := [.thermalCeiling, .pwrBrakeAssert] }
     holds [shutDown s, (nextOf (step s)).isSome]) = true := by decide

theorem wit_CanonicalMemoryKept :
    (let s := { rich with pending := [.cxlMemStore ⟨0, 64⟩ (List.replicate 64 true) (List.replicate 64 1#8) .any] }
     holds [s.pool.mem.wf 0#8, (nextOf (step s)).any (fun t => t.pool.mem.length == 65)]) = true := by decide

/-- Without firmware. -/
def bare : State := { up with fw := State.reset.fw }

theorem wit_MessageOrder :
    (let m : Msg := ⟨2, false, true, false, true⟩
     let lit : Msg := ⟨0x701, true, true, false, false⟩
     let row (s : State) (c : Instr) (r : Req) (m : Msg) := holds [live s, msgRow s c = some (r, m, none), reaches s r, s.fw.hinge = none]
     let r1 := { ra with major := 2 }
     let r2 := { ra with lenOk := false }
     holds [row rich (.mgtHeartbeat r1) r1 m, !versionOk rich r1,
            row rich (.mgtHeartbeat r2) r2 m, versionOk rich r2, !r2.lenOk,
            row bare (.powerLit ra) ra lit, versionOk bare ra, ra.lenOk, !fwRuns bare,
            row rich (.powerLit rb) rb lit, versionOk rich rb, fwRuns rich, leaseBad rich rb lit,
            row rich (.powerLit rc) rc lit, versionOk rich rc, !leaseBad rich rc lit, classBad rich rc lit none]) = true := by decide

/-- A link's last transaction, numbered 1, has been answered. -/
def told : State := { rich with mgt := { rich.mgt with last := [(0, (1, .resp (.mgt .a) 1 1 0 .ok []))] } }

/-- A response to transaction 9 of manager A, and one to the host of CXL port 0, are outstanding. -/
def owing : State := { rich with mgt := { rich.mgt with owed := [⟨.mgt .a, 9, 1, 0, 2, 0⟩, ⟨.cxl 0, 9, 1, 0, 1, 1⟩] } }

/-- A Hinge pause runs. -/
def paused : State := { rich with fw := { rich.fw with hinge := some ⟨2, [], 0, 0, 0, 0, true⟩ } }

theorem wit_MessagePort :
    (let m : Msg := ⟨2, false, true, false, true⟩
     let row (s : State) (r : Req) := holds [live s, msgRow s (.mgtHeartbeat r) = some (r, m, none)]
     let r3 := { ra with src := .cxl 15 }
     holds [row rich r3, !srcUp rich r3.src,
            row told ra, srcUp told ra.src, stored told ra = some (.resp (.mgt .a) 1 1 0 .ok []),
            row owing ra, srcUp owing ra.src, stored owing ra = none, owing.mgt.owed.all (fun o => o.txn ≠ ra.txn), busyPort owing ra.src,
            row owing rc, srcUp owing rc.src, busyPort owing rc.src,
            rich.mgt.holder = some .a, rich.mgt.holder ≠ some .b,
            row paused ra, reaches paused ra, paused.fw.hinge.isSome, m.opcode ≠ 7]) = true := by decide

theorem wit_StatusReads :
    holds [canRun rich (.getVersion ra), canRun bare (.getVersion ra), canRun rich (.fwStatus ra), canRun rich (.mgtHeartbeat rb),
           canRun rich (.attestGet ra []), rich.sys.idOk,
           (let s := { rich with sys := { rich.sys with idOk := false } }; canRun s (.attestGet ra []) && !s.sys.idOk),
           canRun rich (.logRead ra 0 1), canRun rich (.logRead ra 0 63), canRun rich (.logRead ra 0 0), canRun rich (.logRead ra 0 64),
           canRun rich (.ageRead ra 0), canRun rich (.reportAck ra 0), ra.src = .mgt .a, canRun rich (.reportAck rb 0), rb.src = .mgt .b,
           live rich] = true := by decide

theorem wit_LeaseChanges :
    (let free := { rich with mgt := { rich.mgt with holder := none } }
     let late := { rich with now := 300000000 }
     let due := { rich with now := 299999999 }
     holds [canRun free (.leaseTake rb), free.mgt.holder = none, free.mgt.holder ≠ some .b, free.fw.repB.length < 64,
            canRun rich (.leaseTake ra), rich.mgt.holder = some .a,
            canRun late (.leaseTake rb), late.mgt.heardNs + late.mgt.leaseMs * 1000000 ≤ late.now,
            canRun due (.leaseTake rb), due.mgt.holder = some .a, due.now < due.mgt.heardNs + due.mgt.leaseMs * 1000000,
            canRun rich (.leaseRelease ra), ra.src = .mgt .a, rb.src = .mgt .b]) = true := by decide

/-- A download session of manager A: an image of 4,096 bytes, an ageing record of 64. -/
def sess : Session := ⟨.mgt .a, 4096, 64, [], []⟩
def loading : State := { rich with fw := { rich.fw with session := some sess } }

theorem wit_DownloadSession :
    (let r4 := { rc with txn := 3 }
     holds [canRun rich (.fwBegin ra 4096 0), canRun rich (.fwBegin ra 12582912 0), !fwDenied rich ra, rich.sys.imgOk, rich.fw.session = none,
            fwRuns rich, canRun bare (.fwBegin ra 4096 1048576), !fwDenied bare r4, !fwRuns bare,
            canRun loading (.fwData ra 0 4094 [1#8, 2#8]), !fwDenied loading ra, loading.fw.session = some sess, sess.src = ra.src,
            4094 + 2 ≤ sess.imgLen, canRun loading (.fwData ra 1 64 []), canRun loading (.fwData ra 1 63 [1#8]), 63 + 1 ≤ sess.histLen,
            canRun loading (.fwAbort ra), live loading]) = true := by decide

theorem wit_PartitionSetup :
    (let c (s : State) (p : PartParams) := canRun s (.partSetup ra p)
     let p63 := { prm 3 99 with part := 63 }
     let spine := { rich with sys := { rich.sys with spine := true } }
     let rel := { rich with parts := rich.parts.ins 3 { Part.init with st := .releasing } }
     let wide := { p63 with qCount := 65537 }
     let same := { p63 with jobTag := 77 }
     let big := { p63 with budget := 2 ^ 20 - 1 }
     let ok (s : State) (p : PartParams) := holds [!setupRange p, !setupOverlap s p, !setupFull s p]
     holds [c rich p63, !rich.sys.spine, (part rich 63).st = .free, ok rich p63,
            c spine { p63 with qCount := 0, budget := 0 }, ok spine { p63 with qCount := 0, budget := 0 },
            canRun rich (.partBind ra 1 1 3), (part rich 1).st = .active, attachValid rich 1, partInSlot rich 1 3 = none, !boundTo rich 1 1,
            canRun rich (.partBind ra 2 0 0), (part rich 2).st = .idle, attachValid rich 0, partInSlot rich 0 0 = none, !boundTo rich 2 0,
            (let s := setPart rich 1 { part rich 1 with st := .idle }
             holds [canRun s (.partUnbind ra 1 0 1), (part s 1).st = .idle, (part s 1).binds.contains (0, 1), !presents s 1 1,
                    !presents { s with pool := up.pool } 1 0, canRun { s with pool := up.pool } (.partUnbind ra 1 0 1)]),
            holds [c spine p63, spine.sys.spine, p63.qCount ≠ 0,
            c rich { p63 with part := 64 },
            c rich (prm 1 99), (part rich 1).st ≠ .free, (part rich 1).st ≠ .releasing,
            c rel (prm 3 99), (part rel 3).st = .releasing,
            c rich wide, setupRange wide,
            c rich same, !setupRange same, setupOverlap rich same,
            c rich big, !setupRange big, !setupOverlap rich big, setupFull rich big]]) = true := by decide

theorem wit_KeyLoad :
    (let held := setPart rich 1 { part rich 1 with retired := [] }
     holds [canRun rich (.keyLoad ra 2 0 1 [] []), rich.sys.idOk, (part rich 2).st = .idle, rich.pool.ext.all (fun e => e.2.st ≠ .rebuilding), quiet rich,
            canRun held (.keyLoad ra 1 1 2 [] []), (part held 1).st = .active, !retiredRecently held 1, !samePhase held 1 2,
            canRun held (.keyLoad ra 1 1 3 [] []), samePhase held 1 3]) = true := by decide

/-- Partition 1 consents to TRACE. -/
def traced : State := setPart rich 1 { part rich 1 with consent := some [0#8, 0#8, 2#8] }

theorem wit_Consent :
    holds [canRun rich (.consentSet ra 1 []), (part rich 1).st = .active, canRun rich (.consentSet ra 2 []), (part rich 2).st = .idle,
           canRun rich (.consentSet rc 1 []),
           canRun rich (.consentClear ra 1), canRun traced (.traceSet ra 1 []), consents (part traced 1) 1,
           canRun rich (.traceSet ra 1 []), !consents (part rich 1) 1,
           canRun rich (.partQuery ra 63), canRun rich (.dossierRead ra 63 16383)] = true := by decide

theorem wit_ResetAndRelease :
    (let torn := setPart rich 1 { part rich 1 with st := .torn }
     let alone := { torn with pool := up.pool }
     let rel := setPart rich 1 { part rich 1 with st := .releasing }
     let wait := setPart rich 1 { part rich 1 with st := .releasing, retired := [(4, 999999)] }
     let two := setPart rich 1 { part rich 1 with st := .releasing, rst := some 2 }
     let again := setPart rich 1 { part rich 1 with st := .resetting, rst := some 3 }
     holds [canRun rich (.partReset ra 2 0), (part rich 2).st = .idle, canRun rich (.partReset ra 1 2), (part rich 1).st = .active,
            canRun torn (.partReset ra 1 1), (part torn 1).st = .torn,
            canRun rich (.partRelease ra 2), !stillHome rich 2, canRun alone (.partRelease ra 1), !stillHome alone 1, (part alone 1).st = .torn,
            live rel, (part rel 1).st = .releasing, (part rel 1).rst = none, !genBlocked rel (part rel 1), rel.fw.repA.length < 64,
            live wait, (part wait 1).st = .releasing, (part wait 1).rst = none, genBlocked wait (part wait 1),
            live two, (part two 1).st = .releasing, (part two 1).rst = some 2,
            live again, (part again 1).st = .resetting, (part again 1).rst = some 3]) = true := by decide

theorem wit_ResetOfTorn :
    (let s := setPart { rich with qs := up.qs } 1 { part rich 1 with st := .torn }
     holds [(part s 1).st = .torn, !genBlocked s (part s 1), s.fw.hinge = none, fwRuns s, s.qs.ctx = [], s.qs.engines = [], s.qs.fetchers = [],
            s.qs.segs = [], s.qs.pf = [], s.col.grps = [], s.mgt.owed = []]) = true := by decide

/-- A Deadbolt message of module 6. -/
def bolt (job : Nat) : Deadbolt := ⟨6, 4, job, 1, 6, 10⟩

theorem wit_Deadbolts :
    (let seen := { rich with rep := { rich.rep with seen := [(6, 4, 1000000)] } }
     holds [canRun rich (.jobAbort ra 99), livePartOfJob rich 99 = none, quiet rich, canRun rich (.jobAbort ra 77),
            live seen, portUp seen 0, seenDb seen (bolt 77), live rich, portUp rich 0, !portUp rich 5, !seenDb rich (bolt 99), livePartOfJob rich (bolt 99).job = none]) = true := by
  decide

/-- An extent that is added: record 3, 64 MiB from 1 GiB. -/
def add3 : ExtAddArgs := ⟨3, 2 ^ 30, 26, 2 ^ 30, 1, 77, 9, false, false⟩

/-- An extent of module 6 that is presented to attachment 0. -/
def pres : ExtPresentArgs := ⟨6, 2, 0, 26, 2 ^ 27, 1, 77, 1, false⟩

/-- It is presented already, to no attachment. -/
def presented : State :=
  setExt 1 { Ext.init with st := .shackled, kind := .present, log2 := 26, eid := 2, home := 6, fva := 2 ^ 27, part := 1, job := 77 } rich

theorem wit_ExtentRecords :
    holds [canRun rich (.extAdd ra add3), !extDenied rich add3.part add3.job, !rich.sys.spine, (extRec rich 3).st = .free, !rich.rep.leaving,
           !addRange rich add3, !addOverlap rich add3,
           canRun rich (.extPresent ra pres), (definedIn rich pres.mask).all (fun k => boundTo rich pres.part k), !presentState rich pres,
           !presentRange rich pres, !presentFull rich pres, presentRec rich 6 2 = none, freeRec rich = some 1,
           canRun presented (.extPresent ra pres), !extDenied presented 1 77, (definedIn presented pres.mask).all (fun k => boundTo presented 1 k),
           !presentState presented pres, !presentRange presented pres, !presentOverlap presented pres, !presentFull presented pres,
           (presentRec presented 6 2).any (fun x => x.1 == 1),
           !bitOf (extRec presented 1).mask 0, !bitOf (extRec presented 1).asked 0, evtPort presented 0 = some 0] = true := by decide

/-- Module 6 is lost. -/
def lost6 : State := { rich with fab := { rich.fab with homeMap := rich.fab.homeMap.ins 6 (10, true) } }

/-- Extent 0 is RETAINED without a mirror. -/
def kept : State := setExt 0 { home0 with st := .retained } rich

/-- A change of extent 0's tenant is under way. -/
def under0 : State := setExt 0 { home0 with st := .retained, want := some (1, 77, 9, 2 ^ 26) } rich

theorem wit_ExtentChanges :
    holds [canRun rich (.extMirror ra 0 6), (extRec rich 0).kind = .home, (extRec rich 0).st = .shackled, !underWay rich 0, !rich.rep.leaving,
           !rich.sys.spine, rich.sys.moduleId ≠ 6, !isLost rich 6,
           canRun lost6 (.extMirror ra 0 6), !underWay lost6 0, isLost lost6 6,
           canRun kept (.extShackle ra 0 1 77 9 (2 ^ 26)), !extDenied kept 1 77, (extRec kept 0).st = .retained, !underWay kept 0,
           !fvaBad (extRec kept 0).log2 (2 ^ 26),
           canRun rich (.extRevoke ra 5 0 0 0), !revokeState rich 5 0 0, canRun rich (.extRevoke ra 5 0 0 100),
           (let s := setExt 0 { home0 with retained := true } rich; canRun s (.extRevoke ra 5 0 1 1000000) && !revokeState s 5 0 1),
           canRun rich (.extQuery ra 8191 16383 2), queryIdx rich 8191 16383 2 = none, canRun rich (.extQuery ra 5 0 0),
           queryIdx rich 5 0 0 = some 0, !(extRec rich 0).scrubbing,
           holds [canRun under0 (.extMirror ra 0 6), underWay under0 0, (extRec under0 0).kind = .home, canRun under0 (.extShackle ra 0 1 77 9 (2 ^ 26)),
                  !extDenied under0 1 77, !fvaBad (extRec under0 0).log2 (2 ^ 26), canRun under0 (.extRevoke ra 5 0 0 0), !revokeState under0 5 0 0],
           !(extRec kept 0).mv, !(extRec kept 0).scrubbing, !mctlOpen kept 0 isScrub, kept.mgt.owed = []] = true := by decide

/-- Extent 0 is REVOKING: its bytes go, or stay; a scrub of it runs; a request to it is in flight. -/
def leaving0 : State := setExt 0 { home0 with st := .revoking, forcedUs := 1000 } rich
def busy0 : State := { leaving0 with fab := { leaving0.fab with reqs := [(1, ⟨0, 0, 1, 1, 5, 0, .op 4 0⟩)] } }
def scrubbed0 : State := setExt 0 { home0 with st := .revoking, scrubbing := true } rich

theorem wit_RevocationBegins :
    holds [(extRec rich 0).st ≠ .rebuilding, !(extRec rich 0).coherent,
           live busy0, draining (extRec busy0 0) 0, stillOpen busy0 (extRec busy0 0),
           live leaving0, draining (extRec leaving0 0) 0, !stillOpen leaving0 (extRec leaving0 0), !linesHeld leaving0 (extRec leaving0 0),
           live scrubbed0, (extRec scrubbed0 0).scrubbing, (extRec scrubbed0 0).kind.code = 0] = true := by decide

theorem wit_ScrubZeroes :
    holds [(extRec scrubbed0 0).kind = .home, (extRec scrubbed0 0).st = .revoking, !(extRec scrubbed0 0).retain,
           (extRec scrubbed0 0).base % 64 = 0, 6 ≤ (extRec scrubbed0 0).log2, !mctlOpen scrubbed0 0 isCreate, !mctlOpen scrubbed0 0 isRevoke, scrubbed0.fw.repA.length < 64,
           (scrubbed0.pool.mem.get 0#8 3) ≠ 0#8] = true := by decide

theorem wit_MapAndUnmap :
    (let big := BitVec.ofNat 128 (31 + 2 ^ 46 + 5 * 2 ^ 53)
     let poor := setPart rich 1 { part rich 1 with prm := { prm 1 77 with budget := 3 }, tabs := [], ents := [] }
     let fits (s : State) (fva lg lv : Nat) (l : BitVec 128) := holds [canRun s (.xltMap rc 1 fva lg [l]), !mapRange (part s 1) fva lg [l],
       !mapOverlap (part s 1) fva lv [l]]
     holds [!rich.sys.spine, fits rich 0 16 4 leaf5, fits rich (2 ^ 50 - 65536) 16 4 leaf5, fits rich (2 ^ 21) 21 3 big, fits rich (2 ^ 30) 30 2 big,
            fits poor 0 16 4 leaf5, (mapAll 1 4 (mapPages 0 4 [leaf5]) (heard rc.src poor)).isNone,
            (mapAll 1 4 (mapPages 0 4 [leaf5]) (heard rc.src rich)).isSome,
            canRun rich (.xltUnmap rc 1 0 65536), !rangeBad 0 65536, !cutsPage (part rich 1) 0 1,
            canRun rich (.xltUnmap rc 1 (2 ^ 50 - 65536) 65536), !rangeBad (2 ^ 50 - 65536) 65536, Leaf.v leaf5]) = true := by decide

/-- Partition 1 without tables: the first table's place is a free value, which no evaluation gives. -/
def tableless : State := setPart rich 1 { part rich 1 with prm := { prm 1 77 with budget := 16 }, tabs := [], ents := [] }

/-- Of 64 places and more for 8 KiB, at most five meet one table of 32 KiB. -/
theorem findPlace_beside (u k : Nat) : ∃ a, findPlace (2 ^ 37 - 2 ^ 32 + 2 ^ 21) 8192 524032 [(u, 32768)] 65 k = some a := by
  have step (f k : Nat) (h : ¬∃ a, findPlace (2 ^ 37 - 2 ^ 32 + 2 ^ 21) 8192 524032 [(u, 32768)] (f + 1) k = some a) :
      (u < 133146083328 + 8192 * (k % 524032) + 8192 ∧ 133146083328 + 8192 * (k % 524032) < u + 32768) ∧
        ¬∃ a, findPlace (2 ^ 37 - 2 ^ 32 + 2 ^ 21) 8192 524032 [(u, 32768)] f (k + 1) = some a := by
    rw [findPlace] at h
    split at h
    · exact absurd ⟨_, rfl⟩ h
    · rename_i c
      refine ⟨?_, h⟩
      simp only [List.all_cons, List.all_nil, Bool.and_true, Bool.or_eq_true, decide_eq_true_eq, not_or, Nat.not_le] at c
      omega
  by_contra h
  obtain ⟨h0, h⟩ := step _ _ h
  obtain ⟨h1, h⟩ := step _ _ h
  obtain ⟨h2, h⟩ := step _ _ h
  obtain ⟨h3, h⟩ := step _ _ h
  obtain ⟨h4, h⟩ := step _ _ h
  obtain ⟨h5, h⟩ := step _ _ h
  clear h step
  omega


/-- A leaf of 1 GiB. -/
def big : BitVec 128 := BitVec.ofNat 128 (31 + 2 ^ 46 + 5 * 2 ^ 53)

theorem wit_FirstLeafWalks_mapped : ∃ t, mapLeaf 1 0 2 big tableless = some t := by
  have e1 := allocTable_some (p := 1) (lv := 1) (s := tableless) (n := 131008) (us := []) (by decide) rfl (by decide) (findPlace_alone _ _ _ _ _)
  have hr : rootOf (part tableless 1) = none := by decide
  have hb : poolTop tableless + 2 ^ 21 = 133146083328 := by decide
  rw [hb] at e1
  generalize 133146083328 + tableSize 1 * (Config.freeValue tableless.seed % 131008 % 131008) = u at e1
  generalize hs : readable u (tableSize 1) (setPart { tableless with seed := tableless.seed + 1 } 1
      { part tableless 1 with tabs := (part tableless 1).tabs.ins u 1 }) = s1 at e1
  have hp : part s1 1 = { part tableless 1 with tabs := [(u, 1)] } := by subst hs; rfl
  have hq : placed s1 = [(u, 32768)] := by subst hs; rfl
  have ht : poolTop s1 = poolTop tableless := by subst hs; rfl
  have hn : (part tableless 1).ents = [] := by decide
  have hg : (part tableless 1).prm.budget = 16 := by decide
  obtain ⟨v, hv⟩ := findPlace_beside u (Config.freeValue s1.seed % 524032)
  have hb' : (2 ^ 37 - 2 ^ 32 + 2 ^ 21 : Nat) = 133146083328 := by decide
  have hw : tableBytes (part s1 1) = 32768 := by rw [hp]; rfl
  have e2 := allocTable_some (p := 1) (lv := 2) (s := s1) (n := 524032) (us := [(u, 32768)]) (a := v) (by rw [ht, hb]; decide) hq
    (by rw [hw, hp]; exact le_trans (by decide : 32768 + tableSize 2 ≤ 16 * 8192) (by rw [hg]))
    (by rw [ht, hb, ← hb']; exact hv)
  have hz : Leaf.v (entryOf (part s1 1) (entryAddr u 1 0)) = false := by
    rw [hp]; simp only [entryOf, hn, show ∀ a, Tab.get (0#128) [] a = 0#128 from fun _ => rfl]; decide
  simp only [mapLeaf, pathTo, hr, e1, pathFrom, hz, e2]
  exact ⟨_, rfl⟩

theorem wit_FirstLeafWalks :
    holds [(part tableless 1).tabs = [], (part tableless 1).ents = [], tableless.sys.reserveGiB ≠ 0, (0 : Nat) % pagesAt 2 = 0, Leaf.v big, Leaf.isLeaf big,
           leafOk 2 big] = true := by decide

/-- An invalidation of manager A is under way, and 64 of them; a prefetch that it met holds it open. -/
def invA : Inval := ⟨.mgt .a, 1, 0, 1, 5, []⟩
def oneInval : State :=
  { rich with xlt := { rich.xlt with invals := [invA] }, mgt := { rich.mgt with owed := [⟨.mgt .a, 9, 1, 0, 1, srcKey (.mgt .a)⟩] } }
def fullInval : State := { rich with xlt := { rich.xlt with invals := List.replicate 64 ⟨.cxl 0, 1, 0, 1, 5, []⟩ } }

def heldInval : State :=
  { rich with xlt := { rich.xlt with invals := [{ invA with pfs := [9] }] },
              qs := { rich.qs with pf := [(9, ⟨4, 0, 1, 0, 0, 6, 0, false⟩)] } }

theorem wit_Invalidation :
    holds [canRun rich (.xltInval rc 1 false 0 65536), !rich.sys.spine, rich.xlt.invals.length < 64, !rangeBad 0 65536,
           canRun rich (.xltInval rc 1 false (2 ^ 50 - 65536) 65536), !rangeBad (2 ^ 50 - 65536) 65536, canRun rich (.xltInval rc 1 true 0 0),
           canRun fullInval (.xltInval rc 1 false 0 65536), 64 ≤ fullInval.xlt.invals.length,
           live oneInval, oneInval.xlt.invals.find? (fun x => x.src == invA.src && !invalOpen oneInval x) = some invA,
           oneInval.mgt.owed.filter (fun x => x.why == 1 && x.key == srcKey invA.src) = [⟨.mgt .a, 9, 1, 0, 1, srcKey (.mgt .a)⟩],
           live rich, rich.xlt.invals.all (fun x => x.src ≠ .cxl 0), live heldInval, heldInval.xlt.invals.all (fun x => invalOpen heldInval x),
           canRun rich (.xltQuery rc 1 (2 ^ 50 - 1))] = true := by decide

theorem wit_QueueCommands :
    (let a : QueArgs := ⟨7, 3, 16, 65536, 4, 131072, 5, 0⟩
     let halted := setQue rich 4 { que rich 4 with st := .halted }
     let full := setQue rich 4 { que rich 4 with ops := [newOp 0 1 ⟨0, 0, 0, 0, 0, 0, 0, 0⟩] }
     holds [canRun rich (.queCreate rc a), (que rich 7).st = .disabled, !queRange a, partOfQueue rich 7 = some 1, srcAttach rich rc.src = some 0,
            canRun halted (.queResume rc 4), (que halted 4).st = .halted, (part halted (que halted 4).part).st ≠ .torn, quiet halted,
            canRun rich (.queDestroy rc 4), (que rich 4).st ≠ .disabled, (que rich 4).ops = [],
            canRun full (.queDestroy rc 4), (que full 4).ops ≠ [], canRun rich (.queQuery rc 4)]) = true := by decide

/-- Parameters of a group of two ranks, and its context in BUILDING with both members. -/
def gprm : GrpParams := ⟨500, 77, 1, 3, false, 1, 0, 1, 2, 14, 8, 4, 0, 0⟩
def grp0 : Grp := { st := .building, p := gprm, members := [], hosts := [], digest := 0, seqs := [], abort := none, fencedBy := 0, depth := 8 }
def built : State := setGrp 3 { grp0 with members := [(0, 1), (1, 11)] } rich

theorem wit_GroupBuilding :
    holds [canRun rich (.grpCreate ra gprm), !grpDenied rich gprm, !rich.rep.leaving, !grpRange gprm, !grpOverlap rich gprm, !grpFull rich gprm,
           (let s := setGrp 3 grp0 rich
            holds [canRun s (.grpMembers ra 3 0 [1, 11]), !memberDenied s 3 [1, 11], s.col.grps.find 3 = some grp0, !memberRange s 3 0 [1, 11],
                   !memberOverlap s 3 0 [1, 11]]),
           canRun built (.grpHosts ra 3 [⟨0, 0, 1, 5⟩]), !hostsRange built 3 [⟨0, 0, 1, 5⟩], !isLost built 5, memberSum built + 3 ≤ 3145728,
           canRun built (.grpArm ra 3), built.col.grps.find 3 = some { grp0 with members := [(0, 1), (1, 11)] }, !armKey built 3,
           canRun built (.grpDestroy ra 3), (built.col.grps.find 3).isSome, colRunning built 3 = [],
           canRun rich (.grpQuery ra 4095)] = true := by decide

/-- A tree entry of partition 1 with one branch, and a state in which a packet uses tree 7. -/
def tree7 : TreeEntry := ⟨true, false, 1, 10, 1, 3, 1, 77, false, (10, 0) :: List.replicate 30 (0, 0), true⟩
def inTree : State :=
  { rich with fab := { rich.fab with runs := [⟨7, 21, 22, 77, 3, 3, 10, [10], 1, false, false, none, 0, false, false⟩] } }

theorem wit_EndpointTable :
    (let c (s : State) (e k a h : Nat) := holds [canRun s (.epidAssign ra e k a h), !assignRange s e k a h]
     let spine := { rich with sys := { rich.sys with spine := true } }
     holds [c rich 131071 1 0 5, rich.sys.moduleId = 5, !(endpoint rich 131071).v, rich.fab.noRoute = [], quiet rich, c spine 3 2 0 5,
            c rich 131071 1 0 6, c rich 12 2 15 8191, !(endpoint rich 12).v, rich.fab.sflow = [],
            c rich 10 1 0 6, (endpoint rich 10).v,
            canRun rich (.epidRelease ra 10), (endpoint rich 10).v,
            canRun rich (.treeWrite ra 8191 tree7), !treeDenied rich tree7, !treeBusy rich 8191, !treeRange 8191 tree7, !treeLost rich tree7,
            canRun inTree (.treeWrite ra 7 tree7), !treeDenied inTree tree7, treeBusy inTree 7, canRun inTree (.treeClear ra 7),
            canRun rich (.treeClear ra 8191), !treeBusy rich 8191, canRun rich (.fabQuery ra 0 131071), canRun rich (.fabQuery ra 1 8191),
            canRun rich (.fabQuery ra 2 0)]) = true := by decide

theorem wit_AnalysisPort :
    holds [canRun rich (.anaSet ra ⟨63, false, 0, 2, 0, 0, 0⟩), !rich.fab.ana.en, !anaRange ⟨63, false, 0, 2, 0, 0, 0⟩,
           !anaRange ⟨0, true, 0, 0, 131071, 0, 7⟩, canRun rich (.anaSet ra ⟨0, true, 0, 0, 131071, 0, 7⟩),
           canRun rich (.anaConsent ra []), !(rich.fab.ana.jobs.contains (leNat ((([] : Bytes).drop 4).take 4))),
           canRun rich (.anaClear ra false false 77), canRun rich (.anaClear ra false true 77), canRun rich (.anaClear ra true true 0),
           canRun rich (.anaClear ra true false 0), quiet rich] = true := by decide

/-- A module that is DARK, one that lights its ports, one that darkens them. -/
def inPwr (st : PwrSt) : State := { rich with pwr := { rich.pwr with st := st } }
def noneBusy (s : State) : State := { s with parts := [(2, { Part.init with st := .idle, prm := prm 2 88 })] }

theorem wit_PowerStates :
    (let dark := inPwr .dark
     let starting := { dark with pwr := { dark.pwr with starting := true } }
     let lighting := inPwr .lighting
     let darkening := { inPwr .darkening with opt := [] }
     let spine := { rich with sys := { rich.sys with spine := true } }
     holds [holds [canRun starting (.powerLit ra), starting.pwr.st = .dark, starting.pwr.starting, canRun dark (.powerLit ra), !dark.pwr.starting,
                   canRun rich (.powerLit ra), rich.pwr.st ≠ .dark, canRun (noneBusy rich) (.powerDark ra), rich.pwr.st = .lit,
                   !anyBusy (noneBusy rich), canRun rich (.powerDark ra), anyBusy rich, live lighting, lighting.pwr.st = .lighting,
                   portsLit lighting, quiet lighting],
            holds [live rich, rich.pwr.st ≠ .lighting, live darkening, darkening.pwr.st = .darkening, darkening.opt = [], rich.pwr.st ≠ .darkening],
            holds [canRun rich (.selftest ra 0 0), canRun rich (.selftest ra 1 0), (optPort rich 0).st = .up,
                   canRun rich (.selftest ra 1 63), (optPort rich 63).st ≠ .up, canRun (noneBusy rich) (.selftest ra 2 0),
                   !intrusiveBusy (noneBusy rich), canRun rich (.selftest ra 2 0), intrusiveBusy rich, canRun (noneBusy rich) (.selftest ra 3 0),
                   !rich.sys.spine, canRun spine (.selftest ra 3 0), spine.sys.spine, canRun rich (.selftest ra 4 0)]]) = true := by decide

/-- The three brakes are in force. -/
def braking : State := { rich with pwr := { rich.pwr with pin := true, inputBrake := true, thermBrake := true } }

theorem wit_Brake :
    holds [aonLive rich, !rich.pwr.pin, !rich.pwr.inputBrake, !rich.pwr.thermBrake, aonLive braking, braking.pwr.pin, braking.pwr.inputBrake,
           braking.pwr.thermBrake, quiet braking, live braking] = true := by decide

theorem wit_InputPower :
    (let off := { rich with sys := { rich.sys with conv := false } }
     let hot := { rich with pwr := { rich.pwr with thermal := true } }
     let shut := { rich with sys := { rich.sys with aonOnly := true } }
     holds [!off.sys.conv, rich.sys.conv, aonLive rich, !rich.pwr.thermal, aonLive hot, hot.pwr.thermal, !rich.sys.aonOnly, aonLive shut,
            shut.sys.aonOnly]) = true := by decide

theorem wit_GovernorTick :
    (let w := { rich with pwr := { rich.pwr with ramp := .waiting true } }
     let lull := { rich with pwr := { rich.pwr with lull := true } }
     let cold := { rich with pwr := { rich.pwr with a := 20000, thermal := true } }
     holds [aonLive rich, braked braking, !braked rich, !braked cold, cold.pwr.thermal, aonLive w, w.pwr.ramp = .waiting true,
            rich.pwr.ramp = .none, aonLive lull, lull.pwr.lull, !rich.pwr.lull]) = true := by decide

/-- The clocks have stopped. -/
def stopped : State := { rich with clk := { rich.clk with stopped := true, src := 0, refOk := false, rootLock := false } }

/-- Tile engine 0 holds a queue; the gate of unit 3 is closed. -/
def engaged0 : State := { rich with qs := { rich.qs with engines := [(0, ⟨4, 65536⟩)] } }
def shut3 : State := { rich with clk := { rich.clk with closed := [3] } }

theorem wit_Clocks :
    (let fresh := { State.reset with clk := { State.reset.clk with refOk := true, src := 1 } }
     holds [aonLive State.reset, State.reset.clk.src = 0, aonLive fresh, fresh.clk.refOk, !fresh.clk.stopped, aonLive rich, rich.clk.rootLock,
            !rich.clk.stopped, rich.flt.q.length < 4096, aonLive stopped, stopped.clk.stopped, live rich, !rich.clk.closed.contains 3, !unitBusy rich 3,
            live engaged0, unitBusy engaged0 192, live shut3, shut3.clk.closed.contains 3]) = true := by
  decide

theorem wit_MarginPlan :
    (let plan := { rich with hlt := { rich.hlt with plan := true } }
     let due := { noneBusy rich with hlt := { rich.hlt with deferred := true } }
     let ev := { rich with hlt := { rich.hlt with events := [(16 * 576 + 15, 9)], pen := [(576, 640)] } }
     holds [live rich, fwRuns rich, !rich.hlt.plan, live plan, plan.hlt.plan, quiet rich, rich.hlt.vcore ≤ 850, live due, due.hlt.deferred,
            !intrusiveBusy due, !rich.hlt.deferred, intrusiveBusy rich, rich.hlt.events = [], rich.hlt.pen = [], 15 < 16,
            ev.hlt.events = [(16 * 576 + 15, 9)]]) = true := by decide

theorem wit_PatrolRead :
    (let k (a : Nat) := 8 * (a / 256 * 32)
     let last := 2 ^ 37 - 1
     let dark := inPwr .dark
     let cold := inPwr .standby
     holds [live rich, rich.pool.flip = [], badIn rich (k 0) 256 = [], !rich.sys.spine, fwRuns rich, badIn rich (k last) 256 = [],
            extentAt rich (last / 256 * 32 + 31) = none, rich.flt.q.length < 4096, live dark, dark.pwr.st ≠ .standby, live cold,
            cold.pwr.st = .standby, sensorReg rich 0x01000014, sensorReg rich 0x02000010, sensorReg rich 0x031002FC, sensorReg rich 0x04001104,
            !sensorReg rich 0x06000000]) = true := by decide

/-- A handover record of a writer of version 0, with nothing in its other sections. -/
def recTail : Bytes := (List.range 8).flatMap (fun k => leBytes 4 (k + 2) ++ leBytes 4 0)
def record0 : Bytes :=
  leBytes 4 1 ++ leBytes 4 80 ++ leBytes 4 0 ++ leBytes 4 152 ++ leBytes 4 9 ++ leBytes 4 0 ++ shake256 64 recTail ++ recTail

theorem wit_FirmwareCommit_record : recordOk ⟨2, [], 0, 0, 0, 0, true⟩ record0 = true := by decide +kernel
/-- R451, R452: a record of another version, or cut short, or changed, does not pass. -/
theorem test_record_refused :
    (recordOk ⟨2, [], 0, 1, 3, 0, true⟩ record0 || recordOk ⟨2, [], 0, 0, 0, 0, true⟩ (record0.take 144)
      || recordOk ⟨2, [], 0, 0, 0, 0, true⟩ (record0.set 150 1#8)) = false := by decide +kernel

theorem wit_FirmwareCommit :
    (let waiting := { bare with fw := { bare.fw with session := some sess } }
     let still := { paused with parts := [] }
     holds [canRun loading (.fwCommit ra), !fwDenied loading ra, mySession loading ra = some sess, loading.pwr.st = .lit, loading.dbg.halted = [],
            !loading.hlt.plan, canRun waiting (.fwCommit ra), !fwDenied waiting ra, mySession waiting ra = some sess, !fwRuns waiting, live paused,
            still.fw.hinge = some ⟨2, [], 0, 0, 0, 0, true⟩, quiet still, still.fw.held = [], still.parts = [],
            !recordOk ⟨2, [], 0, 0, 0, 0, true⟩ still.fw.record, (0 : Nat) < 2 ^ 32]) = true := by decide

theorem wit_ModuleResets :
    holds [canRun rich (.modReset ra 0), canRun rich (.modReset ra 2), canRun paused (.modReset ra 1), canRun rich (.modReset ra 3), live rich] = true := by
  decide

/-- A port with an event log, and an extent of which it has been asked. -/
def asked : State :=
  setExt 1 { Ext.init with st := .shackled, kind := .present, log2 := 26, eid := 2, home := 6, fva := 2 ^ 27, part := 1, job := 77, mask := 1, asked := 1 }
    { rich with cxl := { rich.cxl with ports := [(0, { cxlUp with evts := [⟨0, 0, [1]⟩, ⟨1, 0, [2]⟩], evtN := 2, spdm := true })] } }
def accepted : State := setExt 1 { (extRec asked 1) with asked := 0, accepted := 1 } asked

theorem wit_Mailbox :
    (let bareCxl := { asked with fw := State.reset.fw }
     let busy := { asked with mgt := { asked.mgt with owed := [⟨.cxl 0, 9, 1, 0, 1, 1⟩] } }
     let held := { asked with fw := paused.fw }
     let noId := { asked with sys := { asked.sys with idOk := false } }
     holds [mailServed asked 0 0, evtPort asked 0 = some 0, offered asked 6 2 0 = some 1, offered asked 6 3 0 = none, live asked,
            bitOf (extRec asked 1).asked 0, live accepted, offered accepted 6 2 0 = some 1, !bitOf (extRec accepted 1).asked 0,
            mailServed accepted 0 0, bitOf (extRec accepted 1).accepted 0, ioUp (cxlPort asked 0), live noId, ioUp (cxlPort noId 0), !noId.sys.idOk,
            asked.sys.idOk, (cxlPort asked 0).spdm, ioUp (cxlPort rich 0), !(cxlPort rich 0).spdm,
            mailRow (.identify 15) = some 15, !srcUp asked (.cxl 15), mailRow (.clearEventRecords 0 []) = some 0, srcUp busy (.cxl 0), live busy,
            busyPort busy (.cxl 0), live held, srcUp held (.cxl 0), !busyPort held (.cxl 0), held.fw.hinge.isSome, live bareCxl,
            srcUp bareCxl (.cxl 0), bareCxl.fw.hinge = none, !fwRuns bareCxl]) = true := by decide

/-- CXL port 0 in a state of its link. -/
def cxlIn (f : CxlPort → CxlPort) : State := { rich with cxl := { rich.cxl with ports := [(0, f cxlUp)] } }

theorem wit_CxlLinks :
    (let train := cxlIn (fun c => { c with st := .training })
     let down := cxlIn (fun c => { c with st := .down, width := 0 })
     let l0p := { rich with regs := { rich.regs with cfg := rich.regs.cfg.ins 0x100000 (cfgReg rich 0x100000 ||| 1#32) } }
     let ide := cxlIn (fun c => { c with ide := true })
     holds [live train, cxlFree train 0, !(cxlPort train 0).perst, (cxlPort train 0).st = .training, live down, cxlFree down 0,
            !(cxlPort down 0).dead, (cxlPort down 0).st = .down, minWidth rich ≤ 16, minWidth rich ≤ 4 || 4 < minWidth rich, 1 < minWidth rich,
            ioUp (cxlPort rich 0), quiet rich, live l0p, (cxlPort l0p 0).st = .up, l0pEn l0p, 16 ≤ (cxlPort l0p 0).trained,
            (cxlPort train 0).st ≠ .up, (cxlPort rich 0).st ≠ .training, live ide, (cxlPort ide 0).ide, !(cxlPort rich 0).ide]) = true := by decide

theorem wit_CxlPortResets :
    (let d : Decoder := ⟨0, 2 ^ 50, 1, 256, 0⟩
     let reset := cxlIn (fun c => { c with st := .reset, perst := true })
     let clear := { rich with parts := [] }
     holds [live rich, ioUp (cxlPort rich 0), decoderOk rich 0 3 d, !decoderOk rich 0 3 { d with gran := 128 }, live reset, cxlFree reset 0,
            !(cxlPort reset 0).dead, (cxlPort reset 0).st = .reset, attachOf clear 0 = some 0, clear.parts = [], attachOf rich 15 = none]) = true := by
  decide

/-- A host's request for the line at host address `a`. -/
def line (a : Nat) : MemReq := ⟨0, a⟩
/-- Home 5, address 64, of extent 0. -/
def tgt (a : Nat) : Target := ⟨5, 0, a, 0, none⟩

theorem wit_HostLoad :
    (let c : CEnt := ⟨1, 0, 4, leaf5, 0, false⟩
     let d : Decoder := ⟨0, 2 ^ 50, 1, 256, 0⟩
     let w (m : MemReq) (a : Nat) := holds [
            live rich, quiet rich, attachOf rich m.port.val = some 0, (cxlPort rich m.port.val).mem, (cxlPort rich m.port.val).st = .up,
            !braked rich, decoderOf rich m.port.val m.hpa = some (1, d), onPosition d m.hpa, partInSlot rich 0 1 = some 1,
            (part rich 1).st = .active, acceptedAt rich 1 0 (lineAddr (m.hpa - d.base)), cached rich 1 (lineAddr (m.hpa - d.base) / 65536) = some c,
            Leaf.r c.leaf, Leaf.w c.leaf, !closing rich 1, targetOf rich (lineAddr (m.hpa - d.base)) c.level c.leaf = .ok (tgt a),
            (tgt a).mod = rich.sys.moduleId, (tgt a).rd = none,
            admitAt rich (part rich 1).prm.jobTag (tgt a).addr 64 (some (tgt a).ext) none = .ok (0, home0), !home0.coherent, home0.st = .shackled,
            mirrorTouch rich (tgt a).addr 64 = none, badIn rich (tgt a).addr 64 = [], mergeBad rich (tgt a).addr (zeroBytes 64) none = []]
     holds [w (line 0) 0, w (line 65535) 65472]) = true := by decide

theorem wit_HostStore :
    (let x : StoreArgs := ⟨List.replicate 64 true, [9#8], .any⟩
     holds [mergeBad rich 64 x.bytes x.part = [], mergeBad rich 65472 x.bytes x.part = [], home0.st = .shackled, !closing rich 1,
            Leaf.w leaf5]) = true := by decide

/-- A packet header from EPID 10 of module 6 to EPID `dst`. -/
def hdr (dst vc : Nat) : Hdr :=
  { dst, src := 10, vc, hops := 0, detoured := false, ce := false, echo := false, mc := false, tree := 0, seq := 0, job := 77, gen := 3,
    len := 64, wid := 21, ackedVc := 0, close := false, last := true }
/-- Line 7 of the pool, whose answer from attachment 0 is awaited; an outstanding CXL.io read. -/
def biWait : State := setSnoop 7 { Snoop.init with sharers := 1, bi := some (1, 5) } rich
def dma1 : State := { rich with cxl := { rich.cxl with dma := [(3, (0, .fence 4 0))] } }

/-- A packet that waits for two zero-length reads, of which one is left, or both. -/
def landing : DmaFor := .landed (hdr 1 2) none 1 0 none 64
def dma2 : State := { rich with cxl := { rich.cxl with dma := [(3, (0, landing)), (4, (0, landing))] } }

theorem wit_HostEvents :
    (let bi2 := setSnoop 7 { Snoop.init with sharers := 2, bi := some (2, 5) } rich
     let bi15 := setSnoop 7 { Snoop.init with sharers := 2 ^ 15, bi := some (2 ^ 15, 5) } rich
     holds [live biWait, attachOf biWait 0 = some 0, (snoop biWait 7).bi = some (1, 5), bitOf 1 0, live rich, (snoop rich 7).bi = none,
            (snoop biWait 7).bi = some (2 ^ 0, 5), (snoop bi15 7).bi = some (2 ^ 15, 5), live dma1, dma1.cxl.dma.find 3 = some (0, .fence 4 0),
            rich.cxl.dma.find 3 = none, live dma2, dma2.cxl.dma.find 3 = some (0, landing), !shared (.fence 4 0), shared landing,
            (dma2.cxl.dma.del 3).any (fun e => e.2.2 == landing), ((dma2.cxl.dma.del 4).del 3).isEmpty, (cxlPort rich 0).dmaq = [],
            (snoop biWait 7).bi = some (1, 5), !bitOf 2 0, live bi2, (snoop bi2 7).bi = some (2, 5), attachOf rich 0 = some 0, partOfCtr rich 4 = some 1, partOfCtr rich 7 = some 1, boundTo rich 1 0,
            (4 : Nat) ≠ 8, 1 % 8 ≠ 0]) = true := by decide

/-- Descriptors: an opcode with CNT, and the words of each. -/
def dsc (w0 : Nat) (w1 w2 w3 w4 : Nat := 0) : Desc :=
  ⟨BitVec.ofNat 64 w0, BitVec.ofNat 64 w1, BitVec.ofNat 64 w2, BitVec.ofNat 64 w3, BitVec.ofNat 64 w4, 0, 0, 0⟩
def tile : Desc := ⟨3, 0, 64, BitVec.ofNat 64 (1 + 1 * 4), BitVec.ofNat 64 (8 + 2 * 2 ^ 32 + 2 ^ 48), BitVec.ofNat 64 (8 + 8 * 2 ^ 32), 0, 0⟩
/-- Engine 0 holds queue 4. -/
def engaged : State := { rich with qs := { rich.qs with engines := [(0, ⟨4, 65536⟩)], fetchers := [(4, 0)] } }

theorem wit_Descriptors :
    (let ds := [dsc 0, dsc (1 + 64 * 2 ^ 32) 0 4096 5, dsc (2 + 64 * 2 ^ 32) 0 4096 5, tile, dsc 4 64, dsc (5 + 16 + 4 * 65536) 1 0,
                dsc 6, dsc (7 + 16 + 4 * 65536 + 2 ^ 32) 1, dsc (8 + 5 * 2 ^ 44), dsc 9]
     holds [(List.range 10).all (fun k => let d := ds.getD k (dsc 0)
              live engaged && canStart engaged 4 d && formatOk d && D.opcode d == k),
            canStart engaged 4 (dsc 64), !formatOk (dsc 64), D.opcode (dsc 64) = 0, canStart engaged 4 (dsc 15), !formatOk (dsc 15),
            10 ≤ D.opcode (dsc 15), !canStart rich 4 (dsc 0), D.opcode (dsc 1) ≠ 0, D.opcode (dsc 1) < 10,
            (queEpid engaged (que engaged 4)).isSome, canStart engaged 4 (dsc 4 2), formatOk (dsc 4 2), D.atomAddr (dsc 4 2) % atomWidth 0 ≠ 0,
            dmaPort engaged (que engaged 4).attach ((que engaged 4).sqBase + 64 * (que engaged 4).head) = some 0,
            descRow (.nop 4 (dsc 0)) = some (0, 4, dsc 0)]) = true := by decide

/-- Queue 4 has the operation `d` under way. -/
def working (d : Desc) (st : State) : State := setQue st 4 { que st 4 with head := 1, ops := [newOp 0 1 d] }

theorem wit_CompletionRecord :
    (let s := working (dsc 0) rich
     let h := working (dsc 32) rich
     let top := { rich with ctrs := [(4, 2 ^ 64 - 1)] }
     let noPort := { working (dsc 0) rich with cxl := { rich.cxl with ports := [] } }
     let train := { s with cxl := { s.cxl with ports := [(0, { cxlUp with st := .training })] } }
     let armed := setQue s 4 { que s 4 with arm := true }
     holds [(que s 4).op 0 = some (newOp 0 1 (dsc 0)), !D.halt (dsc 0), dmaPort s 0 8192 = some 0, !(que s 4).arm, (que s 4).cqBase % 16 = 0,
            (cxlPort s 0).dmaq = [], !(cxlPort s 0).l1, (que noPort 4).op 0 = some (newOp 0 1 (dsc 0)), !dmaHolds (cxlPort noPort (dmaVia noPort 0 8192)),
            (que train 4).op 0 = some (newOp 0 1 (dsc 0)), dmaHolds (cxlPort train (dmaVia train 0 8192)),
            (cxlPort train (dmaVia train 0 8192)).st ≠ .up, (que armed 4).op 0 = some (newOp 0 1 (dsc 0)), (que armed 4).arm, upPort armed 0 = some 0,
            (que h 4).op 0 = some (newOp 0 1 (dsc 32)), D.halt (dsc 32), (que rich 4).op 0 = none, 2 ^ 64 - 1 < top.ctrs.get 0 4 + 1,
            top.flt.q.length < 4096, rich.ctrs.get 0 4 + 1 ≤ 2 ^ 64 - 1,
            s.qs.ctx.all (fun e => e.2.ops.all (fun o => D.opcode o.d ≠ 5))]) = true := by decide

/-- A walk of partition 1 for page 0 in flight; a prefetch in flight; a partition that closes. -/
def walking (seq : Nat) (pf : Bool) : State := { rich with xlt := { rich.xlt with walks := [⟨1, 0, seq, pf, [], []⟩] } }
def fetching (c : Bool) : State := { rich with qs := { rich.qs with pf := [(9, ⟨4, 0, 1, 0, 0, 5, 0, c⟩)] } }
def closer (s : State) : State := setPart s 1 { part s 1 with closing := some [] }

theorem wit_Engines :
    (let free := { rich with qs := { rich.qs with fetchers := [(4, 0)] } }
     let spent := { rich with qs := { rich.qs with engines := [(31, ⟨4, 0⟩)] } }
     let halted := setQue spent 4 { que spent 4 with st := .halted }
     let busy := closer (working (dsc 0) rich)
     let asked := { fetching false with fab := { rich.fab with reqs := [(9, ⟨1, 10, 1, 1, 6, 0, .prefetch⟩)] } }
     let rest := { rich with xlt := { rich.xlt with walks := [] } }
     holds [holds [live free, fwRuns free, free.fw.hinge = none, free.dbg.halted = [], !braked free, free.qs.engines.find 31 = none,
            nextQueue free = some 4, (free.qs.fetchers.find 4).isSome, live engaged, (engaged.qs.engines.find 0).isSome, nextQueue rich ≠ some 5,
            !fwRuns bare, live bare, live paused, paused.fw.hinge.isSome, live braking, braked braking, live rich, rich.qs.engines.find 31 = none,
            live spent, spent.qs.engines.find 31 = some ⟨4, 0⟩, live halted, halted.qs.engines.find 31 = some ⟨4, 0⟩, !queReady halted 4,
            live engaged, engaged.qs.engines.find 0 = some ⟨4, 65536⟩, queReady engaged 4],
      holds [live (walking 9 true), (walking 9 true).xlt.walks.find? (fun x => x.part == 1 && x.page == 0) = some ⟨1, 0, 9, true, [], []⟩,
            9 ≠ (part (walking 9 true) 1).invSeq, live (walking 9 false), 9 ≠ (part (walking 9 false) 1).invSeq, live (walking 0 false),
            (walking 0 false).xlt.walks.find? (fun x => x.part == 1 && x.page == 0) = some ⟨1, 0, 0, false, [], []⟩,
            0 = (part (walking 0 false) 1).invSeq, (walkOf rest 1 0).fin = .leaf 4 leaf5, rich.xlt.walks = []],
      holds [rich.fab.reqs.find 9 = none, rich.qs.pf.find 9 = none, live (fetching true),
            (fetching true).qs.pf.find 9 = some ⟨4, 0, 1, 0, 0, 5, 0, true⟩, (fetching false).qs.pf.find 9 = some ⟨4, 0, 1, 0, 0, 5, 0, false⟩,
            quiet (fetching false), live asked, asked.fab.reqs.find 9 = some ⟨1, 10, 1, 1, 6, 0, .prefetch⟩,
            live (closer rich), (part (closer rich) 1).closing = some [], drained (closer rich) 1, (part rich 1).closing = none, live busy,
            (part busy 1).closing = some [], !drained busy 1]]) = true := by decide

/-- A packet under that header. -/
def pkt (dst vc : Nat) (b : Body) : Pkt := ⟨hdr dst vc, none, b, .zero⟩
/-- An outstanding request of this module's EPID 1. -/
def asking : State := { rich with fab := { rich.fab with reqs := [(21, ⟨1, 10, 2, 1, 6, 0, .op 4 0⟩)] } }
/-- A source flow with nothing to send, frozen. -/
def sflow0 : SFlow := ⟨0, 0, 0, 0, 0, false, true, false, false, 77, [], []⟩
/-- The flow of EPID 1 toward EPID 10 on VC2. -/
def flowIs (f : SFlow) : State := { rich with fab := { rich.fab with sflow := [(flowKey 1 10 2, f)] } }

theorem wit_FlowTimers :
    (let q := pkt 10 2 .close
     let w (n : Nat) : Queued := ⟨0, .fabRes 0 2 0, n, .pkt q⟩
     let idle : SFlow := { sflow0 with frozen := false }
     let sends : SFlow := { idle with recs := [q] }
     let out := { rich with fab := { rich.fab with voq := [(voqKey 0 1 2, [w 5])], noRoute := [w 3] } }
     let stored := { rich with fab := { rich.fab with dflow := [(flowKey 10 10 2, ⟨4, 0, [(0, some (q, none))], false, 0, [], none, [], 77, []⟩)] } }
     let held := { rich with fab := { rich.fab with redirWait := [(q, none)] } }
     let hold := { asking with rep := { asking.rep with hold := some 0 } }
     let late := { hold with rep := { hold.rep with late := [21] } }
     holds [holds [live rich, rich.fab.sflow.find (flowKey 1 10 2) = none, live (flowIs idle), (flowIs idle).fab.sflow.find (flowKey 1 10 2) = some idle,
            !idle.frozen, !idle.closing, idle.recs = [], idle.queue = [], live (flowIs sends), (flowIs sends).fab.sflow.find (flowKey 1 10 2) = some sends,
            !sends.frozen, live (flowIs sflow0), (flowIs sflow0).fab.sflow.find (flowKey 1 10 2) = some sflow0, sflow0.frozen, quiet (flowIs sflow0),
            quiet rich],
      holds [live out, oldest (waitingCopies 10 10 2 0 out) = some (w 3), live stored, waitingCopies 10 10 2 0 stored = [],
            (stored.fab.dflow.find (flowKey 10 10 2)).any (fun d => decide (d.held.find 0 = some (some (q, none)))),
            waitingCopies 10 10 2 0 rich = [], rich.fab.dflow.find (flowKey 10 10 2) = none,
            out.fab.noRoute.find? (isQueued 10 10 2 0) = some (w 3), !rich.fab.noRoute.any (isQueued 10 10 2 0),
            live held, held.fab.redirWait.filter (fun y => isPkt 10 10 2 0 y.1) = [(q, none)],
            rich.fab.redirWait.filter (fun y => isPkt 10 10 2 0 y.1) = []],
      holds [live asking, asking.fab.reqs.find 21 = some ⟨1, 10, 2, 1, 6, 0, .op 4 0⟩, asking.rep.hold = none, rich.fab.reqs.find 21 = none,
            live hold, hold.fab.reqs.find 21 = some ⟨1, 10, 2, 1, 6, 0, .op 4 0⟩, hold.rep.hold.isSome, !hold.rep.late.contains 21,
            live late, late.fab.reqs.find 21 = some ⟨1, 10, 2, 1, 6, 0, .op 4 0⟩, late.rep.hold.isSome, late.rep.late.contains 21,
            (asking.fab.reqs.find 21).all (fun r => r.src ≠ 2), !isLost rich 6, live lost6, isLost lost6 6]]) = true := by decide

/-- A packet's envelope under partition 1's key, whatever the tag of AES-GCM is. -/
def sealed (h : Hdr) (rd : Option Redirect) (b : Body) : Env :=
  ⟨h, rd, .tagged 0 true (Config.gcmTag [] h.src 0 (pktText ⟨h, rd, b, .zero⟩))⟩

/-- Partition 1 has its key, the Ward passes the packet, and it comes in its turn. -/
def clean (s : State) (h : Hdr) (rd : Option Redirect) (b : Body) : Bool :=
  forHere s none ⟨h, rd, b, .zero⟩ && ward s h rd b == .pass 1 && inTurn s h && decide ((part s 1).cur = some ⟨1, [], none⟩)

theorem authOk_sealed (s : State) (h : Hdr) (rd : Option Redirect) (b : Body) (hk : (part s 1).cur = some ⟨1, [], none⟩) :
    authOk s 1 (rowPkt (sealed h rd b) b) = true := by
  have : bitOf 1 0 = true := by decide
  simp only [authOk, sealed, rowPkt, hk, this, pktText, beq_self_eq_true, Bool.and_self, Bool.true_or]

theorem passes_sealed (s : State) (h : Hdr) (rd : Option Redirect) (b : Body) (hc : clean s h rd b = true) :
    passes s none (rowPkt (sealed h rd b) b) 1 = true := by
  simp only [clean, Bool.and_eq_true, decide_eq_true_eq] at hc
  obtain ⟨⟨⟨hf, hw⟩, ht⟩, hk⟩ := hc
  simp only [passes, Bool.and_eq_true, entered]
  exact ⟨by simpa [forHere, rowPkt, sealed] using hf, ⟨hw, authOk_sealed s h rd b hk⟩, ht⟩

theorem wit_PacketArrival :
    (let torn := setPart rich 1 { part rich 1 with st := .torn }
     let keyless := setPart rich 1 { part rich 1 with cur := none }
     let noPath := { rich with fab := { rich.fab with ep := [(10, ⟨true, false, 1, 0, 6, false, 0, []⟩)] } }
     let q := { (pkt 0 2 .close) with tr := .tagged 0 true 0 }
     let h := pkt 10 2 .close
     let c : Hdr := { hdr 2 2 with ackedVc := 7 }
     holds [holds [live rich, !portUp rich 5, portUp rich 0, 4096 < { (hdr 0 2) with len := 4097 }.len, (2 : Nat) ≠ pktCells h, (hdr 10 2).len ≤ 4096,
            (endpoint rich 10).v, !(endpoint rich 10).isLocal, hopLimit rich ≤ { (hdr 10 2) with hops := hopLimit rich }.hops,
            (hdr 10 2).hops < hopLimit rich, !(endpoint rich 131071).v,
            (endpoint noPath 10).v, !(endpoint noPath 10).isLocal, !isLost noPath 6,
            choosePort (takeFabric 0 h.h.vc h.h.hops (pktCells h) noPath).2 h.h = none],
      holds [forHere torn (some 0) q, ward (entered (some 0) q torn) q.h q.rd q.body = .late,
            forHere keyless (some 0) q, ward (entered (some 0) q keyless) q.h q.rd q.body = .pass 1, q.tr ≠ .zero,
            !authOk (entered (some 0) q keyless) 1 q],
      holds [clean rich (hdr 1 1) none (.ack 0), clean rich (hdr 1 2) none (.reply 0 [1#8] []), clean rich (hdr 1 1) none (.reply 0 [1#8] []),
            forHere rich none ⟨c, none, .ack 0, .zero⟩, ward rich c none (.ack 0) = .clear, (hdr 1 1).vc ≠ 2, !(hdr 1 1).mc,
            forHere rich none (pkt 1 1 (.ack St.denied)), ward rich (hdr 1 1) none (.ack St.denied) = .pass 1],
      holds [rich.fab.reqs.find 21 = none, asking.fab.reqs.find (hdr 1 2).wid = some ⟨1, 10, 2, 1, 6, 0, .op 4 0⟩,
            (hdr 1 2).vc = 2, { (hdr 1 2) with len := 0 }.len = 0, (hdr 1 2).wid ≠ 0, (hdr 1 2).dst = 1, (hdr 1 2).src = 10,
            asking.fab.sflow.find (flowKey 1 10 0) = none]]) = true := by decide

theorem wit_PacketArrival_reply :
    authOk rich 1 (rowPkt (sealed (hdr 1 1) none (.ack 0)) (.ack 0)) = true ∧
    authOk rich 1 (rowPkt (sealed (hdr 1 2) none (.reply 0 [1#8] [])) (.reply 0 [1#8] [])) = true ∧
    passes rich none (rowPkt (sealed (hdr 1 1) none (.reply 0 [1#8] [])) (.reply 0 [1#8] [])) 1 = true :=
  ⟨authOk_sealed _ _ _ _ (by decide), authOk_sealed _ _ _ _ (by decide), passes_sealed _ _ _ _ (by decide)⟩

/-- The mirror of extent 7 of module 6. -/
def mir : Ext := { home0 with kind := .mirror, st := .mirrored, home := 6, eid := 7, mirror := 5, base := 2 ^ 30, fva := 2 ^ 40 }
def mirroring : State := setExt 1 mir rich
def atom : AtomBody := ⟨64, 0, 0, 0, 1, 0, none⟩
def toHome : WriteBody := ⟨.home 64 0, [5#8], none, none, 1⟩

/-- Tree entry 7 is valid. -/
def treed : State := { rich with fab := { rich.fab with trees := [(7, tree7)] } }

theorem wit_PacketEffects :
    (let h := hdr 0 2
     let m : MirrorBody := ⟨6, 7, 0, [1#8], ⟨some 10, 1, 0, 4, true, none⟩⟩
     let r : RebuildBody := ⟨6, 7, 0, 0, [1#8], []⟩
     holds [holds [clean rich h none (.write toHome), !closing rich 1, !ctrBad rich 1 toHome.ctr,
                   admitAt rich 77 64 1 (some 0) none = .ok (0, home0), clean rich (hdr 1 2) none (.write ⟨.device 4096, [5#8], none, none, 1⟩),
                   clean rich h none (.read ⟨64, 0, 64, .load⟩), h.vc ≠ 7, admitAt rich 77 64 64 (some 0) none = .ok (0, home0),
                   clean rich h none (.atomic atom), !ctrBad rich 1 atom.ctr,
                   admitAt rich 77 64 (atomWidth atom.ty) (some 0) none = .ok (0, home0), clean rich (hdr 1 2) none (.signal 7 1),
                   partOfCtr rich 7 = some 1, clean (closer rich) (hdr 1 2) none (.signal 7 1), closing (closer rich) 1],
            holds [clean rich (hdr 1 2) none (.report true), clean rich { h with close := true } none .close,
                   clean mirroring h (some ⟨0, 6, 0, true⟩) (.read ⟨0, 7, 64, .load⟩), clean mirroring h none (.mirror m),
                   mirrorRoom (opened mirroring none (rowPkt (sealed h none (.mirror m)) (.mirror m))) h m,
                   mirrorExt mirroring 6 7 = some (1, mir), clean mirroring h none (.rebuild r),
                   forHere rich none (pkt 0 7 (.mctl (.scrub 0))), inTurn rich (hdr 0 7), !(hdr 0 7).mc, !(hdr 0 7).close,
                   clean treed { (hdr 1 3) with mc := true, tree := 7 } none (.write ⟨.device 4096, [5#8], none, none, 1⟩)]]) = true := by decide

/-- The duplicate-suppression table is full. -/
def crowded : State := { mirroring with fab := { mirroring.fab with dup := List.replicate 131072 (0, (0, 0, 0)) } }
def mirAtom : MirrorBody := ⟨6, 7, 0, [1#8], ⟨some 10, 1, 0, 4, true, some 3⟩⟩

theorem mirrorRoom_full (s : State) (h : Hdr) (hl : h.last = true) (hd : 131072 ≤ s.fab.dup.length) : mirrorRoom s h mirAtom = false := by
  have : ¬s.fab.dup.length < 131072 := by omega
  simp [mirrorRoom, mirAtom, hl, this]

theorem wit_PacketEffects_turnedAway :
    passes crowded none (rowPkt (sealed (hdr 0 2) none (.mirror mirAtom)) (.mirror mirAtom)) 1 = true ∧
    mirrorExt crowded 6 7 = some (1, mir) ∧
    mirrorRoom (opened crowded none (rowPkt (sealed (hdr 0 2) none (.mirror mirAtom)) (.mirror mirAtom))) (hdr 0 2) mirAtom = false := by
  refine ⟨passes_sealed _ _ _ _ (by decide), by decide, mirrorRoom_full _ _ rfl ?_⟩
  show 131072 ≤ (List.replicate 131072 (0, (0, 0, 0)) : List (Nat × Nat × Nat × Nat)).length
  rw [List.length_replicate]

theorem wit_PacketEffects_write : passes rich none (rowPkt (sealed (hdr 0 2) none (.write toHome)) (.write toHome)) 1 = true :=
  passes_sealed _ _ _ _ (by decide)

/-- A group in use; a vertex that waits for its left, or its right, operand. -/
def crec : CollRec := ⟨500, 0, 0, 0, 14, none, none, 0⟩
def cop0 : CollOp := ⟨0, 0, 2, false, 64, 0, 0, 14⟩
def vert (l r : Option CollRec) : CVert := ⟨3, 0, 0, 0, cop0, l, r, [], [], 0, false, false, 8, [], []⟩
def gActive (ms : Nat) : Grp := { grp0 with st := .active, p := { gprm with arrivalMs := ms }, members := [(0, 1), (1, 11)] }
def waitsFor (ms : Nat) (l r : Option CollRec) : State :=
  let s := setGrp 3 (gActive ms) rich
  { s with col := { s.col with verts := [vert l r] } }

theorem wit_CollectiveRecords :
    (let c (n : Nat) (b : Body) := clean rich (hdr n 1) none b
     let w (s : State) (ms : Nat) (l r : Option CollRec) :=
       live s && decide (s.col.grps.find 3 = some (gActive ms)) && decide (vertOf s 3 0 0 0 = some (vert l r))
     holds [c 2 (.header 0 0 true crec cop0), c 2 (.chunk ⟨500, 0, 0, 0, true, 0, [1#8], false, cop0⟩), c 1 (.result ⟨500, 0, 0, [1#8]⟩),
            c 2 (.done crec), c 1 (.go crec), c 1 (.abort crec), c 2 (.a2aReport crec), c 2 (.cause crec),
            w (waitsFor 9 none (some crec)) 9 none (some crec), w (waitsFor 9 (some crec) none) 9 (some crec) none, (9 : Nat) ≠ 0,
            w (waitsFor 0 none (some crec)) 0 none (some crec), w (waitsFor 9 (some crec) (some crec)) 9 (some crec) (some crec)]) = true := by
  decide

/-- An IDLE flit with its CRC-32C and parity, worked out apart from the model; and one with its first byte changed. -/
def idleFlit : Bytes := List.replicate 248 0#8 ++ [0xA2#8, 0x34#8, 0xD1#8, 0xD2#8, 0x27#8, 0x54#8, 0xE7#8, 0x01#8]
/-- Fabric port 0 of the module in some state of its link. -/
def link (f : OptPort → OptPort) : State := { rich with opt := [(0, f optUp)] }

/-- A LINK flit sent under LSEQ 4, and a flit header of a TYPE and LSEQ. -/
def tx4 : TxFlit := ⟨4, true, false, false, false, 0, 0, false, 0, [], none, 0⟩
def fhdr (type lseq : Nat) : FlitHdr := ⟨type, false, false, false, false, lseq, 0, 0, 0, false, 0⟩

theorem wit_Flits :
    (let sent := link (fun o => { o with sent := [tx4], next := 5 })
     let worn := link (fun o => { o with sent := [tx4], next := 5, replays := replayLimit rich })
     let stalled := link (fun o => { o with sent := [tx4], next := 5, stall := true })
     let g (t n : Nat) : Bytes := flitHdrBytes (fhdr t n) ++ zeroBytes 240
     holds [holds [live rich, !(optPort rich 63).lit, (optPort rich 0).lit, (optPort rich 0).sent = [], live sent, (optPort sent 0).lit,
            (optPort sent 0).sent = [tx4], !(optPort sent 0).stall, (optPort sent 0).replays < replayLimit sent, live worn, (optPort worn 0).lit,
            (optPort worn 0).sent ≠ [], !(optPort worn 0).stall, replayLimit worn ≤ (optPort worn 0).replays, live stalled, (optPort stalled 0).lit,
            (optPort stalled 0).stall],
      holds [(flitHdrOf (g 3 0)).type = 3, (flitHdrOf (g 0 0)).type = 0, (flitHdrOf (g 0 0)).crCount = 0, (g 0 0).drop 8 = zeroBytes 240,
            !(flitHdrOf (g 0 0)).nak, (flitHdrOf (g 1 7)).type = 1, !(flitHdrOf (g 1 7)).nak, (optPort (ackTo 0 (flitHdrOf (g 1 7)).ack rich) 0).lit,
            (flitHdrOf (g 1 7)).lseq ≠ (optPort (ackTo 0 0 rich) 0).expect, (flitHdrOf (g 2 0)).type = 2, !(flitHdrOf (g 2 0)).nak,
            (flitHdrOf (g 2 0)).ack = 0, (flitHdrOf (g 2 0)).lseq = (optPort (ackTo 0 0 rich) 0).expect]]) = true := by decide

theorem wit_Flits_good : (flitCheck idleFlit).isSome = true := by decide +kernel
theorem wit_Flits_corrected : (flitCorrect (idleFlit.set 0 8#8)).isSome = true := by decide
-- 256 zero bytes are codewords, and their CRC does not hold.
theorem wit_Flits_crc : (flitCorrect (List.replicate 256 0#8)).isSome = true ∧ flitCheck (List.replicate 256 0#8) = none := by decide +kernel
theorem wit_Flits_bad : (flitCorrect ((idleFlit.set 0 8#8).set 2 8#8)).isNone = true := by decide

def swapOf (failed : Bool) : Swap := ⟨0, 0, 8, failed⟩

theorem wit_LinkLanes :
    (let tx (x : Option Swap) := link (fun o => { o with tx := { o.tx with swap := x } })
     let rx (x : Option Swap) := link (fun o => { o with rx := { o.rx with swap := x } })
     let cal := link (fun o => { o with rx := { o.rx with cal := some 8 }, tx := { o.tx with cal := some 8 } })
     let turning := { rich with regs := { rich.regs with cfg := rich.regs.cfg.ins 0xC1000 3#32 } }
     holds [holds [live rich, !(optPort rich 63).lit, (optPort rich 0).lit, (optPort rich 0).tx.map[7]? = some 7, (optPort rich 0).tx.swap = none,
                   (optPort rich 0).tx.cal = none, (optPort rich 0).tx.spare = some 8, live (tx (some (swapOf true))),
                   (optPort (tx (some (swapOf true))) 0).lit, (optPort (tx (some (swapOf true))) 0).tx.swap = some (swapOf true),
                   (optPort (tx (some (swapOf false))) 0).tx.swap = some (swapOf false), (swapOf true).failed, !(swapOf false).failed,
                   !doomed rich 8, live cal, (optPort cal 0).lit, (optPort cal 0).rx.cal = some 8],
            holds [(optPort rich 0).rx.map.idxOf? 7 = some 7, (optPort rich 0).rx.swap = none, (optPort rich 0).rx.spare = some 8,
                   live (rx (some (swapOf false))), (optPort (rx (some (swapOf false))) 0).rx.swap = some (swapOf false),
                   !swapping (optPort rich 0).rx, !swapping (optPort rich 0).tx, swapping (optPort (rx (some (swapOf true))) 0).rx,
                   live (rx (some (swapOf true))), (optPort (rx (some (swapOf true))) 0).lit,
                   swapping (optPort (tx (some (swapOf true))) 0).tx, mayRotate turning 0, live turning, (optPort turning 0).tx.spare = some 8,
                   rotateNext (optPort turning 0).tx.map 8 = some 0, (optPort turning 0).tx.map.idxOf? 0 = some 0, (optPort turning 0).tx.swap = none,
                   (optPort turning 0).tx.cal = none, !mayRotate rich 63,
                   (optPort cal 0).tx.cal = some 8]]) = true := by decide

theorem wit_LinkTraining :
    (let on := { rich with regs := { rich.regs with cfg := rich.regs.cfg.ins 0xC1000 1#32 } }
     let at' (k : Nat) (st : OptSt) := { on with opt := [(0, { optUp with st := st, step := k })] }
     let lone := { on with opt := [(0, { optUp with st := .training, step := 5, nbr := none })] }
     let fresh := { on with opt := [(0, { optUp with st := .training, told := .off })] }
     let all := List.range 9
     holds [holds [live (at' 4 .training), trainable (at' 4 .training) 0, (optPort (at' 4 .training) 0).st = .training,
                   (optPort (at' 4 .training) 0).step = 4, live lone, trainable lone 0, (optPort lone 0).st = .training, (optPort lone 0).step = 5,
                   (optPort lone 0).nbr = none, (measured [] [] (optPort (at' 6 .training) 0).rx).map.length < minLanes on,
                   (optPort (at' 4 .training) 0).step ≠ 5, live rich, (optPort rich 0).lit, (optPort rich 0).sent = [], (optPort rich 0).data = [],
                   rich.fab.cuts = [], live fresh, (optPort fresh 0).st ≠ (optPort fresh 0).told, (optPort fresh 0).st ≠ .down, !(optPort fresh 0).lit,
                   !([OptSt.up, .spareless, .degraded].contains (optPort fresh 0).told)],
            holds [live (at' 1 .training), trainable (at' 1 .training) 0, (optPort (at' 1 .training) 0).st = .training,
            (optPort (at' 1 .training) 0).step < 4, (optPort (at' 5 .training) 0).step = 5, (optPort (at' 5 .training) 0).nbr.isSome,
            trainable (at' 5 .training) 0, (optPort (at' 6 .training) 0).step = 6, trainable (at' 6 .training) 0,
            minLanes on ≤ (measured all [] (optPort (at' 6 .training) 0).rx).map.length, live rich, !trainable rich 63, (optPort rich 0).st ≠ .training,
            5 ≤ (optPort (at' 5 .training) 0).step, (optPort rich 63).st = .off, (optPort (at' 0 .down) 0).st = .down,
            (optPort (at' 7 .training) 0).step = 7, (optPort (at' 7 .training) 0).nbr.isSome,
            portState (at' 7 .training) (optPort (at' 7 .training) 0) ≠ .down, (optPort rich 0).st ≠ .off, (optPort rich 0).st ≠ .down,
            live (at' 0 .down), optEn (at' 0 .down) 0, trainable (setOpt (at' 0 .down) 0 { optPort (at' 0 .down) 0 with pll := true }) 0,
            (optPort rich 0).st = (optPort rich 0).told, (optPort (at' 0 .down) 0).st ≠ (optPort (at' 0 .down) 0).told]]) = true := by decide

/-- Module 6's advertisement of its link to this module. -/
def lsa6 (seq : Nat) : Lsa := ⟨6, seq, false, false, [⟨1, 5, 0, 1, false⟩]⟩

theorem wit_Repair :
    (let known := { rich with rep := { rich.rep with lsdb := [(6, lsa6 9)], hold := some 4 } }
     let met := { rich with rep := { rich.rep with lsdb := [(5, { (lsa6 1) with origin := 5, ports := [⟨0, 6, 1, 1, false⟩] }), (6, lsa6 9)] } }
     let leaving := { rich with rep := { rich.rep with leaving := true } }
     let alone := { rich with opt := [] }
     holds [!portUp rich 5, (lsa6 1).origin ≠ 5, { (lsa6 1) with origin := 5 }.origin = rich.sys.moduleId, portUp known 0,
            (List.range 64).all (fun p => !portUp alone p), sameLsa (lsa6 9) (lsa6 10), live rich, portUp rich 0, (lsa6 1).origin ≠ rich.sys.moduleId, rich.rep.lsdb.find 6 = none, rich.rep.hold = none, live known,
            known.rep.lsdb.find 6 = some (lsa6 9), newerSeq 10 9, !newerSeq 9 9, known.rep.hold.isSome, !reachable rich 6, live met,
            reachable met 6, known.rep.hold = some 4, quiet rich, linked rich, live alone, !linked alone, !alone.rep.isolated, !rich.rep.leaving,
            live leaving, leaving.rep.leaving]) = true := by decide

def am (l : Link) : RAcc := ⟨.mgt l, 9, 4⟩
def ah (n : Nat) : RAcc := ⟨.host 0, 9, n⟩

theorem wit_RegisterWrites :
    (let kept := { rich with mgt := { rich.mgt with last := [(0, (9, .regResp (.mgt .a) 9 .ok 3))] } }
     let d := regDef 0x380004
     let torn := setPart rich 1 { part rich 1 with st := .torn }
     let idle := setPart rich 1 { part rich 1 with st := .idle }
     holds [holds [regRow (.registerWrite (am .a) 0x1000004 1#32) = some (am .a, 0x1000004, 1#32), regRow (.fltPop (am .a) 1#32) = some (am .a, 0x38000C, 1#32),
                   running rich, freshTxn rich .a 9, 0x10004 % 4 = 0, !inCounters 0x10004, resolve 0x10004 = some (0x10004, .plain),
                   rich.mgt.holder = some .a, !inDoorbells 0x10004, rich.mgt.holder ≠ some .b, freshTxn rich .b 9, !leaseFreeReg 0x10004,
                   leaseFreeReg 0x10, resolve 0x10 = some (0x10, .plain), resolve 0x3000000 = some (0, .tgl), (3 : Nat) % 4 ≠ 0,
                   linkStored kept .a 9 = some (.regResp (.mgt .a) 9 .ok 3), d.isSome || !d.isSome],
            holds [regRow (.registerWrite ⟨.ctrl, 0, 4⟩ 0x10004 1#32) = some (⟨.ctrl, 0, 4⟩, 0x10004, 1#32), fwRuns rich,
                   regRow (.registerWrite (ah 4) 0x10004 1#32) = some (ah 4, 0x10004, 1#32), ioUp (cxlPort rich 0), attachOf rich 0 = some 0,
                   partOfQueue rich 4 = some 1, boundTo rich 1 0, (part rich 1).st = .active, partOfQueue rich 8 = some 2, !boundTo rich 2 0,
                   running torn, partOfQueue torn 4 = some 1, boundTo torn 1 0, (part torn 1).st = .torn, attachOf torn 0 = some 0, ioUp (cxlPort torn 0),
                   running idle, partOfQueue idle 4 = some 1, boundTo idle 1 0, (part idle 1).st = .idle],
            holds [attachOf rich 0 = some 0, ioUp (cxlPort rich 0), (que rich 4).st ≠ .disabled, (que rich 4).attach = 0, (ah 8).size = 8,
                   bitsOf (15 + 15 * 2 ^ 16) 63 33 = 0, bitsOf (15 + 15 * 2 ^ 16) 15 0 < 2 ^ (que rich 4).sqLog2,
                   bitsOf (15 + 15 * 2 ^ 16) 31 16 < 2 ^ (que rich 4).cqLog2, 2 ^ (que rich 4).sqLog2 ≤ bitsOf 16 15 0,
                   2 ^ (que rich 4).cqLog2 ≤ bitsOf (16 * 2 ^ 16) 31 16]]) = true := by decide

theorem wit_RegisterWrites_plain :
    (let r? := regTable.find? (fun r => r.writable && r.aliasMask ≠ 0#32 && r.rwl ≠ 0 && r.off ≥ 0x40000 && r.off < 0x80000)
     match r? with
     | some r =>
       let v (d : Word) := (clampAll r (newBits r .plain (cfgReg rich r.off) d)).1
       holds [regDef r.off = some r, ([0#32, 0xFFFFFFFF#32]).any (fun d => decide ((v d ^^^ cfgReg rich r.off) &&& BitVec.ofNat 32 r.rwl ≠ 0#32)),
              decide ((v (cfgReg rich r.off) ^^^ cfgReg rich r.off) &&& BitVec.ofNat 32 r.rwl = 0#32)]
     | none => false) = true := by decide

theorem wit_RegisterActions_writes : mgrWrites rich (am .a) .a := by
  refine ⟨by decide, rfl, by decide, rfl⟩

theorem wit_RegisterActions :
    (let wrong := { rich with regs := { rich.regs with armed := true, ref := 0 } }
     let low := { rich with opt := [(0, { optUp with st := .down })], regs := { rich.regs with cfg := rich.regs.cfg.ins 0xC1000 1#32 } }
     let open_ := setAcc rich 0 { acc rich 0 with unlocked := true }
     holds [!unbound rich, fwRuns rich, live rich, freshTxn rich .a 9, running rich, !rich.regs.armed, running wrong, wrong.regs.armed,
            wrong.flt.q.length < 4096, freshTxn rich .b 9, (optPort rich 63).st = .off, !optEn rich 63, lasersOn rich, (optPort rich 63).pll,
            (optPort low 0).st = .down, optEn low 0, lasersOn low, (optPort low 0).pll, running low, low.mgt.holder = some .a, freshTxn low .a 9,
            ioUp (cxlPort rich 0), (acc open_ 0).unlocked, running open_, rich.clk.gated < 32, litIdle rich ≤ (2047#32).toNat,
            (0#32 : Word).toNat < litIdle rich, cfgReg rich 0x10008 = 0#32]) = true := by decide

/-- A comparison that differs: the reference is taken from the CRC itself, and changed. -/
theorem wit_RegisterActions_crc : ∃ r : Word, let s := { rich with regs := { rich.regs with armed := true, ref := r } }
    running s = true ∧ s.regs.armed = true ∧ configCrc s ≠ s.regs.ref ∧ s.flt.q.length < 4096 := by
  have h (x : Word) : x ≠ x + 1#32 := fun e => by have := congrArg BitVec.toNat e; simp at this; omega
  have g (r : Word) : configCrc { rich with regs := { rich.regs with armed := true, ref := r } } = configCrc rich := rfl
  exact ⟨configCrc rich + 1#32, by decide, rfl, by rw [g]; exact h _, by decide⟩

theorem wit_FaultQueue :
    (let full := { rich with flt := { rich.flt with q := List.replicate 4096 rec0 } }
     holds [(63 : Nat) < 64, rich.flt.q.length < 4096, 4096 ≤ full.flt.q.length]) = true := by decide

/-- The debug port is enabled; core 3 is halted; every core is. -/
def bug (halted : List Nat) : State := { rich with dbg := { rich.dbg with en := true, halted := halted, bps := [(8 * 3 + 7, 64)] } }

theorem wit_DebugOperations :
    (let busy := { bug [] with dbg := { (bug []).dbg with busy := some 1 } }
     let mem := { bug [] with dbg := { (bug []).dbg with mem := [(8, 1#8)] } }
     let on := { bug [] with dbg := { (bug []).dbg with bps := [] } }
     holds [dbgReady (bug []), (15 : Nat) < 16, dbgReady (bug [3]), (bug [3]).dbg.halted.contains 3, coreReg 63, coreReg 0x1FFF, !(bug [3]).dbg.halted.contains 4,
            live (bug []), (bug []).dbg.en, fwRuns (bug []), ((bug []).dbg.bps.find (8 * 3 + 7)).isSome, !rich.dbg.en, live rich,
            (bug []).dbg.bps.find 0 = none, (2 ^ 25 - 4) % 4 = 0, (bug (List.range 16)).dbg.halted.length = 16, dbgReady (bug (List.range 16)),
            (mem.dbg.mem.find 8).isSome, dbgReady mem, 2 ^ 25 % 4 = 0, 2 % 4 ≠ 0, !inCounters 0x10004, resolve 0x10004 = some (0x10004, .plain),
            !consents (part (bug []) 1) 0, on.dbg.halted = [], quiet on, dbgRow (.halt false 0) = some false, live busy, busy.dbg.busy.isSome,
            busy.dbg.en]) = true := by decide

/-- The smallest image: the sections of the identity helper and of the configuration, all zero (R433 to R436). -/
def flashHead : Bytes :=
  [0x57#8, 0x4F#8, 0x51#8, 0x4C#8, 1#8, 0#8, 0#8, 0#8, 0x40#8, 0x11#8, 0#8, 0#8, 0x09#8, 0xC3#8, 0x35#8, 0x68#8,
   1#8, 0#8, 0#8, 0#8, 0#8, 1#8, 0#8, 0#8, 0#8, 0x10#8, 0#8, 0#8, 0#8, 0#8, 0#8, 0#8,
   2#8, 0#8, 0#8, 0#8, 0#8, 0x11#8, 0#8, 0#8, 0x40#8]
def flash : Bytes := flashHead ++ List.replicate 4375 0#8

/-- CRC-32C over `n` zero bytes, each step's value reached before the next. -/
def crcZeros : Nat → Nat → Nat
  | 0, c => c
  | n + 1, c => match (crc32cByte (BitVec.ofNat 32 c) 0#8).toNat with
    | 0 => crcZeros n 0
    | k + 1 => crcZeros n (k + 1)

theorem crcZeros_eq (n c : Nat) : BitVec.ofNat 32 (crcZeros n c) = (List.replicate n 0#8).foldl crc32cByte (BitVec.ofNat 32 c) := by
  induction n generalizing c with
  | zero => rfl
  | succ n ih =>
    have h : crcZeros (n + 1) c = crcZeros n (crc32cByte (BitVec.ofNat 32 c) 0#8).toNat := by
      simp only [crcZeros]; split <;> rename_i e <;> rw [e]
    rw [h, ih, List.replicate_succ, List.foldl_cons, BitVec.ofNat_toNat, BitVec.setWidth_eq]

theorem crcZeros_add (a b c : Nat) : crcZeros (a + b) c = crcZeros a (crcZeros b c) := by
  induction b generalizing c with
  | zero => rfl
  | succ b ih =>
    have h (n : Nat) : crcZeros (n + 1) c = crcZeros n (crc32cByte (BitVec.ofNat 32 c) 0#8).toNat := by
      simp only [crcZeros]; split <;> rename_i e <;> rw [e]
    rw [← Nat.add_assoc, h, h, ih]

theorem flash_zeros : crcZeros 4375 1976862904 = 2546613494 := by decide +kernel

theorem flash_crc : crc32c (flash.drop 16) = 0x6835C309#32 := by
  have h : flash.drop 16 = flashHead.drop 16 ++ List.replicate 4375 0#8 := rfl
  have h0 : (flashHead.drop 16).foldl crc32cByte 0xFFFFFFFF#32 = BitVec.ofNat 32 1976862904 := by decide +kernel
  rw [crc32c, h, List.foldl_append, h0, ← crcZeros_eq, flash_zeros]; rfl

theorem wit_StartUp_image : imageErr (some flash) = 0 := by
  have hl : field flash 8 4 = 4416 := by decide +kernel
  have hn : flash.length = 4416 := by simp [flash, flashHead]
  have ht : flash.take 4416 = flash := List.take_of_length_le (by omega)
  have hm : flash.take 4 = [0x57#8, 0x4F#8, 0x51#8, 0x4C#8] := rfl
  have hv : field flash 4 2 = 1 := by decide +kernel
  have hc : field flash 12 4 = 0x6835C309 := by decide +kernel
  have hd : directoryOk flash 4416 = true := by decide +kernel
  have hg : configOk ((sectionOf flash 2).getD []) (sectionOf flash 5).isSome = true := by decide +kernel
  simp only [imageErr, hl, hn, ht, hm, hv, flash_crc, hc, hd, hg]
  decide

theorem wit_StartUp :
    (let read := { State.reset with sys := { State.reset.sys with imgRead := true, idDone := true } }
     holds [aonLive State.reset, !State.reset.sys.imgRead, imageErr none ≠ 0, aonLive read, read.sys.imgRead, !State.reset.sys.idDone,
            State.reset.sys.imgErr = 0, read.sys.idDone]) = true := by decide

/-! ### WellFormed: a term at the edge of each check passes, and the one beyond it is refused -/

/-- The greatest value of a field of `n` bits passes; the next does not. -/
def edge (n : Nat) (f : Nat → Instr) : Bool := (f (2 ^ n - 1)).wf && !(f (2 ^ n)).wf

/-- A length of `n` passes; `n + 1` does not. -/
def most (n : Nat) (f : Nat → Instr) : Bool := (f n).wf && !(f (n + 1)).wf

/-- A length of `n` passes; neither neighbour does. -/
def just (n : Nat) (f : Nat → Instr) : Bool := (f n).wf && !(f (n + 1)).wf && !(f (n - 1)).wf

def bytes (n : Nat) : Bytes := List.replicate n 0#8
theorem bytes_length (n : Nat) : (bytes n).length = n := List.length_replicate

theorem smoke_header :
    holds [edge 8 (fun v => .getVersion { ra with major := v }), edge 8 (fun v => .getVersion { ra with minor := v }),
           edge 32 (fun v => .getVersion { ra with tag := v }), edge 16 (fun v => .getVersion { ra with txn := v }),
           edge 16 (fun v => .latchSnap ⟨.mgt .a, v, 4⟩ 0), (Instr.latchSnap ⟨.host 0, 0, 8⟩ 0).wf, !(Instr.latchSnap ⟨.host 0, 0, 2⟩ 0).wf] = true := by
  decide

theorem smoke_module :
    holds [edge 32 (fun v => .reportAck ra v), just 32 (fun n => .attestGet ra (bytes n)), edge 8 (fun v => .modReset ra v),
           edge 32 (fun v => .fwBegin ra v 0), edge 32 (fun v => .fwBegin ra 0 v), edge 8 (fun v => .fwData ra v 0 []),
           edge 32 (fun v => .fwData ra 0 v []), edge 32 (fun v => .logRead ra v 0),
           edge 8 (fun v => .logRead ra 0 v), edge 32 (fun v => .ageRead ra v), edge 8 (fun v => .traceSet ra v (bytes 32)),
           just 32 (fun n => .traceSet ra 0 (bytes n)), edge 8 (fun v => .selftest ra v 0), edge 8 (fun v => .selftest ra 0 v)] = true := by decide

theorem smoke_data : holds [most 4075 (fun n => .fwData ra 0 0 (bytes n)), just 1312 (fun n => .consentSet ra 0 (bytes n))] = true := by decide

theorem smoke_partition :
    (let p (f : Nat → PartParams) := fun v => Instr.partSetup ra (f v)
     let q := PartParams.none
     holds [edge 8 (p (fun v => { q with part := v })), edge 32 (p (fun v => { q with jobTag := v })), edge 64 (p (fun v => { q with tenant := v })),
            edge 16 (p (fun v => { q with qBase := v })), edge 32 (p (fun v => { q with qCount := v })), edge 16 (p (fun v => { q with cBase := v })),
            edge 32 (p (fun v => { q with cCount := v })), edge 32 (p (fun v => { q with budget := v })),
            edge 16 (p (fun v => { q with reqTimeout := v })), edge 16 (p (fun v => { q with biTimeout := v })),
            !(Instr.partSetup ra { q with tenantKey := [1#8] }).wf, edge 8 (fun v => .partBind ra v 0 0), edge 8 (fun v => .partBind ra 0 v 0),
            edge 8 (fun v => .partBind ra 0 0 v), edge 8 (fun v => .partUnbind ra v 0 0), edge 8 (fun v => .partUnbind ra 0 v 0),
            edge 8 (fun v => .partUnbind ra 0 0 v), edge 8 (fun v => .partReset ra v 0), edge 8 (fun v => .partReset ra 0 v),
            edge 6 (fun v => .genTagReuseWaitEnd v), edge 8 (fun v => .partRelease ra v), edge 8 (fun v => .consentClear ra v),
            edge 8 (fun v => .partQuery ra v), edge 8 (fun v => .dossierRead ra v 0), edge 16 (fun v => .dossierRead ra 0 v),
            edge 32 (fun v => .jobAbort ra v), edge 6 (fun v => .partReleaseScrubDone v)]) = true := by decide

theorem smoke_keys :
    holds [edge 8 (fun v => .keyLoad ra v 0 0 (bytes 1568) (bytes 48)), edge 8 (fun v => .keyLoad ra 0 v 0 (bytes 1568) (bytes 48)),
           edge 32 (fun v => .keyLoad ra 0 0 v (bytes 1568) (bytes 48)), just 1568 (fun n => .keyLoad ra 0 0 0 (bytes n) (bytes 48)),
           just 48 (fun n => .keyLoad ra 0 0 0 (bytes 1568) (bytes n)),
           just 1793 (fun n => .partSetup ra { PartParams.none with tenantKey := bytes n })] = true := by decide

theorem smoke_extents :
    (let a : ExtAddArgs := ⟨0, 0, 0, 0, 0, 0, 0, false, false⟩
     let p : ExtPresentArgs := ⟨0, 0, 0, 0, 0, 0, 0, 0, false⟩
     holds [holds [edge 16 (fun v => .extAdd ra { a with ext := v }), edge 64 (fun v => .extAdd ra { a with base := v }),
                   edge 8 (fun v => .extAdd ra { a with sizeLog2 := v }), edge 64 (fun v => .extAdd ra { a with fva := v }),
                   edge 8 (fun v => .extAdd ra { a with part := v }), edge 32 (fun v => .extAdd ra { a with job := v }),
                   edge 64 (fun v => .extAdd ra { a with tenant := v }), edge 16 (fun v => .extPresent ra { p with home := v }),
                   edge 16 (fun v => .extPresent ra { p with ext := v }), edge 64 (fun v => .extPresent ra { p with base := v }),
                   edge 8 (fun v => .extPresent ra { p with sizeLog2 := v }), edge 64 (fun v => .extPresent ra { p with fva := v }),
                   edge 8 (fun v => .extPresent ra { p with part := v }), edge 32 (fun v => .extPresent ra { p with job := v }),
                   edge 16 (fun v => .extPresent ra { p with mask := v })],
            holds [edge 16 (fun v => .extMirror ra v 0), edge 16 (fun v => .extMirror ra 0 v), edge 16 (fun v => .extRevoke ra v 0 0 0),
                   edge 16 (fun v => .extRevoke ra 0 v 0 0), edge 8 (fun v => .extRevoke ra 0 0 v 0), edge 32 (fun v => .extRevoke ra 0 0 0 v),
                   edge 16 (fun v => .extShackle ra v 0 0 0 0), edge 8 (fun v => .extShackle ra 0 v 0 0 0), edge 32 (fun v => .extShackle ra 0 0 v 0 0),
                   edge 64 (fun v => .extShackle ra 0 0 0 v 0), edge 64 (fun v => .extShackle ra 0 0 0 0 v), edge 16 (fun v => .extQuery ra v 0 0),
                   edge 16 (fun v => .extQuery ra 0 v 0), edge 8 (fun v => .extQuery ra 0 0 v), edge 2 (fun v => .revokeDrainDone v 0),
                   edge 14 (fun v => .revokeDrainDone 0 v), edge 2 (fun v => .scrubDone v 0), edge 14 (fun v => .scrubDone 0 v),
                   edge 2 (fun v => .forcedRevokeTimeout v 0), edge 14 (fun v => .forcedRevokeTimeout 0 v)]]) = true := by decide

theorem smoke_tables :
    (let g : GrpParams := ⟨0, 0, 0, 0, false, 0, 0, 0, 0, 0, 0, 0, 0, 0⟩
     let q : QueArgs := ⟨0, 0, 0, 0, 0, 0, 0, 0⟩
     let t : TreeEntry := ⟨false, false, 0, 0, 0, 0, 0, 0, false, List.replicate 31 (0, 0), true⟩
     let an : AnaArgs := ⟨0, false, 0, 0, 0, 0, 0⟩
     let gc (f : Nat → GrpParams) := fun v => Instr.grpCreate ra (f v)
     let tw (f : Nat → TreeEntry) := fun v => Instr.treeWrite ra 0 (f v)
     holds [holds [edge 8 (fun v => .xltMap ra v 0 0 []), edge 64 (fun v => .xltMap ra 0 v 0 []), edge 8 (fun v => .xltMap ra 0 0 v []),
                   most 255 (fun n => .xltMap ra 0 0 0 (List.replicate n 0)), edge 8 (fun v => .xltUnmap ra v 0 0), edge 64 (fun v => .xltUnmap ra 0 v 0),
                   edge 64 (fun v => .xltUnmap ra 0 0 v), edge 8 (fun v => .xltInval ra v false 0 0), edge 64 (fun v => .xltInval ra 0 false v 0),
                   edge 64 (fun v => .xltInval ra 0 false 0 v), edge 8 (fun v => .xltQuery ra v 0), edge 64 (fun v => .xltQuery ra 0 v)],
            holds [edge 16 (fun v => .queCreate ra { q with q := v }), edge 8 (fun v => .queCreate ra { q with cls := v }),
                   edge 8 (fun v => .queCreate ra { q with weight := v }), edge 64 (fun v => .queCreate ra { q with sqBase := v }),
                   edge 8 (fun v => .queCreate ra { q with sqLog2 := v }), edge 64 (fun v => .queCreate ra { q with cqBase := v }),
                   edge 8 (fun v => .queCreate ra { q with cqLog2 := v }), edge 16 (fun v => .queCreate ra { q with msix := v }),
                   edge 16 (fun v => .queResume ra v), edge 16 (fun v => .queDestroy ra v), edge 16 (fun v => .queQuery ra v)],
            holds [edge 32 (gc (fun v => { g with groupTag := v })), edge 32 (gc (fun v => { g with jobTag := v })), edge 8 (gc (fun v => { g with part := v })),
                   edge 16 (gc (fun v => { g with ctx := v })), edge 8 (gc (fun v => { g with weight := v })), edge 8 (gc (fun v => { g with latticeId := v })),
                   edge 8 (gc (fun v => { g with share := v })), edge 32 (gc (fun v => { g with n := v })), edge 8 (gc (fun v => { g with chunkLog2 := v })),
                   edge 8 (gc (fun v => { g with depth := v })), edge 16 (gc (fun v => { g with budget := v })), edge 16 (gc (fun v => { g with arrivalMs := v })),
                   edge 16 (gc (fun v => { g with tree := v })), edge 16 (fun v => .grpMembers ra v 0 []), edge 32 (fun v => .grpMembers ra 0 v []),
                   edge 32 (fun v => .grpMembers ra 0 0 [0, v]), edge 16 (fun v => .grpHosts ra v []), edge 8 (fun v => .grpHosts ra 0 [⟨v, 0, 0, 0⟩]),
                   edge 32 (fun v => .grpHosts ra 0 [⟨0, v, 0, 0⟩]), edge 32 (fun v => .grpHosts ra 0 [⟨0, 0, v, 0⟩]), edge 16 (fun v => .grpHosts ra 0 [⟨0, 0, 0, v⟩]),
                   edge 16 (fun v => .grpArm ra v), edge 16 (fun v => .grpDestroy ra v), edge 16 (fun v => .grpQuery ra v)],
            holds [edge 32 (fun v => .epidAssign ra v 0 0 0), edge 8 (fun v => .epidAssign ra 0 v 0 0), edge 8 (fun v => .epidAssign ra 0 0 v 0),
                   edge 16 (fun v => .epidAssign ra 0 0 0 v), edge 32 (fun v => .epidRelease ra v), edge 16 (fun v => .treeWrite ra v t),
                   edge 16 (tw (fun v => { t with attachMask := v })), edge 17 (tw (fun v => { t with up := v })), edge 6 (tw (fun v => { t with part := v })),
                   edge 3 (tw (fun v => { t with vc := v })), edge 5 (tw (fun v => { t with nbranch := v })), edge 32 (tw (fun v => { t with jobTag := v })),
                   just 31 (tw (fun n => { t with branches := List.replicate n (0, 0) })), edge 17 (tw (fun v => { t with branches := (v, 0) :: t.branches.drop 1 })),
                   edge 13 (tw (fun v => { t with branches := (0, v) :: t.branches.drop 1 })), edge 16 (fun v => .treeClear ra v)],
            holds [edge 8 (fun v => .anaSet ra { an with port := v }), edge 8 (fun v => .anaSet ra { an with src := v }),
                   edge 8 (fun v => .anaSet ra { an with dir := v }), edge 32 (fun v => .anaSet ra { an with srcEpid := v }),
                   edge 32 (fun v => .anaSet ra { an with dstEpid := v }), edge 8 (fun v => .anaSet ra { an with vc := v }),
                   just 1312 (fun n => .anaConsent ra (bytes n)), edge 32 (fun v => .anaClear ra false false v), edge 8 (fun v => .fabQuery ra v 0),
                   edge 32 (fun v => .fabQuery ra 0 v)]]) = true := by decide

theorem smoke_host :
    holds [holds [edge 16 (fun v => .clearEventRecords 0 [0, v]), edge 13 (fun v => .addDynamicCapacityResponse 0 v 0 true),
                  edge 14 (fun v => .addDynamicCapacityResponse 0 0 v true), edge 4 (fun v => .presentAnswerTimeout v 0 0),
                  edge 13 (fun v => .presentAnswerTimeout 0 v 0), edge 14 (fun v => .presentAnswerTimeout 0 0 v),
                  edge 13 (fun v => .releaseDynamicCapacity 0 v 0), edge 14 (fun v => .releaseDynamicCapacity 0 0 v),
                  edge 16 (fun v => .doorbell (ah 8) v 0 true), edge 16 (fun v => .nop v (dsc 0)), edge 16 (fun v => .put v (dsc 0)),
                  edge 16 (fun v => .get v (dsc 0)), edge 16 (fun v => .copyTile v (dsc 0)), edge 16 (fun v => .atomic v (dsc 0)),
                  edge 16 (fun v => .wait v (dsc 0)), edge 16 (fun v => .fence v (dsc 0)), edge 16 (fun v => .signal v (dsc 0)),
                  edge 16 (fun v => .coll v (dsc 0)), edge 16 (fun v => .epochClose v (dsc 0)), edge 6 (fun v => .epochCloseDrainDone v),
                  edge 16 (fun v => .quantumGrant 0 v), edge 6 (fun v => .tableWalkDone v 0 false), edge 50 (fun v => .tableWalkDone 0 v false)],
           holds [edge 64 (fun v => .cxlMemLoad (line v) .data), just 64 (fun n => .cxlMemStore (line 0) (List.replicate n true) (bytes 64) .any),
                  just 64 (fun n => .cxlMemStore (line 0) (List.replicate 64 true) (bytes n) .any), edge 31 (fun v => .biRsp 0 v true),
                  edge 31 (fun v => .biTimeout v 0), edge 4 (fun v => .biTimeout 0 v), edge 26 (fun v => .landingCounterRead 0 v 8),
                  !(Instr.landingCounterRead 0 0 2).wf, edge 64 (fun v => .hdmDecoderCommit 0 0 ⟨v, 0, 0, 0, 0⟩),
                  most (2 ^ 64) (fun v => .hdmDecoderCommit 0 0 ⟨0, v, 0, 0, 0⟩), edge 8 (fun v => .hdmDecoderCommit 0 0 ⟨0, 0, v, 0, 0⟩),
                  edge 16 (fun v => .hdmDecoderCommit 0 0 ⟨0, 0, 0, v, 0⟩), edge 8 (fun v => .hdmDecoderCommit 0 0 ⟨0, 0, 0, 0, v⟩),
                  edge 5 (fun v => .cxlLinkUp 0 v false), edge 5 (fun v => .cxlTrainRetry 0 v false), edge 5 (fun v => .cxlLinkDown 0 v),
                  edge 5 (fun v => .l0pRequest 0 v)]] = true := by decide

theorem smoke_long :
    holds [most 4096 (fun n => .prefetchReply 0 (bytes n) []), most 4096 (fun n => .cxlIoCompletion 0 true (bytes n))] = true := by
  have h (d : Bytes) : (Instr.prefetchReply 0 d []).wf = decide (d.length ≤ 4096) := Bool.and_true _
  have k (d : Bytes) : (Instr.cxlIoCompletion 0 true d).wf = decide (d.length ≤ 4096) := rfl
  simp only [holds, most, h, k, bytes_length]; decide

theorem smoke_valid : most 16 (fun n => .prefetchReply 0 [] (List.replicate n true)) = true := by decide

theorem smoke_power :
    holds [edge 20 (fun v => .governorTick v 0 0 0 0), edge 16 (fun v => .governorTick 0 v 0 0 0), edge 16 (fun v => .governorTick 0 0 v 0 0),
           edge 8 (fun v => .governorTick 0 0 0 v 0), edge 8 (fun v => .governorTick 0 0 0 0 v), edge 37 (fun v => .patrolRead v []),
           edge 34 (fun v => .patrolRead 0 [(v, 0)]), most 71 (fun v => .patrolRead 0 [(0, v)]), edge 12 (fun v => .sramVminTest 0 v),
           edge 64 (fun v => .moduleFault v 0), edge 8 (fun v => .moduleFault 0 v)] = true := by decide

theorem smoke_links :
    (let l : Lsa := ⟨0, 0, false, false, []⟩
     let r : PortRec := ⟨0, 0, 0, 0, false⟩
     holds [holds [just 256 (fun n => .flitReceived 0 (bytes n)), edge 13 (fun v => .train 0 v 0 0 0 0), edge 6 (fun v => .train 0 0 v 0 0 0),
                   edge 4 (fun v => .train 0 0 0 v 0 0), edge 4 (fun v => .train 0 0 0 0 v 0), edge 32 (fun v => .train 0 0 0 0 0 v),
                   edge 3 (fun v => .swapReq 0 true v 0 0 true), edge 4 (fun v => .swapReq 0 true 0 v 0 true), edge 4 (fun v => .swapReq 0 true 0 0 v true),
                   edge 3 (fun v => .swapDone 0 true v 0 0), edge 4 (fun v => .swapDone 0 true 0 v 0), edge 14 (fun v => .swapDone 0 true 0 0 v),
                   edge 3 (fun v => .swapAbort 0 true v 0), edge 8 (fun v => .swapAbort 0 true 0 v), edge 4 (fun v => .calStart 0 v),
                   edge 4 (fun v => .calEnd 0 v true), edge 4 (fun v => .lanes 0 true v 0 0), edge 32 (fun v => .lanes 0 true 0 v 0),
                   edge 14 (fun v => .lanes 0 true 0 0 v), edge 4 (fun v => .trainingStepDone 0 [v] []),
                   most 9 (fun n => .trainingStepDone 0 [] (List.replicate n 0))],
            holds [edge 13 (fun v => .lsaReceived 0 { l with origin := v }), edge 32 (fun v => .lsaReceived 0 { l with seq := v }),
                   most 64 (fun n => .lsaReceived 0 { l with ports := List.replicate n r }), edge 6 (fun v => .lsaReceived 0 { l with ports := [{ r with port := v }] }),
                   edge 13 (fun v => .lsaReceived 0 { l with ports := [{ r with nbr := v }] }), edge 6 (fun v => .lsaReceived 0 { l with ports := [{ r with nbrPort := v }] }),
                   edge 4 (fun v => .lsaReceived 0 { l with ports := [{ r with weight := v }] }), edge 13 (fun v => .lsaAgeOut v),
                   edge 13 (fun v => .lostFlowFree v), edge 17 (fun v => .flowIdleClose v 0 0), edge 17 (fun v => .retxDue 0 v 0), edge 3 (fun v => .retxDue 0 0 v),
                   edge 17 (fun v => .dupSuppressExpiry v 0), edge 32 (fun v => .dupSuppressExpiry 0 v), edge 32 (fun v => .packetExpiry 0 0 0 v),
                   edge 32 (fun v => .noRouteExpiry 0 0 0 v), edge 32 (fun v => .redirectWaitExpiry 0 0 0 v), edge 17 (fun v => .requestTimeout v 0),
                   edge 32 (fun v => .requestTimeout 0 v)]]) = true := by decide

theorem smoke_packets :
    (let e (h : Hdr) : Instr := .flowClose none ⟨h, none, .zero⟩
     let h := hdr 0 0
     let e0 : Env := ⟨h, none, .zero⟩
     let w (b : WriteBody) : Instr := .fabricWrite none e0 b
     let m (b : MirrorBody) : Instr := .mirrorWrite none e0 b
     let o : Origin := ⟨some 0, 0, 0, 0, true, none⟩
     let mb : MirrorBody := ⟨0, 0, 0, [], o⟩
     let r (b : RebuildBody) : Instr := .rebuildStep none e0 b
     let rb : RebuildBody := ⟨0, 0, 0, 0, [0#8], []⟩
     let a (b : AtomBody) : Instr := .atomicRequest none e0 b
     holds [holds [edge 17 (fun v => e { h with dst := v }), edge 17 (fun v => e { h with src := v }), edge 3 (fun v => e { h with vc := v }),
                   edge 3 (fun v => e { h with hops := v }), edge 13 (fun v => e { h with tree := v }), edge 32 (fun v => e { h with seq := v }),
                   edge 32 (fun v => e { h with job := v }), edge 8 (fun v => e { h with gen := v }), edge 13 (fun v => e { h with len := v }),
                   edge 32 (fun v => e { h with wid := v }), edge 3 (fun v => e { h with ackedVc := v }),
                   edge 32 (fun v => .flowClose none ⟨h, some ⟨v, 0, 0, true⟩, .zero⟩), edge 13 (fun v => .flowClose none ⟨h, some ⟨0, v, 0, true⟩, .zero⟩),
                   most 2 (fun v => .flowClose none ⟨h, some ⟨0, 0, v, true⟩, .zero⟩), edge 63 (fun v => .flowClose none ⟨h, none, .tagged v true 0⟩),
                   !(Instr.redirectRequest none e0 .close).wf, edge 16 (fun v => .fabricPacketTransit 0 ⟨h, none, .signal v 0, .zero⟩ 1), !(Instr.fabricPacketTransit 0 ⟨h, none, .close, .zero⟩ 0).wf],
            holds [edge 37 (fun v => w ⟨.home v 0, [], none, none, 0⟩), edge 14 (fun v => w ⟨.home 0 v, [], none, none, 0⟩),
                   edge 64 (fun v => w ⟨.device v, [], none, none, 0⟩), just 1 (fun n => w ⟨.device 0, [0#8], some (List.replicate n true), none, 0⟩),
                   edge 16 (fun v => w ⟨.device 0, [], none, some v, 0⟩), edge 32 (fun v => w ⟨.device 0, [], none, none, v⟩),
                   edge 37 (fun v => .fabricReadRequest none e0 ⟨v, 0, 0, .get⟩), edge 14 (fun v => .fabricReadRequest none e0 ⟨0, v, 0, .get⟩),
                   most 65536 (fun v => .fabricReadRequest none e0 ⟨0, 0, v, .get⟩), edge 37 (fun v => a { atom with addr := v }),
                   edge 14 (fun v => a { atom with ext := v }), edge 4 (fun v => a { atom with op := v }), edge 4 (fun v => a { atom with ty := v }),
                   edge 64 (fun v => a { atom with operand := v }), edge 64 (fun v => a { atom with compare := v }), edge 16 (fun v => a { atom with ctr := some v })],
            holds [edge 16 (fun v => .signalArrival none e0 v 0), edge 32 (fun v => .signalArrival none e0 0 v), edge 8 (fun v => .reply none e0 v [] []),
                   !(Instr.reply none e0 0 [0#8] [true, true]).wf, edge 8 (fun v => .acknowledgement none e0 v), edge 13 (fun v => m { mb with home := v }),
                   edge 14 (fun v => m { mb with ext := v }), edge 37 (fun v => m { mb with off := v }), edge 17 (fun v => m { mb with origin := { o with src := some v } }),
                   edge 3 (fun v => m { mb with origin := { o with vc := v } }), edge 32 (fun v => m { mb with origin := { o with seq := v } }),
                   edge 32 (fun v => m { mb with origin := { o with wid := v } }), edge 64 (fun v => m { mb with origin := { o with old := some v } }),
                   edge 13 (fun v => r { rb with home := v }), edge 14 (fun v => r { rb with ext := v }), edge 17 (fun v => r { rb with step := v }),
                   most (2 ^ 20 - 1) (fun v => r { rb with off := v }), most 0 (fun v => r { rb with poisoned := [v] })],
            holds [edge 14 (fun v => .mirrorControl none e0 (.create v 0 0 0 0 true)), edge 37 (fun v => .mirrorControl none e0 (.create 0 v 0 0 0 true)),
                   edge 6 (fun v => .mirrorControl none e0 (.create 0 0 v 0 0 true)), edge 50 (fun v => .mirrorControl none e0 (.create 0 0 0 v 0 true)),
                   edge 64 (fun v => .mirrorControl none e0 (.create 0 0 0 0 v true)), edge 14 (fun v => .mirrorControl none e0 (.created v 0)),
                   edge 8 (fun v => .mirrorControl none e0 (.created 0 v)), edge 14 (fun v => .mirrorControl none e0 (.rebind v 0 0 0)),
                   edge 32 (fun v => .mirrorControl none e0 (.rebind 0 v 0 0)), edge 64 (fun v => .mirrorControl none e0 (.rebind 0 0 v 0)),
                   edge 50 (fun v => .mirrorControl none e0 (.rebind 0 0 0 v)), edge 14 (fun v => .mirrorControl none e0 (.rebound v 0)),
                   edge 8 (fun v => .mirrorControl none e0 (.rebound 0 v)), edge 14 (fun v => .mirrorControl none e0 (.scrub v)),
                   edge 14 (fun v => .mirrorControl none e0 (.scrubbed v 0)), edge 8 (fun v => .mirrorControl none e0 (.scrubbed 0 v)),
                   edge 14 (fun v => .mirrorControl none e0 (.revoke v true)), edge 14 (fun v => .mirrorControl none e0 (.revoked v 0)),
                   edge 8 (fun v => .mirrorControl none e0 (.revoked 0 v)), edge 17 (fun v => .unprotectedRefusal none ⟨{ h with dst := v }, none, .zero⟩),
                   edge 17 (fun v => .multicastLeg none ⟨{ h with dst := v }, none, .zero⟩ .close)]]) = true := by decide

theorem smoke_payloads :
    (let e : Env := ⟨hdr 0 0, none, .zero⟩
     holds [most 4096 (fun n => .fabricWrite none e ⟨.device 0, bytes n, none, none, 0⟩), most 65536 (fun n => .reply none e 0 (bytes n) []),
            most 4096 (fun n => .mirrorWrite none e ⟨0, 0, 0, bytes n, ⟨none, 0, 0, 0, true, none⟩⟩),
            most 4096 (fun n => .rebuildStep none e ⟨0, 0, 0, 0, bytes n, []⟩),
            most 4096 (fun n => .contribution none e ⟨0, 0, 0, 0, true, 0, bytes n, false, cop0⟩),
            most 4096 (fun n => .resultChunk none e ⟨0, 0, 0, bytes n⟩)]) = true := by
  have w (d : Bytes) : (Instr.fabricWrite none ⟨hdr 0 0, none, .zero⟩ ⟨.device 0, d, none, none, 0⟩).wf = decide (d.length ≤ 4096) := by
    show (true && (true && decide (d.length ≤ 4096) && true && true && true)) = _; simp
  have r (d : Bytes) : (Instr.reply none ⟨hdr 0 0, none, .zero⟩ 0 d []).wf = decide (d.length ≤ 65536) := by
    show (true && (true && decide (d.length ≤ 65536) && true)) = _; simp
  have m (d : Bytes) : (Instr.mirrorWrite none ⟨hdr 0 0, none, .zero⟩ ⟨0, 0, 0, d, ⟨none, 0, 0, 0, true, none⟩⟩).wf = decide (d.length ≤ 4096) := by
    show (true && (true && true && true && decide (d.length ≤ 4096) && true)) = _; simp
  have b (d : Bytes) : (Instr.rebuildStep none ⟨hdr 0 0, none, .zero⟩ ⟨0, 0, 0, 0, d, []⟩).wf =
      (decide (0 + d.length ≤ 2 ^ 20) && decide (d.length ≤ 4096)) := by
    show (true && (true && true && true && decide (0 + d.length ≤ 2 ^ 20) && decide (d.length ≤ 4096) && true)) = _
    rw [Bool.true_and, Bool.and_true]; rfl
  have c (d : Bytes) : (Instr.contribution none ⟨hdr 0 0, none, .zero⟩ ⟨0, 0, 0, 0, true, 0, d, false, cop0⟩).wf = decide (d.length ≤ 4096) := by
    show (true && (true && true && true && true && decide (d.length ≤ 4096) && true)) = _; simp
  have x (d : Bytes) : (Instr.resultChunk none ⟨hdr 0 0, none, .zero⟩ ⟨0, 0, 0, d⟩).wf = decide (d.length ≤ 4096) := by
    show (true && (true && true && decide (d.length ≤ 4096))) = _; simp
  simp only [holds, most, w, r, m, b, c, x, bytes_length]; decide

theorem smoke_collectives :
    (let e0 : Env := ⟨hdr 0 0, none, .zero⟩
     let d (r : CollRec) : Instr := .done none e0 r
     let hd (c : CollOp) : Instr := .header none e0 0 0 true crec c
     let c (b : ChunkBody) : Instr := .contribution none e0 b
     let b : ChunkBody := ⟨0, 0, 0, 0, true, 0, [], false, cop0⟩
     holds [edge 32 (fun v => d { crec with group := v }), edge 32 (fun v => d { crec with seq := v }), edge 64 (fun v => d { crec with sig := v }),
            edge 24 (fun v => d { crec with lowRank := v }), edge 8 (fun v => d { crec with chunkLog2 := v }),
            edge 24 (fun v => d { crec with mismatch := some v }), edge 24 (fun v => d { crec with chunkMismatch := some v }),
            edge 8 (fun v => d { crec with code := v }), edge 8 (fun v => .go none e0 { crec with code := v }),
            edge 8 (fun v => .abort none e0 { crec with code := v }), edge 8 (fun v => .cause none e0 { crec with code := v }),
            edge 8 (fun v => .allToAllReport none e0 { crec with code := v }), edge 4 (fun v => hd { cop0 with collop := v }),
            edge 4 (fun v => hd { cop0 with operator := v }), edge 5 (fun v => hd { cop0 with fmt := v }), edge 40 (fun v => hd { cop0 with elements := v }),
            edge 17 (fun v => hd { cop0 with root := v }), edge 16 (fun v => hd { cop0 with rowLen := v }), edge 5 (fun v => hd { cop0 with chunkLog2 := v }),
            edge 5 (fun v => .header none e0 v 0 true crec cop0), edge 17 (fun v => .header none e0 0 v true crec cop0),
            edge 32 (fun v => c { b with group := v }), edge 32 (fun v => c { b with seq := v }), edge 5 (fun v => c { b with level := v }),
            edge 17 (fun v => c { b with vertex := v }), edge 32 (fun v => .resultChunk none e0 ⟨v, 0, 0, []⟩),
            edge 32 (fun v => .resultChunk none e0 ⟨0, v, 0, []⟩)]) = true := by decide

theorem smoke_others :
    (let d : Deadbolt := ⟨0, 0, 0, 0, 0, 0⟩
     holds [edge 16 (fun v => .deadboltMessage 0 { d with origin := v }), edge 32 (fun v => .deadboltMessage 0 { d with seq := v }),
            edge 32 (fun v => .deadboltMessage 0 { d with job := v }), edge 8 (fun v => .deadboltMessage 0 { d with cause := v }),
            edge 16 (fun v => .deadboltMessage 0 { d with subject := v }), edge 17 (fun v => .deadboltMessage 0 { d with epid := v }),
            edge 12 (fun v => .arrivalTimeout v 0 0 0), edge 32 (fun v => .arrivalTimeout 0 v 0 0), edge 5 (fun v => .arrivalTimeout 0 0 v 0),
            edge 17 (fun v => .arrivalTimeout 0 0 0 v), edge 26 (fun v => .registerWrite (am .a) v 0), edge 26 (fun v => .setAliasWrite (am .a) v 0),
            edge 26 (fun v => .clrAliasWrite (am .a) v 0), edge 26 (fun v => .tglAliasWrite (am .a) v 0), edge 8 (fun v => .halt true v),
            edge 8 (fun v => .resume true v), edge 8 (fun v => .step true v), edge 8 (fun v => .bpSet true v 0 0), edge 48 (fun v => .bpSet true 0 v 0),
            edge 32 (fun v => .bpSet true 0 0 v), edge 32 (fun v => .bpClear true 0 v), edge 48 (fun v => .coreRd true 0 v), edge 32 (fun v => .coreWr true 0 0 v),
            edge 48 (fun v => .memRd true v), edge 48 (fun v => .memWr true v 0), edge 48 (fun v => .regRd true v), edge 48 (fun v => .regWr true v 0),
            edge 48 (fun v => .partRd true 0 v), edge 48 (fun v => .partWr true 0 v 0)]) = true := by decide

/-! ### The manual's worked examples -/

/-- The list of a level, as many times as there are levels. -/
def canonical (op c : Nat) (l : List Nat) : List Nat :=
  let n := fmtUnit c
  (canonTree (tumblerUnit op c 0 false) 5 (l.map (leBytes n))).map leNat

-- Chapter 7, five ranks in BF16: 256, 1, 1, 1, 1 sum to 260 in the canonical tree, and to 256 one after the other.
theorem test_bf16_five_ranks : canonical 0 3 [0x4380, 0x3F80, 0x3F80, 0x3F80, 0x3F80] = [0x4382] := by decide
theorem test_bf16_tie_to_even : bf16.sum 0x4380 0x3F80 = 0x4380 ∧ bf16.sum 0x4381 0x3F80 = 0x4382 := by decide
theorem test_bf16_arrival_order : [0x3F80, 0x3F80, 0x3F80, 0x3F80].foldl bf16.sum 0x4380 = 0x4380 := by decide

-- Chapter 7: INT8 with SAT, ranks holding 100, 100 and −100 give 27.
theorem test_int8_saturates_each_step : intStep 0 8 true true (intStep 0 8 true true 100 100) 156 = 27 := by decide
theorem test_int8_wraps_without_sat : intStep 0 8 true false 100 100 = 200 := by decide

-- Chapter 7, one MXFP4 block.
theorem test_mxfp4_block : tumblerUnit 0 12 0 false ([0x7F#8, 0x37#8, 0x69#8] ++ zeroBytes 14) ([0x7E#8, 0x17#8, 0x79#8] ++ zeroBytes 14)
    = [0x80#8, 0x26#8, 0x69#8] ++ zeroBytes 14 := by decide
-- The same with element 0 zero in both: X is 0, elements 1 to 3 become 2, −1 and 6.
theorem test_mxfp4_block_saturates : tumblerUnit 0 12 0 false ([0x7F#8, 0x30#8, 0x69#8] ++ zeroBytes 14) ([0x7E#8, 0x10#8, 0x79#8] ++ zeroBytes 14)
    = [0x7F#8, 0x40#8, 0x7A#8] ++ zeroBytes 14 := by decide

-- Chapter 7, one row with d = 2 in BF16.
theorem test_softmerge_row :
    tumblerUnit 6 3 2 false (leBytes 4 0x40400000 ++ leBytes 4 0x40000000 ++ leBytes 2 0x3F80 ++ leBytes 2 0x3F00 ++ zeroBytes 4)
      (leBytes 4 0x40000000 ++ leBytes 4 0x40800000 ++ leBytes 2 0xBF80 ++ leBytes 2 0x3E80 ++ zeroBytes 4)
    = leBytes 4 0x40400000 ++ leBytes 4 0x405E2D59 ++ leBytes 2 0x3E1C ++ leBytes 2 0x3ECA ++ zeroBytes 4 := by decide +kernel
theorem test_exp_of_minus_one : expFP32 (fp32.decode 0xBF800000) = 0x3EBC5AB2 := by decide +kernel

-- Chapter 2, recipe 1: counter 517 after landings of 524,288 and twice 1,048,576 bytes.
theorem test_landing_counter :
    (let r := fun n s => raiseCtr 517 n s
     let s1 := r 524288 { rich with ctrs := [(517, 1048576)] }
     [s1.ctrs.get 0 517, (r 1048576 s1).ctrs.get 0 517, (r 1048576 (r 1048576 s1)).ctrs.get 0 517]) = [1572864, 2621440, 3670016] := by decide

-- Chapter 2, recipe 3: three ATOMIC ADDs of 1 to a word that holds 40 leave 43.
theorem test_atomic_counter : [1, 1, 1].foldl (fun o b => atomNew 0 3 o b 0) 40 = 43 := by decide
theorem test_atomic_compare_swap : atomNew 3 3 40 7 40 = 7 ∧ atomNew 3 3 41 7 40 = 41 := by decide

/-- Partition 1 with 64 KiB pages from FVA 0x3_8000_0000, all but page 12. -/
def sparse : State :=
  setPart rich 1 { part rich 1 with
    tabs := tabs4,
    ents := ents4 14 0 (((List.range 17).filter (· ≠ 12)).map (fun k => (k, BitVec.ofNat 128 (31 + k * 2 ^ 32 + 5 * 2 ^ 53)))) }
def toPage (a n : Nat) : Desc := dsc (1 + n * 2 ^ 32) 0 a 4

-- Chapter 4: the tile that straddles an unmapped page is one tile, and faults at the page base, or at its own first byte.
theorem test_tile_is_whole : tileLen (lookNow sparse 1) (toPage 0x380008000 1048576) 1048576 0 = 1048576 := by decide +kernel
theorem test_tile_faults_at_page_base :
    precheck (lookNow sparse 1) 5 (toPage 0x380008000 1048576) 1048576 0 1048576 none = some (St.unmapped, 0x3800C0000) := by decide +kernel
theorem test_tile_faults_at_first_byte :
    precheck (lookNow sparse 1) 5 (toPage 0x3800C4000 4096) 4096 0 4096 none = some (St.unmapped, 0x3800C4000) := by decide +kernel

/-- The COPY-TILE of chapter 5. -/
def keyBlock : Desc :=
  ⟨BitVec.ofNat 64 (3 + 16 + 2048 * 65536), 0x0000004000000000, 0x500001800, 4, BitVec.ofNat 64 (3072 + 200 * 2 ^ 32 + 2 ^ 48),
   BitVec.ofNat 64 (3072 + 65536 * 2 ^ 32), 0, 0⟩

-- Chapter 5: the last band of a 2-D tile that spans 200 pages has 8 rows.
theorem test_last_band : formatOk keyBlock = true ∧ tileLen (lookNow rich 1) keyBlock 614400 589824 = 24576 := by decide +kernel

-- Chapter 6: the headers of six ranks of which rank 5 differs, and RESULT.
theorem test_header_mismatch :
    (let h (sig low : Nat) : CollRec := ⟨0xA17, 119, sig, low, 16, none, none, 0⟩
     let v04 := joinHdr (h 7 4) (h 8 5)
     let v10 := joinHdr (joinHdr (h 7 0) (h 7 1)) (joinHdr (h 7 2) (h 7 3))
     ((joinHdr v10 v04).mismatch, v04.mismatch, v10.mismatch)) = (some 5, some 5, none) := by decide
theorem test_collective_result : colResult 5 21 119 = 0x00000077002A0005 := by decide

-- Chapter 8, a detour in the reference rack: the minimal choice and the detour.
theorem test_minimal_choice : pickBy [(8, 15), (9, 15)] 0x9E3779B9 = some 9 := by decide
theorem test_detour_choice :
    pickBy (((List.range 62).filter (fun p => p ≠ 8 && p ≠ 9 && p ≠ 40)).map (fun p => (p, 1))) 0x4F1B2C00 = some 20 := by decide

-- Chapter 8, a flow that meets congestion: 256, 224, 196, 171.5 and 175.5 GB/s, in 1/64 GB/s.
theorem test_rates :
    (let f (r : Nat) (e : Bool) : Nat := newRate rich true e r
     [f 16384 true, f 14336 true, f 12544 true, f 10976 false, f 16352 false, f 16384 false])
    = [14336, 12544, 10976, 11232, 16384, 16384] := by decide

-- Chapter 9, R255: a packet occupies as many flits as its 48 bytes and its payload fill at 240 bytes each.
theorem test_flits : [0, 32, 192, 193, 4096].map (fun n => (48 + n + 239) / 240) = [1, 1, 1, 2, 18] := by decide

-- Chapter 10: wavelength 5 of a port that is UP fails: lane 5 is to go to the spare, and the far end is asked.
theorem test_wavelength_lost :
    (match nextOf (exec (.wavelengthFailure 0 5) rich) with
     | some t => decide ((optPort t 0).rx.swap = some ⟨5, 5, 8, true⟩) && t.out.length == rich.out.length + 1
     | none => false) = true := by decide
-- The far end of such a failure stops DATA flits.
theorem test_failure_swap_stalls :
    (match nextOf (exec (.swapReq 0 true 5 5 8 true) rich) with
     | some t => (optPort t 0).stall && decide ((optPort t 0).tx.swap = some ⟨5, 5, 8, true⟩)
     | none => false) = true := by decide

-- Chapter 11, one load through an attachment: position 1 takes the address, position 2 does not; the FVA.
theorem test_interleave :
    (let d (k : Nat) : Decoder := ⟨0x0008000000000000, 2 ^ 50, 4, 4096, k⟩
     (onPosition (d 1) 0x0008001000045A40, onPosition (d 2) 0x0008001000045A40, lineAddr (0x0008001000045A40 - (d 1).base)))
    = (true, false, 0x1000045A40) := by decide

/-- Chapter 15: the governor at 1,100 W of demand under a cap of 800 W, or in a lull at 500 W. -/
def governed (a cap : Nat) : State :=
  { rich with pwr := { rich.pwr with a := a }, regs := { rich.regs with cfg := (rich.regs.cfg.ins 0x20000 0x8F0F#32).ins 0x20004 (BitVec.ofNat 32 cap) } }

-- Under the cap the allowance falls at 15 W/ms at once, and CAP_LAG is set.
theorem test_cap_lowers :
    (let t := tick 110000 1100 0 0 0 (governed 110000 800)
     (t.pwr.a, t.pwr.capLag, t.pwr.ramp)) = (109985, true, .moving false) := by decide
-- At the cap the work is throttled to it.
theorem test_cap_reached : (tick 110000 800 0 0 0 (governed 80000 800)).pwr.a = 80000 := by decide
-- The brake: the allowance is lit-idle, 390 W, and fill ends.
theorem test_brake :
    (let s := { governed 70000 1150 with pwr := { (governed 70000 1150).pwr with pin := true, fill := 20000 } }
     let t := tick 50000 390 0 0 0 s
     (t.pwr.a, t.pwr.fill)) = (39000, 0) := by decide
-- A lull at 500 W of demand with an allowance of 700 W and a floor of 700 W: fill 200 W.
theorem test_lull_fill :
    (let s := governed 70000 1150
     (tick 50000 700 0 0 0 { s with regs := { s.regs with cfg := s.regs.cfg.ins 0x20008 700#32 } }).pwr.fill) = 20000 := by decide

-- Chapter 17, one consistent reading: the SET alias of OPT_PORT_CTRL of port 20, and where TOP_IND_ADDR ends.
theorem test_set_alias : resolve 0x10C1500 = some (0xC1000 + 0x40 * 20, .set) := by decide
theorem test_ind_steps :
    (let s := setAcc rich 1 { acc rich 1 with ind := 0x01014800 }
     (acc ((List.range 6).foldl (fun s _ => advanceInd 1 s) s) 1).ind) = 0x01014818 := by decide
theorem test_unlock : (acc (unlockWith 1 0x4C4F434B#32 rich) 1).unlocked = true ∧ (acc (unlockWith 1 0x4C4F434C#32 rich) 1).unlocked = false := by decide

/-! ### The arithmetic the manual names -/

-- CRC-32C of "123456789", the check value of the Castagnoli CRC's parameters; CRC-8 of the same; SHAKE256 of nothing (FIPS 202).
theorem test_crc32c : crc32c [0x31#8, 0x32#8, 0x33#8, 0x34#8, 0x35#8, 0x36#8, 0x37#8, 0x38#8, 0x39#8] = 0xE3069283#32 := by decide
theorem test_crc8 : crc8 [0x31#8, 0x32#8, 0x33#8, 0x34#8, 0x35#8, 0x36#8, 0x37#8, 0x38#8, 0x39#8] = 0xF4#8 := by decide
theorem test_shake256 : shake256 4 [] = [0x46#8, 0xB9#8, 0xDD#8, 0x2B#8] := by decide +kernel
-- R188 to R190: the greatest and the least magnitudes of small formats.
theorem test_e4m3 : fp8e4m3.decode 0x7E = .fin false 14 5 ∧ fp8e4m3.decode 0x7F = .nan := by decide

/-! ### Commands, one step each -/

/-- The step's outcome with a command in front is that of the command. -/
theorem test_step_takes_the_front : (match nextOf (step { rich with pending := [.lsaPeriodic, .healthHour] }) with
    | some t => decide (t.pending = [.healthHour]) && t.rep.lsaSeq == 1
    | none => false) = true := by decide
theorem test_no_words : decodeTableWord 32 0x12345678 = none ∧ State.reset.withFetchWord 32 0x12345678 = State.reset := by decide
-- R431: a module whose image is bad reports the reason, and no identity.
theorem test_no_image : (match nextOf (exec (.woquelImageRead none) State.reset) with
    | some t => t.sys.imgErr == 1 && !t.sys.idOk && t.flt.q.length == 1
    | none => false) = true := by decide
-- R414: the reference is divided by 4; the root follows once it locks.
theorem test_reference : (match nextOf (exec .referencePresent State.reset) with
    | some t => t.clk.refOk && t.clk.src == 1
    | none => false) = true := by decide
-- R42: a doorbell of the queue's own host moves the tail.
theorem test_doorbell : (match nextOf (exec (.doorbell (ah 8) 4 9 true) rich) with
    | some t => (que t 4).tail == 9
    | none => false) = true := by decide
-- R25, R58: a host's store changes the bytes that its mask enables, and a load reads them.
theorem test_store : (match nextOf (exec (.cxlMemStore (line 64) (List.replicate 1 true ++ List.replicate 63 false) (List.replicate 64 5#8) .any) rich) with
    | some t => t.pool.mem.get 0#8 64 == 5#8 && t.pool.mem.get 0#8 65 == 0#8 && t.pool.mem.get 0#8 3 == 7#8
    | none => false) = true := by decide
theorem test_load : (match nextOf (exec (.cxlMemLoad (line 0) .data) rich) with
    | some t => (match t.out with | .memData _ _ d _ _ :: _ => d.getD 3 0#8 == 7#8 && d.length == 64 | _ => false)
    | none => false) = true := by decide
-- R381: a mutation of the manager that lacks the lease is refused with LEASE; a read-only message is served.
theorem test_lease_refuses : (match nextOf (exec (.partRelease rb 2) rich) with
    | some t => (part t 2).st == .idle
    | none => false) = true := by decide
theorem test_release : (match nextOf (exec (.partRelease ra 2) rich) with
    | some t => (part t 2).st != .idle
    | none => false) = true := by decide
-- R480: reading the low half of the time keeps the high half for its accessor.
theorem test_time_halves : (match nextOf (exec (.topTimeLoRead (am .a)) { rich with now := 2 ^ 32 + 5 }) with
    | some t => (acc t 0).timeHi == 1
    | none => false) = true := by decide
-- R369, R373: a fault record enters the queue; FLT_POP takes it off.
theorem test_fault_pop : (match nextOf (exec (.fltPop (am .a) 1#32) { rich with flt := { rich.flt with q := [rec0] } }) with
    | some t => t.flt.q.isEmpty
    | none => false) = true := by decide
-- R458: the debug port halts a core, and answers with the result of the frame before.
theorem test_halt : (match nextOf (exec (.halt true 5) { bug [] with dbg := { (bug []).dbg with lastSt := 6 } }) with
    | some t => decide (t.dbg.halted = [5]) && decide (t.out = [.debug 6 0])
    | none => false) = true := by decide
-- R133: CNT set on a NOP is refused with FORMAT.
theorem test_format : formatOk (dsc 16) = false ∧ formatOk (dsc (5 + 16)) = true ∧ formatOk (dsc 5) = false := by decide
-- R342: a module under tray release starts no PUT.
theorem test_leaving_starts_nothing : canStart { engaged with rep := { engaged.rep with leaving := true } } 4 (dsc (1 + 64 * 2 ^ 32) 0 4096 5) = false ∧
    canStart engaged 4 (dsc (1 + 64 * 2 ^ 32) 0 4096 5) = true := by decide
-- R270 to R272: the bytes of an IDLE flit that the module sends.
theorem test_idle_flit : flitBytes ⟨0, false, false, false, false, 0, 0, 0, 0, false, 0⟩ [] = idleFlit := by decide +kernel
-- R272: one byte of each codeword is corrected; two bytes of one codeword are not.
theorem test_flit_corrects : ((flitCorrect ((idleFlit.set 0 8#8).set 1 9#8)).map Prod.snd) = some 2 := by decide +kernel

end Sys2Proof.Tests
end

section
/-! Completion records and where they go (R122, R123, R134 to R137, R309, R311), and landing counters that rise and saturate (R42, R43). -/

namespace Sys2Proof.Machine

/-! ### Reading an entry after it is set -/

theorem que_setQue (s : State) (q k : Nat) (x : Que) : que (setQue s q x) k = if k = q then x else que s k :=
  Tab.get_put Que.init s.qs.ctx q x k

theorem cxlPort_setCxl (s : State) (p k : Nat) (c : CxlPort) : cxlPort (setCxl s p c) k = if k = p then c else cxlPort s k :=
  Tab.get_put CxlPort.init s.cxl.ports p c k

/-! ### What a posted write leaves alone (R294, R309) -/

/-- `t` is `s` but for what has left the module and its CXL ports, each of which keeps its status. -/
structure PostedFrom (s t : State) : Prop where
  rest : t = { s with out := t.out, cxl := t.cxl }
  st : ∀ p, (cxlPort t p).st = (cxlPort s p).st

theorem PostedFrom.refl (s : State) : PostedFrom s s := ⟨rfl, fun _ => rfl⟩

theorem PostedFrom.trans {s t u : State} (h : PostedFrom s t) (h' : PostedFrom t u) : PostedFrom s u where
  rest := by
    have hu := h'.rest
    rw [h.rest] at hu
    exact hu
  st p := (h'.st p).trans (h.st p)

theorem PostedFrom.qs {s t : State} (h : PostedFrom s t) : t.qs = s.qs := by rw [h.rest]

theorem PostedFrom.ctrs {s t : State} (h : PostedFrom s t) : t.ctrs = s.ctrs := by rw [h.rest]

theorem PostedFrom.flt {s t : State} (h : PostedFrom s t) : t.flt = s.flt := by rw [h.rest]

theorem PostedFrom.que {s t : State} (h : PostedFrom s t) (k : Nat) : que t k = que s k := by
  simp only [Machine.que, h.qs]

theorem PostedFrom.upPort {s t : State} (h : PostedFrom s t) (a : Nat) : upPort t a = upPort s a := by
  have hmap : ∀ p, mapOf t p = mapOf s p := fun p => by rw [h.rest]; rfl
  simp only [Machine.upPort, attachPorts, hmap, h.st]

theorem postedFrom_emit (o : Out) (s : State) : PostedFrom s (emit o s) := ⟨rfl, fun _ => rfl⟩

theorem postedFrom_setCxl (s : State) (p : Nat) (c : CxlPort) (hc : c.st = (cxlPort s p).st) : PostedFrom s (setCxl s p c) where
  rest := rfl
  st k := by
    rw [cxlPort_setCxl]
    split
    · next hk => rw [hk, hc]
    · rfl

theorem postedFrom_leaveL1 (p : Nat) (s : State) : PostedFrom s (leaveL1 p s) := by
  unfold leaveL1
  split
  · exact postedFrom_setCxl s p _ rfl
  · exact PostedFrom.refl s

theorem postedFrom_dmaSend (p : Nat) (o : Out) (s : State) : PostedFrom s (dmaSend p o s) := by
  unfold dmaSend
  split
  · exact (postedFrom_leaveL1 p s).trans (postedFrom_emit o _)
  · split
    · exact postedFrom_setCxl s p _ rfl
    · exact PostedFrom.refl s

theorem postedFrom_dmaWrite (att addr : Nat) (data : Bytes) (s : State) : PostedFrom s (dmaWrite att addr data s) :=
  List.foldlRecOn (motive := PostedFrom s) _ _ (PostedFrom.refl s) fun _ h _ _ => h.trans (postedFrom_dmaSend ..)

/-! ### Where a request goes: it leaves, waits in its turn, or is lost (R294, R309, R310; log entry 109) -/

@[simp] theorem leaveL1_out (p : Nat) (s : State) : (leaveL1 p s).out = s.out := by unfold leaveL1; split <;> rfl

theorem leaveL1_awake {p : Nat} {s : State} (h : (cxlPort s p).l1 = false) : leaveL1 p s = s := by simp [leaveL1, h]

/-- A write needs no room among the outstanding reads: its port only has to be UP. -/
theorem mayDma_write (s : State) (p port addr : Nat) (data : Bytes) :
    mayDma s p (.dmaWrite port addr data) = ((cxlPort s p).st == .up) := by
  simp [mayDma, isRead]

theorem dmaSend_goes {s : State} {p : Nat} {o : Out} (hq : (cxlPort s p).dmaq = []) (hm : mayDma s p o = true) :
    dmaSend p o s = emit o (leaveL1 p s) := if_pos ⟨hq, hm⟩

theorem dmaSend_waits {s : State} {p : Nat} {o : Out} (hm : mayDma s p o = false) (hh : dmaHolds (cxlPort s p) = true) :
    dmaSend p o s = setCxl s p { cxlPort s p with dmaq := (cxlPort s p).dmaq ++ [o] } := by
  simp [dmaSend, hm, hh]

theorem dmaSend_lost {s : State} {p : Nat} {o : Out} (hm : mayDma s p o = false) (hh : dmaHolds (cxlPort s p) = false) :
    dmaSend p o s = s := by
  simp [dmaSend, hm, hh]

theorem st_ne_up_of_not_dmaHolds {c : CxlPort} (h : dmaHolds c = false) : c.st ≠ .up := by
  intro hu
  simp [dmaHolds, hu] at h

theorem dmaPort_up {s : State} {att addr p : Nat} (h : dmaPort s att addr = some p) : (cxlPort s p).st = .up := by
  unfold dmaPort at h
  dsimp only at h
  split at h
  · exact nomatch h
  · have hp := (List.mem_filter.1 (List.mem_of_getElem? h)).2
    exact beq_iff_eq.1 hp

theorem dmaVia_of_dmaPort {s : State} {att addr p : Nat} (h : dmaPort s att addr = some p) : dmaVia s att addr = p := by
  simp [dmaVia, h]

/-! ### The write of a record is one block (R134, R309) -/

theorem leBytes_length (n v : Nat) : (leBytes n v).length = n := by
  induction n generalizing v with
  | zero => rfl
  | succ n ih => rw [leBytes, List.length_cons, ih]

theorem recordBytes_length (idx st op : Nat) (phase : Bool) (bytes result : Nat) :
    (recordBytes idx st op phase bytes result).length = 16 := by
  simp only [recordBytes, List.length_append, leBytes_length]

/-- 16 bytes at a multiple of 16 lie in one block of 512. -/
theorem blocksOf_slot {a : Nat} (h : a % 16 = 0) : blocksOf a 16 = [(a, 16)] := by
  have hone : (a + 16 - 1) / 512 - a / 512 + 1 = 1 := by omega
  have hlo : Nat.max a (a / 512 * 512) = a := Nat.max_eq_left (by omega)
  have hhi : Nat.min (a + 16) ((a / 512 + 1) * 512) = a + 16 := Nat.min_eq_left (by omega)
  rw [blocksOf, hone]
  simp [hlo, hhi]

theorem dmaWrite_slot {att a : Nat} {b : Bytes} (s : State) (ha : a % 16 = 0) (hb : b.length = 16) :
    dmaWrite att a b s = dmaSend (dmaVia s att a) (.dmaWrite (dmaVia s att a) a b) s := by
  simp [dmaWrite, hb, blocksOf_slot ha, List.take_of_length_le (Nat.le_of_eq hb)]

/-! ### The parts of a completion -/

/-- The queue once its operation `idx` has completed: the record has taken the next slot of the ring (R134, R136). -/
def Que.completed (x : Que) (idx : Nat) : Que :=
  { x with ops := x.ops.filter (fun p => p.idx != idx), pieces := x.pieces.filter (fun p => p.idx != idx),
           cqTail := (x.cqTail + 1) % 2 ^ x.cqLog2, phase := if x.cqTail + 1 = 2 ^ x.cqLog2 then !x.phase else x.phase,
           used := x.used + 1, arm := false }

/-- The slot of the queue's next record. -/
def Que.slot (x : Que) : Nat := x.cqBase + 16 * x.cqTail

/-- The record of an operation of queue `x` is written to its slot (R134). -/
def recorded (x : Que) (idx st op bytes result : Nat) (s : State) : State :=
  dmaWrite x.attach x.slot (recordBytes idx st op x.phase bytes result) s

/-- The armed vector of queue `x` is sent (R123, R311). -/
def signalled (x : Que) (s : State) : State :=
  if x.arm then (match upPort s x.attach with | some p => emit (.msix p x.msix) s | none => s) else s

/-- The operation `o` has left its queue, with what its requests serve and its segments (R149). -/
def taken (x : Que) (q idx : Nat) (o : Op) (s : State) : State :=
  let t := forget q idx (setQue s q (x.completed idx))
  if D.opcode o.d = 5 ∨ D.opcode o.d = 6 then dropQueue q t else dropDesc q idx t

/-- A completion but for the halt of a failed HALT descriptor: the record, the interrupt and the operation's leaving. -/
def ended (q idx st bytes result : Nat) (o : Op) (s : State) : State :=
  taken (que s q) q idx o (signalled (que s q) (recorded (que s q) idx st (D.opcode o.d) bytes result s))

theorem complete_some {s : State} {q idx st n r : Nat} {o : Op} (h : (que s q).op idx = some o) :
    complete q idx st n r s =
      if D.halt o.d ∧ st ≠ 0 then halt q idx st (ended q idx st n r o s) else ended q idx st n r o s := by
  unfold complete
  simp only [h]
  rfl

theorem complete_none {s : State} {q idx st n r : Nat} (h : (que s q).op idx = none) : complete q idx st n r s = s := by
  unfold complete
  simp only [h]

theorem postedFrom_recorded (x : Que) (idx st op n r : Nat) (s : State) : PostedFrom s (recorded x idx st op n r s) :=
  postedFrom_dmaWrite ..

theorem signalled_unarmed {x : Que} {s : State} (h : x.arm = false) : signalled x s = s := by simp [signalled, h]

theorem signalled_armed {x : Que} {s : State} {u : Nat} (h : x.arm = true) (hu : upPort s x.attach = some u) :
    signalled x s = emit (.msix u x.msix) s := by simp [signalled, h, hu]

theorem postedFrom_signalled (x : Que) (s : State) : PostedFrom s (signalled x s) := by
  unfold signalled
  split
  · split
    · exact postedFrom_emit _ s
    · exact PostedFrom.refl s
  · exact PostedFrom.refl s

theorem postedFrom_signalled_recorded (x : Que) (idx st op n r : Nat) (s : State) :
    PostedFrom s (signalled x (recorded x idx st op n r s)) :=
  (postedFrom_recorded x idx st op n r s).trans (postedFrom_signalled x _)

/-- The operation's leaving touches the queues and the outstanding requests alone. -/
theorem taken_rest (x : Que) (q idx : Nat) (o : Op) (s : State) :
    taken x q idx o s = { s with qs := (taken x q idx o s).qs, fab := (taken x q idx o s).fab } := by
  unfold taken
  dsimp only
  split <;> rfl

@[simp] theorem taken_out (x : Que) (q idx : Nat) (o : Op) (s : State) : (taken x q idx o s).out = s.out := by rw [taken_rest]

@[simp] theorem taken_cxl (x : Que) (q idx : Nat) (o : Op) (s : State) : (taken x q idx o s).cxl = s.cxl := by rw [taken_rest]

@[simp] theorem taken_ctrs (x : Que) (q idx : Nat) (o : Op) (s : State) : (taken x q idx o s).ctrs = s.ctrs := by rw [taken_rest]

@[simp] theorem taken_flt (x : Que) (q idx : Nat) (o : Op) (s : State) : (taken x q idx o s).flt = s.flt := by rw [taken_rest]

theorem que_taken (x : Que) (q idx : Nat) (o : Op) (s : State) (k : Nat) :
    que (taken x q idx o s) k = if k = q then x.completed idx else que s k := by
  have hctx : (taken x q idx o s).qs.ctx = (setQue s q (x.completed idx)).qs.ctx := by
    unfold taken
    dsimp only
    split <;> rfl
  rw [← que_setQue, que, que, hctx]

theorem que_ended (q idx st n r : Nat) (o : Op) (s : State) (k : Nat) :
    que (ended q idx st n r o s) k = if k = q then (que s q).completed idx else que s k := by
  rw [ended, que_taken, (postedFrom_signalled_recorded ..).que]

@[simp] theorem ended_ctrs (q idx st n r : Nat) (o : Op) (s : State) : (ended q idx st n r o s).ctrs = s.ctrs := by
  rw [ended, taken_ctrs, (postedFrom_signalled_recorded ..).ctrs]

@[simp] theorem ended_flt (q idx st n r : Nat) (o : Op) (s : State) : (ended q idx st n r o s).flt = s.flt := by
  rw [ended, taken_flt, (postedFrom_signalled_recorded ..).flt]

theorem ended_sameBut (q idx st n r : Nat) (o : Op) (s : State) : sameBut [.out, .qs, .fab, .cxl] s (ended q idx st n r o s) := by
  rw [ended, taken_rest, (postedFrom_signalled_recorded ..).rest]
  intro f hf
  cases f <;> simp_all [Field.same]

/-! ### Halting (R122) -/

@[simp] theorem halt_ctrs (q idx st : Nat) (s : State) : (halt q idx st s).ctrs = s.ctrs := by
  unfold halt
  dsimp only
  split
  · rfl
  · rw [tracePoint_ctrs]; rfl

@[simp] theorem halt_flt (q idx st : Nat) (s : State) : (halt q idx st s).flt = s.flt := by
  unfold halt
  dsimp only
  split
  · rfl
  · rw [tracePoint_flt]; rfl

theorem que_halt (q idx st : Nat) (s : State) (k : Nat) :
    que (halt q idx st s) k = if k = q then { que s q with st := .halted } else que s k := by
  unfold halt
  dsimp only
  split
  · next hst =>
    split
    · next hk => rw [hk, ← hst]
    · rfl
  · rw [← que_setQue, que, tracePoint_qs]
    rfl

/-! ### What a completion does -/

section Completion

variable {s : State} {q idx st n r : Nat} {o : Op}

theorem complete_runs (h : (que s q).op idx = some o) (hh : D.halt o.d = false ∨ st = 0) :
    complete q idx st n r s = ended q idx st n r o s := by
  rw [complete_some h, if_neg]
  rintro ⟨hd, hst⟩
  rcases hh with hh | hh
  · rw [hh] at hd; exact absurd hd (by decide)
  · exact hst hh

/-- A failed HALT descriptor halts its own queue, and every other keeps all it has. -/
theorem que_complete_halts (h : (que s q).op idx = some o) (hd : D.halt o.d = true) (hst : st ≠ 0) (k : Nat) :
    que (complete q idx st n r s) k = if k = q then { (que s q).completed idx with st := .halted } else que s k := by
  rw [complete_some h, if_pos ⟨hd, hst⟩, que_halt]
  simp only [que_ended, if_true]
  split <;> rfl

/-- With no vector armed, nothing leaves the module after the record. -/
theorem ended_unarmed (idx st n r : Nat) (o : Op) (ha : (que s q).arm = false) :
    (ended q idx st n r o s).out = (recorded (que s q) idx st (D.opcode o.d) n r s).out ∧
      (ended q idx st n r o s).cxl = (recorded (que s q) idx st (D.opcode o.d) n r s).cxl := by
  rw [ended, signalled_unarmed ha, taken_out, taken_cxl]
  exact ⟨rfl, rfl⟩

/-- An armed vector leaves last, on the port that was the lowest UP one before the record was written. -/
theorem ended_armed (ha : (que s q).arm = true) {u : Nat} (hu : upPort s (que s q).attach = some u) :
    (ended q idx st n r o s).out.head? = some (.msix u (que s q).msix) := by
  have hu' : upPort (recorded (que s q) idx st (D.opcode o.d) n r s) (que s q).attach = some u := by
    rw [(postedFrom_recorded ..).upPort, hu]
  rw [ended, signalled_armed ha hu', taken_out, emit_out, List.head?_cons]

/-- The record is one posted write at its slot. -/
theorem recorded_slot {x : Que} (hb : x.cqBase % 16 = 0) (op : Nat) :
    recorded x idx st op n r s =
      dmaSend (dmaVia s x.attach x.slot) (.dmaWrite (dmaVia s x.attach x.slot) x.slot (recordBytes idx st op x.phase n r)) s :=
  dmaWrite_slot s (by rw [Que.slot]; omega) (recordBytes_length ..)

end Completion

/-! ### Where the record of a completion goes (R134, R309; log entry 109) -/

section Record

variable {s : State} {q idx st n r : Nat} {o : Op} (hb : (que s q).cqBase % 16 = 0) (ha : (que s q).arm = false)
include hb ha

theorem ended_sends {p : Nat} (hp : dmaPort s (que s q).attach (que s q).slot = some p) (hq : (cxlPort s p).dmaq = []) :
    (ended q idx st n r o s).out = .dmaWrite p (que s q).slot (recordBytes idx st (D.opcode o.d) (que s q).phase n r) :: s.out ∧
      ((cxlPort s p).l1 = false → (ended q idx st n r o s).cxl = s.cxl) := by
  obtain ⟨hout, hcxl⟩ := ended_unarmed idx st n r o ha
  have hm (b : Bytes) : mayDma s p (.dmaWrite p (que s q).slot b) = true := by rw [mayDma_write, dmaPort_up hp]; rfl
  rw [hout, hcxl, recorded_slot hb, dmaVia_of_dmaPort hp, dmaSend_goes hq (hm _)]
  refine ⟨by rw [emit_out, leaveL1_out], fun hl => ?_⟩
  rw [leaveL1_awake hl, emit_cxl]

theorem ended_loses (hn : dmaHolds (cxlPort s (dmaVia s (que s q).attach (que s q).slot)) = false) :
    (ended q idx st n r o s).out = s.out ∧ (ended q idx st n r o s).cxl = s.cxl := by
  obtain ⟨hout, hcxl⟩ := ended_unarmed idx st n r o ha
  have hm (port : Nat) (b : Bytes) : mayDma s (dmaVia s (que s q).attach (que s q).slot) (.dmaWrite port (que s q).slot b) = false := by
    rw [mayDma_write]; exact beq_false_of_ne (st_ne_up_of_not_dmaHolds hn)
  rw [hout, hcxl, recorded_slot hb, dmaSend_lost (hm _ _) hn]
  exact ⟨rfl, rfl⟩

theorem ended_waits {v : Nat} (hv : dmaVia s (que s q).attach (que s q).slot = v) (hd : dmaHolds (cxlPort s v) = true)
    (hu : (cxlPort s v).st ≠ .up) :
    (ended q idx st n r o s).out = s.out ∧
      (cxlPort (ended q idx st n r o s) v).dmaq =
        (cxlPort s v).dmaq ++ [.dmaWrite v (que s q).slot (recordBytes idx st (D.opcode o.d) (que s q).phase n r)] := by
  obtain ⟨hout, hcxl⟩ := ended_unarmed idx st n r o ha
  have hm (b : Bytes) : mayDma s v (.dmaWrite v (que s q).slot b) = false := by rw [mayDma_write]; exact beq_false_of_ne hu
  rw [cxlPort, hout, hcxl, ← cxlPort, recorded_slot hb, hv, dmaSend_waits (hm _) hd]
  exact ⟨rfl, by rw [cxlPort_setCxl, if_pos rfl]⟩

end Record

/-! ### What no completion touches -/

/-- A completion raises no landing counter. -/
@[simp] theorem complete_ctrs (q idx st n r : Nat) (s : State) : (complete q idx st n r s).ctrs = s.ctrs := by
  cases h : (que s q).op idx with
  | none => rw [complete_none h]
  | some o =>
    rw [complete_some h]
    split
    · rw [halt_ctrs, ended_ctrs]
    · rw [ended_ctrs]

/-- A completion writes no fault record. -/
@[simp] theorem complete_flt (q idx st n r : Nat) (s : State) : (complete q idx st n r s).flt = s.flt := by
  cases h : (que s q).op idx with
  | none => rw [complete_none h]
  | some o =>
    rw [complete_some h]
    split
    · rw [halt_flt, ended_flt]
    · rw [ended_flt]

/-! ### Landing counters (R42, R43, R47) -/

/-- What every completion keeps, the completions of the WAITs on a counter keep. -/
theorem checkWaits_keeps {β : Type} (g : State → β) (h : ∀ q idx st n r s, g (complete q idx st n r s) = g s) (c : Nat) (s : State) :
    g (checkWaits c s) = g s := by
  unfold checkWaits
  refine List.foldlRecOn (motive := fun t => g t = g s) _ _ rfl fun t ht e _ => ?_
  refine List.foldlRecOn (motive := fun u => g u = g s) _ _ ht fun u hu o _ => ?_
  split
  · exact (h ..).trans hu
  · exact hu

@[simp] theorem checkWaits_ctrs (c : Nat) (s : State) : (checkWaits c s).ctrs = s.ctrs :=
  checkWaits_keeps (·.ctrs) complete_ctrs c s

@[simp] theorem checkWaits_flt (c : Nat) (s : State) : (checkWaits c s).flt = s.flt :=
  checkWaits_keeps (·.flt) complete_flt c s

/-- No started operation is a WAIT. -/
def noWait (s : State) : Prop := ∀ e ∈ s.qs.ctx, ∀ o ∈ e.2.ops, D.opcode o.d ≠ 5

theorem checkWaits_noWait {c : Nat} {s : State} (h : noWait s) : checkWaits c s = s := by
  refine foldl_still _ _ s fun e he => foldl_still _ _ s fun o ho => ?_
  rw [if_neg]
  rintro ⟨hw, -⟩
  exact h e he o ho hw

/-- The counter's new value is stored, with a record where it would pass its greatest. -/
def counted (c n : Nat) (s : State) : State :=
  let s' := { s with ctrs := s.ctrs.put 0 c (Nat.min ctrMax (s.ctrs.get 0 c + n)) }
  if ctrMax < s.ctrs.get 0 c + n then fault 8 5 (partOfCtr s c) c (s.ctrs.get 0 c) s' else s'

theorem raiseCtr_counted (c n : Nat) (s : State) : raiseCtr c n s = checkWaits c (counted c n s) := rfl

theorem counted_ctrs (c n : Nat) (s : State) :
    (counted c n s).ctrs = s.ctrs.put 0 c (Nat.min ctrMax (s.ctrs.get 0 c + n)) := by
  unfold counted
  dsimp only
  split
  · rw [fault_ctrs]
  · rfl

theorem counted_qs (c n : Nat) (s : State) : (counted c n s).qs = s.qs := by
  unfold counted
  dsimp only
  split
  · rw [fault_qs]
  · rfl

theorem counted_flt_below {c n : Nat} {s : State} (h : s.ctrs.get 0 c + n ≤ ctrMax) : (counted c n s).flt = s.flt := by
  rw [counted, if_neg (Nat.not_lt.2 h)]

/-- A fault record for which the queue has room is its newest. -/
theorem fault_queued {cls block addr detail : Nat} {p : Option Nat} {s : State} (h : s.flt.q.length < 4096) :
    ⟨cls, block, sevOf cls, p, s.flt.seq % 2 ^ 32, s.now, addr, detail⟩ ∈ (fault cls block p addr detail s).flt.q := by
  simp [fault, faultSev, h]

theorem counted_saturates {c n : Nat} {s : State} (h : ctrMax < s.ctrs.get 0 c + n) (hroom : s.flt.q.length < 4096) :
    ∃ r ∈ (counted c n s).flt.q, r.cls = 8 ∧ r.addr = c ∧ r.seq = s.flt.seq % 2 ^ 32 := by
  rw [counted, if_pos h]
  exact ⟨_, fault_queued hroom, rfl, rfl, rfl⟩

theorem counted_sameBut (c n : Nat) (s : State) : sameBut [.ctrs, .flt, .regs] s (counted c n s) := by
  intro f hf
  unfold counted
  dsimp only
  split
  · cases f <;> simp_all [Field.same]
  · cases f <;> simp_all [Field.same]

theorem raiseCtr_noWait {c n : Nat} {s : State} (h : noWait s) : raiseCtr c n s = counted c n s := by
  rw [raiseCtr_counted, checkWaits_noWait]
  unfold noWait
  rwa [counted_qs]

theorem raiseCtr_get (c n k : Nat) (s : State) :
    (raiseCtr c n s).ctrs.get 0 k = if k = c then Nat.min (2 ^ 64 - 1) (s.ctrs.get 0 c + n) else s.ctrs.get 0 k := by
  rw [raiseCtr_counted, checkWaits_ctrs, counted_ctrs, Tab.get_put]
  rfl

theorem raiseCtr_saturates {c n : Nat} {s : State} (h : ctrMax < s.ctrs.get 0 c + n) (hroom : s.flt.q.length < 4096) :
    ∃ r ∈ (raiseCtr c n s).flt.q, r.cls = 8 ∧ r.addr = c ∧ r.seq = s.flt.seq % 2 ^ 32 := by
  rw [raiseCtr_counted, checkWaits_flt]
  exact counted_saturates h hroom

/-- Settles O47: a completion by its parts (record, interrupt, leaving, halt), a counter's rise by its store and the WAITs that it ends. -/
theorem completionRecord : Obligations.CompletionRecord := by
  unfold Obligations.CompletionRecord
  refine ⟨?_, ?_, ?_, ?_, ?_⟩
  · intro s q idx st n r o ho hh x a b t
    have ht : t = ended q idx st n r o s := complete_runs ho hh
    have hq : que t q = x.completed idx := by rw [ht, que_ended, if_pos rfl]
    have hops : x.ops.filter (fun p => p.idx != idx) = x.ops.filter (fun p => p.idx ≠ idx) :=
      List.filter_congr fun p _ => by simp [bne, beq_eq_decide]
    rw [hq, ht]
    exact ⟨hops, rfl, rfl, rfl, rfl, rfl, rfl, fun k hk => by rw [que_ended, if_neg hk],
      ended_sameBut q idx st n r o s,
      fun hb ha => ⟨fun p hp hd => ended_sends hb ha hp hd, fun hn => ended_loses hb ha hn, fun hd hu => ended_waits hb ha rfl hd hu⟩,
      fun ha u hu => ended_armed ha hu⟩
  · intro s q idx st n r o ho hd hst
    refine ⟨by rw [que_complete_halts ho hd hst, if_pos rfl], fun k hk => ?_⟩
    rw [que_complete_halts ho hd hst, if_neg hk]
  · intro s q idx st n r ho
    exact complete_none ho
  · intro s c n t
    refine ⟨by rw [raiseCtr_get, if_pos rfl], fun k hk => ?_, fun hmax hroom => raiseCtr_saturates hmax hroom⟩
    rw [raiseCtr_get, if_neg hk]
  · intro s c n hw t
    have ht : t = counted c n s := raiseCtr_noWait hw
    rw [ht]
    exact ⟨counted_flt_below, counted_qs c n s, counted_sameBut c n s⟩

end Sys2Proof.Machine
end

section
/-! Quanta of the tile engines (R139 to R141, R146), the ends of walks and prefetches (R102 to R105, R113, R147 to R150), and the end of an epoch
close (R52). -/

namespace Sys2Proof.Machine

/-! ### Frames compose -/

theorem sameBut_refl (l : List Field) (s : State) : sameBut l s s := by
  intro f _
  cases f <;> rfl

theorem sameBut_trans {l : List Field} {s t u : State} (h : sameBut l s t) (h' : sameBut l t u) : sameBut l s u := by
  intro f hf
  have hst := h f hf
  have htu := h' f hf
  cases f <;> exact Eq.trans htu hst

/-- A command that settles where it leaves a state as quiet as it found it. -/
theorem endsIn_of_settled {c : Instr} {s x : State} (h : exec c s = .next (settled x)) (hq : quiet x = quiet s) : endsIn c s x :=
  ⟨h, fun hs => by rw [h, settled_quiet (hq.trans hs)]⟩

theorem part_congr {s t : State} (h : t.parts = s.parts) (k : Nat) : part t k = part s k := by rw [part, part, h]

theorem part_setPart (s : State) (p k : Nat) (x : Part) : part (setPart s p x) k = if k = p then x else part s k :=
  Tab.get_put Part.init s.parts p x k

/-! ### The rows on a live module -/

section Rows

variable {s : State} (h : live s = true)
include h

theorem exec_quantumGrant (e : Fin 32) (q : Nat) : exec (.quantumGrant e q) s = .next (grant e.val q s) := run_live h

theorem exec_quantumEnd (e : Fin 32) : exec (.quantumEnd e) s = .next (quantumOver e.val s) := run_live h

theorem exec_tableWalkDone (p fva : Nat) (bad : Bool) : exec (.tableWalkDone p fva bad) s = .next (walkDone p fva bad s) := run_live h

theorem exec_prefetchReply (id : Nat) (data : Bytes) (valid : List Bool) :
    exec (.prefetchReply id data valid) s = .next (settled (prefetchReplied id data valid s)) :=
  run_live (f := fun s => settled (prefetchReplied id data valid s)) h

theorem exec_prefetchTimeout (id : Nat) : exec (.prefetchTimeout id) s = .next (prefetchLate id s) := run_live h

theorem exec_epochCloseDrainDone (p : Nat) : exec (.epochCloseDrainDone p) s = .next (closeDrained p s) := run_live h

end Rows

/-! ### The queue that is served next (R140, R141) -/

theorem mem_readyList {s : State} {q : Nat} :
    q ∈ readyList s ↔ q ∈ s.qs.ctx.map Prod.fst ∧ queReady s q = true ∧ engineOf s q = none := by
  rw [readyList, List.mem_filter, Bool.and_eq_true, Option.isNone_iff_eq_none]

/-- Some ready queue without an engine is of class `c`. -/
def classReady (s : State) (c : Nat) : Bool := (readyList s).any (fun q => (que s q).cls == c)

theorem classReady_of_mem {s : State} {q : Nat} (h : q ∈ readyList s) : classReady s (que s q).cls = true :=
  List.any_eq_true.2 ⟨q, h, beq_self_eq_true _⟩

/-- Wherever the pointer of a class stands, the next queue is a ready one of the class that is found first. -/
theorem nextQueue_some {s : State} {q : Nat} (h : nextQueue s = some q) :
    ∃ c, (List.range 4).find? (classReady s) = some c ∧ q ∈ readyList s ∧ (que s q).cls = c := by
  unfold nextQueue at h
  dsimp only at h
  split at h
  · exact nomatch h
  next c hc =>
    have hmem : q ∈ (readyList s).filter (fun k => (que s k).cls == c) := by
      split at h
      · exact List.mem_of_mem_head? h
      · split at h
        · next hf =>
          cases h
          exact List.mem_of_find?_eq_some hf
        · exact List.mem_of_mem_head? h
    obtain ⟨hr, hcls⟩ := List.mem_filter.1 hmem
    exact ⟨c, hc, hr, beq_iff_eq.1 hcls⟩

/-- A class lower than the first one with a ready queue has none. -/
theorem firstClass_le {s : State} {c k : Nat} (hc : (List.range 4).find? (classReady s) = some c) (hk : k ∈ readyList s) :
    c ≤ (que s k).cls := by
  obtain ⟨-, -, hlower⟩ := List.find?_range_eq_some.1 hc
  by_contra hlt
  have hnone := hlower _ (Nat.lt_of_not_le hlt)
  rw [classReady_of_mem hk] at hnone
  exact absurd hnone (by decide)

/-! ### Quanta (R139, R146, R411) -/

section Quanta

variable {s : State} {e q : Nat} {g : Engine}

theorem grant_given (hfw : fwRuns s = true) (hh : s.fw.hinge = none) (hd : s.dbg.halted = []) (hb : braked s = false)
    (he : s.qs.engines.find e = none) (hn : nextQueue s = some q) (hf : (s.qs.fetchers.find q).isSome = true) :
    grant e q s = settled (tracePoint 0 (que s q).part (leBytes 8 q ++ leBytes 8 e ++ leBytes 8 (quantum (que s q)))
      { s with qs := { s.qs with engines := s.qs.engines.ins e ⟨q, quantum (que s q)⟩, pointer := s.qs.pointer.ins (que s q).cls q } }) := by
  unfold grant
  rw [if_pos (by simp [hfw, hh, hd, hb, he, hn])]
  dsimp only
  rw [if_pos hf]

theorem grant_denied (h : fwRuns s = false ∨ s.fw.hinge.isSome = true ∨ s.dbg.halted ≠ [] ∨ braked s = true ∨
    (s.qs.engines.find e).isSome = true ∨ nextQueue s ≠ some q) : grant e q s = s := by
  refine if_neg fun hall => ?_
  simp only [Bool.and_eq_true, Option.isNone_iff_eq_none, List.isEmpty_iff, Bool.not_eq_true', beq_iff_eq] at hall
  obtain ⟨⟨⟨⟨⟨hfw, hh⟩, hd⟩, hb⟩, he⟩, hn⟩ := hall
  rcases h with h | h | h | h | h | h
  · exact absurd hfw (by simp [h])
  · exact absurd h (by simp [hh])
  · exact h hd
  · exact absurd hb (by simp [h])
  · exact absurd h (by simp [he])
  · exact h hn

theorem quantumOver_free (he : s.qs.engines.find e = none) : quantumOver e s = s := by simp only [quantumOver, he]

theorem quantumOver_runs (he : s.qs.engines.find e = some g) (hl : g.left ≠ 0) (hr : queReady s g.q = true) : quantumOver e s = s := by
  simp [quantumOver, he, hl, hr]

/-- A quantum's end, but for its trace entry: the engine is free, and a queue with nothing to do gives up its prefetcher. -/
theorem quantumOver_ends (he : s.qs.engines.find e = some g) (ho : g.left = 0 ∨ queReady s g.q = false) :
    ∃ data, quantumOver e s = tracePoint 1 (que s g.q).part data
      { s with qs := { s.qs with engines := s.qs.engines.del e,
                                 fetchers := if queReady s g.q then s.qs.fetchers else s.qs.fetchers.del g.q } } := by
  unfold quantumOver
  simp only [he]
  rw [if_pos (by simpa using ho)]
  exact ⟨_, rfl⟩

end Quanta

/-! ### Walks (R102 to R105, R113) -/

/-- The walks of the module but `w`. -/
def walkOff (w : Walk) (s : State) : State := { s with xlt := { s.xlt with walks := s.xlt.walks.erase w } }

section Walks

variable {s : State} {p fva : Nat} {w : Walk}

theorem walkDone_none (bad : Bool) (h : ∀ w ∈ s.xlt.walks, ¬(w.part = p ∧ w.page = fva / 65536)) : walkDone p fva bad s = s := by
  have hf : s.xlt.walks.find? (fun w => w.part == p && w.page == fva / 65536) = none :=
    List.find?_eq_none.2 fun w hw => by simpa using h w hw
  simp only [walkDone, hf]

variable (hw : s.xlt.walks.find? (fun x => x.part == p && x.page == fva / 65536) = some w) (bad : Bool)
include hw

theorem walkDone_current (hs : w.seq = (part s p).invSeq) : walkDone p fva bad s = settled (walkFound w bad (walkOff w s)) := by
  simp only [walkDone, hw, if_pos hs]
  rfl

theorem walkDone_stale_prefetch (hs : w.seq ≠ (part s p).invSeq) (hp : w.pf = true) :
    walkDone p fva bad s = settled (bump 0x1C0008 (walkOff w s)) := by
  simp only [walkDone, hw, if_neg hs, if_pos hp]
  rfl

theorem walkDone_stale_demand (hs : w.seq ≠ (part s p).invSeq) (hp : w.pf = false) :
    walkDone p fva bad s = emit (.walk p fva)
      { s with xlt := { s.xlt with walks := s.xlt.walks.erase w ++ [{ w with seq := (part s p).invSeq }] } } := by
  simp [walkDone, hw, hs, hp]

theorem part_page_of_found : w.part = p ∧ w.page = fva / 65536 := by simpa using List.find?_some hw

end Walks

/-- A walk that ends at a leaf leaves the pointers that it followed, and neither a record nor a count. -/
theorem walkEnded_leaf {t : Trip} {lv : Nat} {l : BitVec 128} (h : t.fin = .leaf lv l) (p : Nat) (s : State) :
    walkEnded p t s = cachePtrs p t.ptrs s := by simp only [walkEnded, h]

/-- A demand walk for hosts alone that ends at a leaf caches it and answers the requests that waited. -/
theorem walkFound_demand_leaf {s : State} {w : Walk} {lv : Nat} {l : BitVec 128} (hp : w.pf = false) (ho : w.ops = [])
    (hl : (walkOf s w.part w.page).fin = .leaf lv l) :
    walkFound w false s = w.loads.foldl (fun s a => hostWalked w.part (.leaf lv l) w.seq a s)
      (cacheLeaf w.part w.page lv l w.seq false (cachePtrs w.part (walkOf s w.part w.page).ptrs s)) := by
  simp [walkFound, walkEnded_leaf hl, hl, hp, ho, WalkEnd.xl]

/-! ### Prefetches (R147 to R150) -/

section Prefetches

variable {s : State} {id : Nat} {f : Prefetch}

/-- Prefetch `id` is in flight no more. -/
def prefetchOff (id : Nat) (s : State) : State := { s with qs := { s.qs with pf := s.qs.pf.del id } }

/-- The reply to prefetch `f` fills its 4,096 bytes and 16 valid bits of its segment (R147). -/
def filledSeg (f : Prefetch) (data : Bytes) (valid : List Bool) (g : Seg) : Seg :=
  if g.q = f.q ∧ g.part = f.part ∧ g.page = f.page ∧ g.idx = f.idx then
    { g with data := g.data.take f.off ++ (data ++ zeroBytes 4096).take 4096 ++ g.data.drop (f.off + 4096),
             valid := g.valid.take (f.off / 256) ++ (valid ++ List.replicate 16 false).take 16 ++ g.valid.drop (f.off / 256 + 16) }
  else g

theorem prefetchFilled_unknown (data : Bytes) (valid : List Bool) (h : s.qs.pf.find id = none) :
    prefetchFilled id data valid s = bump 0x280004 s := by simp only [prefetchFilled, h]

theorem prefetchFilled_cancelled (data : Bytes) (valid : List Bool) (h : s.qs.pf.find id = some f) (hc : f.cancelled = true) :
    prefetchFilled id data valid s = bump 0x280004 (prefetchOff id s) := by
  simp only [prefetchFilled, h, if_pos hc]
  rfl

theorem prefetchFilled_fills (data : Bytes) (valid : List Bool) (h : s.qs.pf.find id = some f) (hc : f.cancelled = false) :
    prefetchFilled id data valid s =
      { prefetchOff id s with qs := { (prefetchOff id s).qs with segs := s.qs.segs.map (filledSeg f data valid) } } := by
  simp only [prefetchFilled, h, hc]
  rfl

theorem prefetchReplied_local (data : Bytes) (valid : List Bool) (h : s.fab.reqs.find id = none) :
    prefetchReplied id data valid s = prefetchFilled id data valid s := by simp only [prefetchReplied, h]

theorem prefetchReplied_remote (data : Bytes) (valid : List Bool) {r : OutReq} (h : s.fab.reqs.find id = some r) (hr : r.serves = .prefetch) :
    prefetchReplied id data valid s = prefetchFilled id data valid (delReq id (ackFlow (flowKey r.src r.dst 1) 1 0 id false s)) := by
  obtain ⟨src, dst, _, _, _, _, _⟩ := r
  cases hr
  simp only [prefetchReplied, h]

theorem prefetchLate_unknown (h : s.qs.pf.find id = none) : prefetchLate id s = s := by simp only [prefetchLate, h]

/-- A prefetch without a reply is counted and in flight no more; its request leaves the fabric's own state. -/
theorem prefetchLate_counts (h : s.qs.pf.find id = some f) :
    ∃ fab, prefetchLate id s = bump 0x280008 { prefetchOff id s with fab := fab } := by
  simp only [prefetchLate, h]
  split
  · split <;> exact ⟨_, rfl⟩
  · exact ⟨_, rfl⟩

end Prefetches

/-! ### The end of an epoch close (R52) -/

section Close

variable {s : State} {p : Nat}

theorem closeDrained_ends {l : List (Nat × Nat)} (hc : (part s p).closing = some l) (hd : drained s p = true) :
    closeDrained p s = settled (closeEnd p l s) := by simp only [closeDrained, hc, if_pos hd]

theorem closeDrained_waits (h : (part s p).closing = none ∨ drained s p = false) : closeDrained p s = s := by
  unfold closeDrained
  split
  · next hl =>
    rcases h with h | h
    · rw [h] at hl; exact nomatch hl
    · simp [h]
  · rfl

end Close

/-- A descriptor that completes with OK halts no queue, so nothing but the queue, its requests and its record moves. -/
theorem complete_ok_sameBut (q idx n r : Nat) (s : State) : sameBut [.out, .qs, .fab, .cxl] s (complete q idx St.ok n r s) := by
  cases h : (que s q).op idx with
  | none => rw [complete_none h]; exact sameBut_refl _ s
  | some o => rw [complete_runs h (.inr (rfl : St.ok = 0))]; exact ended_sameBut q idx St.ok n r o s

theorem completeAll_sameBut (l : List (Nat × Nat)) (r : Nat) (s : State) :
    sameBut [.out, .qs, .fab, .cxl] s (l.foldl (fun s x => complete x.1 x.2 St.ok 0 r s) s) :=
  List.foldlRecOn (motive := sameBut [.out, .qs, .fab, .cxl] s) _ _ (sameBut_refl _ s)
    fun _ h _ _ => sameBut_trans h (complete_ok_sameBut _ _ _ _ _)

/-- Step 5 of R52 finds no key to change to, or puts the key slots anew; of the partition it changes nothing else. -/
theorem rotateKey_cases (p : Nat) (s : State) : rotateKey p s = s ∨ ∃ c n data,
    rotateKey p s = tracePoint 4 p data (freshCounts p (setPart s p { part s p with cur := c, nxt := n })) := by
  unfold rotateKey
  dsimp only
  split
  · split
    · exact .inr ⟨_, _, _, rfl⟩
    · exact .inl rfl
  · exact .inl rfl

theorem rotateKey_part (p : Nat) (s : State) :
    (∃ c n, part (rotateKey p s) p = { part s p with cur := c, nxt := n }) ∧ ∀ k, k ≠ p → part (rotateKey p s) k = part s k := by
  rcases rotateKey_cases p s with h | ⟨c, n, data, h⟩
  · rw [h]
    exact ⟨⟨_, _, rfl⟩, fun _ _ => rfl⟩
  · have hpart : ∀ k, part (rotateKey p s) k = if k = p then { part s p with cur := c, nxt := n } else part s k := fun k => by
      rw [← part_setPart, h, part_congr (tracePoint_parts ..)]
      rfl
    exact ⟨⟨c, n, by rw [hpart, if_pos rfl]⟩, fun k hk => by rw [hpart, if_neg hk]⟩

@[simp] theorem rotateKey_ctrs (p : Nat) (s : State) : (rotateKey p s).ctrs = s.ctrs := by
  rcases rotateKey_cases p s with h | ⟨c, n, data, h⟩
  · rw [h]
  · rw [h, tracePoint_ctrs]; rfl

@[simp] theorem rotateKey_pool (p : Nat) (s : State) : (rotateKey p s).pool = s.pool := by
  rcases rotateKey_cases p s with h | ⟨c, n, data, h⟩
  · rw [h]
  · rw [h, tracePoint_pool]; rfl

/-- Step 4 of R52: the partition's counters, vertices and segments are gone. -/
def closeCleared (p : Nat) (s : State) : State :=
  let m := (part s p).prm
  let mine (v : CVert) : Bool := match s.col.grps.find v.ctx with | some g => g.p.part == p | none => false
  dropPart p { s with ctrs := s.ctrs.clearRange m.cBase m.cCount, col := { s.col with verts := s.col.verts.filter (fun v => !mine v) } }

/-- The partition is open again, in its next epoch. -/
def reopened (p : Nat) (s : State) : State :=
  setPart s p { part s p with epoch := ((part s p).epoch + 1) % 2 ^ 32, closing := none }

/-- Before the EPOCH-CLOSEs complete: steps 4 and 5 of R52, and the next epoch. -/
def closeTurned (p : Nat) (s : State) : State := reopened p (rotateKey p (closeCleared p s))

theorem part_closeCleared (p k : Nat) (s : State) : part (closeCleared p s) k = part s k := rfl

theorem closeEnd_eq (p : Nat) (l : List (Nat × Nat)) (s : State) : ∃ e data,
    closeEnd p l s = tracePoint 3 p data (l.foldl (fun s x => complete x.1 x.2 St.ok 0 e s) (closeTurned p s)) := ⟨_, _, rfl⟩

/-- The completions and the trace entry leave partitions, counters and the pool as step 5 has left them. -/
theorem closeEnd_kept (p : Nat) (l : List (Nat × Nat)) (s : State) : (closeEnd p l s).parts = (closeTurned p s).parts ∧
    (closeEnd p l s).ctrs = (closeTurned p s).ctrs ∧ (closeEnd p l s).pool = (closeTurned p s).pool := by
  obtain ⟨e, data, h⟩ := closeEnd_eq p l s
  have hkept := completeAll_sameBut l e (closeTurned p s)
  rw [h, tracePoint_parts, tracePoint_ctrs, tracePoint_pool]
  exact ⟨hkept .parts (by decide), hkept .ctrs (by decide), hkept .pool (by decide)⟩

theorem part_closeEnd (p : Nat) (l : List (Nat × Nat)) (s : State) :
    (∃ c n, part (closeEnd p l s) p =
      { part s p with cur := c, nxt := n, epoch := ((part s p).epoch + 1) % 2 ^ 32, closing := none }) ∧
    ∀ k, k ≠ p → part (closeEnd p l s) k = part s k := by
  obtain ⟨⟨c, n, hself⟩, hother⟩ := rotateKey_part p (closeCleared p s)
  obtain ⟨hparts, -, -⟩ := closeEnd_kept p l s
  refine ⟨⟨c, n, ?_⟩, fun k hk => ?_⟩
  · rw [part_congr hparts, closeTurned, reopened, part_setPart, if_pos rfl, hself]
    rfl
  · rw [part_congr hparts, closeTurned, reopened, part_setPart, if_neg hk, hother k hk, part_closeCleared]

theorem closeEnd_get (p : Nat) (l : List (Nat × Nat)) (s : State) (c : Nat) : (closeEnd p l s).ctrs.get 0 c =
    if (part s p).prm.cBase ≤ c ∧ c < (part s p).prm.cBase + (part s p).prm.cCount then 0 else s.ctrs.get 0 c := by
  have hctrs : (closeTurned p s).ctrs = s.ctrs.clearRange (part s p).prm.cBase (part s p).prm.cCount := rotateKey_ctrs p (closeCleared p s)
  obtain ⟨-, hc, -⟩ := closeEnd_kept p l s
  rw [hc, hctrs, Tab.get_clearRange]

theorem closeEnd_pool (p : Nat) (l : List (Nat × Nat)) (s : State) : (closeEnd p l s).pool = s.pool := by
  obtain ⟨-, -, hp⟩ := closeEnd_kept p l s
  exact hp.trans (rotateKey_pool p (closeCleared p s))

/-! ### The obligation -/

/-- Settles O48: each row by the cases of its own effect; the next queue by the first class with a ready one; the end of a close by its parts
(clearing, key, epoch, completions). -/
theorem engines : Obligations.Engines := by
  unfold Obligations.Engines
  refine ⟨?_, ?_, ?_, ?_, ?_, ?_, ?_, ?_, ?_, ?_, ?_, ?_⟩
  · intro s e q h
    rw [exec_quantumGrant h]
    exact ⟨fun hfw hh hd hb he hn hf => congrArg _ (grant_given hfw hh hd hb he hn hf), fun hno => congrArg _ (grant_denied hno)⟩
  · intro s e h he
    rw [exec_quantumEnd h, quantumOver_free he]
  · intro s e g h he
    rw [exec_quantumEnd h]
    refine ⟨fun ho => ?_, fun hl hr => by rw [quantumOver_runs he hl hr]⟩
    obtain ⟨data, hover⟩ := quantumOver_ends he ho
    refine ⟨_, rfl, ?_⟩
    rw [hover, tracePoint_qs]
    refine ⟨rfl, rfl, rfl, fun hr => if_pos hr, fun hr => if_neg (by simp [hr]), fun f hf => ?_⟩
    cases f <;> simp_all [Field.same]
  · intro s q hn
    obtain ⟨c, hc, hq, hcls⟩ := nextQueue_some hn
    obtain ⟨-, hready, -⟩ := mem_readyList.1 hq
    refine ⟨hready, fun k hk hkr hke => ?_⟩
    rw [hcls]
    exact firstClass_le hc (mem_readyList.2 ⟨hk, hkr, hke⟩)
  · intro s p fva bad w h hw rest
    rw [exec_tableWalkDone h]
    refine ⟨fun hs hp => congrArg _ (walkDone_stale_prefetch hw bad hs hp), fun hs hp => congrArg _ (walkDone_stale_demand hw bad hs hp),
      fun hs => congrArg _ (walkDone_current hw bad hs), fun lv l hp ho hl => ?_⟩
    obtain ⟨rfl, hpage⟩ := part_page_of_found hw
    rw [← hpage] at hl ⊢
    exact walkFound_demand_leaf hp ho hl
  · intro s p fva bad h hno
    rw [exec_tableWalkDone h, walkDone_none bad hno]
  · intro s id data valid h hr
    have hexec := (exec_prefetchReply h id data valid).trans (by rw [prefetchReplied_local data valid hr])
    refine ⟨fun hp => endsIn_of_settled ?_ rfl, fun f hp => ⟨fun hc => endsIn_of_settled ?_ rfl, fun hc => endsIn_of_settled ?_ rfl⟩⟩
    · rw [hexec, prefetchFilled_unknown data valid hp]
    · rw [hexec, prefetchFilled_cancelled data valid hp hc]
      rfl
    · rw [hexec, prefetchFilled_fills data valid hp hc]
      rfl
  · intro s id data valid r h hr hs
    rw [exec_prefetchReply h, prefetchReplied_remote data valid hr hs]
  · intro s id h
    rw [exec_prefetchTimeout h]
    refine ⟨fun hp => by rw [prefetchLate_unknown hp], fun f hp => ?_⟩
    obtain ⟨fab, hlate⟩ := prefetchLate_counts hp
    refine ⟨_, rfl, ?_⟩
    rw [hlate]
    refine ⟨rfl, rfl, fun f hf => ?_⟩
    cases f <;> simp_all [Field.same, prefetchOff, bump, bumpN]
  · intro s p h hno
    rw [exec_epochCloseDrainDone h, closeDrained_waits hno]
  · intro s p l h hc hd
    rw [exec_epochCloseDrainDone h, closeDrained_ends hc hd]
  · intro s p l t
    obtain ⟨⟨c, n, hself⟩, hother⟩ := part_closeEnd p l s
    refine ⟨by rw [hself], by rw [hself], by rw [hself], fun c hlo hhi => ?_, fun c hout => ?_, hother, closeEnd_pool p l s⟩
    · rw [closeEnd_get, if_pos ⟨hlo, hhi⟩]
    · rw [closeEnd_get, if_neg (by omega)]

end Sys2Proof.Machine
end

section
/-! Fault records (R369, R371, R475). -/

namespace Sys2Proof.Machine

/-! ### A fault record enters the queue, or is counted (R369, R371) -/

section FaultRecord

variable {s : State} (cls block sev : Nat) (p : Option Nat) (addr detail : Nat)

theorem faultSev_room (h : s.flt.q.length < 4096) : faultSev cls block sev p addr detail s =
    { s with flt := { s.flt with q := s.flt.q ++ [⟨cls, block, sev, p, s.flt.seq % 2 ^ 32, s.now, addr, detail⟩],
                                 seq := (s.flt.seq + 1) % 2 ^ 32 } } := if_pos h

theorem faultSev_full (h : 4096 ≤ s.flt.q.length) : faultSev cls block sev p addr detail s =
    bump (0x380100 + 4 * cls) { s with flt := { s.flt with lost := true, seq := (s.flt.seq + 1) % 2 ^ 32 } } :=
  if_neg (Nat.not_lt.2 h)

theorem faultSev_seq : (faultSev cls block sev p addr detail s).flt.seq = (s.flt.seq + 1) % 2 ^ 32 := by
  rcases Nat.lt_or_ge s.flt.q.length 4096 with h | h
  · rw [faultSev_room _ _ _ _ _ _ h]
  · rw [faultSev_full _ _ _ _ _ _ h, bump_flt]

end FaultRecord

/-- A count of the module reads one more, up to its greatest, and every other count reads as before (R475). -/
theorem bump_cnt_get (off o : Nat) (s : State) :
    (bump off s).regs.cnt.get 0 o = if o = off then Nat.min cntMax (s.regs.cnt.get 0 off + 1) else s.regs.cnt.get 0 o :=
  Tab.get_put 0 s.regs.cnt off _ o

/-- Settles O59, by whether the queue has room. -/
theorem faultQueue : Obligations.FaultQueue := by
  unfold Obligations.FaultQueue
  intro s cls block sev p addr detail _ t
  refine ⟨faultSev_seq .., fun hroom => ?_, fun hfull => ?_⟩
  · have ht : t = _ := faultSev_room cls block sev p addr detail hroom
    rw [ht]
    refine ⟨rfl, rfl, fun f hf => ?_⟩
    cases f <;> simp_all [Field.same]
  · have ht : t = _ := faultSev_full cls block sev p addr detail hfull
    rw [ht]
    refine ⟨rfl, rfl, ?_, fun o ho => ?_, fun f hf => ?_⟩
    · rw [bump_cnt_get, if_pos rfl]
    · rw [bump_cnt_get, if_neg ho]
    · cases f <;> simp_all [Field.same]

end Sys2Proof.Machine
end

section
/-! Module resets and errors of the SRAM (R14, R364 to R366, R402). -/

namespace Sys2Proof.Machine

/-! ### The rows -/

/-- A ready message that one of its row's checks refuses, other than for a lost module, answers that status and has no effect (R502). -/
theorem canRun_refused {r : Req} {m : Msg} {p : Option Nat} {c : Instr} {checks : State → List (Bool × Status)}
    {eff : State → Answer} {s : State} {st : Status} (h : canRun s c = true) (hm : msgRow s c = some (r, m, p))
    (hc : firstFail (checks (heard r.src s)) = some st) (hst : st ≠ .lost) :
    run (message r m p c checks eff) s = .next (answer r st [] (heard r.src s)) := by
  rw [run_live (live_of_canRun h), message_admitted (admits_of_canRun h hm), hc]
  simp only [if_neg hst]

section ModReset

variable {s : State} {r : Req} {k : Nat} (h : canRun s (.modReset r k) = true)
include h

theorem exec_modReset_kind (hk : k ≤ 2) : exec (.modReset r k) s = .next (resetKind k (answer r .ok [] (heard r.src s))) :=
  canRun_served h rfl (by rw [firstFail_cons, decide_eq_false (Nat.not_lt.2 hk)]; rfl)

theorem exec_modReset_range (hk : 2 < k) : exec (.modReset r k) s = .next (answer r .range [] (heard r.src s)) :=
  canRun_refused h rfl (by rw [firstFail_cons, decide_eq_true hk]; rfl) (by decide)

end ModReset

section SramError

variable {s : State} {a k : Nat}

theorem exec_moduleFault (h : live s = true) : exec (.moduleFault a k) s = .next (sramError a k s) := run_live h

theorem sramError_table (hk : k < 64) : sramError a k s = moduleFault a k s := by
  rw [sramError, if_neg (by omega), if_neg (by omega)]

theorem sramError_corrected (hlo : 64 ≤ k) (hhi : k < 128) : sramError a k s = sramCorrected a s := by
  rw [sramError, if_neg (by omega), if_pos hlo]

theorem sramError_data (hk : 128 ≤ k) : sramError a k s = sramData a k s := if_pos hk

end SramError

/-- The kind that MODULE_FAULT reports: 1 where the reset is FULL or acts so (R364, R366). -/
theorem moduleFault_kind (k : Nat) (s : State) :
    bit ((decide (1 ≤ k) && decide (k ≤ 3)) || actsFull s) = if (1 ≤ k ∧ k ≤ 3) ∨ actsFull s = true then 1 else 0 := by
  simp [bit]

theorem sramCorrected_sameBut (a : Nat) (s : State) : sameBut [.hlt] s (sramCorrected a s) := by
  intro f hf
  cases f <;> simp_all [Field.same, sramCorrected]

/-! ### What telling the managers touches

A soft reset ends with the lease given up, a fault record and the reports of both: none of them brings back what the reset has cleared. -/

/-- `t` is `s` but for records, reports, counts, free values, the lease's holder and what has left the module. -/
def ToldFrom (s t : State) : Prop :=
  t = { s with out := t.out, seed := t.seed, regs := t.regs, flt := t.flt, mgt := { s.mgt with holder := t.mgt.holder },
               fw := { s.fw with repA := t.fw.repA, repB := t.fw.repB, seqA := t.fw.seqA, seqB := t.fw.seqB } }

theorem ToldFrom.trans {s t u : State} (h : ToldFrom s t) (h' : ToldFrom t u) : ToldFrom s u := by
  unfold ToldFrom at *
  rw [h] at h'
  exact h'

theorem toldFrom_faultSev (cls block sev : Nat) (p : Option Nat) (addr detail : Nat) (s : State) :
    ToldFrom s (faultSev cls block sev p addr detail s) := by
  unfold faultSev
  dsimp only
  split <;> rfl

/-- The two free values of such a record change no more than the record itself does. -/
theorem toldFrom_faultAny (cls block sev : Nat) (p : Option Nat) (s : State) : ToldFrom s (faultAny cls block sev p s) :=
  ToldFrom.trans (t := { s with seed := s.seed + 1 + 1 }) rfl (toldFrom_faultSev ..)

theorem toldFrom_reportOn (l : Link) (code : Nat) (payload : Bytes) (s : State) : ToldFrom s (reportOn l code payload s) := by
  unfold reportOn
  cases l <;> (dsimp only; split <;> rfl)

theorem toldFrom_report (code subject detail : Nat) (s : State) : ToldFrom s (report code subject detail s) :=
  ToldFrom.trans (t := reportOn .a code _ s) (toldFrom_reportOn ..) (toldFrom_reportOn .b ..)

theorem toldFrom_clearLease (s : State) : ToldFrom s (clearLease s) := by
  unfold clearLease
  split
  · rfl
  · exact ToldFrom.trans (t := { s with mgt := { s.mgt with holder := none } }) rfl (toldFrom_report ..)

theorem clearLease_holder (s : State) : (clearLease s).mgt.holder = none := by
  unfold clearLease
  split
  · next h => exact h
  · rw [report_mgt]

/-! ### What a soft reset leaves (R364, R365, R402) -/

/-- Whatever the steps for the partitions and the extents have come to, the blocks are reset after them, and the managers told. -/
theorem softReset_resets (full dossiers : Bool) (cause : Nat) (s : State) :
    ∃ x, ToldFrom (resetBlocks (full || actsFull s) x) (softReset full cause dossiers s) ∧
      (softReset full cause dossiers s).mgt.holder = none := by
  refine ⟨_, (toldFrom_clearLease _).trans ((toldFrom_faultAny ..).trans (toldFrom_report ..)), ?_⟩
  rw [softReset, report_mgt, faultAny_mgt, clearLease_holder]

theorem resetBlocks_dmaq (full : Bool) (s : State) (p : Nat) : (cxlPort (resetBlocks full s) p).dmaq = [] := by
  rw [cxlPort, resetBlocks, Tab.get_mapD]
  split <;> rfl

theorem resetBlocks_pwr (full full' : Bool) (s : State) :
    (resetBlocks (full || full') s).pwr.st = if full = true ∨ full' = true then .standby else .held := by
  simp only [resetBlocks, Bool.or_eq_true]

/-- Settles O39: MOD_RESET and MODULE_FAULT by their rows, a soft reset by the blocks that it resets last. -/
theorem moduleResets : Obligations.ModuleResets := by
  unfold Obligations.ModuleResets
  refine ⟨fun s r k h hk => exec_modReset_kind h hk, fun s r k h hk => exec_modReset_range h hk, ?_, ?_, ?_, ?_⟩
  · intro s a k h hk
    rw [exec_moduleFault h, sramError_table hk, ← moduleFault_kind]
    rfl
  · intro s a k h hlo hhi
    refine ⟨sramCorrected a s, ?_, rfl, rfl, sramCorrected_sameBut a s⟩
    rw [exec_moduleFault h, sramError_corrected hlo hhi]
  · intro s a k h hk
    rw [exec_moduleFault h, sramError_data hk]
  · intro s full dossiers cause t
    obtain ⟨x, htold, hholder⟩ := softReset_resets full dossiers cause s
    have ht : t = _ := htold
    rw [ht]
    exact ⟨rfl, rfl, rfl, rfl, rfl, hholder, rfl, rfl, rfl, rfl, rfl, rfl, rfl, rfl, rfl, rfl, rfl,
      resetBlocks_dmaq (full || actsFull s) x, rfl, rfl, rfl, rfl, resetBlocks_pwr full (actsFull s) x⟩

end Sys2Proof.Machine
end

section
/-! Frames: a state that differs from another in the parts named, and how such frames compose. -/

namespace Sys2Proof.Machine

/-- `s` with the parts named as `t` has them. -/
def framed (l : List Field) (s t : State) : State where
  pending := cond (l.elem .pending) t.pending s.pending
  out := cond (l.elem .out) t.out s.out
  seed := cond (l.elem .seed) t.seed s.seed
  now := cond (l.elem .now) t.now s.now
  sys := cond (l.elem .sys) t.sys s.sys
  clk := cond (l.elem .clk) t.clk s.clk
  pwr := cond (l.elem .pwr) t.pwr s.pwr
  hlt := cond (l.elem .hlt) t.hlt s.hlt
  mgt := cond (l.elem .mgt) t.mgt s.mgt
  fw := cond (l.elem .fw) t.fw s.fw
  regs := cond (l.elem .regs) t.regs s.regs
  flt := cond (l.elem .flt) t.flt s.flt
  dbg := cond (l.elem .dbg) t.dbg s.dbg
  parts := cond (l.elem .parts) t.parts s.parts
  dossiers := cond (l.elem .dossiers) t.dossiers s.dossiers
  pool := cond (l.elem .pool) t.pool s.pool
  xlt := cond (l.elem .xlt) t.xlt s.xlt
  qs := cond (l.elem .qs) t.qs s.qs
  ctrs := cond (l.elem .ctrs) t.ctrs s.ctrs
  fab := cond (l.elem .fab) t.fab s.fab
  cxl := cond (l.elem .cxl) t.cxl s.cxl
  rep := cond (l.elem .rep) t.rep s.rep
  opt := cond (l.elem .opt) t.opt s.opt
  col := cond (l.elem .col) t.col s.col

theorem eq_cond_of {α : Type} {b : Bool} {x y : α} (h : b = false → x = y) : x = cond b x y := by
  cases b
  · exact h rfl
  · rfl

theorem sameBut_iff {l : List Field} {s t : State} : sameBut l s t ↔ t = framed l s t := by
  constructor
  · intro h
    have hf : ∀ f : Field, l.elem f = false → f.same s t := fun f hl => h f (by simpa using hl)
    have hx : framed l s t = t := by
      unfold framed
      rw [← eq_cond_of (hf .pending),
        ← eq_cond_of (hf .out),
        ← eq_cond_of (hf .seed),
        ← eq_cond_of (hf .now),
        ← eq_cond_of (hf .sys),
        ← eq_cond_of (hf .clk),
        ← eq_cond_of (hf .pwr),
        ← eq_cond_of (hf .hlt),
        ← eq_cond_of (hf .mgt),
        ← eq_cond_of (hf .fw),
        ← eq_cond_of (hf .regs),
        ← eq_cond_of (hf .flt),
        ← eq_cond_of (hf .dbg),
        ← eq_cond_of (hf .parts),
        ← eq_cond_of (hf .dossiers),
        ← eq_cond_of (hf .pool),
        ← eq_cond_of (hf .xlt),
        ← eq_cond_of (hf .qs),
        ← eq_cond_of (hf .ctrs),
        ← eq_cond_of (hf .fab),
        ← eq_cond_of (hf .cxl),
        ← eq_cond_of (hf .rep),
        ← eq_cond_of (hf .opt),
        ← eq_cond_of (hf .col)]
    exact hx.symm
  · intro h f hl
    have he : l.elem f = false := by simpa using hl
    rw [h]
    cases f <;> (simp only [Field.same, framed]; rw [he]; rfl)

/-- A state written as an update of another differs from it in the parts that the update names. -/
theorem sameBut_of_eq {l : List Field} {s t : State} (h : t = framed l s t) : sameBut l s t := sameBut_iff.2 h

theorem sameBut_mono {l l' : List Field} {s t : State} (h : sameBut l s t) (hl : ∀ f ∈ l, f ∈ l') : sameBut l' s t :=
  fun f hf => h f fun hm => hf (hl f hm)

theorem sameBut_foldl {α : Type} {l : List Field} {f : State → α → State} {xs : List α} {s : State}
    (h : ∀ t x, x ∈ xs → sameBut l t (f t x)) : sameBut l s (xs.foldl f s) :=
  List.foldlRecOn (motive := sameBut l s) _ _ (sameBut_refl _ s) fun _ ht x hx => sameBut_trans ht (h _ x hx)

end Sys2Proof.Machine
end

section
/-! How each command runs (R400, R412 to R415, R471), and what that leaves of a module without power or after a thermal shutdown. -/

namespace Sys2Proof.Machine

/-! ### The four ways in which a command runs -/

/-- The rows of the always-on domain and their effects (R400, R411 to R415, R431). -/
def aonRow : Instr → Option (State → State)
  | .referencePresent => some fun s => { s with clk := { s.clk with refOk := true, src := if s.clk.src = 0 then 1 else s.clk.src } }
  | .rootPllLock => some fun s => if s.clk.refOk && !s.clk.stopped then { s with clk := { s.clk with rootLock := true, src := 2 } } else s
  | .referenceLoss => some fun s => if (s.clk.refOk || s.clk.rootLock) && !s.clk.stopped then clockLost s else s
  | .rootRelock => some fun s => if s.clk.stopped then hardReset s else s
  | .woquelImageRead flash => some (imageRead flash)
  | .identityRegenerated ok => some fun s =>
    if s.sys.idDone || s.sys.imgErr != 0 then s
    else
      let s := { s with sys := { s.sys with idDone := true, idOk := ok } }
      if ok then s else faultAny 0x1C 11 2 none s
  | .pwrBrakeAssert => some fun s => if s.pwr.pin then s else brakeOn { s with pwr := { s.pwr with pin := true } }
  | .pwrBrakeRelease => some fun s => if s.pwr.pin then admitAgain { s with pwr := { s.pwr with pin := false } } else s
  | .inputLow => some fun s => faultAny 0x17 11 0 none { s with pwr := { s.pwr with inputLow := true } }
  | .inputHigh => some fun s => faultAny 0x17 11 0 none { s with pwr := { s.pwr with inputHigh := true } }
  | .inputBrake => some fun s => if s.pwr.inputBrake then s else brakeOn { s with pwr := { s.pwr with inputBrake := true } }
  | .inputRecover => some fun s => if s.pwr.inputBrake then admitAgain { s with pwr := { s.pwr with inputBrake := false } } else s
  | .thermalCeiling => some fun s => if s.pwr.thermal then s else faultAny 0x1A 11 0 none { s with pwr := { s.pwr with thermal := true } }
  | .thermalRelease => some fun s => { s with pwr := { s.pwr with thermal := false } }
  | .thermalBrake => some fun s => if s.pwr.thermBrake then s else brakeOn { s with pwr := { s.pwr with thermBrake := true } }
  | .thermalBrakeRelease => some fun s => if s.pwr.thermBrake then admitAgain { s with pwr := { s.pwr with thermBrake := false } } else s
  | .thermalShutdown => some fun s => if s.sys.aonOnly then s else faultAny 0x1A 11 3 none { s with sys := { s.sys with aonOnly := true } }
  | .thermalRestart => some fun s => if s.sys.aonOnly then hardReset s else s
  | .governorTick demand draw vin tj gddr => some (tick demand draw vin tj gddr)
  | .staggerExpiry => some fun s =>
    match s.pwr.ramp with | .waiting up => { s with pwr := { s.pwr with ramp := .moving up } } | _ => s
  | .lullHoldExpiry => some fun s => if s.pwr.lull then { s with pwr := { s.pwr with lullHeld := true } } else s
  | _ => none

/-- A row of the always-on domain has the effect that the table gives it; of any other command this says nothing. -/
theorem exec_eq_aonRow (c : Instr) (s : State) : exec c s = match aonRow c with | some f => runAon f s | none => exec c s := by
  cases c <;> rfl

theorem exec_aonRow {c : Instr} {f : State → State} (h : aonRow c = some f) (s : State) : exec c s = runAon f s := by
  rw [exec_eq_aonRow, h]

/-- On a live always-on domain such a row has its effect. -/
theorem exec_aon {c : Instr} {f : State → State} {s : State} (hl : aonLive s = true) (h : aonRow c = some f) : exec c s = .next (f s) :=
  (exec_aonRow h s).trans (runAon_live hl)

/-- Every command is a row of the always-on domain, one of the input power, a register write, or a row of the module. -/
theorem exec_ways (c : Instr) : (∃ f, aonRow c = some f) ∨ c = .powerApplied ∨ c = .inputOff ∨
    (∃ f, ∀ s, exec c s = runWrite f s) ∨ ∃ f, ∀ s, exec c s = run f s := by
  cases c
  case powerApplied => exact .inr (.inl rfl)
  case inputOff => exact .inr (.inr (.inl rfl))
  case referencePresent | rootPllLock | referenceLoss | rootRelock | woquelImageRead | identityRegenerated | pwrBrakeAssert
    | pwrBrakeRelease | inputLow | inputHigh | inputBrake | inputRecover | thermalCeiling | thermalRelease | thermalBrake
    | thermalBrakeRelease | thermalShutdown | thermalRestart | governorTick | staggerExpiry | lullHoldExpiry => exact .inl ⟨_, rfl⟩
  case doorbell | fltPop | fltStatLostClear | latchSnap | unlock | indDataWrite | cfgcrcRefWrite | cfgcrcPass | setAliasWrite
    | clrAliasWrite | tglAliasWrite | registerWrite | optPortEnable | optPortRetrain | cxlPortRetrain | capCommand | clkGateOffReq
    | clkObsWrite | hltPlanRun | regWr => exact .inr (.inr (.inr (.inl ⟨_, fun _ => rfl⟩)))
  all_goals exact .inr (.inr (.inr (.inr ⟨_, fun _ => rfl⟩)))

/-! ### What each way answers -/

theorem run_cases (f : State → State) (s : State) :
    run f s = .next s ∧ running s = false ∨ run f s = .fault .notBound ∧ running s = true ∧ unbound s = true ∨
      run f s = .next (f s) ∧ live s = true := by
  unfold run
  cases hr : running s
  · exact .inl ⟨rfl, rfl⟩
  · cases hu : unbound s
    · exact .inr (.inr ⟨rfl, by rw [live, hr, hu]; rfl⟩)
    · exact .inr (.inl ⟨rfl, rfl, rfl⟩)

theorem runWrite_cases (f : State → State) (s : State) :
    runWrite f s = .next s ∧ running s = false ∨ runWrite f s = .next (f s) ∧ running s = true := by
  unfold runWrite
  cases hr : running s
  · exact .inl ⟨rfl, rfl⟩
  · exact .inr ⟨rfl, rfl⟩

theorem runAon_cases (f : State → State) (s : State) :
    runAon f s = .next s ∧ s.sys.conv = false ∨ runAon f s = .fault .notBound ∧ s.sys.conv = true ∧ unbound s = true ∨
      runAon f s = .next (f s) ∧ aonLive s = true := by
  unfold runAon
  cases hc : s.sys.conv
  · exact .inl ⟨rfl, rfl⟩
  · cases hu : unbound s
    · exact .inr (.inr ⟨rfl, by rw [aonLive, hc, hu]; rfl⟩)
    · exact .inr (.inl ⟨rfl, rfl, rfl⟩)

theorem conv_of_running {s : State} (h : running s = true) : s.sys.conv = true := by
  simp only [running, Bool.and_eq_true] at h
  exact h.1.1.1

/-- A command answers a next state, or stops where a changed RSV-P bit stands while the conversion is on (R471). -/
theorem exec_cases (c : Instr) (s : State) :
    (∃ t, exec c s = .next t) ∨ exec c s = .fault .notBound ∧ unbound s = true ∧ s.sys.conv = true := by
  obtain ⟨f, hf⟩ | rfl | rfl | ⟨f, hf⟩ | ⟨f, hf⟩ := exec_ways c
  · rw [exec_aonRow hf]
    obtain ⟨h, -⟩ | ⟨h, hc, hu⟩ | ⟨h, -⟩ := runAon_cases f s
    · exact .inl ⟨s, h⟩
    · exact .inr ⟨h, hu, hc⟩
    · exact .inl ⟨f s, h⟩
  · exact .inl ⟨_, rfl⟩
  · exact .inl ⟨_, rfl⟩
  · rw [hf]
    obtain ⟨h, -⟩ | ⟨h, -⟩ := runWrite_cases f s
    · exact .inl ⟨s, h⟩
    · exact .inl ⟨f s, h⟩
  · rw [hf]
    obtain ⟨h, -⟩ | ⟨h, hr, hu⟩ | ⟨h, -⟩ := run_cases f s
    · exact .inl ⟨s, h⟩
    · exact .inr ⟨h, hu, conv_of_running hr⟩
    · exact .inl ⟨f s, h⟩

/-- Settles O4: by the way in which each command runs. -/
theorem onlyStop : Obligations.OnlyStop := by
  unfold Obligations.OnlyStop
  refine ⟨fun c s hu => ?_, fun c s f hf => ?_, fun c s x hx => ?_⟩
  · obtain h | ⟨-, hu', -⟩ := exec_cases c s
    · exact h
    · exact absurd (hu.symm.trans hu') (by decide)
  · obtain ⟨t, h⟩ | ⟨h, hu, hc⟩ := exec_cases c s
    · exact nomatch h.symm.trans hf
    · exact ⟨(Host.Outcome.fault.inj (h.symm.trans hf)).symm, hu, hc⟩
  · obtain ⟨t, h⟩ | ⟨h, -⟩ := exec_cases c s
    · exact nomatch h.symm.trans hx
    · exact nomatch h.symm.trans hx

/-! ### Without power (R400) -/

/-- While the conversion is off every command but POWER_APPLIED leaves the module as it is. -/
theorem exec_convOff {c : Instr} {s : State} (hc : s.sys.conv = false) (hp : c ≠ .powerApplied) : exec c s = .next s := by
  have hr : running s = false := by rw [running, hc]; rfl
  obtain ⟨f, hf⟩ | rfl | rfl | ⟨f, hf⟩ | ⟨f, hf⟩ := exec_ways c
  · rw [exec_aonRow hf, runAon, hc]; rfl
  · exact absurd rfl hp
  · have : { s with sys := { s.sys with conv := false } } = s := by rw [← hc]
    exact congrArg Host.Outcome.next this
  · rw [hf, runWrite, hr]; rfl
  · rw [hf, run, hr]; rfl

theorem idle_stopped {s : State} (h : running s = false) : idle s = s := by rw [idle, h]; rfl

theorem idleCmd_stopped {s : State} (h : running s = false) : idleCmd s = none := by rw [idleCmd, h]; rfl

/-- A step on an empty queue changes nothing while not every domain runs. -/
theorem step_stopped {s : State} (hp : s.pending = []) (h : running s = false) : step s = .next s := by
  rw [step, hp]
  simp only [idleCmd_stopped h, idle_stopped h]

theorem step_cons {c : Instr} {rest : List Instr} {s : State} (h : s.pending = c :: rest) :
    step s = exec c { s with pending := rest } := by rw [step, h]

/-- Settles O1. -/
theorem stepRunsTheCommand : Obligations.StepRunsTheCommand := fun _ _ _ h => step_cons h

/-- Settles O5: no command but POWER_APPLIED finds the module. -/
theorem noPowerKept : Obligations.NoPowerKept := by
  unfold Obligations.NoPowerKept
  intro s t h hst
  simp only [noPower, Bool.and_eq_true, Bool.not_eq_true', List.all_eq_true, bne_iff_ne] at h ⊢
  obtain ⟨hc, hp⟩ := h
  cases hq : s.pending with
  | nil =>
    have ht : t = s := (Host.Outcome.next.inj ((step_stopped hq (by rw [running, hc]; rfl)).symm.trans hst)).symm
    subst ht
    exact ⟨⟨hc, hp⟩, by rw [List.tail_nil, ← hq]⟩
  | cons c rest =>
    have hx := exec_convOff (c := c) (s := { s with pending := rest }) hc (hp c (hq ▸ List.mem_cons_self))
    have ht : t = { s with pending := rest } := (Host.Outcome.next.inj (hx.symm.trans ((step_cons hq).symm.trans hst))).symm
    subst ht
    exact ⟨⟨hc, fun c' h' => hp c' (hq ▸ List.mem_cons_of_mem c h')⟩, rfl⟩

end Sys2Proof.Machine
end

section
/-! The governor (R405 to R412). -/

namespace Sys2Proof.Machine

/-! ### What a tick touches -/

/-- `t` is `s` but for counts and for what the governor sets of power: allowance, ramp, lull, fill and their flags. -/
def GovFrom (s t : State) : Prop :=
  t = { s with
    pwr := { s.pwr with
      a := t.pwr.a, ramp := t.pwr.ramp, rampN := t.pwr.rampN, lastUs := t.pwr.lastUs, lull := t.pwr.lull, lullHeld := t.pwr.lullHeld,
      capLag := t.pwr.capLag, fill := t.pwr.fill, slewShort := t.pwr.slewShort },
    regs := { s.regs with cnt := t.regs.cnt } }

theorem GovFrom.trans {s t u : State} (h : GovFrom s t) (h' : GovFrom t u) : GovFrom s u := by
  unfold GovFrom at *
  rw [h] at h'
  exact h'

theorem govFrom_lullStep (d : Nat) (s : State) : GovFrom s (lullStep d s) := by
  unfold lullStep
  split <;> rfl

theorem govFrom_lowerTo (c : Nat) (s : State) : GovFrom s (lowerTo c s) := by
  unfold lowerTo
  dsimp only
  split <;> rfl

theorem govFrom_startRamp (up : Bool) (s : State) : GovFrom s (startRamp up s) := rfl

theorem govFrom_moveRamp (target : Nat) (s : State) : GovFrom s (moveRamp target s) := by
  unfold moveRamp
  split <;> rfl

/-- The ramp that a new target leaves: one toward another side ends (R406). -/
def rampKept (target : Nat) (s : State) : State :=
  if rampDir s.pwr.ramp = above s.pwr.a target then s else { s with pwr := { s.pwr with ramp := .none } }

theorem govFrom_rampKept (target : Nat) (s : State) : GovFrom s (rampKept target s) := by
  unfold rampKept
  split <;> rfl

theorem rampTo_cases (target : Nat) (s : State) : rampTo target s = moveRamp target (rampKept target s) ∨
    ∃ up, above s.pwr.a target = some up ∧ rampTo target s = moveRamp target (startRamp up (rampKept target s)) := by
  unfold rampTo
  dsimp only
  split
  · next up hr hs => exact .inr ⟨up, hs, rfl⟩
  · exact .inl rfl

theorem govFrom_rampTo (target : Nat) (s : State) : GovFrom s (rampTo target s) := by
  obtain h | ⟨up, -, h⟩ := rampTo_cases target s
  · rw [h]; exact (govFrom_rampKept ..).trans (govFrom_moveRamp ..)
  · rw [h]; exact (govFrom_rampKept ..).trans ((govFrom_startRamp ..).trans (govFrom_moveRamp ..))

theorem govFrom_fillTo (d : Nat) (s : State) : GovFrom s (fillTo d s) := by
  unfold fillTo
  dsimp only
  split
  · rfl
  · split <;> rfl

/-- The allowance of a tick without a brake: down to a lower ceiling, or along its ramp (R406, R409). -/
def allowed (c target : Nat) (s : State) : State :=
  if c < s.pwr.a then lowerTo c s else rampTo target { s with pwr := { s.pwr with capLag := decide (c < 100 * s.pwr.draw) } }

theorem govFrom_allowed (c target : Nat) (s : State) : GovFrom s (allowed c target s) := by
  unfold allowed
  split
  · exact govFrom_lowerTo c s
  · exact GovFrom.trans (t := { s with pwr := { s.pwr with capLag := decide (c < 100 * s.pwr.draw) } }) rfl (govFrom_rampTo ..)

theorem govern_braked {d : Nat} {s : State} (h : braked s = true) :
    govern d s = { lullStep d s with pwr := { (lullStep d s).pwr with a := 100 * litIdle (lullStep d s), fill := 0, ramp := .none } } := by
  have hb : braked (lullStep d s) = true := by rw [govFrom_lullStep d s]; exact h
  unfold govern
  dsimp only
  rw [if_pos hb]

theorem govern_unbraked {d : Nat} {s : State} (h : braked s = false) :
    ∃ c target, govern d s = fillTo d (allowed c target (lullStep d s)) := by
  have hb : ¬ braked (lullStep d s) = true := by rw [govFrom_lullStep d s]; exact ne_true_of_eq_false h
  unfold govern
  dsimp only
  rw [if_neg hb]
  exact ⟨_, _, rfl⟩

theorem govFrom_govern (d : Nat) (s : State) : GovFrom s (govern d s) := by
  cases h : braked s
  · obtain ⟨c, target, h⟩ := govern_unbraked (d := d) h
    rw [h]
    exact (govFrom_lullStep d s).trans ((govFrom_allowed ..).trans (govFrom_fillTo ..))
  · rw [govern_braked h]
    exact (govFrom_lullStep d s).trans rfl

/-- The state in which the governor meets a tick: 10 µs later, with the measurements taken. -/
def ticked (d w v tj g : Nat) (s : State) : State :=
  { s with now := s.now + 10000, pwr := { s.pwr with demand := d, draw := w, vin := v, tj := tj, gddr := g } }

theorem govFrom_tick (d w v tj g : Nat) (s : State) : GovFrom (ticked d w v tj g s) (tick d w v tj g s) := govFrom_govern d _

theorem tick_sameBut {d w v tj g : Nat} {s : State} : sameBut [.now, .pwr, .regs] s (tick d w v tj g s) := by
  apply sameBut_of_eq
  rw [govFrom_tick]
  rfl

/-! ### The slew limits (R406, R409) -/

/-- The allowance of `t` is within the slew limits of that of `s`. -/
def slewed (s t : State) : Prop := t.pwr.a ≤ s.pwr.a + slewUp s ∧ s.pwr.a ≤ t.pwr.a + slewDn s

/-- A ramp that moves toward its target keeps the slew limits. -/
theorem slewed_moveRamp {target : Nat} {s : State} (h : ∀ up, s.pwr.ramp = .moving up → above s.pwr.a target = some up) :
    slewed s (moveRamp target s) := by
  unfold slewed moveRamp
  split
  · next hr =>
    have hs := h true hr
    simp only [above, Option.ite_none_left_eq_some, Option.some.injEq, decide_eq_true_eq] at hs
    refine ⟨Nat.min_le_right _ _, ?_⟩
    have : s.pwr.a ≤ Nat.min target (s.pwr.a + slewUp s) := Nat.le_min.2 ⟨hs.2.le, Nat.le_add_right _ _⟩
    exact this.trans (Nat.le_add_right _ _)
  · next hr =>
    have hs := h false hr
    simp only [above, Option.ite_none_left_eq_some, Option.some.injEq, decide_eq_false_iff_not, not_lt] at hs
    refine ⟨?_, ?_⟩
    · have : Nat.max target (s.pwr.a - slewDn s) ≤ s.pwr.a := Nat.max_le.2 ⟨hs.2, Nat.sub_le _ _⟩
      exact this.trans (Nat.le_add_right _ _)
    · have : s.pwr.a - slewDn s ≤ Nat.max target (s.pwr.a - slewDn s) := Nat.le_max_right _ _
      dsimp only
      omega
  · exact ⟨Nat.le_add_right _ _, Nat.le_add_right _ _⟩

theorem rampKept_dir {target : Nat} {s : State} {up : Bool} (h : (rampKept target s).pwr.ramp = .moving up) :
    above (rampKept target s).pwr.a target = some up := by
  unfold rampKept at *
  split at h
  · next hk => rw [if_pos hk, ← hk, h]; rfl
  · exact nomatch h

theorem startRamp_dir {up v : Bool} {s : State} (h : (startRamp up s).pwr.ramp = .moving v) : v = up := by
  unfold startRamp at h
  dsimp only at h
  split at h
  · exact (Ramp.moving.inj h).symm
  · exact nomatch h

theorem slewed_rampTo (target : Nat) (s : State) : slewed s (rampTo target s) := by
  have hk : (rampKept target s).pwr.a = s.pwr.a ∧ slewUp (rampKept target s) = slewUp s ∧ slewDn (rampKept target s) = slewDn s := by
    unfold rampKept
    split <;> exact ⟨rfl, rfl, rfl⟩
  obtain ⟨ha, hu, hd⟩ := hk
  obtain h | ⟨up, hs, h⟩ := rampTo_cases target s
  · have := slewed_moveRamp (target := target) (s := rampKept target s) fun _ => rampKept_dir
    rwa [slewed, ha, hu, hd, ← h] at this
  · have := slewed_moveRamp (target := target) (s := startRamp up (rampKept target s)) fun v hv => by
      rw [startRamp_dir hv, ← hs, ← ha]; rfl
    rw [← h] at this
    rw [slewed, ← ha, ← hu, ← hd]
    exact this

/-- Without a brake the allowance keeps the slew limits, but that under the thermal ceiling it may fall by 100 hundredths of a watt. -/
theorem allowed_slew (c target : Nat) (s : State) : (allowed c target s).pwr.a ≤ s.pwr.a + slewUp s ∧
    s.pwr.a ≤ (allowed c target s).pwr.a + (if s.pwr.thermal then Nat.max 100 (slewDn s) else slewDn s) := by
  unfold allowed
  split
  · next hc =>
    have ha : (lowerTo c s).pwr.a = Nat.max c (s.pwr.a - if s.pwr.thermal then 100 else slewDn s) := by
      unfold lowerTo
      dsimp only
      split <;> rfl
    have h1 : Nat.max c (s.pwr.a - if s.pwr.thermal then 100 else slewDn s) ≤ s.pwr.a := Nat.max_le.2 ⟨hc.le, Nat.sub_le _ _⟩
    have h2 : s.pwr.a - (if s.pwr.thermal then 100 else slewDn s) ≤ Nat.max c (s.pwr.a - if s.pwr.thermal then 100 else slewDn s) :=
      Nat.le_max_right ..
    have h3 : 100 ≤ Nat.max 100 (slewDn s) := Nat.le_max_left ..
    rw [ha]
    refine ⟨h1.trans (Nat.le_add_right _ _), ?_⟩
    cases ht : s.pwr.thermal <;> rw [ht] at h2 <;> simp only [Bool.false_eq_true, if_true, if_false] at h2 ⊢ <;> omega
  · obtain ⟨h1, h2⟩ := slewed_rampTo target { s with pwr := { s.pwr with capLag := decide (c < 100 * s.pwr.draw) } }
    have h3 := Nat.le_max_right 100 (slewDn s)
    refine ⟨h1, le_trans h2 (Nat.add_le_add_left ?_ _)⟩
    split
    · exact h3
    · exact le_rfl

/-! ### Fill (R405, R409) -/

theorem fillTo_allowance (d : Nat) (s : State) : (fillTo d s).pwr.a = s.pwr.a := by
  unfold fillTo
  dsimp only
  split
  · rfl
  · split <;> rfl

theorem fillTo_short {d : Nat} {s : State} (h : s.pwr.a < d) : (fillTo d s).pwr.fill = 0 := by
  unfold fillTo
  rw [if_pos h]

theorem fillTo_fill {d : Nat} {s : State} (h : d ≤ s.pwr.a) :
    (fillTo d s).pwr.fill = if floorWatts s = 0 then 0 else Nat.min (s.pwr.a - d) fillMax := by
  unfold fillTo
  rw [if_neg (Nat.not_lt.2 h)]
  dsimp only
  split <;> rfl

theorem fillTo_bounds (d : Nat) (s : State) : (fillTo d s).pwr.fill ≤ 38000 ∧ (d ≤ s.pwr.a → d + (fillTo d s).pwr.fill ≤ s.pwr.a) := by
  have h1 : Nat.min (s.pwr.a - d) fillMax ≤ 38000 := Nat.min_le_right _ _
  have h2 : Nat.min (s.pwr.a - d) fillMax ≤ s.pwr.a - d := Nat.min_le_left _ _
  obtain h | h := Nat.lt_or_ge s.pwr.a d
  · rw [fillTo_short h]
    exact ⟨Nat.zero_le _, fun h' => absurd h' (Nat.not_le.2 h)⟩
  · rw [fillTo_fill h]
    split
    · exact ⟨Nat.zero_le _, fun _ => h⟩
    · exact ⟨h1, fun _ => by omega⟩

/-- Settles O33: a tick's allowance by the slew limits of its ramp, its fill by the difference. -/
theorem governorTick : Obligations.GovernorTick := by
  unfold Obligations.GovernorTick
  refine ⟨fun s d w v tj g hl => exec_aon hl rfl, fun s d w v tj g => ?_, fun s up hl hr => ?_, fun s hl hr => ?_, fun s hl h => ?_,
    fun s hl h => ?_⟩
  · have hg := govFrom_tick d w v tj g s
    have hl : GovFrom (ticked d w v tj g s) (lullStep d (ticked d w v tj g s)) := govFrom_lullStep d _
    refine ⟨by rw [hg]; rfl, by rw [hg]; rfl, by rw [hg]; rfl, by rw [hg]; rfl, by rw [hg]; rfl, by rw [hg]; rfl, fun hb => ?_,
      fun hb => ?_, tick_sameBut⟩
    · have hi : litIdle (lullStep d (ticked d w v tj g s)) = litIdle s := by rw [hl]; rfl
      have ht : tick d w v tj g s = _ := govern_braked (s := ticked d w v tj g s) hb
      rw [ht]
      exact ⟨congrArg (100 * ·) hi, rfl⟩
    · obtain ⟨c, target, h⟩ := govern_unbraked (d := d) (s := ticked d w v tj g s) hb
      have ht : tick d w v tj g s = _ := h
      obtain ⟨hup, hdn⟩ := allowed_slew c target (lullStep d (ticked d w v tj g s))
      obtain ⟨hf, hfa⟩ := fillTo_bounds d (allowed c target (lullStep d (ticked d w v tj g s)))
      have ha : (lullStep d (ticked d w v tj g s)).pwr.a = s.pwr.a := by unfold lullStep; split <;> rfl
      have hu : slewUp (lullStep d (ticked d w v tj g s)) = slewUp s := by rw [hl]; rfl
      have hd : slewDn (lullStep d (ticked d w v tj g s)) = slewDn s := by rw [hl]; rfl
      have hth : (lullStep d (ticked d w v tj g s)).pwr.thermal = s.pwr.thermal := by rw [hl]; rfl
      rw [ha, hu] at hup
      rw [ha, hd, hth] at hdn
      rw [ht, fillTo_allowance]
      exact ⟨hup, hdn, fillTo_short, hf, hfa⟩
  · rw [exec_aon hl rfl]
    dsimp only
    rw [hr]
  · rw [exec_aon hl rfl]
    dsimp only
    split
    · next up h => exact absurd h (hr up)
    · rfl
  · rw [exec_aon hl rfl]
    dsimp only
    rw [if_pos h]
  · rw [exec_aon hl rfl]
    dsimp only
    rw [if_neg (by rw [h]; decide)]

end Sys2Proof.Machine
end

section
/-! The brake, the input power, the clocks and the start-up (R389, R400, R411 to R415, R431 to R437), and the thermal shutdown as an invariant. -/

namespace Sys2Proof.Machine

/-! ### Fault records -/

theorem faultSev_sameBut {cls block sev : Nat} {p : Option Nat} {addr detail : Nat} {s : State} :
    sameBut [.regs, .flt] s (faultSev cls block sev p addr detail s) := by
  unfold faultSev
  dsimp only
  split <;> exact sameBut_of_eq rfl

theorem faultAtSev_sameBut {cls block sev : Nat} {p : Option Nat} {addr : Nat} {s : State} :
    sameBut [.seed, .regs, .flt] s (faultAtSev cls block sev p addr s) :=
  sameBut_trans (sameBut_of_eq (t := (freeVal (2 ^ 64) s).2) rfl) (sameBut_mono faultSev_sameBut (by decide))

theorem faultAny_sameBut {cls block sev : Nat} {p : Option Nat} {s : State} :
    sameBut [.seed, .regs, .flt] s (faultAny cls block sev p s) :=
  sameBut_trans (sameBut_of_eq (t := (freeVal (2 ^ 64) s).2) rfl) faultAtSev_sameBut

/-- A record for which no rule states ADDR or DETAIL is one of its class with two free values. -/
theorem faultAny_eq (cls block sev : Nat) (p : Option Nat) (s : State) :
    ∃ addr detail, faultAny cls block sev p s = faultSev cls block sev p addr detail { s with seed := s.seed + 1 + 1 } := ⟨_, _, rfl⟩

/-! ### The brake (R400, R411, R412) -/

theorem brakeOn_sameBut (s : State) : sameBut [.seed, .pwr, .regs, .flt] s (brakeOn s) :=
  sameBut_trans (sameBut_of_eq (t := bump 0x20020 { s with pwr := { s.pwr with fill := 0 } }) rfl)
    (sameBut_mono faultAny_sameBut (by decide))

theorem brakeOn_pwr (s : State) : (brakeOn s).pwr = { s.pwr with fill := 0 } := faultAny_pwr ..

theorem brakeOn_seq (s : State) : (brakeOn s).flt.seq = (s.flt.seq + 1) % 2 ^ 32 := faultSev_seq ..

/-- A release of the brake's cause, where every domain runs, lets what it held go on. -/
theorem admitAgain_quiet {s : State} (h : quiet s = true) : admitAgain s = s := by
  unfold admitAgain
  split
  · exact settled_quiet h
  · rfl

/-- The power of the module is no part of what is under way in the data path. -/
theorem quiet_setPwr (s : State) (x : Pwr) : quiet { s with pwr := x } = quiet s := rfl

/-- Settles O31: each cause by its row; an assertion by the record that it leaves. -/
theorem brake : Obligations.Brake := by
  unfold Obligations.Brake
  have release : ∀ (s : State) (x : Pwr) (c : Instr), exec c s = .next (admitAgain { s with pwr := x }) →
      exec c s = .next (if running s then settled { s with pwr := x } else { s with pwr := x }) ∧
        (quiet s = true → exec c s = .next { s with pwr := x }) :=
    fun s x c h => ⟨h, fun hq => h.trans (congrArg _ (admitAgain_quiet hq))⟩
  refine ⟨fun s hl h => ?_, fun s hl h => ?_, fun s hl h => ?_, fun s hl h => ?_, fun s hl h => ?_, fun s hl h => ?_,
    fun s => ⟨brakeOn_pwr s, brakeOn_seq s, brakeOn_sameBut s⟩, fun s hl h => release _ _ _ ?_, fun s hl h => release _ _ _ ?_,
    fun s hl h => release _ _ _ ?_, fun s hl h => ?_, fun s hl h => ?_, fun s hl h => ?_⟩
  all_goals rw [exec_aon hl rfl, h]; rfl

/-! ### The input power and the temperature (R365, R400, R412, R479) -/

/-- A table's entries change one by one where the change keeps the value that an unlisted number reads as. -/
theorem get_mapD_of_fix {α : Type} [DecidableEq α] (d : α) (f : Nat → α → α) (t : Tab α) (j : Nat) (h : f j d = d) :
    (t.mapD d f).get d j = f j (t.get d j) := by
  rw [Tab.get_mapD, Tab.get_find]
  cases t.find j
  · exact h.symm
  · rfl

theorem hardReset_cxlPort (s : State) (p : Nat) : cxlPort (hardReset s) p = { CxlPort.init with perst := (cxlPort s p).perst } :=
  get_mapD_of_fix CxlPort.init (fun _ c => { CxlPort.init with perst := c.perst }) s.cxl.ports p rfl

theorem hardReset_sameBut (s : State) : sameBut [.pending, .out, .seed, .pwr, .rep, .dbg, .cxl] State.reset (hardReset s) :=
  sameBut_of_eq rfl

/-- Settles O32: each row by what it notes; a hard reset by the parts that it keeps. -/
theorem inputPower : Obligations.InputPower := by
  unfold Obligations.InputPower
  have applied : ∀ s : State, exec .powerApplied s = .next (if s.sys.conv then s else hardReset s) := fun _ => rfl
  refine ⟨fun s h => by rw [applied, h]; rfl, fun s h => by rw [applied, h]; rfl, fun s => rfl, fun s hl => by rw [exec_aon hl rfl],
    fun s hl => by rw [exec_aon hl rfl], fun s hl h => ?_, fun s hl h => ?_, fun s hl => by rw [exec_aon hl rfl], fun s hl h => ?_, fun s hl h => ?_,
    fun s hl h => ?_, fun s => ⟨rfl, rfl, rfl, hardReset_cxlPort s, rfl, rfl, rfl, rfl, hardReset_sameBut s⟩⟩
  all_goals rw [exec_aon hl rfl, h]; rfl

/-! ### The clocks (R414 to R416) -/

theorem clockLost_sameBut (s : State) : sameBut [.seed, .clk, .regs, .flt] s (clockLost s) :=
  sameBut_trans
    (sameBut_of_eq (t := bump 0x10010 { s with clk := { s.clk with refOk := false, rootLock := false, src := 0, stopped := true } }) rfl)
    (sameBut_mono faultAny_sameBut (by decide))

theorem clockLost_clk (s : State) : (clockLost s).clk = { s.clk with refOk := false, rootLock := false, src := 0, stopped := true } :=
  faultAny_clk ..

/-- A lost clock is counted and recorded with severity 3 where the fault queue has room (R415). -/
theorem clockLost_recorded {s : State} (h : s.flt.q.length < 4096) :
    (clockLost s).regs.cnt = s.regs.cnt.put 0 0x10010 (satAdd cntMax (s.regs.cnt.get 0 0x10010) 1) ∧
      ∃ r, (clockLost s).flt.q = s.flt.q ++ [r] ∧ r.cls = 0x18 ∧ r.block = 11 ∧ r.sev = 3 ∧ r.part = none ∧ r.timeNs = s.now := by
  obtain ⟨addr, detail, hf⟩ := faultAny_eq 0x18 11 3 none
    (bump 0x10010 { s with clk := { s.clk with refOk := false, rootLock := false, src := 0, stopped := true } })
  rw [clockLost, hf, faultSev_room]
  · exact ⟨rfl, _, rfl, rfl, rfl, rfl, rfl, rfl⟩
  · exact h

theorem exec_unitGateIdle {s : State} (h : live s = true) (u : Nat) : exec (.unitGateIdle u) s =
    .next (if s.clk.closed.contains u || unitBusy s u then s
      else { s with clk := { s.clk with closed := s.clk.closed.filter (· < u) ++ [u] ++ s.clk.closed.filter (u < ·) } }) := by
  rw [show exec (.unitGateIdle u) s = execUnitGateIdle u s from rfl, execUnitGateIdle, run_live h]

/-- Settles O34: each event of the clocks by its row, a loss by its record. -/
theorem clocks : Obligations.Clocks := by
  unfold Obligations.Clocks
  refine ⟨fun s hl => by rw [exec_aon hl rfl], fun s hl hr hs => ?_, fun s hl hr hs => ⟨clockLost s, ?_, clockLost_clk s, clockLost_recorded,
    clockLost_sameBut s⟩, fun s hl hs => ?_, fun s hl hs => ?_, fun s u hl h => ?_, fun s u hl hc hb => ?_⟩
  · rw [exec_aon hl rfl, hr, hs]; rfl
  · rw [exec_aon hl rfl, if_pos (by simpa [hs] using hr)]
  · rw [exec_aon hl rfl, hs]; rfl
  · rw [exec_aon hl rfl, hs]; rfl
  · rw [exec_unitGateIdle hl, if_pos (by simpa using h)]
  · rw [exec_unitGateIdle hl, if_neg (by simpa using ⟨hc, hb⟩)]

/-! ### The start-up (R389, R390, R431 to R437) -/

theorem imageRead_again {f : Option Bytes} {s : State} (h : s.sys.imgRead = true) : imageRead f s = s := if_pos h

theorem imageRead_accepted {f : Bytes} {s : State} (h : s.sys.imgRead = false) (he : imageErr (some f) = 0) :
    imageRead (some f) s = startPorts { s with sys := imageSys (f.take (field f 8 4)) s.sys } := by
  unfold imageRead
  rw [if_neg (by rw [h]; decide), he]
  rfl

theorem imageRead_rejected {f : Option Bytes} {s : State} (h : s.sys.imgRead = false) (he : imageErr f ≠ 0) :
    imageRead f s = faultAny 0x1B 10 2 none { s with sys := { s.sys with imgRead := true, imgErr := imageErr f, idOk := false } } := by
  unfold imageRead
  rw [if_neg (by rw [h]; decide)]
  split
  · next h0 => exact absurd h0 he
  · rfl

/-- Settles O35: the image by whether it is accepted, the identity by how its regeneration ends. -/
theorem startUp : Obligations.StartUp := by
  unfold Obligations.StartUp
  refine ⟨fun s f hl h he => ?_, fun s f hl h he => ?_, fun s f hl h => ?_, fun s hl hd he => ?_, fun s hl hd he => ?_,
    fun s ok hl hd => ?_⟩
  · rw [exec_aon hl rfl, imageRead_accepted h he]; rfl
  · rw [exec_aon hl rfl, imageRead_rejected h he]
  · rw [exec_aon hl rfl, imageRead_again h]
  · rw [exec_aon hl rfl, hd, he]; rfl
  · rw [exec_aon hl rfl, hd, he]; rfl
  · rw [exec_aon hl rfl, hd]; rfl

/-! ### The thermal shutdown (R412) -/

/-- `t` differs from `s` only where the always-on domain reaches, waits for the same commands, and is shut down still. -/
def stillShut (s t : State) : Prop :=
  sameBut [.out, .seed, .now, .sys, .clk, .pwr, .regs, .flt, .cxl] s t ∧ t.sys.conv = s.sys.conv ∧ t.sys.aonOnly = s.sys.aonOnly

theorem stillShut.refl (s : State) : stillShut s s := ⟨sameBut_refl _ s, rfl, rfl⟩

/-- A change that leaves the start-up's record alone keeps the shutdown. -/
theorem stillShut.next {s t u : State} (h : stillShut s t) (h' : sameBut [.out, .seed, .now, .clk, .pwr, .regs, .flt, .cxl] t u) :
    stillShut s u :=
  have hs : u.sys = t.sys := h' .sys (by decide)
  ⟨sameBut_trans h.1 (sameBut_mono h' (by decide)), by rw [hs, h.2.1], by rw [hs, h.2.2]⟩

theorem stillShut.faultAny {s t : State} (h : stillShut s t) (cls block sev : Nat) (p : Option Nat) :
    stillShut s (faultAny cls block sev p t) := h.next (sameBut_mono faultAny_sameBut (by decide))

theorem stillShut.ite {b : Bool} {s t u : State} (h : stillShut s t) (h' : stillShut s u) : stillShut s (if b then t else u) := by
  cases b
  · exact h'
  · exact h

theorem stillShut_setPwr (s : State) (x : Pwr) : stillShut s { s with pwr := x } := ⟨sameBut_of_eq rfl, rfl, rfl⟩

theorem stillShut_setSys {s : State} {x : Sys} (hc : x.conv = s.sys.conv) (ha : x.aonOnly = s.sys.aonOnly) :
    stillShut s { s with sys := x } := ⟨sameBut_of_eq rfl, hc, ha⟩

theorem stillShut.brakeOn {s t : State} (h : stillShut s t) : stillShut s (brakeOn t) := h.next (sameBut_mono (brakeOn_sameBut t) (by decide))

/-- Nothing that the brake held goes on in the shutdown. -/
theorem stillShut_released {s : State} (h : s.sys.aonOnly = true) (x : Pwr) : stillShut s (admitAgain { s with pwr := x }) := by
  have hr : running { s with pwr := x } = false := by simp [running, h]
  rw [admitAgain, hr]
  exact stillShut_setPwr s x

theorem stillShut.cxlTrain {s t : State} (h : stillShut s t) (p : Nat) : stillShut s (cxlTrain p t) := by
  unfold Machine.cxlTrain
  exact .ite (h.next (sameBut_of_eq rfl)) h

theorem stillShut.startPorts {s t : State} (h : stillShut s t) : stillShut s (startPorts t) :=
  List.foldlRecOn (motive := stillShut s) _ _ h fun _ hu p _ =>
    .ite (hu.cxlTrain p) (.ite hu (hu.next (sameBut_mono faultAtSev_sameBut (by decide))))

theorem stillShut_imageRead (f : Option Bytes) (s : State) : stillShut s (imageRead f s) := by
  cases h : s.sys.imgRead
  · by_cases he : imageErr f = 0
    · cases f with
      | none => exact absurd he (by decide)
      | some f =>
        rw [imageRead_accepted h he]
        refine stillShut.startPorts (stillShut_setSys ?_ ?_) <;> rfl
    · rw [imageRead_rejected h he]
      refine stillShut.faultAny (stillShut_setSys ?_ ?_) .. <;> rfl
  · rw [imageRead_again h]
    exact .refl s

/-- In the shutdown a row of the always-on domain other than its end and the root's relock keeps it. -/
theorem stillShut_aonRow {c : Instr} {f : State → State} {s : State} (h : aonRow c = some f) (hs : s.sys.aonOnly = true)
    (ht : c ≠ .thermalRestart) (hr : c ≠ .rootRelock) : stillShut s (f s) := by
  cases c <;> cases h
  case thermalRestart => exact absurd rfl ht
  case rootRelock => exact absurd rfl hr
  case referencePresent => exact (stillShut.refl s).next (sameBut_of_eq rfl)
  case rootPllLock => exact .ite ((stillShut.refl s).next (sameBut_of_eq rfl)) (.refl s)
  case referenceLoss => exact .ite ((stillShut.refl s).next (sameBut_mono (clockLost_sameBut s) (by decide))) (.refl s)
  case woquelImageRead => exact stillShut_imageRead _ s
  case identityRegenerated =>
    refine .ite (.refl s) (.ite ?_ (stillShut.faultAny ?_ ..))
    all_goals exact stillShut_setSys rfl rfl
  case governorTick => exact (stillShut.refl s).next (sameBut_mono tick_sameBut (by decide))
  case thermalRelease => exact stillShut_setPwr s _
  case inputLow | inputHigh => exact (stillShut_setPwr s _).faultAny ..
  case thermalCeiling => exact .ite (.refl s) ((stillShut_setPwr s _).faultAny ..)
  case thermalShutdown =>
    dsimp only
    rw [if_pos hs]
    exact .refl s
  case pwrBrakeAssert | inputBrake | thermalBrake => exact .ite (.refl s) (stillShut_setPwr s _).brakeOn
  case pwrBrakeRelease | inputRecover | thermalBrakeRelease => exact .ite (stillShut_released hs _) (.refl s)
  case lullHoldExpiry => exact .ite (stillShut_setPwr s _) (.refl s)
  case staggerExpiry =>
    dsimp only
    split
    · exact stillShut_setPwr s _
    · exact .refl s

/-- In the shutdown no command but the four that end it, or the module's supply, reaches another domain. -/
theorem stillShut_exec {c : Instr} {s t : State} (hs : s.sys.aonOnly = true) (hp : c ≠ .powerApplied)
    (ho : c ≠ .inputOff) (ht : c ≠ .thermalRestart) (hr : c ≠ .rootRelock) (h : exec c s = .next t) : stillShut s t := by
  have hrun : running s = false := by simp [running, hs]
  obtain ⟨f, hf⟩ | rfl | rfl | ⟨f, hf⟩ | ⟨f, hf⟩ := exec_ways c
  · rw [exec_aonRow hf] at h
    obtain ⟨h', -⟩ | ⟨h', -⟩ | ⟨h', -⟩ := runAon_cases f s
    · cases h.symm.trans h'; exact .refl s
    · exact nomatch h.symm.trans h'
    · cases h.symm.trans h'; exact stillShut_aonRow hf hs ht hr
  · exact absurd rfl hp
  · exact absurd rfl ho
  · rw [hf, runWrite, hrun] at h
    cases h; exact .refl s
  · rw [hf, run, hrun] at h
    cases h; exact .refl s

theorem shutDown_iff (s : State) : shutDown s = true ↔ s.sys.conv = true ∧ s.sys.aonOnly = true ∧
    ∀ c ∈ s.pending, c ≠ .powerApplied ∧ c ≠ .inputOff ∧ c ≠ .thermalRestart ∧ c ≠ .rootRelock := by
  simp only [shutDown, Bool.and_eq_true, List.all_eq_true, bne_iff_ne, and_assoc]

/-- Settles O6: a step runs a command of the always-on domain, or nothing. -/
theorem shutDownKept : Obligations.ShutDownKept := by
  unfold Obligations.ShutDownKept
  intro s t h hst
  rw [shutDown_iff] at h ⊢
  obtain ⟨hc, ha, hp⟩ := h
  have hrun : running s = false := by simp [running, ha]
  cases hq : s.pending with
  | nil =>
    cases (step_stopped hq hrun).symm.trans hst
    exact ⟨⟨hc, ha, hp⟩, sameBut_refl _ s⟩
  | cons c rest =>
    obtain ⟨h1, h2, h3, h4⟩ := hp c (hq ▸ List.mem_cons_self)
    obtain ⟨hb, htc, hta⟩ := stillShut_exec (s := { s with pending := rest }) ha h1 h2 h3 h4 ((step_cons hq).symm.trans hst)
    have hpend : t.pending = rest := hb .pending (by decide)
    refine ⟨⟨htc.trans hc, hta.trans ha, fun c' h' => hp c' (hq ▸ List.mem_cons_of_mem c (hpend ▸ h'))⟩, ?_⟩
    exact sameBut_trans (sameBut_of_eq (t := { s with pending := rest }) rfl) (sameBut_mono hb (by decide))

end Sys2Proof.Machine
end

section
/-! What every message meets before its own row (R379, R381, R442 to R446, R450, R496, R502). -/

namespace Sys2Proof.Machine

/-! ### Every message takes the one path -/

/-- A message of a live module takes the path that all messages share, with checks and an effect of its own row. -/
theorem exec_message {s : State} {c : Instr} {r : Req} {m : Msg} {p : Option Nat} (hl : live s = true) (h : msgRow s c = some (r, m, p)) :
    ∃ checks eff, exec c s = .next (message r m p c checks eff s) := by
  cases c <;> cases h
  all_goals exact ⟨_, _, run_live hl⟩

section Path

variable {s : State} {r : Req} {m : Msg} {p : Option Nat} {c : Instr} {checks : State → List (Bool × Status)} {eff : State → Answer}

theorem message_unheard (h : srcUp s r.src = false) : message r m p c checks eff s = s := by
  unfold message
  rw [if_pos (by rw [h]; rfl)]

theorem message_repeated {o : Out} (h : srcUp s r.src = true) (ho : stored s r = some o) :
    message r m p c checks eff s = emit o (heard r.src s) := by
  unfold message
  rw [if_neg (by rw [h]; decide)]
  simp only [heard_stored, ho]

/-- A message that is new, and of whose number none is outstanding. -/
theorem message_new (h : srcUp s r.src = true) (hs : stored s r = none)
    (ho : ∀ o ∈ s.mgt.owed, ¬(o.src = r.src ∧ o.txn = r.txn)) :
    message r m p c checks eff s =
      if busyPort s r.src then answer r .busy [] (heard r.src s)
      else if s.fw.hinge.isSome && m.opcode != 7 then
        owe r 9 0 { heard r.src s with fw := { (heard r.src s).fw with held := s.fw.held ++ [c] } }
      else serve r m p checks eff (heard r.src s) := by
  unfold message
  rw [if_neg (by rw [h]; decide)]
  simp only [heard_stored, hs, heard_busyPort, heard_fw, heard_owed]
  rw [if_neg]
  simp only [List.any_eq_true, Bool.and_eq_true, beq_iff_eq, not_exists, not_and]
  exact fun o hm h => absurd h (ho o hm)

theorem reaches_iff : reaches s r = true ↔ srcUp s r.src = true ∧ stored s r = none ∧ busyPort s r.src = false := by
  simp only [reaches, Bool.and_eq_true, Option.isNone_iff_eq_none, Bool.not_eq_true', and_assoc]

theorem owed_other (h : busyPort s r.src = false) : ∀ o ∈ s.mgt.owed, ¬(o.src = r.src ∧ o.txn = r.txn) := by
  simp only [busyPort, List.any_eq_false, beq_iff_eq] at h
  exact fun o ho hs => h o ho hs.1

/-- Outside a Hinge pause a message that reaches the module is served. -/
theorem message_reaches (h : reaches s r = true) (hh : s.fw.hinge = none) :
    message r m p c checks eff s = serve r m p checks eff (heard r.src s) := by
  obtain ⟨hu, hs, hb⟩ := reaches_iff.1 h
  rw [message_new hu hs (owed_other hb), if_neg (by rw [hb]; decide), if_neg (by rw [hh]; exact Bool.false_ne_true)]

/-- During a Hinge pause it is held, but for MOD_RESET. -/
theorem message_held (h : reaches s r = true) (hh : s.fw.hinge.isSome = true) (h7 : m.opcode ≠ 7) :
    message r m p c checks eff s =
      owe r 9 0 { heard r.src s with fw := { (heard r.src s).fw with held := s.fw.held ++ [c] } } := by
  obtain ⟨hu, hs, hb⟩ := reaches_iff.1 h
  rw [message_new hu hs (owed_other hb), if_neg (by rw [hb]; decide), if_pos (by rw [hh, bne_iff_ne.2 h7]; rfl)]

/-! ### The order of the first checks (R502) -/

theorem serve_version (h1 : m.opcode ≠ 1) (hv : versionOk s r = false) : serve r m p checks eff s = answer r .version [] s := by
  unfold serve
  rw [if_pos ⟨h1, by rw [hv]; rfl⟩]

theorem firmware_serves (hfw : m.rom = true ∨ fwRuns s = true) : ¬(!m.rom && !fwRuns s) = true := by
  obtain h | h := hfw <;> rw [h] <;> simp

variable (hv : m.opcode = 1 ∨ versionOk s r = true)
include hv

theorem version_served : ¬(m.opcode ≠ 1 ∧ (!versionOk s r) = true) := by
  rintro ⟨h1, h2⟩
  obtain h | h := hv
  · exact h1 h
  · rw [h] at h2; exact absurd h2 (by decide)

theorem serve_length (h : r.lenOk = false) : serve r m p checks eff s = answer r .length [] s := by
  unfold serve
  rw [if_neg (version_served hv), if_pos (by rw [h]; rfl)]

variable (hlen : r.lenOk = true)
include hlen

theorem serve_noFw (hm : m.rom = false) (hf : fwRuns s = false) : serve r m p checks eff s = answer r .noFw [] s := by
  unfold serve
  rw [if_neg (version_served hv), if_neg (by rw [hlen]; decide), if_pos (by rw [hm, hf]; rfl)]

variable (hfw : m.rom = true ∨ fwRuns s = true)
include hfw

theorem serve_lease (h : leaseBad s r m = true) : serve r m p checks eff s = answer r .lease [] (bump 0x4000C s) := by
  unfold serve
  rw [if_neg (version_served hv), if_neg (by rw [hlen]; decide), if_neg (firmware_serves hfw), if_pos h]

theorem serve_class (h : leaseBad s r m = false) (hc : classBad s r m p = true) :
    serve r m p checks eff s = answer r .denied [] (faultAny 0 0 0 none (bump 0x40008 s)) := by
  unfold serve
  rw [if_neg (version_served hv), if_neg (by rw [hlen]; decide), if_neg (firmware_serves hfw), if_neg (by rw [h]; decide), if_pos hc]

end Path

/-- Settles O8: the checks that every message meets, in their order. -/
theorem messageOrder : Obligations.MessageOrder := by
  unfold Obligations.MessageOrder
  intro s c r m p hl hm hr hh
  obtain ⟨checks, eff, hx⟩ := exec_message hl hm
  rw [hx, message_reaches hr hh]
  have hfw := heard_fwRuns r.src s
  have hver := heard_versionOk r.src r s
  refine ⟨fun h1 hv => by rw [serve_version h1 (hver.trans hv)], fun hv => ?_⟩
  have hv' : m.opcode = 1 ∨ versionOk (heard r.src s) r = true := by rwa [hver]
  refine ⟨fun h => by rw [serve_length hv' h], fun hlen => ⟨fun h hf => by rw [serve_noFw hv' hlen h (hfw.trans hf)], fun hf => ?_⟩⟩
  have hf' : m.rom = true ∨ fwRuns (heard r.src s) = true := by rwa [hfw]
  exact ⟨fun h => by rw [serve_lease hv' hlen hf' ((heard_leaseBad ..).trans h)],
    fun h hc => by rw [serve_class hv' hlen hf' ((heard_leaseBad ..).trans h) ((heard_classBad ..).trans hc)]⟩

theorem heard_holds {s : State} {l : Link} (h : s.mgt.holder = some l) :
    heard (.mgt l) s = { s with mgt := { s.mgt with heardNs := s.now, leaseMs := cfgField s 0x40000 12 0 } } := if_pos h

theorem heard_other {s : State} {l : Link} (h : s.mgt.holder ≠ some l) : heard (.mgt l) s = s := if_neg h

/-- Settles O9: a message by where on the shared path it ends. -/
theorem messagePort : Obligations.MessagePort := by
  unfold Obligations.MessagePort
  refine ⟨fun s c r m p hl hm => ?_, fun s l => ⟨heard_holds, heard_other, fun p => rfl⟩, fun s c r m p hl hm hr hh h7 => ?_⟩
  · obtain ⟨checks, eff, hx⟩ := exec_message hl hm
    rw [hx]
    refine ⟨fun h => by rw [message_unheard h], fun hu => ⟨fun o ho => by rw [message_repeated hu ho], fun hs ho hb => ?_⟩⟩
    rw [message_new hu hs fun o hm ht => ho o hm ht.2, if_pos hb]
  · obtain ⟨checks, eff, hx⟩ := exec_message hl hm
    rw [hx, message_held hr hh h7]

end Sys2Proof.Machine
end

section
/-! Status, reports, logs, the lease and the download session (R381, R393, R440, R441, R444, R447, R448, R454). -/

namespace Sys2Proof.Machine

/-! ### A message that is admitted -/

theorem firstFail_skip {b : Bool} {st : Status} {l : List (Bool × Status)} (h : b = false) : firstFail ((b, st) :: l) = firstFail l := by
  rw [firstFail_cons, h]; rfl

theorem firstFail_hit {b : Bool} {st : Status} {l : List (Bool × Status)} (h : b = true) : firstFail ((b, st) :: l) = some st := by
  rw [firstFail_cons, h]; rfl

section Admitted

variable {s s' : State} {r : Req} {m : Msg} {p : Option Nat} {c : Instr} {checks : State → List (Bool × Status)} {eff : State → Answer}
variable (h : canRun s c = true) (hm : msgRow s c = some (r, m, p))
include h hm

/-- A ready message that no check of its row refuses answers OK after its effect. -/
theorem canRun_ok {b : Bytes} (hc : firstFail (checks (heard r.src s)) = none) (he : eff (heard r.src s) = (s', some b)) :
    run (message r m p c checks eff) s = .next (answer r .ok b s') := by
  rw [canRun_served h hm hc, he]

/-- One that responds later leaves its effect alone. -/
theorem canRun_later (hc : firstFail (checks (heard r.src s)) = none) (he : eff (heard r.src s) = (s', none)) :
    run (message r m p c checks eff) s = .next s' := by
  rw [canRun_served h hm hc, he]

end Admitted

/-! ### Reports (R448) -/

theorem reportOn_cfg (l : Link) (code : Nat) (payload : Bytes) (s : State) : (reportOn l code payload s).regs.cfg = s.regs.cfg := by
  unfold reportOn
  cases l <;> (dsimp only; split <;> rfl)

theorem report_cfg (code subject detail : Nat) (s : State) : (report code subject detail s).regs.cfg = s.regs.cfg :=
  (reportOn_cfg ..).trans (reportOn_cfg ..)

/-- A report to link A rises its number and enters its store where that has room; link B's are as they were. -/
theorem reportOn_a_fw (code : Nat) (payload : Bytes) (s : State) : (reportOn .a code payload s).fw = { s.fw with
    seqA := (s.fw.seqA + 1) % 2 ^ 32,
    repA := if s.fw.repA.length < 64 then s.fw.repA ++ [⟨s.fw.seqA, code, payload⟩] else s.fw.repA } := by
  unfold reportOn
  dsimp only
  split <;> rfl

theorem reportOn_b_fw (code : Nat) (payload : Bytes) (s : State) : (reportOn .b code payload s).fw = { s.fw with
    seqB := (s.fw.seqB + 1) % 2 ^ 32,
    repB := if s.fw.repB.length < 64 then s.fw.repB ++ [⟨s.fw.seqB, code, payload⟩] else s.fw.repB } := by
  unfold reportOn
  dsimp only
  split <;> rfl

theorem reportRaw_fw (code : Nat) (payload : Bytes) (s : State) : (reportRaw code payload s).fw = { s.fw with
    seqA := (s.fw.seqA + 1) % 2 ^ 32,
    repA := if s.fw.repA.length < 64 then s.fw.repA ++ [⟨s.fw.seqA, code, payload⟩] else s.fw.repA,
    seqB := (s.fw.seqB + 1) % 2 ^ 32,
    repB := if s.fw.repB.length < 64 then s.fw.repB ++ [⟨s.fw.seqB, code, payload⟩] else s.fw.repB } := by
  rw [reportRaw, reportOn_b_fw, reportOn_a_fw]

/-- Both managers are told by a report, and by what follows that leaves firmware's record alone. -/
theorem toldBoth_of_fw {code : Nat} {payload : Bytes} {s t : State} (h : t.fw = (reportRaw code payload s).fw) :
    toldBoth code payload s t := by
  rw [toldBoth, h, reportRaw_fw]
  exact ⟨rfl, rfl, fun h => if_pos h, fun h => if_pos h⟩

theorem reportOn_sameBut {l : Link} {code : Nat} {payload : Bytes} {s : State} :
    sameBut [.out, .fw, .regs] s (reportOn l code payload s) := by
  unfold reportOn
  cases l <;> (dsimp only; split <;> exact sameBut_of_eq rfl)

theorem reportRaw_sameBut {code : Nat} {payload : Bytes} {s : State} : sameBut [.out, .fw, .regs] s (reportRaw code payload s) :=
  sameBut_trans reportOn_sameBut reportOn_sameBut

theorem report_sameBut {code subject detail : Nat} {s : State} : sameBut [.out, .fw, .regs] s (report code subject detail s) :=
  reportRaw_sameBut

/-! ### Status, reports, logs -/

theorem leBytes_one (n : Nat) : leBytes 1 n = [BitVec.ofNat 8 n] := rfl

theorem heard_ackReports_a (src : Src) (seq : Nat) (s : State) : ackReports .a seq (heard src s) = { heard src s with
    fw := { (heard src s).fw with repA := s.fw.repA.filter (fun x => decide (2 ^ 31 ≤ (seq + 2 ^ 32 - x.seq) % 2 ^ 32)) } } := by
  simp only [ackReports, seqAtMost, heard_fw, ← decide_not, not_lt]

theorem heard_ackReports_b (src : Src) (seq : Nat) (s : State) : ackReports .b seq (heard src s) = { heard src s with
    fw := { (heard src s).fw with repB := s.fw.repB.filter (fun x => decide (2 ^ 31 ≤ (seq + 2 ^ 32 - x.seq) % 2 ^ 32)) } } := by
  simp only [ackReports, seqAtMost, heard_fw, ← decide_not, not_lt]

/-- Several outputs leave in order, the last of them newest. -/
theorem foldl_emit {α : Type} (f : α → Out) (l : List α) (s : State) :
    l.foldl (fun s x => emit (f x) s) s = { s with out := (l.map f).reverse ++ s.out } := by
  induction l generalizing s with
  | nil => rfl
  | cons x l ih => rw [List.foldl_cons, ih]; simp [emit]

/-- Settles O10: each by its row. -/
theorem statusReads : Obligations.StatusReads := by
  unfold Obligations.StatusReads
  refine ⟨fun s r h => ?_, fun s r h => ?_, fun s r h => ?_, fun s r nonce h => ?_, fun s r entry count h => ?_, fun s r off h => ?_,
    fun s r seq h hs => ?_, fun s r seq h hs => ?_, fun s hl => ?_, fun s hl => ?_⟩
  · refine canRun_ok h rfl rfl (Prod.ext rfl (congrArg some ?_))
    rw [heard_fwRuns, heard_fw, leBytes_one, leBytes_one, leBytes_one]
    cases fwRuns s <;> rfl
  · refine canRun_ok h rfl rfl (Prod.ext rfl (congrArg some ?_))
    obtain ⟨g, hg⟩ := heard_form r.src s
    rw [hg]
    have h3 : fld 3 (bit s.sys.imgOk) = if s.sys.imgOk then 8 else 0 := by cases s.sys.imgOk <;> rfl
    have h4 : fld 4 (bit s.fw.hinged) = if s.fw.hinged then 16 else 0 := by cases s.fw.hinged <;> rfl
    rw [← h3, ← h4]
    simp only [leBytes_one, BitVec.ofNat_toNat, BitVec.setWidth_eq]
    rfl
  · exact canRun_ok h rfl rfl rfl
  · obtain ⟨g, hg⟩ := heard_form r.src s
    constructor
    · intro hid
      exact canRun_ok h rfl (by rw [hg]; exact firstFail_skip (by rw [hid]; rfl)) (by rw [hg]; rfl)
    · intro hid
      exact canRun_refused h rfl (by rw [hg]; exact firstFail_hit (by rw [hid]; rfl)) (by decide)
  · constructor
    · intro h1 h2
      refine canRun_ok h rfl (firstFail_skip ?_) (by obtain ⟨g, hg⟩ := heard_form r.src s; rw [hg]; rfl)
      simp only [Bool.or_eq_false_iff, beq_eq_false_iff_ne, decide_eq_false_iff_not]
      omega
    · intro hc
      exact canRun_refused h rfl (firstFail_hit (by simpa using hc)) (by decide)
  · exact canRun_ok h rfl rfl (by rw [heard_hlt])
  · refine canRun_ok h rfl rfl ?_
    rw [hs]
    exact Prod.ext (heard_ackReports_a ..) rfl
  · refine canRun_ok h rfl rfl ?_
    rw [hs]
    exact Prod.ext (heard_ackReports_b ..) rfl
  · exact (run_live hl).trans (congrArg _ (foldl_emit (fun x : Report => Out.report .a x.seq x.code x.payload) s.fw.repA s))
  · exact (run_live hl).trans (congrArg _ (foldl_emit (fun x : Report => Out.report .b x.seq x.code x.payload) s.fw.repB s))

/-! ### The lease (R381) -/

theorem leaseFree_iff (s : State) (l : Link) : leaseFree s l = true ↔
    s.mgt.holder = none ∨ s.mgt.holder = some l ∨ s.mgt.heardNs + s.mgt.leaseMs * 1000000 ≤ s.now := by
  unfold leaseFree
  cases s.mgt.holder with
  | none => simp
  | some h => simp

theorem giveLease_same {l : Option Link} {s : State} (h : s.mgt.holder = l) : giveLease l s = s := if_pos h

theorem giveLease_changes {l : Option Link} {s : State} (h : s.mgt.holder ≠ l) : giveLease l s =
    report 0x8003 (holderCode l) (holderCode s.mgt.holder) { s with mgt := { s.mgt with holder := l, heardNs := s.now } } := if_neg h

theorem giveLease_mgt (l : Option Link) (s : State) :
    (giveLease l s).mgt = { s.mgt with holder := l, heardNs := if s.mgt.holder = l then s.mgt.heardNs else s.now } := by
  by_cases h : s.mgt.holder = l
  · rw [giveLease_same h, if_pos h, ← h]
  · rw [giveLease_changes h, if_neg h, report_mgt]

theorem giveLease_sameBut {l : Option Link} {s : State} : sameBut [.out, .mgt, .fw, .regs] s (giveLease l s) := by
  by_cases h : s.mgt.holder = l
  · rw [giveLease_same h]
    exact sameBut_refl _ s
  · rw [giveLease_changes h]
    exact sameBut_trans (sameBut_of_eq (t := { s with mgt := { s.mgt with holder := l, heardNs := s.now } }) rfl)
      (sameBut_mono report_sameBut (by decide))

theorem giveLease_cfg (l : Option Link) (s : State) : (giveLease l s).regs.cfg = s.regs.cfg := by
  by_cases h : s.mgt.holder = l
  · rw [giveLease_same h]
  · rw [giveLease_changes h, report_cfg]

theorem giveLease_told {l : Option Link} {s : State} (h : s.mgt.holder ≠ l) :
    toldBoth 0x8003 (leBytes 8 (holderCode l) ++ leBytes 8 (holderCode s.mgt.holder)) s (giveLease l s) := by
  refine toldBoth_of_fw ?_
  rw [giveLease_changes h, report, reportRaw_fw, reportRaw_fw]

theorem cfgField_congr {s t : State} (h : t.regs.cfg = s.regs.cfg) (off hi lo : Nat) : cfgField t off hi lo = cfgField s off hi lo := by
  simp only [cfgField, cfgReg, h]

/-- The state once a link has taken the lease: it is the holder, and heard now under the LEASE_MS then written. -/
theorem takeLease_eq (l : Link) (s : State) : takeLease l s =
    ({ giveLease (some l) s with
        mgt := { s.mgt with holder := some l, heardNs := s.now, leaseMs := cfgField s 0x40000 12 0 } }, some (leBytes 1 (holderCode (some l)))) := by
  have hm := giveLease_mgt (some l) s
  have hh : (giveLease (some l) s).mgt.holder = some l := by rw [hm]
  have hn : (giveLease (some l) s).now = s.now := giveLease_sameBut .now (by decide)
  rw [takeLease, heard_holds hh, cfgField_congr (giveLease_cfg ..), hn, hm, ← hn]

theorem respond_mgt (l : Link) (txn tag minor : Nat) (st : Status) (payload : Bytes) (s : State) :
    (respond (.mgt l) txn tag minor st payload s).mgt =
      { s.mgt with last := s.mgt.last.ins (linkIdx l) (txn, .resp (.mgt l) txn tag minor st payload) } := rfl

theorem respond_last (l : Link) (txn tag minor : Nat) (st : Status) (payload : Bytes) (s : State) :
    (respond (.mgt l) txn tag minor st payload s).mgt.last.find (linkIdx l) = some (txn, .resp (.mgt l) txn tag minor st payload) := by
  rw [respond_mgt, Tab.find_ins, if_pos rfl]

theorem answer_sameBut {r : Req} {st : Status} {payload : Bytes} {s : State} : sameBut [.out, .mgt] s (answer r st payload s) := by
  unfold answer respond
  cases r.src <;> exact sameBut_of_eq rfl

theorem toldBoth_congr {code : Nat} {payload : Bytes} {s s' t t' : State} (h : toldBoth code payload s t) (hs : s'.fw = s.fw)
    (ht : t'.fw = t.fw) : toldBoth code payload s' t' := by
  rw [toldBoth, hs, ht]
  exact h

theorem leaseFree_heard (l : Link) (s : State) : leaseFree (heard (.mgt l) s) l = leaseFree s l := by
  by_cases h : s.mgt.holder = some l
  · have hs := (leaseFree_iff s l).2 (.inr (.inl h))
    rw [hs, (leaseFree_iff (heard (.mgt l) s) l).2 (.inr (.inl ((heard_holder ..).trans h)))]
  · rw [heard_other h]

theorem exec_leaseTake_free {s : State} {r : Req} {l : Link} (h : canRun s (.leaseTake r) = true) (hs : r.src = .mgt l)
    (hf : leaseFree s l = true) : exec (.leaseTake r) s =
      .next (answer r .ok (leBytes 1 (holderCode (some l))) (takeLease l (heard (.mgt l) s)).1) := by
  refine canRun_ok h rfl ?_ ?_
  · simp only [hs]
    exact firstFail_skip (by rw [leaseFree_heard, hf]; rfl)
  · simp only [hs]
    rfl

theorem exec_leaseRelease {s : State} {r : Req} (h : canRun s (.leaseRelease r) = true) :
    exec (.leaseRelease r) s = .next (answer r .ok [] (giveLease none (heard r.src s))) := canRun_ok h rfl rfl rfl

/-- LEASE_RELEASE is a mutation: a link that sends it holds the lease. -/
theorem holder_of_leaseRelease {s : State} {r : Req} {l : Link} (h : canRun s (.leaseRelease r) = true) (hs : r.src = .mgt l) :
    s.mgt.holder = some l := by
  have ha := admits_of_canRun h rfl
  simp only [admits, Bool.and_eq_true, Bool.not_eq_true'] at ha
  have hb := ha.1.2
  simpa [leaseBad, hs] using hb

theorem heard_sameBut {src : Src} {s : State} : sameBut [.mgt] s (heard src s) := by
  obtain ⟨g, hg⟩ := heard_form src s
  rw [hg]
  exact sameBut_of_eq rfl

/-- What LEASE_TAKE leaves where the lease is free (R381). -/
theorem leaseTake_leaves {s : State} {r : Req} {l : Link} (hs : r.src = .mgt l) :
    let t := answer r .ok (leBytes 1 (holderCode (some l))) (takeLease l (heard (.mgt l) s)).1
    t.mgt.holder = some l ∧ t.mgt.heardNs = s.now ∧ t.mgt.leaseMs = cfgField s 0x40000 12 0 ∧
      t.mgt.last.find (linkIdx l) = some (r.txn, .resp r.src r.txn r.tag r.minor .ok [if l = .a then 1#8 else 2#8]) ∧
      (s.mgt.holder = some l → sameBut [.out, .mgt] s t) ∧
      (s.mgt.holder ≠ some l → toldBoth 0x8003 (leBytes 8 (holderCode (some l)) ++ leBytes 8 (holderCode s.mgt.holder)) s t) ∧
      sameBut [.out, .mgt, .fw, .regs] s t := by
  have hb : leBytes 1 (holderCode (some l)) = [if l = .a then 1#8 else 2#8] := by cases l <;> rfl
  have hg : sameBut [.out, .mgt, .fw, .regs] s (giveLease (some l) (heard (.mgt l) s)) :=
    sameBut_trans (sameBut_mono heard_sameBut (by decide)) giveLease_sameBut
  have hout : ∀ x : State, ∀ b, answer r .ok b x = respond (.mgt l) r.txn r.tag r.minor .ok b x := fun x b => by rw [answer, hs]
  intro t
  have ht : t = respond (.mgt l) r.txn r.tag r.minor .ok [if l = .a then 1#8 else 2#8] (takeLease l (heard (.mgt l) s)).1 :=
    (hout _ _).trans (by rw [hb])
  have hl := respond_last l r.txn r.tag r.minor .ok [if l = .a then 1#8 else 2#8] (takeLease l (heard (.mgt l) s)).1
  rw [takeLease_eq] at ht hl
  rw [ht]
  refine ⟨rfl, heard_now .., cfgField_congr (by rw [heard_regs]) .., hs ▸ hl, fun hh => ?_, fun hh => ?_, ?_⟩
  · rw [giveLease_same ((heard_holder ..).trans hh)]
    exact sameBut_trans (sameBut_mono heard_sameBut (by decide)) (sameBut_of_eq rfl)
  · have hgive : toldBoth 0x8003 _ (heard (.mgt l) s) _ := giveLease_told (l := some l) (by rwa [heard_holder])
    rw [heard_holder] at hgive
    exact toldBoth_congr hgive (heard_fw ..).symm rfl
  · exact sameBut_trans hg (sameBut_of_eq rfl)

/-- Settles O11: LEASE_TAKE by whether the lease is free, LEASE_RELEASE by its holder. -/
theorem leaseChanges : Obligations.LeaseChanges := by
  unfold Obligations.LeaseChanges
  refine ⟨fun s r l h hs => ⟨fun hfree => ⟨_, exec_leaseTake_free h hs ((leaseFree_iff s l).2 hfree), leaseTake_leaves hs⟩,
    fun k hk hkl hn => ?_⟩, fun s r l h hs => ⟨_, exec_leaseRelease h, ?_⟩⟩
  · have hne : s.mgt.holder ≠ some l := by rw [hk]; exact fun he => hkl (Option.some.inj he)
    have hf : leaseFree s l = false := by
      rw [← Bool.not_eq_true, leaseFree_iff, hk]
      simp only [reduceCtorEq, Option.some.injEq, hkl, false_or, not_le]
      exact hn
    have hx : exec (.leaseTake r) s = .next (answer r .lease [] (heard r.src s)) :=
      canRun_refused h rfl (by simp only [hs]; exact firstFail_hit (by rw [leaseFree_heard, hf]; rfl)) (by decide)
    rw [hs, heard_other hne] at hx
    exact hx
  · have hh : (heard r.src s).mgt.holder = some l := (heard_holder ..).trans (holder_of_leaseRelease h hs)
    have hgive : toldBoth 0x8003 _ (heard r.src s) _ := giveLease_told (l := none) (by rw [hh]; exact nofun)
    rw [hh] at hgive
    have hr := respond_last l r.txn r.tag r.minor .ok [] (giveLease none (heard r.src s))
    rw [answer, hs] at *
    refine ⟨?_, hr, toldBoth_congr hgive (heard_fw ..).symm rfl, ?_⟩
    · rw [respond_mgt, giveLease_mgt]
    · exact sameBut_trans (sameBut_mono heard_sameBut (by decide)) (sameBut_trans giveLease_sameBut (sameBut_of_eq rfl))

/-! ### The download session (R440, R441) -/

/-- Settles O12: each by its row. -/
theorem downloadSession : Obligations.DownloadSession := by
  unfold Obligations.DownloadSession
  have mine : ∀ (s : State) (g : Mgt) (r : Req) (x : Session), s.fw.session = some x → x.src = r.src →
      mySession { s with mgt := g } r = some x := by
    intro s g r x hx hr
    simp only [mySession, hx, if_pos hr]
  refine ⟨fun s r len hist h hd hi hx h1 h2 h3 h4 => ?_, fun s r off data x h hd hx hr h1 h2 => ?_, fun s r off data x h hd hx hr h1 h2 => ?_,
    fun s r x h hd hx hr => ?_, fun s x hl hx => ?_⟩
  · obtain ⟨g, hg⟩ := heard_form r.src s
    refine canRun_ok h rfl ?_ (by rw [hg]; rfl)
    rw [hg]
    refine (firstFail_skip hd).trans <| (firstFail_skip ?_).trans <| (firstFail_skip ?_).trans <| (firstFail_skip ?_).trans <| firstFail_skip ?_
    · cases hr : s.sys.imgRead
      · rfl
      · rw [hi hr]; rfl
    · dsimp only
      split
      · next x he => simp [hx x he]
      · rfl
    · have : fwRuns s = false ∨ hist = 0 := by
        cases hr : fwRuns s
        · exact .inl rfl
        · exact .inr (h4 hr)
      simp only [Bool.or_eq_false_iff, decide_eq_false_iff_not, Bool.and_eq_false_iff, bne_eq_false_iff_eq]
      exact ⟨⟨by omega, by omega⟩, this⟩
    · exact decide_eq_false (by omega)
  · obtain ⟨g, hg⟩ := heard_form r.src s
    refine canRun_ok h rfl ?_ ?_
    · rw [hg]
      refine (firstFail_skip hd).trans <| (firstFail_skip (by rw [mine s g r x hx hr]; rfl)).trans <| firstFail_skip ?_
      rw [mine s g r x hx hr]
      simp only [Bool.or_eq_false_iff, decide_eq_false_iff_not, if_true]
      exact ⟨⟨by omega, by omega⟩, by omega⟩
    · rw [hg, mine s g r x hx hr]; rfl
  · obtain ⟨g, hg⟩ := heard_form r.src s
    refine canRun_ok h rfl ?_ ?_
    · rw [hg]
      refine (firstFail_skip hd).trans <| (firstFail_skip (by rw [mine s g r x hx hr]; rfl)).trans <| firstFail_skip ?_
      rw [mine s g r x hx hr]
      simp only [Bool.or_eq_false_iff, decide_eq_false_iff_not, one_ne_zero, if_false]
      exact ⟨⟨by omega, by omega⟩, by omega⟩
    · rw [hg, mine s g r x hx hr]; rfl
  · obtain ⟨g, hg⟩ := heard_form r.src s
    refine canRun_ok h rfl ?_ (by rw [hg]; rfl)
    rw [hg]
    exact (firstFail_skip hd).trans <| firstFail_skip (by rw [mine s g r x hx hr]; rfl)
  · show execFwSessionTimeout s = _
    rw [execFwSessionTimeout, run_live hl, hx]

end Sys2Proof.Machine
end

section
/-! Partitions: their setup, bindings, keys and consent (R375 to R398, R455). -/

namespace Sys2Proof.Machine

theorem noPart_false {p : Nat} (h : p ≤ 63) : noPart p = false := decide_eq_false (by omega)

theorem partIn_true {s : State} {p : Nat} {l : List PartSt} (h : (part s p).st ∈ l) : partIn s p l = true := List.elem_eq_true_of_mem h

theorem partIn_false {s : State} {p : Nat} {l : List PartSt} (h : (part s p).st ∉ l) : partIn s p l = false := by
  simpa [partIn] using h

theorem spineQueues_false {s : State} {m : PartParams} (h : s.sys.spine = true → m.qCount = 0 ∧ m.budget = 0) :
    (s.sys.spine && (m.qCount != 0 || m.budget != 0)) = false := by
  cases hs : s.sys.spine
  · rfl
  · obtain ⟨hq, hb⟩ := h hs
    rw [hq, hb]; rfl

/-- Settles O13: each by its row, the refusals of PART_SETUP by the first check that holds. -/
theorem partitionSetup : Obligations.PartitionSetup := by
  unfold Obligations.PartitionSetup
  refine ⟨fun s r p h hs h63 hst hr ho hf => ?_, fun s r p a slot h hs h63 hst h3 hv hn hb => ?_, fun s r p a slot h h63 hst hm hp => ?_,
    fun s r p h => ⟨fun hs hq => ?_, fun hs => ⟨fun h63 => ?_, fun h63 => ⟨fun hn hl => ?_, fun hl => ?_, fun hst => ⟨fun hr => ?_, fun hr ho => ?_,
      fun hr ho hf => ?_⟩⟩⟩⟩⟩
  all_goals obtain ⟨g, hg⟩ := heard_form r.src s
  · refine canRun_ok h rfl ?_ (by rw [hg]; rfl)
    rw [hg]
    exact (firstFail_skip (spineQueues_false hs)).trans <| (firstFail_skip (noPart_false h63)).trans <|
      (firstFail_skip (congrArg not (partIn_true (s := s) (by rw [hst]; decide)))).trans <|
      (firstFail_skip (partIn_false (s := s) (by rw [hst]; decide))).trans <| (firstFail_skip hr).trans <|
      (firstFail_skip ho).trans <| firstFail_skip hf
  · refine canRun_ok h rfl ?_ (by rw [hg]; rfl)
    rw [hg]
    have hover : bindOverlap s p a slot = false := by rw [bindOverlap, hn, hb]; rfl
    exact (firstFail_skip hs).trans <| (firstFail_skip (noPart_false h63)).trans <|
      (firstFail_skip (congrArg not (partIn_true (s := s) (by simpa using hst)))).trans <|
      (firstFail_skip (show (decide (3 < slot) || !attachValid s a) = false by rw [hv]; simpa using h3)).trans <| firstFail_skip hover
  · refine canRun_ok h rfl ?_ ?_
    · rw [hg]
      have hc : ((!partIn s p [.idle]) || !(part s p).binds.contains (a, slot)) = false := by
        rw [partIn_true (by rw [hst]; decide), List.contains_iff_mem.2 hm]; rfl
      exact (firstFail_skip (noPart_false h63)).trans <| (firstFail_skip hc).trans <| firstFail_skip hp
    · simp only [done, unbind, heard_part, bne, beq_eq_decide, decide_not]
  · refine canRun_refused h rfl ?_ (by decide)
    rw [hg]
    exact firstFail_hit (show (s.sys.spine && (p.qCount != 0 || p.budget != 0)) = true by rw [hs]; simpa using hq)
  · refine canRun_refused h rfl ?_ (by decide)
    rw [hg]
    exact (firstFail_skip (spineQueues_false hs)).trans <| firstFail_hit (decide_eq_true h63)
  · refine canRun_refused h rfl ?_ (by decide)
    rw [hg]
    exact (firstFail_skip (spineQueues_false hs)).trans <| (firstFail_skip (noPart_false h63)).trans <|
      firstFail_hit (congrArg not (partIn_false (s := s) (by simp [hn, hl])))
  · refine canRun_refused h rfl ?_ (by decide)
    rw [hg]
    exact (firstFail_skip (spineQueues_false hs)).trans <| (firstFail_skip (noPart_false h63)).trans <|
      (firstFail_skip (congrArg not (partIn_true (s := s) (by rw [hl]; decide)))).trans <| firstFail_hit (partIn_true (s := s) (by rw [hl]; decide))
  all_goals
    refine canRun_refused h rfl ?_ (by decide)
    rw [hg]
    refine (firstFail_skip (spineQueues_false hs)).trans <| (firstFail_skip (noPart_false h63)).trans <|
      (firstFail_skip (congrArg not (partIn_true (s := s) (by rw [hst]; decide)))).trans <|
      (firstFail_skip (partIn_false (s := s) (by rw [hst]; decide))).trans ?_
  · exact firstFail_hit hr
  · exact (firstFail_skip hr).trans <| firstFail_hit ho
  · exact (firstFail_skip hr).trans <| (firstFail_skip ho).trans <| firstFail_hit hf

theorem quiet_heard (src : Src) (s : State) : quiet (heard src s) = quiet s := by
  obtain ⟨g, hg⟩ := heard_form src s
  rw [hg]; rfl

theorem quiet_setPart (s : State) (p : Nat) (x : Part) : quiet (setPart s p x) = quiet s := rfl

theorem quiet_freshCounts (p : Nat) (s : State) : quiet (freshCounts p s) = quiet s := rfl

/-- Without a rebuild in the module the key of slot 0 only makes the partition ACTIVE. -/
theorem loadKey_first {p kid : Nat} {key : Bytes} {s : State} (h : ∀ e ∈ s.pool.ext, e.2.st ≠ .rebuilding) :
    loadKey p 0 kid key s = freshCounts p (setPart s p { part s p with cur := some ⟨kid, key, none⟩, st := .active }) := by
  have hn : ∀ f : Nat × Ext → Bool, s.pool.ext.filter (fun e => e.2.kind == .home && e.2.st == .rebuilding && e.2.part == p && f e) = [] := by
    intro f
    simp only [List.filter_eq_nil_iff, Bool.and_eq_true, beq_iff_eq]
    exact fun e he ⟨⟨⟨_, hr⟩, _⟩, _⟩ => h e he hr
  exact (congrArg (List.foldl _ _) (hn _) :)

theorem loadKey_second {p kid : Nat} {key : Bytes} {s : State} :
    loadKey p 1 kid key s = setPart s p { part s p with nxt := some ⟨kid, key, none⟩ } := rfl

section KeyRow

variable {s : State} {r : Req} {p slot kid : Nat} {ct w : Bytes} (h : canRun s (.keyLoad r p slot kid ct w) = true) (hid : s.sys.idOk = true)
  (h63 : p ≤ 63) (hst : slot = 0 ∧ (part s p).st = .idle ∨ slot = 1 ∧ (part s p).st = .active ∧ retiredRecently s p = false) (hk : kid ≠ 0)
include h hid h63 hst hk

/-- The checks that a KEY_LOAD into a slot open to it passes: only the key itself is left to judge. -/
theorem keyLoad_checks : exec (.keyLoad r p slot kid ct w) s =
    if ((slot == 1 && samePhase s p kid) || (unwrap s p kid ct w).isNone) = true then .next (answer r .key [] (heard r.src s))
    else match unwrap s p kid ct w with
      | some k => .next (answer r .ok [] (settled (loadKey p slot kid k (heard r.src s))))
      | none => .next (answer r .ok [] (heard r.src s)) := by
  obtain ⟨g, hg⟩ := heard_form r.src s
  have hslot : ((slot == 0 && !partIn s p [.idle]) || (slot == 1 && !partIn s p [.active])) = false := by
    obtain ⟨rfl, hi⟩ | ⟨rfl, ha, -⟩ := hst
    · rw [partIn_true (by rw [hi]; decide)]; rfl
    · rw [partIn_true (l := [.active]) (by rw [ha]; decide)]; rfl
  have hret : (slot == 1 && retiredRecently s p) = false := by
    obtain ⟨rfl, -⟩ | ⟨-, -, hr⟩ := hst
    · rfl
    · rw [hr, Bool.and_false]
  have hrange : (decide (1 < slot) || kid == 0) = false := by
    obtain ⟨rfl, -⟩ | ⟨rfl, -⟩ := hst <;> simpa using hk
  have pass : ∀ l, firstFail ((!s.sys.idOk, .identity) :: (noPart p, .range) ::
      ((slot == 0 && !partIn s p [.idle]) || (slot == 1 && !partIn s p [.active]), .state) ::
      (slot == 1 && retiredRecently s p, .busy) :: (decide (1 < slot) || kid == 0, .range) :: l) = firstFail l := fun l =>
    (firstFail_skip (congrArg not hid)).trans <| (firstFail_skip (noPart_false h63)).trans <| (firstFail_skip hslot).trans <|
      (firstFail_skip hret).trans <| firstFail_skip hrange
  split
  · next hb =>
    refine canRun_refused h rfl ?_ (by decide)
    rw [hg]
    exact (pass _).trans (firstFail_hit hb)
  · next hb =>
    have hc : ∀ st, firstFail [((slot == 1 && samePhase s p kid) || (unwrap s p kid ct w).isNone, st)] = none := fun st =>
      firstFail_skip (Bool.eq_false_iff.2 hb)
    split
    · next k hu =>
      refine canRun_ok h rfl ?_ ?_
      · rw [hg]
        exact (pass _).trans (hc _)
      · have hu' : unwrap (heard r.src s) p kid ct w = some k := by rw [hg]; exact hu
        simp only [hu', done]
    · next hu => simp [hu] at hb

end KeyRow

/-- Settles O14: KEY_LOAD by its slot and by whether the key unwraps. -/
theorem keyLoad : Obligations.KeyLoad := by
  unfold Obligations.KeyLoad
  refine ⟨fun s r p kid ct w h hid h63 hst hk hreb => ⟨?_, fun hq k => settled_quiet (by rw [quiet_freshCounts, quiet_setPart, quiet_heard, hq])⟩,
    fun s r p kid ct w h hid h63 hst hk hret hph => ⟨?_, fun hq k => settled_quiet (by rw [quiet_setPart, quiet_heard, hq])⟩,
    fun s r p kid ct w h hid h63 hst hk hret hph => ?_⟩
  · rw [keyLoad_checks h hid h63 (.inl ⟨rfl, hst⟩) hk]
    cases unwrap s p kid ct w with
    | none => rfl
    | some k =>
      dsimp only
      rw [loadKey_first (by rwa [heard_pool]), heard_part]
      rfl
  · rw [keyLoad_checks h hid h63 (.inr ⟨rfl, hst, hret⟩) hk, hph]
    cases unwrap s p kid ct w with
    | none => rfl
    | some k =>
      dsimp only
      rw [loadKey_second, heard_part]
      rfl
  · rw [keyLoad_checks h hid h63 (.inr ⟨rfl, hst, hret⟩) hk, hph]
    rfl

theorem setConsent_eq (p : Nat) (t : Bytes) (s : State) : setConsent p t s = setPart s p
    { part s p with consent := some t, trace := if leNat ((t.drop 2).take 1) / 2 % 2 = 1 then (part s p).trace else [] } := by
  simp only [setConsent, consents, bitOf, pow_one, beq_iff_eq]

theorem endConsent_eq (p : Nat) (s : State) : endConsent p s =
    dropConsent (part s p).prm.jobTag (setPart s p { part s p with consent := none, trace := [] }) := by
  rw [endConsent, part_setPart, if_pos rfl]

/-- Settles O15: each by its row. -/
theorem consent : Obligations.Consent := by
  unfold Obligations.Consent
  refine ⟨fun s r p tok h hst => ?_, fun s r p h h63 hst => ?_, fun s r p mask h hc => ?_, fun s r p mask h hc => ?_, fun s r p h h63 => ?_,
    fun s r p off h h63 ho => ?_⟩
  all_goals obtain ⟨g, hg⟩ := heard_form r.src s
  · have hin : partIn s p [.idle, .active] = true := partIn_true (by simpa using hst)
    split
    · next ht =>
      refine canRun_ok h rfl rfl ?_
      rw [hg]
      have ht' : tokenOk s (part s p) tok = true := ht
      show (if (!tokenOk s (part s p) tok) = true then _ else if (!partIn s p [.idle, .active]) = true then _ else _) = _
      rw [ht', hin]
      rw [setConsent_eq]
      rfl
    · next ht =>
      refine canRun_later h rfl rfl ?_
      rw [hg]
      show (if (!tokenOk s (part s p) tok) = true then _ else _) = _
      rw [Bool.eq_false_iff.2 ht]
      rfl
  · refine canRun_ok h rfl ?_ (by rw [hg, endConsent_eq]; rfl)
    rw [hg]
    exact (firstFail_skip (noPart_false h63)).trans <| firstFail_skip (congrArg not (partIn_true (s := s) (by simpa using hst)))
  · exact canRun_ok h rfl (by rw [hg]; exact firstFail_skip (congrArg not hc)) (by rw [hg]; rfl)
  · exact canRun_refused h rfl (by rw [hg]; exact firstFail_hit (congrArg not hc)) (by decide)
  · exact canRun_ok h rfl (firstFail_skip (noPart_false h63)) (by rw [hg]; rfl)
  · refine canRun_ok h rfl (firstFail_skip ?_) (by rw [hg])
    rw [noPart_false h63, decide_eq_false (by omega)]
    rfl

end Sys2Proof.Machine
end

section
/-! Reset and release of a partition (R358 to R361, R397, R398). -/

namespace Sys2Proof.Machine

/-- What is left of a partition that is released: its number, the tags that it has retired, and its invalidation number. -/
theorem part_releaseEnd (p : Nat) (s : State) : part (releaseEnd p s) p =
    { Part.init with gen := ((part s p).gen + 1) % 256, invSeq := (part s p).invSeq, retired := ((part s p).gen, s.now) :: retiredNow s (part s p) } := by
  have hp : (releaseEnd p s).parts = (setPart s p { Part.init with
      gen := ((part s p).gen + 1) % 256, invSeq := (part s p).invSeq, retired := ((part s p).gen, s.now) :: retiredNow s (part s p) }).parts :=
    report_parts ..
  rw [part_congr hp, part_setPart, if_pos rfl]

theorem releaseEnd_dossiers (p : Nat) (s : State) : (releaseEnd p s).dossiers = s.dossiers.del p := report_dossiers ..

theorem releaseEnd_told (p : Nat) (s : State) : toldBoth 0x8007 (leBytes 8 p ++ leBytes 8 0) s (releaseEnd p s) := by
  rw [toldBoth, releaseEnd, report, reportRaw_fw]
  exact ⟨rfl, rfl, fun h => if_pos h, fun h => if_pos h⟩

theorem releaseEnd_sameBut {p : Nat} {s : State} : sameBut [.out, .fw, .regs, .parts, .dossiers, .xlt] s (releaseEnd p s) :=
  sameBut_trans (sameBut_of_eq rfl) (sameBut_mono report_sameBut (by decide))

section Waits

variable {s : State} {p : Nat} (h : (part s p).st = .releasing) (hr : (part s p).rst = none)
include h hr

theorem releaseScrubbed_ends (hg : genBlocked s (part s p) = false) : releaseScrubbed p s = releaseEnd p s := by
  unfold releaseScrubbed
  rw [if_pos ⟨h, hr⟩, hg]
  rfl

theorem releaseScrubbed_waits (hg : genBlocked s (part s p) = true) :
    releaseScrubbed p s = setPart s p { part s p with rst := some 2 } := by
  unfold releaseScrubbed
  rw [if_pos ⟨h, hr⟩, hg]
  rfl

end Waits

/-- A partition whose tag has waited goes on, by what it is doing. -/
theorem tagFree_goes {s : State} {p k : Nat} (hr : (part s p).rst = some k) (hk : 2 ≤ k) : tagFree p s =
    let t := setPart s p { part s p with retired := (part s p).retired.filter (fun x => x.1 ≠ ((part s p).gen + 1) % 256) }
    if (part s p).st = .resetting then settled (resetTail p k t) else if (part s p).st = .releasing then releaseEnd p t else t := by
  unfold tagFree
  simp only [hr, if_neg (Nat.not_lt.2 hk), bne, beq_eq_decide, decide_not]

/-- Settles O16: each by its row. -/
theorem resetAndRelease : Obligations.ResetAndRelease := by
  unfold Obligations.ResetAndRelease
  refine ⟨fun s r p pol h h63 hpol hst => ?_, fun s r p h h63 hst hh => ?_, fun s p hl hst hr hg => ⟨_, run_live hl, ?_⟩,
    fun s p hl hst hr hg => ?_, fun s p k hl hst hr hk => ?_, fun s p k hl hst hr hk => ?_⟩
  · obtain ⟨g, hg⟩ := heard_form r.src s
    refine canRun_later h rfl ?_ (by rw [hg]; rfl)
    rw [hg]
    exact (firstFail_skip (noPart_false h63)).trans <| (firstFail_skip (congrArg not (partIn_true (s := s) (by simpa using hst)))).trans <|
      firstFail_skip (decide_eq_false (by omega))
  · obtain ⟨g, hg⟩ := heard_form r.src s
    refine canRun_later h rfl ?_ rfl
    rw [hg]
    refine (firstFail_skip (noPart_false h63)).trans <| firstFail_skip (show (!partIn s p [.idle, .torn] || stillHome s p) = false from ?_)
    rw [partIn_true (by simpa using hst), hh]
    rfl
  · rw [releaseScrubbed_ends hst hr hg]
    exact ⟨part_releaseEnd .., releaseEnd_dossiers .., releaseEnd_told .., releaseEnd_sameBut⟩
  · exact (run_live hl).trans (congrArg _ (releaseScrubbed_waits hst hr hg))
  · refine (run_live hl).trans (congrArg _ ((tagFree_goes hr hk).trans ?_))
    exact (if_neg (by rw [hst]; decide)).trans (if_pos hst)
  · refine (run_live hl).trans (congrArg _ ((tagFree_goes hr hk).trans ?_))
    exact if_pos hst

end Sys2Proof.Machine
end

section
/-! The reset of a partition that Deadbolt has torn down (R358 to R362). -/

namespace Sys2Proof.Machine

theorem freeGroups_none {p : Nat} {s : State} (h : s.col.grps = []) : freeGroups p s = s := by
  have ht : tearGroups p s = s := by rw [tearGroups, h]; rfl
  rw [freeGroups, ht, h]
  show { s with col := { s.col with grps := [] } } = s
  rw [← h]

theorem disableQueues_none {p : Nat} {s : State} (h : s.qs.ctx = []) : sameBut [.qs] s (disableQueues p s) := by
  unfold disableQueues
  simp only [h]
  exact sameBut_of_eq rfl

theorem part_clearKeys (p : Nat) (s : State) (k : Nat) : part (clearKeys p s) k =
    if k = p then { part s p with cur := none, nxt := none, consent := none, trace := [] } else part s k :=
  (part_congr (s := setPart s p _) rfl k).trans (part_setPart ..)

/-- What step 5 of R359 clears of a partition that has no queue and no group. -/
theorem clearPart_idle {p : Nat} {s : State} (hq : s.qs.ctx = []) (hg : s.col.grps = []) :
    (∀ k, part (clearPart p s) k = if k = p then { part s p with cur := none, nxt := none, consent := none, trace := [] } else part s k) ∧
    (clearPart p s).ctrs = s.ctrs.clearRange (part s p).prm.cBase (part s p).prm.cCount ∧
    sameBut [.parts, .qs, .ctrs, .fab] s (clearPart p s) := by
  let x : State := { s with ctrs := s.ctrs.clearRange (part s p).prm.cBase (part s p).prm.cCount }
  let y := dropConsent (part s p).prm.jobTag (dropPart p (clearKeys p x))
  have hc : clearPart p s = disableQueues p y := congrArg (disableQueues p) (freeGroups_none (s := y) hg)
  have hd : sameBut [.qs] y (disableQueues p y) := disableQueues_none hq
  rw [hc]
  refine ⟨fun k => ?_, hd .ctrs (by decide), sameBut_trans (sameBut_of_eq (t := y) rfl) (sameBut_mono hd (by decide))⟩
  exact (part_congr (hd .parts (by decide)) k).trans (part_clearKeys p x k)

theorem settle_none {why key : Nat} {st : Status} {b : Bytes} {s : State} (h : s.mgt.owed = []) : settle why key st b s = s := by
  rw [settle, h]
  show { s with mgt := { s.mgt with owed := [] } } = s
  rw [← h]

/-- A torn partition needs no Deadbolt of its own for its reset. -/
theorem partReset_torn {s : State} {p pol : Nat} (h : (part s p).st = .torn) (hh : s.fw.hinge = none) :
    partReset p pol s = resetGo p pol (setPart s p { part s p with st := .resetting }) := by
  have hb : resetBegin p 4 s = setPart s p { part s p with st := .resetting } := by rw [resetBegin, if_pos h]
  unfold partReset
  rw [h, hb]
  show (if s.fw.hinge.isSome then _ else _) = _
  rw [hh]
  rfl

/-- The partition is RESETTING and its dossier is written. -/
def dossiered (p : Nat) (s : State) : State :=
  let t := setPart s p { part s p with st := .resetting }
  { t with dossiers := s.dossiers.ins p (dossierOf t p false) }

theorem part_dossiered (p : Nat) (s : State) (k : Nat) :
    part (dossiered p s) k = if k = p then { part s p with st := .resetting } else part s k :=
  (part_congr (s := setPart s p { part s p with st := .resetting }) rfl k).trans (part_setPart ..)

/-- Firmware writes the dossier, and the reset goes on at once where the tag may rise. -/
theorem resetGo_dossier {s : State} {p pol : Nat} (hf : fwRuns s = true) (hg : genBlocked s (part s p) = false) :
    resetGo p pol (setPart s p { part s p with st := .resetting }) = resetTail p pol (dossiered p s) := by
  have hw : writeDossier p false (setPart s p { part s p with st := .resetting }) = dossiered p s := if_pos hf
  have hb : genBlocked (dossiered p s) (part (dossiered p s) p) = false := by rw [part_dossiered, if_pos rfl]; exact hg
  unfold resetGo
  rw [hw]
  exact if_neg (Bool.eq_false_iff.1 hb)

/-- A partition whose reset has ended: IDLE under the next tag, its parameters kept, its keys and its consent gone. -/
def resetPart (s : State) (x : Part) : Part :=
  { raiseGen s x with cur := none, nxt := none, consent := none, trace := [], st := .idle, rst := none, closing := none, engs := [] }

/-- Step 6 of R359: the partition is IDLE, its reset is recorded and reported, and what waited for it is answered. -/
def resetDone (p : Nat) (s : State) : State :=
  let t := setPart s p { part s p with st := .idle, rst := none, closing := none, engs := [] }
  settle 4 p .ok [] (report 0x8004 p (part t p).gen (faultAny 0x14 10 0 (some p) t))

theorem resetTail_preserve (p : Nat) (s : State) :
    resetTail p 0 s = resetDone p (clearPart p (setPart s p (raiseGen s (part s p)))) := rfl

theorem part_resetDone {p : Nat} {s : State} (ho : s.mgt.owed = []) (k : Nat) : part (resetDone p s) k =
    if k = p then { part s p with st := .idle, rst := none, closing := none, engs := [] } else part s k := by
  unfold resetDone
  dsimp only
  rw [settle_none (by rw [report_mgt, faultAny_mgt]; exact ho), part_congr ((report_parts ..).trans (faultAny_parts ..)), part_setPart]

theorem resetDone_sameBut {p : Nat} {s : State} (ho : s.mgt.owed = []) : sameBut [.out, .seed, .fw, .regs, .flt, .parts] s (resetDone p s) := by
  unfold resetDone
  dsimp only
  rw [settle_none (by rw [report_mgt, faultAny_mgt]; exact ho)]
  exact sameBut_trans (sameBut_trans (sameBut_of_eq rfl) (sameBut_mono faultAny_sameBut (by decide))) (sameBut_mono report_sameBut (by decide))

/-- Steps 4 to 6 of R359 with policy PRESERVE for a partition that has no queue and no group. -/
theorem resetTail_idle {p : Nat} {s : State} (hq : s.qs.ctx = []) (hg : s.col.grps = []) (ho : s.mgt.owed = []) :
    (∀ k, part (resetTail p 0 s) k = if k = p then resetPart s (part s p) else part s k) ∧
    (resetTail p 0 s).ctrs = s.ctrs.clearRange (part s p).prm.cBase (part s p).prm.cCount ∧
    sameBut [.out, .seed, .fw, .regs, .flt, .parts, .qs, .ctrs, .fab] s (resetTail p 0 s) := by
  have hown : part (setPart s p (raiseGen s (part s p))) p = raiseGen s (part s p) := by rw [part_setPart, if_pos rfl]
  obtain ⟨hp, hc, hf⟩ := clearPart_idle (p := p) (s := setPart s p (raiseGen s (part s p))) hq hg
  simp only [hown] at hp hc
  have ho' : (clearPart p (setPart s p (raiseGen s (part s p)))).mgt.owed = [] := by rw [hf .mgt (by decide)]; exact ho
  rw [resetTail_preserve]
  refine ⟨fun k => ?_, (resetDone_sameBut ho' .ctrs (by decide)).trans hc, ?_⟩
  · simp only [part_resetDone ho', hp, part_setPart]
    split <;> rfl
  · exact sameBut_trans (sameBut_of_eq (t := setPart s p (raiseGen s (part s p))) rfl)
      (sameBut_trans (sameBut_mono hf (by decide)) (sameBut_mono (resetDone_sameBut ho') (by decide)))

/-- Settles O17: a torn partition's reset has only to clear what the partition still has. -/
theorem resetOfTorn : Obligations.ResetOfTorn := by
  unfold Obligations.ResetOfTorn
  intro s p hst hg hh hf hctx heng hfet hseg hpf hgr ho t
  have ht : t = resetTail p 0 (dossiered p s) := (partReset_torn hst hh).trans (resetGo_dossier hf hg)
  obtain ⟨hparts, hctrs, hframe⟩ := resetTail_idle (p := p) (s := dossiered p s) hctx hgr ho
  have hown : part t p = resetPart s { part s p with st := .resetting } := by
    rw [ht, hparts, if_pos rfl, part_dossiered, if_pos rfl]; rfl
  rw [part_dossiered, if_pos rfl] at hctrs
  rw [hown]
  refine ⟨rfl, rfl, rfl, rfl, rfl, rfl, rfl, rfl, rfl, fun c h1 h2 => ?_, ?_, fun k hk => ?_, ?_, ?_⟩
  · rw [ht, hctrs, Tab.get_clearRange]
    exact if_pos ⟨h1, h2⟩
  · rw [ht, hframe .dossiers (by decide)]
    show ((s.dossiers.ins p _).find p).isSome = true
    rw [Tab.find_ins, if_pos rfl]
    rfl
  · rw [ht, hparts, if_neg hk, part_dossiered, if_neg hk]
  · rw [ht]
    exact hframe .pool (by decide)
  · rw [ht]
    exact sameBut_trans (sameBut_of_eq (t := dossiered p s) rfl) (sameBut_mono hframe (by decide))

end Sys2Proof.Machine
end

section
/-! What the switch core can change: what leaves the module, counts, the fabric and its ports (R242 to R258, R270 to R275). -/

namespace Sys2Proof.Machine

/-- `b` is `a` but for what the switch core itself keeps: its queues, lanes and pointers, the packets without a route, and the copies that wait,
which are the same while no analysis port is enabled. -/
def CoreFrom (a b : Fab) : Prop :=
  b = { a with voq := b.voq, blocks := b.blocks, lanes := b.lanes, accept := b.accept, noRoute := b.noRoute,
               ana := { a.ana with queue := b.ana.queue } } ∧
  (a.ana.en = false → b.ana.queue = a.ana.queue)

theorem CoreFrom.refl (a : Fab) : CoreFrom a a := ⟨rfl, fun _ => rfl⟩

theorem CoreFrom.trans {a b c : Fab} (h : CoreFrom a b) (h' : CoreFrom b c) : CoreFrom a c := by
  obtain ⟨h1, h2⟩ := h
  obtain ⟨h1', h2'⟩ := h'
  rw [h1] at h1' h2'
  exact ⟨h1', fun he => (h2' he).trans (h2 he)⟩

/-- `t` is `s` but for what has left the module, counts, the switch core and the ports. -/
def SwitchedFrom (s t : State) : Prop :=
  sameBut [.out, .regs, .fab, .opt] s t ∧ CoreFrom s.fab t.fab ∧ t.regs = { s.regs with cnt := t.regs.cnt }

theorem SwitchedFrom.refl (s : State) : SwitchedFrom s s := ⟨sameBut_refl _ s, .refl _, rfl⟩

theorem SwitchedFrom.trans {s t u : State} (h : SwitchedFrom s t) (h' : SwitchedFrom t u) : SwitchedFrom s u := by
  obtain ⟨hs, hf, hr⟩ := h
  obtain ⟨hs', hf', hr'⟩ := h'
  rw [hr] at hr'
  exact ⟨sameBut_trans hs hs', hf.trans hf', hr'⟩

theorem SwitchedFrom.after {s t u : State} (h' : SwitchedFrom t u) (h : SwitchedFrom s t) : SwitchedFrom s u := h.trans h'

theorem SwitchedFrom.of_eq {s t : State} (h : t = framed [.out, .regs, .fab, .opt] s t)
    (hf : CoreFrom s.fab t.fab := by exact ⟨rfl, fun _ => rfl⟩) (hr : t.regs = { s.regs with cnt := t.regs.cnt } := by exact rfl) :
    SwitchedFrom s t := ⟨sameBut_of_eq h, hf, hr⟩

theorem SwitchedFrom.sameBut {l : List Field} {s t : State} (h : SwitchedFrom s t) (hl : ∀ f ∈ [Field.out, .regs, .fab, .opt], f ∈ l) :
    Machine.sameBut l s t := sameBut_mono h.1 hl

theorem SentFrom.switched {s t : State} (h : SentFrom s t) : SwitchedFrom s t := by
  rw [h]
  exact .of_eq rfl

theorem switched_foldl {α : Type} {f : State → α → State} {xs : List α} {s : State} (h : ∀ t x, SwitchedFrom t (f t x)) :
    SwitchedFrom s (xs.foldl f s) :=
  List.foldlRecOn (motive := SwitchedFrom s) _ _ (.refl s) fun _ ht x _ => ht.trans (h _ x)

/-! ### Links and cells -/

theorem switched_bump {off : Nat} {s : State} : SwitchedFrom s (bump off s) := .of_eq rfl

theorem switched_emit {o : Out} {s : State} : SwitchedFrom s (emit o s) := .of_eq rfl

theorem switched_leave {o : Own} {n : Nat} {s : State} : SwitchedFrom s (leave o n s) := by
  unfold leave
  cases o with
  | fabRes p vc cls => exact (sentFrom_pushRet ..).switched
  | _ => exact .refl s

theorem switched_grantShared {p : Nat} {s : State} : SwitchedFrom s (grantShared p s) := by
  unfold grantShared
  dsimp only
  split
  · exact SwitchedFrom.trans (.of_eq rfl) (sentFrom_pushRet ..).switched
  · exact .refl s

/-- Copies leave only through an analysis port that is enabled. -/
theorem switched_copyNext {s t : State} (h : copyNext s = some t) : SwitchedFrom s t := by
  unfold copyNext at h
  dsimp only at h
  split at h
  · cases h
  · next hc =>
    split at h
    · cases h
    · cases h
      have hen : s.fab.ana.en = true := by
        by_contra hn
        simp [hn] at hc
      exact (sentFrom_frameOut ..).switched.after (.of_eq rfl ⟨rfl, fun hf => absurd hen (by simp [hf])⟩)

theorem switched_copyRun {n : Nat} {s : State} : SwitchedFrom s (copyRun n s) := by
  induction n generalizing s with
  | zero => exact .refl s
  | succ n ih =>
    unfold copyRun
    split
    · next h => exact (switched_copyNext h).trans ih
    · exact .refl s

theorem switched_flushCopies {s : State} : SwitchedFrom s (flushCopies s) := switched_copyRun

theorem switched_anaCopy {p : Nat} {b : Bool} {q : Pkt} {s : State} : SwitchedFrom s (anaCopy p b q s) := by
  unfold anaCopy anaCopyBytes
  dsimp only
  generalize (if s.fab.ana.flow = true then _ else _ : Bool) = hit
  split
  · next hc =>
    have hen : s.fab.ana.en = true := by
      by_contra hn
      simp [hn] at hc
    split
    · exact switched_flushCopies.after (.of_eq rfl ⟨rfl, fun hf => absurd hen (by simp [hf])⟩)
    · exact switched_bump
  · exact .refl s

theorem switched_entered {port : Option (Fin 64)} {q : Pkt} {s : State} : SwitchedFrom s (entered port q s) := by
  unfold entered
  split
  · exact (sentFrom_passCells ..).switched.trans switched_anaCopy
  · exact .refl s

theorem switched_linkWork {s : State} : SwitchedFrom s (linkWork s) := by
  unfold linkWork
  refine .trans ?_ switched_flushCopies
  refine .trans (switched_foldl fun _ _ => switched_grantShared) (switched_foldl fun t x => ?_)
  split
  · exact (sentFrom_txPort ..).switched
  · exact .refl t

/-! ### The scheduler -/

theorem switched_grantOf {rs : List Rq} {l : Nat} {s t : State} {r : Rq} (h : grantOf rs l s = some (r, t)) : SwitchedFrom s t := by
  unfold grantOf at h
  dsimp only at h
  split at h
  · cases h
  · split at h
    · cases h
    · obtain ⟨x, -, hx⟩ := Option.map_eq_some_iff.1 h
      cases hx
      exact .of_eq rfl

theorem switched_grantsOf {rs : List Rq} {s : State} : SwitchedFrom s (grantsOf rs s).2 := by
  unfold grantsOf
  refine List.foldlRecOn (motive := fun x : List Rq × State => SwitchedFrom s x.2) _ _ (.refl s) fun x hx l _ => ?_
  split
  · next h => exact hx.trans (switched_grantOf h)
  · exact hx

theorem switched_zeroDrr {outp vc : Nat} {s : State} : SwitchedFrom s (zeroDrr outp vc s) := by
  unfold zeroDrr
  split
  · split
    · exact switched_foldl fun t x => .of_eq rfl
    · exact .refl s
  · exact .refl s

theorem switched_startXfer {first : Bool} {r : Rq} {s t : State} {x : Xfer} (h : startXfer first r s = some (x, t)) : SwitchedFrom s t := by
  unfold startXfer at h
  split at h
  · cases h
  · cases h
    refine switched_zeroDrr.after ?_
    split
    · split
      · exact .of_eq rfl
      · exact .of_eq rfl
    · exact .of_eq rfl

theorem switched_iteration {first : Bool} {xs : List Xfer} {s : State} : SwitchedFrom s (iteration first xs s).2 := by
  unfold iteration
  refine List.foldlRecOn (motive := fun x : List Xfer × State => SwitchedFrom s x.2) _ _ switched_grantsOf fun x hx l _ => ?_
  split
  · split
    · next h => exact hx.trans (switched_startXfer h)
    · exact hx
  · exact hx

theorem switched_matchSlot {xs : List Xfer} {s : State} : SwitchedFrom s (matchSlot xs s).2 := by
  unfold matchSlot
  dsimp only
  split
  · exact switched_iteration
  · exact switched_iteration.trans (switched_iteration.trans switched_iteration)

theorem switched_crossed {x : Xfer} {s : State} : SwitchedFrom s (crossed x s) := by
  have hm : ∀ u : State, SwitchedFrom u (if x.first then movePtrs x.inL x.outL x.q.load.vc u else u) := by
    intro u
    split
    · exact .of_eq rfl
    · exact .refl u
  unfold crossed
  dsimp only
  split
  · refine (sentFrom_frameOut ..).switched.after ?_
    generalize hu : (if x.first then movePtrs x.inL x.outL x.q.load.vc s else s) = u
    have hs : SwitchedFrom s u := hu ▸ hm s
    split
    · exact switched_anaCopy.after (switched_emit.after hs)
    · exact switched_emit.after hs
  · refine switched_leave.after ?_
    generalize hu : (if x.first then movePtrs x.inL x.outL x.q.load.vc s else s) = u
    have hs : SwitchedFrom s u := hu ▸ hm s
    split
    · exact switched_emit.after hs
    · exact hs

theorem switched_slots {n : Nat} {xs : List Xfer} {s : State} : SwitchedFrom s (slots n xs s) := by
  induction n generalizing xs s with
  | zero => exact switched_foldl fun _ _ => switched_crossed
  | succ n ih =>
    unfold slots
    dsimp only
    split
    · exact switched_matchSlot
    · exact switched_matchSlot.trans (.trans (switched_foldl fun _ _ => switched_crossed) ih)

theorem switched_switch {s : State} : SwitchedFrom s (switch s) := switched_slots.trans switched_linkWork

/-! ### The way into the switch -/

theorem switched_enqueue {outp : Nat} {q : Queued} {s : State} : SwitchedFrom s (enqueue outp q s) := by
  unfold enqueue
  exact switched_switch.after (.of_eq rfl)

theorem switched_enqueueAt {outp : Nat} {d m : Bool} {q : Queued} {p : Pkt} {s : State} : SwitchedFrom s (enqueueAt outp d m q p s) :=
  switched_enqueue

theorem switched_dropQueued {q : Queued} {s : State} : SwitchedFrom s (dropQueued q s) := switched_leave

theorem switched_routePkt {m : Bool} {q : Queued} {p : Pkt} {s : State} : SwitchedFrom s (routePkt m q p s) := by
  unfold routePkt
  dsimp only
  split
  · exact switched_dropQueued.trans switched_bump
  · split
    · exact switched_enqueue
    · split
      · exact switched_dropQueued.trans switched_bump
      · split
        · exact switched_enqueueAt
        · exact .of_eq rfl

theorem switched_routeAgain {m : Bool} {q : Queued} {s : State} : SwitchedFrom s (routeAgain m q s) := by
  unfold routeAgain
  split
  · exact switched_routePkt
  · exact switched_dropQueued

theorem switched_rechoose {m : Bool} {qs : List Queued} {s : State} : SwitchedFrom s (rechoose m qs s) :=
  switched_foldl fun _ _ => switched_routeAgain

theorem switched_routeOwn {outp : Option Nat} {q : Queued} {s : State} : SwitchedFrom s (routeOwn outp q s) := by
  unfold routeOwn
  split
  · exact switched_enqueue
  · exact switched_routePkt
  · exact .refl s

theorem switched_enterBuffer {inp : Nat} {outp : Option Nat} {x : Load} {s : State} : SwitchedFrom s (enterBuffer inp outp x s) := by
  unfold enterBuffer
  dsimp only
  split
  · exact .of_eq rfl
  · split
    · exact switched_routeOwn
    · exact .of_eq rfl

theorem switched_forward {p : Pkt} {s : State} : SwitchedFrom s (forward p s) := switched_enterBuffer

theorem switched_forwardRecorded {p : Pkt} {s : State} : SwitchedFrom s (forwardRecorded p s) := switched_routePkt

theorem switched_forwardTransit {port : Nat} {p : Pkt} {s : State} : SwitchedFrom s (forwardTransit port p s) := by
  unfold forwardTransit takeFabric
  dsimp only
  split
  · exact switched_routePkt.after (.of_eq rfl)
  · exact switched_routePkt

theorem switched_handOver {port : Option (Fin 64)} {h : Hdr} {s : State} : SwitchedFrom s (handOver port h s) := by
  unfold handOver
  split
  · exact .refl s
  · split
    · exact .of_eq rfl
    · exact .refl s

theorem switched_retryBlocks {s : State} : SwitchedFrom s (retryBlocks s) := by
  unfold retryBlocks
  exact (switched_foldl fun _ _ => switched_enterBuffer).after (.of_eq rfl)

end Sys2Proof.Machine
end

section
/-! Deadbolt: origination, relay and duplicates (R350 to R354). -/

namespace Sys2Proof.Machine

theorem livePartOfJob_congr {s t : State} (h : t.parts = s.parts) (job : Nat) : livePartOfJob t job = livePartOfJob s job := by
  rw [livePartOfJob, h]; rfl

theorem seenDb_congr {s t : State} (hr : t.rep = s.rep) (hn : t.now = s.now) (d : Deadbolt) : seenDb t d = seenDb s d := by
  rw [seenDb, hr, hn]; rfl

theorem switched_relayDb {d : Deadbolt} {a : Option Nat} {s : State} : SwitchedFrom s (relayDb d a s) :=
  switched_foldl fun _ _ => switched_enterBuffer

theorem relayDb_all (d : Deadbolt) (s : State) : relayDb d none s =
    ((List.range 64).filter (fun p => portUp s p)).foldl (fun s p => enterBuffer 152 (some p) (.deadbolt d 0) s) s := by
  have hf : (fun p => portUp s p && some p != none) = fun p => portUp s p := funext fun p => Bool.and_true _
  rw [relayDb, hf]
  rfl

theorem relayDb_others (d : Deadbolt) (port : Nat) (s : State) : relayDb d (some port) s =
    ((List.range 64).filter (fun p => portUp s p && p != port)).foldl (fun s p => enterBuffer 152 (some p) (.deadbolt d 0) s) s := by
  have hf : (fun p => portUp s p && some p != some port) = fun p => portUp s p && p != port := by
    funext p
    simp [bne]
  rw [relayDb, hf]
  rfl

theorem actDb_away {d : Deadbolt} {s : State} (h : livePartOfJob s d.job = none) : actDb d s = s := by
  unfold actDb
  rw [h]

/-- Deadbolt for a job without a partition here is kept as seen and relayed. -/
theorem originate_away {job cause subject epid : Nat} {s : State} (h : livePartOfJob s job = none) : originate job cause subject epid s =
    let d : Deadbolt := ⟨s.sys.moduleId, s.rep.dbSeq, job, cause, subject, epid⟩
    relayDb d none (noteDb d { s with rep := { s.rep with dbSeq := (s.rep.dbSeq + 1) % 2 ^ 32 } }) := by
  unfold originate originateMsg
  dsimp only
  refine actDb_away ?_
  rw [livePartOfJob_congr (switched_relayDb.1 .parts (by decide))]
  exact h

theorem dbArrive_seen {port : Nat} {d : Deadbolt} {s : State} (h : seenDb s d = true) : dbArrive port d s = s := if_pos h

theorem dbArrive_away {port : Nat} {d : Deadbolt} {s : State} (h : seenDb s d = false) (hj : livePartOfJob s d.job = none) :
    dbArrive port d s = relayDb d (some port) (noteDb d s) := by
  unfold dbArrive
  rw [if_neg (by rw [h]; decide)]
  refine actDb_away ?_
  rw [livePartOfJob_congr (switched_relayDb.1 .parts (by decide))]
  exact hj

theorem exec_deadbolt {s : State} (port : Fin 64) (d : Deadbolt) (h : live s = true) : exec (.deadboltMessage port d) s =
    .next (if portUp s port.val then linkWork (dbArrive port.val d (passCells port.val 0 1 1 s)) else s) := by
  show execDeadboltMessage port d s = _
  rw [execDeadboltMessage, run_live h]

/-- Settles O18: origination, a port that is not up, a duplicate, and a new message. -/
theorem deadbolts : Obligations.Deadbolts := by
  unfold Obligations.Deadbolts
  refine ⟨fun s r job h => ?_, fun s job h => ⟨?_, ?_, ?_, ?_⟩, fun s port d hl hu => ?_, fun s port d hl hu hs => ⟨?_, ?_⟩,
    fun s port d hl hu hs hj => ?_⟩
  · exact canRun_ok h rfl rfl (by obtain ⟨g, hg⟩ := heard_form r.src s; rw [hg]; rfl)
  · rw [originate_away h]
    exact relayDb_all ..
  · rw [originate_away h]
    exact congrArg (·.dbSeq) (switched_relayDb.1 .rep (by decide))
  · rw [originate_away h]
    exact congrArg (·.seen) (switched_relayDb.1 .rep (by decide))
  · rw [originate_away h]
    refine sameBut_trans ?_ (sameBut_mono switched_relayDb.1 (by decide))
    exact sameBut_of_eq rfl
  · rw [exec_deadbolt port d hl, hu]
    rfl
  · have hp := sentFrom_passCells port.val 0 1 1 s
    have hs' : seenDb (passCells port.val 0 1 1 s) d = true := by rw [hp]; exact hs
    rw [exec_deadbolt port d hl, hu, dbArrive_seen hs']
    rfl
  · exact (switched_linkWork.after (sentFrom_passCells ..).switched).sameBut (by decide)
  · have hp := sentFrom_passCells port.val 0 1 1 s
    have hs' : seenDb (passCells port.val 0 1 1 s) d = false := by rw [hp]; exact hs
    have hj' : livePartOfJob (passCells port.val 0 1 1 s) d.job = none := by rw [hp]; exact hj
    intro x t
    have hnow : x.now = s.now := hp.switched.1 .now (by decide)
    have hrep : x.rep = s.rep := hp.switched.1 .rep (by decide)
    have hn : noteDb d x = { x with rep := { x.rep with seen := ((d.origin, d.seq, s.now) :: s.rep.seen).take 4096 } } := by
      rw [← hnow, ← hrep]
      rfl
    have ht : dbArrive port.val d x = t := by
      refine (dbArrive_away hs' hj').trans ((relayDb_others ..).trans ?_)
      rw [show noteDb d (passCells port.val 0 1 1 s) = _ from hn]
      rfl
    refine ⟨?_, ?_⟩
    · rw [exec_deadbolt port d hl, hu, ← ht]
      rfl
    · rw [← ht]
      refine sameBut_trans ?_ (sameBut_mono switched_linkWork.1 (by decide))
      rw [show dbArrive port.val d x = _ from dbArrive_away hs' hj']
      refine sameBut_trans (sameBut_trans (sameBut_mono hp.switched.1 (by decide)) ?_) (sameBut_mono switched_relayDb.1 (by decide))
      exact sameBut_of_eq (t := noteDb d x) rfl

end Sys2Proof.Machine
end

section
/-! Extent records: creation, presentation and the offer (R63, R64, R68, R304). -/

namespace Sys2Proof.Machine

/-! ### Records -/

theorem extRec_setExt (n : Nat) (e : Ext) (s : State) (k : Nat) : extRec (setExt n e s) k = if k = n then e else extRec s k :=
  Tab.get_put ..

theorem extRec_congr {s t : State} (h : t.pool = s.pool) (k : Nat) : extRec t k = extRec s k := by rw [extRec, extRec, h]

theorem extRec_setExtSt (n : Nat) (e : Ext) (s : State) (k : Nat) : extRec (setExtSt n e s) k = if k = n then e else extRec s k :=
  (extRec_congr (tracePoint_pool ..) k).trans (extRec_setExt ..)

theorem tracePoint_sameBut {pt p : Nat} {d : Bytes} {s : State} : sameBut [.fw] s (tracePoint pt p d s) := by
  unfold tracePoint
  split
  · exact sameBut_of_eq rfl
  · exact sameBut_refl _ s

theorem setExt_sameBut {n : Nat} {e : Ext} {s : State} : sameBut [.pool] s (setExt n e s) := sameBut_of_eq rfl

theorem setExtSt_sameBut {n : Nat} {e : Ext} {s : State} : sameBut [.fw, .pool] s (setExtSt n e s) :=
  sameBut_trans (sameBut_mono setExt_sameBut (by decide)) (sameBut_mono tracePoint_sameBut (by decide))

theorem setExtSt_mem (n : Nat) (e : Ext) (s : State) : (setExtSt n e s).pool.mem = s.pool.mem := by rw [setExtSt, tracePoint_pool]; rfl

theorem setExtSt_bad (n : Nat) (e : Ext) (s : State) : (setExtSt n e s).pool.bad = s.pool.bad := by rw [setExtSt, tracePoint_pool]; rfl

/-! ### Events (R312) -/

/-- An event stands at the end of its attachment's log. -/
theorem event_logged {a kind p : Nat} {args : List Nat} {s : State} (h : evtPort s a = some p) :
    (cxlPort (event a kind args s) p).evts = (cxlPort s p).evts ++ [⟨(cxlPort s p).evtN, kind, args⟩] := by
  have hset : ∀ c, cxlPort (setCxl s p c) p = c := fun c => (cxlPort_setCxl ..).trans (if_pos rfl)
  have hcongr : ∀ {t u : State}, t.cxl = u.cxl → cxlPort t p = cxlPort u p := fun h => by rw [cxlPort, h]; rfl
  have hc : (event a kind args s).cxl = (setCxl s p { cxlPort s p with
      evts := (cxlPort s p).evts ++ [⟨(cxlPort s p).evtN, kind, args⟩], evtN := (cxlPort s p).evtN + 1 }).cxl := by
    unfold event
    rw [h]
    dsimp only
    split <;> rfl
  rw [hcongr hc, hset]

theorem event_sameBut {a kind : Nat} {args : List Nat} {s : State} : sameBut [.out, .cxl] s (event a kind args s) := by
  unfold event
  split
  · exact sameBut_refl _ s
  · dsimp only
    split <;> exact sameBut_of_eq rfl

/-! ### The offer (R304) -/

/-- The record of an extent that has been offered to the attachments of a mask. -/
def offeredExt (e : Ext) (mask : Nat) : Ext :=
  let new := (maskList mask).filter (fun a => !bitOf e.mask a)
  { e with mask := e.mask + new.foldl (fun b a => b + 2 ^ a) 0,
           asked := (new.filter (fun a => !bitOf e.asked a)).foldl (fun b a => b + 2 ^ a) e.asked }

theorem offer_eq (n mask : Nat) (s : State) : offer n mask s =
    ((maskList mask).filter (fun a => !bitOf (extRec s n).mask a)).foldl
      (fun t a => event a 0 [extTag (extRec s n), (extRec s n).fva, (extRec s n).log2] t) (setExt n (offeredExt (extRec s n) mask) s) := rfl

theorem offer_pool (n mask : Nat) (s : State) : (offer n mask s).pool = (setExt n (offeredExt (extRec s n) mask) s).pool :=
  sameBut_foldl (l := [.out, .cxl]) (fun _ _ _ => event_sameBut) .pool (by decide)

theorem offer_sameBut {n mask : Nat} {s : State} : sameBut [.out, .cxl, .pool] s (offer n mask s) :=
  sameBut_trans (sameBut_mono setExt_sameBut (by decide)) (sameBut_mono (sameBut_foldl fun _ _ _ => event_sameBut) (by decide))

theorem extRec_offer (n mask : Nat) (s : State) (k : Nat) :
    extRec (offer n mask s) k = if k = n then offeredExt (extRec s n) mask else extRec s k :=
  (extRec_congr (offer_pool ..) k).trans (extRec_setExt ..)

theorem maskList_pow : ∀ a < 16, maskList (2 ^ a) = [a] := by decide

/-- An offer to one new attachment. -/
theorem offered_one {e : Ext} {a : Nat} (ha : a < 16) (hm : bitOf e.mask a = false) (hk : bitOf e.asked a = false) :
    offeredExt e (2 ^ a) = { e with mask := e.mask + 2 ^ a, asked := e.asked + 2 ^ a } := by
  simp [offeredExt, maskList_pow a ha, hm, hk]

theorem offer_one {n a : Nat} {s : State} (ha : a < 16) (hm : bitOf (extRec s n).mask a = false) : offer n (2 ^ a) s =
    event a 0 [extTag (extRec s n), (extRec s n).fva, (extRec s n).log2] (setExt n (offeredExt (extRec s n) (2 ^ a)) s) := by
  rw [offer_eq, maskList_pow a ha]
  simp [hm]

/-- Settles O19: EXT_ADD and EXT_PRESENT by their rows, the offer by the record it leaves. -/
theorem extentRecords : Obligations.ExtentRecords := by
  unfold Obligations.ExtentRecords
  refine ⟨fun s r a h hd hs hf hl hr ho => ?_, fun s r a n h hd hb hs hst hr hf hp hn => ?_, fun s r a n e h hd hb hs hst hr ho hf hp => ?_,
    fun s n mask => ⟨offer_sameBut, fun k hk => ?_, ?_, ?_, fun a ha hmask hm hk => ?_⟩⟩
  · obtain ⟨g, hg⟩ := heard_form r.src s
    refine canRun_ok h rfl ?_ (by rw [hg]; rfl)
    rw [hg]
    have hst : ((extRec s a.ext).st != .free || s.rep.leaving) = false := by rw [hf, hl]; rfl
    exact (firstFail_skip hd).trans <| (firstFail_skip hs).trans <| (firstFail_skip hst).trans <| (firstFail_skip hr).trans <| firstFail_skip ho
  · obtain ⟨g, hg⟩ := heard_form r.src s
    have hbound : (extDenied s a.part a.job || (definedIn s a.mask).any (fun n => !boundTo s a.part n)) = false := by
      rw [hd, List.any_eq_false.2 fun k hk => by rw [hb k hk]; decide]
      rfl
    have hover : presentOverlap s a = false := by rw [presentOverlap, hp]
    refine canRun_ok h rfl ?_ ?_
    · rw [hg]
      exact (firstFail_skip hbound).trans <| (firstFail_skip hs).trans <| (firstFail_skip hst).trans <| (firstFail_skip hr).trans <|
        (firstFail_skip hover).trans <| firstFail_skip hf
    · have hp' : presentRec (heard r.src s) a.home a.ext = none := by rw [hg]; exact hp
      have hn' : freeRec (heard r.src s) = some n := by rw [hg]; exact hn
      have hx : extRec (heard r.src s) n = extRec s n := extRec_congr (heard_pool ..) n
      simp only [done, present, hp', hn', hx]
  · obtain ⟨g, hg⟩ := heard_form r.src s
    have hbound : (extDenied s a.part a.job || (definedIn s a.mask).any (fun n => !boundTo s a.part n)) = false := by
      rw [hd, List.any_eq_false.2 fun k hk => by rw [hb k hk]; decide]
      rfl
    refine canRun_ok h rfl ?_ ?_
    · rw [hg]
      exact (firstFail_skip hbound).trans <| (firstFail_skip hs).trans <| (firstFail_skip hst).trans <| (firstFail_skip hr).trans <|
        (firstFail_skip ho).trans <| firstFail_skip hf
    · have hp' : presentRec (heard r.src s) a.home a.ext = some (n, e) := by rw [hg]; exact hp
      simp only [done, present, hp']
  · rw [extRec_offer, if_neg hk]
  · rw [offer_pool]
    rfl
  · rw [extRec_offer, if_pos rfl]
    rfl
  · subst hmask
    rw [extRec_offer, if_pos rfl, offered_one ha hm hk, offer_one ha hm]
    exact ⟨rfl, rfl, fun p hp => event_logged hp⟩

end Sys2Proof.Machine
end

section
/-! Commands that change an extent's record: mirroring, change of tenant, revocation, and its query (R65, R68, R73, R85, R88, R446). -/

namespace Sys2Proof.Machine

/-- A ready message that names a lost module is refused with LOST, and the disagreement is told (R330). -/
theorem canRun_lost {r : Req} {m : Msg} {p : Option Nat} {c : Instr} {checks : State → List (Bool × Status)} {eff : State → Answer} {s : State}
    (h : canRun s c = true) (hm : msgRow s c = some (r, m, p)) (hc : firstFail (checks (heard r.src s)) = some .lost) :
    run (message r m p c checks eff) s = .next (answer r .lost [] (disagree m.opcode (heard r.src s))) := by
  rw [run_live (live_of_canRun h), message_admitted (admits_of_canRun h hm), hc]
  rfl

theorem noExt_false {n : Nat} (h : n < 16384) : noExt n = false := decide_eq_false (by omega)

/-- The checks of EXT_MIRROR before that of its target. -/
theorem mirror_pass {s : State} {ext target : Nat} {l : List (Bool × Status)} (hs : s.sys.spine = false) (he : ext < 16384)
    (hk : (extRec s ext).kind = .home) (hst : (extRec s ext).st = .shackled ∨ underWay s ext = true) (hl : s.rep.leaving = false)
    (hne : target ≠ s.sys.moduleId) (ht : target < 8192) :
    firstFail ((s.sys.spine, .role) :: (noExt ext, .range) ::
      ((extRec s ext).kind != .home || (!underWay s ext && (extRec s ext).st != .shackled) || s.rep.leaving, .state) ::
      (target == s.sys.moduleId || decide (8192 ≤ target), .range) :: l) = firstFail l := by
  have hstate : ((extRec s ext).kind != .home || (!underWay s ext && (extRec s ext).st != .shackled) || s.rep.leaving) = false := by
    rw [hk, hl]
    obtain h | h := hst <;> rw [h] <;> simp
  have hrange : (target == s.sys.moduleId || decide (8192 ≤ target)) = false := by
    rw [beq_eq_false_iff_ne.2 hne, decide_eq_false (by omega)]; rfl
  exact (firstFail_skip hs).trans <| (firstFail_skip (noExt_false he)).trans <| (firstFail_skip hstate).trans <| firstFail_skip hrange

/-- The change of tenant to the extent's own: bound at once (R73). -/
theorem shackleBegin_own {r : Req} {n p job fva : Nat} {s : State} (hmv : (extRec s n).mv = false) (hsc : (extRec s n).scrubbing = false)
    (ho : mctlOpen s n isScrub = false) : shackleBegin r n p job (extRec s n).tenant fva s =
    settle 2 n .ok [] (setExtSt n
      { extRec s n with st := .shackled, part := p, job := job, fva := fva, want := none, dbSeen := false, retain := false }
      (owe r 2 n (setExt n { extRec s n with want := some (p, job, (extRec s n).tenant, fva) } s))) := by
  let e := extRec s n
  let e' := { e with want := some (p, job, e.tenant, fva) }
  let t := owe r 2 n (setExt n e' s)
  have hrec : extRec t n = e' := (extRec_congr (owe_pool ..) n).trans ((extRec_setExt ..).trans (if_pos rfl))
  have hgo : shackleBegin r n p job e.tenant fva s = shackleGo n t := if_neg (by show ¬e.mv = true; rw [hmv]; decide)
  have hend : shackleGo n t = shackleEnd n t := by
    unfold shackleGo
    rw [hrec]
    exact if_pos rfl
  rw [hgo, hend]
  unfold shackleEnd
  rw [hrec]
  have hopen : ¬(e'.scrubbing || mctlOpen t n isScrub) = true := by
    show ¬(e.scrubbing || mctlOpen s n isScrub) = true
    rw [hsc, ho]
    decide
  have hst : (if e'.mv then ExtSt.mirrored else .shackled) = .shackled := if_neg (by show ¬e.mv = true; rw [hmv]; decide)
  refine (if_neg hopen).trans ?_
  dsimp only
  rw [hst]

/-- The one response owed goes out. -/
theorem settle_one {why key : Nat} {st : Status} {b : Bytes} {s : State} {o : Owed} (h : s.mgt.owed = [o]) (hw : o.why = why) (hk : o.key = key) :
    settle why key st b s = respond o.src o.txn o.tag o.minor st b { s with mgt := { s.mgt with owed := [] } } := by
  subst hw hk
  simp [settle, h]

theorem respond_out (src : Src) (txn tag minor : Nat) (st : Status) (b : Bytes) (s : State) :
    (respond src txn tag minor st b s).out = .resp src txn tag minor st b :: s.out := by cases src <;> rfl

theorem respond_owed (src : Src) (txn tag minor : Nat) (st : Status) (b : Bytes) (s : State) :
    (respond src txn tag minor st b s).mgt.owed = s.mgt.owed := by cases src <;> rfl

theorem respond_sameBut {src : Src} {txn tag minor : Nat} {st : Status} {b : Bytes} {s : State} :
    sameBut [.out, .mgt] s (respond src txn tag minor st b s) := by cases src <;> exact sameBut_of_eq rfl

/-- Settles O20: each command by its row, the return of an extent to its tenant by `shackleBegin_own`. -/
theorem extentChanges : Obligations.ExtentChanges := by
  unfold Obligations.ExtentChanges
  refine ⟨fun s r ext target h hs he hk hst hl hne ht hlost => ?_, fun s r ext target h hs he hk hst hl hne ht hlost => ?_,
    fun s r ext p job ten fva h hd hs he hk hst hf => ?_, fun s r home ext disp us h hst he hdisp hus => ?_,
    fun s r home ext kind h he hk hh => ⟨?_, fun hq => ?_⟩, fun s r ext p job fva hmv hsc ho howed => ?_⟩
  · obtain ⟨g, hg⟩ := heard_form r.src s
    refine canRun_later h rfl ?_ ?_
    · rw [hg]
      exact (mirror_pass (s := s) hs he hk hst hl hne ht).trans (firstFail_skip hlost)
    · rw [hg]; rfl
  · obtain ⟨g, hg⟩ := heard_form r.src s
    refine canRun_lost h rfl ?_
    rw [hg]
    exact (mirror_pass (s := s) hs he hk hst hl hne ht).trans (firstFail_hit hlost)
  · obtain ⟨g, hg⟩ := heard_form r.src s
    refine canRun_later h rfl ?_ ?_
    · rw [hg]
      have hstate : ((extRec s ext).kind != .home || (!underWay s ext && (extRec s ext).st != .retained)) = false := by
        rw [hk]
        obtain h | h := hst <;> rw [h] <;> simp
      exact (firstFail_skip hd).trans <| (firstFail_skip hs).trans <| (firstFail_skip (noExt_false he)).trans <|
        (firstFail_skip hstate).trans <| firstFail_skip hf
    · rw [hg]; rfl
  · obtain ⟨g, hg⟩ := heard_form r.src s
    refine canRun_later h rfl ?_ ?_
    · rw [hg]
      have hrange : (noExt ext || decide (1 < disp) || (us != 0 && (decide (us < 100) || decide (1000000 < us)))) = false := by
        rw [noExt_false he, decide_eq_false (by omega)]
        simp only [Bool.or_self, Bool.false_or, Bool.and_eq_false_iff, bne_eq_false_iff_eq, Bool.or_eq_false_iff, decide_eq_false_iff_not]
        omega
      exact (firstFail_skip hst).trans <| firstFail_skip hrange
    · rw [hg]; rfl
  · refine canRun_ok h rfl (firstFail_skip ?_) rfl
    rw [noExt_false he, decide_eq_false (by omega), decide_eq_false (by omega)]
    rfl
  · obtain ⟨g, hg⟩ := heard_form r.src s
    have hi : queryIdx (heard r.src s) home ext kind = queryIdx s home ext kind := by rw [hg]; rfl
    unfold scrubSeen
    rw [hi]
    split
    · next n hn => exact if_neg (by rw [extRec_congr (heard_pool ..), hq n hn]; decide)
    · rfl
  · have ht := shackleBegin_own (r := r) (p := p) (job := job) (fva := fva) hmv hsc ho
    rw [settle_one (o := ⟨r.src, r.txn, r.tag, r.minor, 2, ext⟩) (by rw [setExtSt, tracePoint_mgt]; show s.mgt.owed ++ _ = _; rw [howed]; rfl) rfl rfl] at ht
    rw [ht]
    generalize hy : owe r 2 ext (setExt ext { extRec s ext with want := some (p, job, (extRec s ext).tenant, fva) } s) = y
    have hys : sameBut [.mgt, .pool] s y := hy ▸ sameBut_of_eq rfl
    have hyrec : ∀ k, k ≠ ext → extRec y k = extRec s k := fun k hk => by
      rw [← hy, extRec_congr (owe_pool ..), extRec_setExt, if_neg hk]
    have hymem : y.pool.mem = s.pool.mem ∧ y.pool.bad = s.pool.bad := by
      rw [← hy]
      exact ⟨rfl, rfl⟩
    refine ⟨?_, fun k hk => ?_, ?_, ?_, respond_owed .., ?_, ?_⟩
    · rw [extRec_congr (respond_pool ..)]
      exact (extRec_setExtSt ..).trans (if_pos rfl)
    · rw [extRec_congr (respond_pool ..)]
      exact ((extRec_setExtSt ..).trans (if_neg hk)).trans (hyrec k hk)
    · rw [respond_pool]
      exact (setExtSt_mem ..).trans hymem.1
    · rw [respond_pool]
      exact (setExtSt_bad ..).trans hymem.2
    · rw [respond_out]
      exact congrArg _ ((setExtSt_sameBut .out (by decide)).trans (hys .out (by decide)))
    · refine sameBut_trans ?_ (sameBut_mono respond_sameBut (by decide))
      exact sameBut_trans (sameBut_mono hys (by decide)) (sameBut_trans (sameBut_mono setExtSt_sameBut (by decide)) (sameBut_of_eq rfl))

end Sys2Proof.Machine
end

section
/-! Revocation: its beginning, its events, and the scrub that ends it (R73, R74, R88, R89, R149, R306). -/

namespace Sys2Proof.Machine

theorem releaseEvents_sameBut {e : Ext} {s : State} : sameBut [.out, .cxl] s (releaseEvents e s) := sameBut_foldl fun _ _ _ => event_sameBut

/-- A record that has entered REVOKING: nothing accepted, nothing ended. -/
def revoked (e : Ext) (retain : Bool) (us : Nat) : Ext :=
  { e with st := .revoking, retain := retain, forcedUs := us, torn := e.torn || (retain && e.dbSeen),
           accepted := 0, asked := 0, ended := 0, forced := false, locked := false, scrub := 0, drained := false }

/-- A revocation with its timeout running, of a record that is neither rebuilding nor coherent. -/
theorem revokeBegin_plain {n us : Nat} {keep : Bool} {s : State} (hst : (extRec s n).st ≠ .rebuilding) (hc : (extRec s n).coherent = false) :
    revokeBegin n keep us false s = dropExt (extRec s n).home (extRec s n).eid
      (setExtSt n (revoked (extRec s n) keep us) (releaseEvents (extRec s n) s)) := by
  unfold revokeBegin
  dsimp only
  rw [if_neg hst]
  exact (if_pos rfl).trans (if_neg (by rintro ⟨h, -⟩; rw [hc] at h; cases h))

/-- Settles O21: the beginning by `revokeBegin_plain`, each event by its row. -/
theorem revocationBegins : Obligations.RevocationBegins := by
  unfold Obligations.RevocationBegins
  refine ⟨fun s n us keep hst hc => ?_, fun s kind n hl hd ho => ?_, fun s kind n hl hd ho => ?_, fun s kind n hl hd ho hh => ?_,
    fun s kind n hl hs hk => ?_⟩
  · rw [revokeBegin_plain hst hc]
    have hev : sameBut [.out, .cxl] s (releaseEvents (extRec s n) s) := releaseEvents_sameBut
    generalize releaseEvents (extRec s n) s = x at hev
    have hx : sameBut [.fw, .pool] x (setExtSt n (revoked (extRec s n) keep us) x) := setExtSt_sameBut
    intro t
    have hrec : ∀ k, extRec t k = if k = n then revoked (extRec s n) keep us else extRec s k := fun k => by
      refine (extRec_setExtSt n _ x k).trans ?_
      rw [extRec_congr (hev .pool (by decide))]
    rw [hrec n, if_pos rfl]
    refine ⟨rfl, rfl, rfl, rfl, rfl, rfl, fun k hk => ?_, ?_, ?_, ?_⟩
    · rw [hrec, if_neg hk]
    · exact (setExtSt_mem ..).trans (congrArg (·.mem) (hev .pool (by decide)))
    · show (setExtSt n _ x).qs.segs.filter _ = _
      rw [hx .qs (by decide), hev .qs (by decide)]
    · exact sameBut_trans (sameBut_mono hev (by decide)) (sameBut_trans (sameBut_mono hx (by decide)) (sameBut_of_eq rfl))
  · refine (run_live hl).trans (congrArg _ (if_pos ?_))
    rw [hd, ho]
    rfl
  · refine (run_live hl).trans (congrArg _ (if_neg ?_))
    rw [hd, ho]
    decide
  · refine (run_live hl).trans (congrArg _ (if_pos ?_))
    rw [hd, ho, hh]
    rfl
  · show execScrubDone kind n s = _
    rw [execScrubDone, run_live hl, if_pos]
    rw [hs, hk, beq_self_eq_true]
    rfl

/-! ### The end of a scrub -/

theorem freeExt_sameBut {n : Nat} {s : State} : sameBut [.fw, .pool] s (freeExt n s) :=
  sameBut_trans (sameBut_mono tracePoint_sameBut (by decide)) (sameBut_mono setExt_sameBut (by decide))

theorem extRec_freeExt (n : Nat) (s : State) (k : Nat) :
    extRec (freeExt n s) k = if k = n then { Ext.init with torn := (extRec s n).torn } else extRec s k := by
  rw [freeExt, extRec_setExt, extRec_congr (tracePoint_pool ..)]

theorem freeExt_mem (n : Nat) (s : State) : (freeExt n s).pool.mem = s.pool.mem ∧ (freeExt n s).pool.bad = s.pool.bad := by
  have h : (tracePoint 5 (extRec s n).part (leBytes 8 (extRec s n).home ++ leBytes 8 (extRec s n).eid ++ leBytes 8 0) s).pool = s.pool :=
    tracePoint_pool ..
  exact ⟨congrArg (·.mem) h, congrArg (·.bad) h⟩

/-- A trace point writes at most to the log. -/
theorem tracePoint_log (pt p : Nat) (d : Bytes) (s : State) : ∃ l k, (tracePoint pt p d s).fw = { s.fw with log := l, logSeq := k } := by
  unfold tracePoint
  split
  · exact ⟨_, _, rfl⟩
  · exact ⟨s.fw.log, s.fw.logSeq, rfl⟩

theorem freeExt_log (n : Nat) (s : State) : ∃ l k, (freeExt n s).fw = { s.fw with log := l, logSeq := k } := tracePoint_log ..

/-- Both managers are told by a report, whatever has been written to the log before it. -/
theorem report_told {code subject detail : Nat} {s t : State} (h : ∃ l k, t.fw = { s.fw with log := l, logSeq := k }) :
    toldBoth code (leBytes 8 subject ++ leBytes 8 detail) s (report code subject detail t) := by
  obtain ⟨l, k, h⟩ := h
  rw [toldBoth, report, reportRaw_fw, h]
  exact ⟨rfl, rfl, fun h => if_pos h, fun h => if_pos h⟩

/-- The record once firmware's scrub of it has reached its end. -/
def scrubbedExt (e : Ext) : Ext := { e with scrubbing := false, scrub := e.bytes / 2 ^ 20 }

/-- The end of a scrub of a HOME extent in revocation that frees it, with nothing open at a second copy. -/
theorem scrubEnd_frees {n : Nat} {s : State} (hk : (extRec s n).kind = .home) (hst : (extRec s n).st = .revoking)
    (hr : (extRec s n).retain = false) (hc : mctlOpen s n isCreate = false) (hv : mctlOpen s n isRevoke = false) :
    scrubEnd n s = report 0x8008 (extRec s n).eid (extRec s n).ended
      (freeExt n (setExt n (scrubbedExt (extRec s n)) (scrubRange (extRec s n).base (extRec s n).bytes s))) := by
  let t := setExt n (scrubbedExt (extRec s n)) (scrubRange (extRec s n).base (extRec s n).bytes s)
  have hrec : extRec t n = scrubbedExt (extRec s n) := (extRec_setExt ..).trans (if_pos rfl)
  have he : scrubEnd n s = revokeEnd n t := if_pos hst
  have hkind : (scrubbedExt (extRec s n)).kind = .home := hk
  have hret : (scrubbedExt (extRec s n)).retain = false := hr
  have hcre : mctlOpen t n isCreate = false := hc
  have hrev : mctlOpen t n isRevoke = false := hv
  rw [he]
  unfold revokeEnd
  rw [hrec]
  simp only [hkind, hret, hcre, hrev]
  rfl

/-- Settles O22: the range, its words and the records by what `scrubRange` and `freeExt` do. -/
theorem scrubZeroes : Obligations.ScrubZeroes := by
  unfold Obligations.ScrubZeroes
  intro s n hk hst hr hb hl hc hv e t
  have ht : t = report 0x8008 e.eid e.ended (freeExt n (setExt n (scrubbedExt e) (scrubRange e.base e.bytes s))) := scrubEnd_frees hk hst hr hc hv
  have hpool : t.pool = (freeExt n (setExt n (scrubbedExt e) (scrubRange e.base e.bytes s))).pool := by rw [ht, report_pool]
  have hmem : ∀ a, t.pool.mem.get 0#8 a = if e.base ≤ a ∧ a < e.base + 2 ^ e.log2 then 0#8 else s.pool.mem.get 0#8 a := fun a => by
    rw [hpool, (freeExt_mem ..).1]
    exact Tab.get_clearRange ..
  have hrec : ∀ k, extRec t k = if k = n then { Ext.init with torn := e.torn } else extRec s k := fun k => by
    rw [extRec_congr hpool, extRec_freeExt, extRec_setExt, extRec_setExt, if_pos rfl]
    split <;> rfl
  refine ⟨fun a h1 h2 => (hmem a).trans (if_pos ⟨h1, h2⟩), fun a h => (hmem a).trans (if_neg (by omega)), fun w h1 h2 => ?_,
    (hrec n).trans (if_pos rfl), fun k hk => (hrec k).trans (if_neg hk), ?_, ?_⟩
  · have hw : badWord t w = (s.pool.bad.clearRange (e.base / 8) (e.bytes / 8)).get false w := by
      rw [badWord, hpool, (freeExt_mem ..).2]
      rfl
    rw [hw, Tab.get_clearRange, if_pos]
    have h8 : 8 ∣ 2 ^ e.log2 := Dvd.dvd.trans (by decide : 8 ∣ 2 ^ 6) (pow_dvd_pow 2 hl)
    have hbytes : e.bytes = 2 ^ e.log2 := rfl
    rw [hbytes]
    have hbase : e.base % 64 = 0 := hb
    omega
  · rw [ht]
    obtain ⟨l, k, hf⟩ := freeExt_log n (setExt n (scrubbedExt e) (scrubRange e.base e.bytes s))
    exact report_told ⟨l, k, hf⟩
  · rw [ht]
    refine sameBut_trans ?_ (sameBut_mono report_sameBut (by decide))
    exact sameBut_trans (sameBut_of_eq (t := setExt n (scrubbedExt e) (scrubRange e.base e.bytes s)) rfl) (sameBut_mono freeExt_sameBut (by decide))

end Sys2Proof.Machine
end

section
/-! XLT_MAP and XLT_UNMAP: what a change of a partition's tables leaves alone (R96 to R101). -/

namespace Sys2Proof.Machine

/-- `t` is `s` but for the tables of partition `p`, its digest, the words of the pool that read as uncorrectable, and the parts of `l`. -/
structure TabledFrom (l : List Field) (p : Nat) (s t : State) : Prop where
  others : ∀ q, q ≠ p → part t q = part s q
  own : part t p = { part s p with tabs := (part t p).tabs, ents := (part t p).ents, digest := (part t p).digest }
  pool : t.pool = { s.pool with bad := t.pool.bad }
  rest : sameBut l s t

section Tables

variable {l : List Field} {p : Nat} {s t u : State}

theorem TabledFrom.refl : TabledFrom l p s s := ⟨fun _ _ => rfl, rfl, rfl, sameBut_refl _ s⟩

theorem TabledFrom.trans (h : TabledFrom l p s t) (h' : TabledFrom l p t u) : TabledFrom l p s u where
  others q hq := (h'.others q hq).trans (h.others q hq)
  own := by
    rw [h'.own, h.own]
  pool := by
    rw [h'.pool, h.pool]
  rest := sameBut_trans h.rest h'.rest

theorem TabledFrom.mono {l' : List Field} (h : TabledFrom l p s t) (hl : ∀ f ∈ l, f ∈ l') : TabledFrom l' p s t :=
  ⟨h.others, h.own, h.pool, sameBut_mono h.rest hl⟩

theorem tabled_foldl {α : Type} {f : State → α → State} {xs : List α} (h : ∀ t x, TabledFrom l p t (f t x)) : TabledFrom l p s (xs.foldl f s) :=
  List.foldlRecOn (motive := TabledFrom l p s) _ _ .refl fun _ ht x _ => ht.trans (h _ x)

/-- The partition's entry changes in its tables and its digest. -/
theorem tabled_setPart {x : Part} (hx : x = { part s p with tabs := x.tabs, ents := x.ents, digest := x.digest }) :
    TabledFrom [.parts, .pool, .xlt] p s (setPart s p x) where
  others q hq := (part_setPart ..).trans (if_neg hq)
  own := by rw [part_setPart, if_pos rfl]; exact hx
  pool := rfl
  rest := sameBut_of_eq rfl

/-- The pool's poison and the translation caches change. -/
theorem tabled_beside {b : Tab Bool} {x : Xlt} : TabledFrom [.parts, .pool, .xlt] p s { s with pool := { s.pool with bad := b }, xlt := x } where
  others _ _ := rfl
  own := rfl
  pool := rfl
  rest := sameBut_of_eq rfl

theorem tabled_readable {a n : Nat} : TabledFrom [.parts, .pool, .xlt] p s (readable a n s) := tabled_beside (x := s.xlt)

theorem tabled_putEntry {a : Nat} {e : BitVec 128} : TabledFrom [.parts, .pool, .xlt] p s (putEntry p a e s) := by
  refine (tabled_setPart (x := { part s p with ents := (part s p).ents.put 0#128 a e }) rfl).trans ?_
  exact tabled_beside

theorem tabled_flipDigest {page lv : Nat} {e : BitVec 128} : TabledFrom [.parts, .pool, .xlt] p s (flipDigest p page lv e s) :=
  tabled_setPart rfl

theorem tabled_clearBad {lo hi : Nat} : TabledFrom [.parts, .pool, .xlt] p s (clearBad p lo hi s) := tabled_beside (x := s.xlt)

theorem tabled_freeEmpty : TabledFrom [.parts, .pool, .xlt] p s (freeEmpty p s) := by
  refine tabled_foldl fun t lv => ?_
  exact (tabled_setPart rfl).trans (tabled_foldl fun _ _ => tabled_putEntry)

theorem tabled_unmapPages {lo hi : Nat} : TabledFrom [.parts, .pool, .xlt] p s (unmapPages p lo hi s) := by
  refine .trans ?_ tabled_freeEmpty
  exact tabled_clearBad.trans (tabled_foldl fun _ _ => tabled_flipDigest.trans tabled_putEntry)

/-- What takes a free value may change the counter of free values too. -/
abbrev mapFrame : List Field := [.seed, .parts, .pool, .xlt]

theorem tabled_allocTable {lv a : Nat} (h : allocTable p lv s = some (a, t)) : TabledFrom mapFrame p s t := by
  have hf : TabledFrom mapFrame p s (freeVal ((2 ^ 37 - (poolTop s + 2 ^ 21)) / tableSize lv) s).2 :=
    ⟨fun _ _ => rfl, rfl, rfl, sameBut_of_eq rfl⟩
  unfold allocTable at h
  dsimp only at h
  split at h
  · cases h
  · split at h
    · cases h
      refine hf.trans (.mono ?_ (by decide) (l := [.parts, .pool, .xlt]))
      exact (tabled_setPart rfl).trans tabled_readable
    · cases h

theorem tabled_pathFrom {page n lv a b : Nat} (h : pathFrom p page n lv a s = some (b, t)) : TabledFrom mapFrame p s t := by
  induction n generalizing lv a s with
  | zero => cases h; exact .refl
  | succ n ih =>
    unfold pathFrom at h
    dsimp only at h
    split at h
    · refine .trans ?_ (ih h)
      split
      · exact tabled_putEntry.mono (by decide)
      · exact .refl
    · split at h
      · next ha => exact (tabled_allocTable ha).trans ((tabled_putEntry.mono (by decide)).trans (ih h))
      · cases h

theorem tabled_pathTo {page lv b : Nat} (h : pathTo p page lv s = some (b, t)) : TabledFrom mapFrame p s t := by
  unfold pathTo at h
  split at h
  · exact tabled_pathFrom h
  · split at h
    · next ha => exact (tabled_allocTable ha).trans (tabled_pathFrom h)
    · cases h

theorem tabled_mapLeaf {page lv : Nat} {e : BitVec 128} (h : mapLeaf p page lv e s = some t) : TabledFrom mapFrame p s t := by
  unfold mapLeaf at h
  split at h
  · cases h
  · next hp =>
    cases h
    refine (tabled_pathTo hp).trans (.mono ?_ (by decide) (l := [.parts, .pool, .xlt]))
    refine .trans ?_ tabled_putEntry
    refine .trans ?_ tabled_flipDigest
    split
    · exact tabled_flipDigest
    · exact .refl

theorem tabled_mapAll {lv : Nat} {es : List (Nat × BitVec 128)} (h : mapAll p lv es s = some t) : TabledFrom mapFrame p s t := by
  induction es generalizing s with
  | nil => cases h; exact .refl
  | cons e es ih =>
    unfold mapAll at h
    split at h
    · split at h
      · next hm => exact (tabled_mapLeaf hm).trans (ih h)
      · cases h
    · exact (tabled_unmapPages.mono (by decide)).trans (ih h)

end Tables

/-- Settles O23: the rows, and what every change of the tables keeps. -/
theorem mapAndUnmap : Obligations.MapAndUnmap := by
  unfold Obligations.MapAndUnmap
  refine ⟨fun s r p fva lg lv ls h hs hlv hr ho => ?_, fun s r p fva n h hs hr hc => ?_,
    fun s t p lv es h => ⟨(tabled_mapAll h).others, (tabled_mapAll h).own, (tabled_mapAll h).pool, (tabled_mapAll h).rest⟩,
    fun s p lo hi => ⟨tabled_unmapPages.others, tabled_unmapPages.own, tabled_unmapPages.pool, tabled_unmapPages.rest⟩⟩
  · have hlevel : (levelOf lg).getD 4 = lv := by
      obtain ⟨rfl, rfl⟩ | ⟨rfl, rfl⟩ | ⟨rfl, rfl⟩ := hlv <;> rfl
    obtain ⟨g, hg⟩ := heard_form r.src s
    have hp : part (heard r.src s) p = part s p := heard_part ..
    constructor
    · intro t ht
      refine canRun_ok h rfl ?_ ?_
      · simp only [hlevel, ht]
        rw [hg]
        exact (firstFail_skip hs).trans <| (firstFail_skip hr).trans <| (firstFail_skip ho).trans <| firstFail_skip rfl
      · simp only [hlevel, ht]
        rfl
    · intro ht
      refine canRun_refused h rfl ?_ (by decide)
      simp only [hlevel, ht]
      rw [hg]
      exact (firstFail_skip hs).trans <| (firstFail_skip hr).trans <| (firstFail_skip ho).trans <| firstFail_hit rfl
  · obtain ⟨g, hg⟩ := heard_form r.src s
    refine canRun_ok h rfl ?_ rfl
    rw [hg]
    refine (firstFail_skip hs).trans <| firstFail_skip (show (rangeBad fva n || cutsPage (part s p) (fva / 65536) ((fva + n) / 65536)) = false from ?_)
    rw [hr, hc]
    rfl

end Sys2Proof.Machine
end

section
/-! XLT_INVAL, the drain of an invalidation, and XLT_QUERY (R99, R101, R113, R116 to R118). -/

namespace Sys2Proof.Machine

/-- An XLT_INVAL that a row admits answers nothing yet: it invalidates, and owes its response. -/
theorem exec_xltInval {s : State} {r : Req} {p fva n : Nat} {all : Bool} (h : canRun s (.xltInval r p all fva n) = true)
    (hs : s.sys.spine = false) (hn : s.xlt.invals.length < 64) (hr : all = true ∨ rangeBad fva n = false) :
    exec (.xltInval r p all fva n) s = .next (invalidate r p (if all then 0 else fva / 65536) (if all then fvaPages else (fva + n) / 65536)
      (heard r.src s)) := by
  refine canRun_later h rfl ?_ rfl
  obtain ⟨g, hg⟩ := heard_form r.src s
  rw [hg]
  refine (firstFail_skip hs).trans <| (firstFail_skip (decide_eq_false (by show ¬64 ≤ s.xlt.invals.length; omega))).trans <| firstFail_skip ?_
  obtain h | h := hr <;> rw [h]
  · rfl
  · exact Bool.and_false _

section Invalidated

variable {s : State} {r : Req} {p lo hi : Nat}

theorem invalidate_parts : (invalidate r p lo hi (heard r.src s)).parts =
    s.parts.put Part.init p { part s p with invSeq := ((part s p).invSeq + 1) % 65536 } := by
  obtain ⟨g, hg⟩ := heard_form r.src s
  rw [hg]
  rfl

theorem invalidate_xlt : (invalidate r p lo hi (heard r.src s)).xlt = { s.xlt with
    cache := s.xlt.cache.filter (fun c => !(c.part == p && decide (c.page < hi) && decide (lo < c.page + pagesAt c.level))),
    ptrs := s.xlt.ptrs.filter (fun c => c.part != p),
    invals := s.xlt.invals ++ [⟨r.src, p, lo, hi, ((part s p).invSeq + 1) % 65536, (s.qs.pf.filter (fun f => f.2.part == p)).map Prod.fst⟩] } := by
  obtain ⟨g, hg⟩ := heard_form r.src s
  rw [hg]
  rfl

theorem invalidate_segs : (invalidate r p lo hi (heard r.src s)).qs.segs =
    s.qs.segs.filter (fun g => !(g.part == p && decide (lo ≤ g.page) && decide (g.page < hi))) := by
  obtain ⟨g, hg⟩ := heard_form r.src s
  rw [hg]
  rfl

theorem invalidate_owed : (invalidate r p lo hi (heard r.src s)).mgt.owed =
    s.mgt.owed ++ [⟨r.src, r.txn, r.tag, r.minor, 1, srcKey r.src⟩] := by
  refine Eq.trans ?_ (congrArg (· ++ [_]) (heard_owed r.src s))
  obtain ⟨g, hg⟩ := heard_form r.src s
  rw [hg]
  rfl

theorem invalidate_sameBut : sameBut [.mgt, .parts, .xlt, .qs] s (invalidate r p lo hi (heard r.src s)) := by
  obtain ⟨g, hg⟩ := heard_form r.src s
  rw [hg]
  exact sameBut_of_eq rfl

end Invalidated

/-- Settles O25: XLT_INVAL by `exec_xltInval`, its drain by whether one of its port has ended, XLT_QUERY by its row. -/
theorem invalidation : Obligations.Invalidation := by
  unfold Obligations.Invalidation
  refine ⟨fun s r p fva n h hs hn hr => ⟨_, exec_xltInval h hs hn (.inr hr), ?_⟩, fun s r p fva n h hs hn => ⟨_, exec_xltInval h hs hn (.inl rfl), ?_⟩,
    fun s r p fva n all h hs hn => ?_, fun s i o hl hf ho => ?_, fun s src hl hno => ?_, fun s r p fva h hs h63 hf => ?_⟩
  · exact ⟨congrArg (·.cache) invalidate_xlt, congrArg (·.invals) invalidate_xlt, congrArg (·.ptrs) invalidate_xlt,
      congrArg (·.walks) invalidate_xlt, invalidate_parts, invalidate_segs, invalidate_owed, invalidate_sameBut⟩
  · refine ⟨congrArg (·.cache) invalidate_xlt, congrArg (·.ptrs) invalidate_xlt, ?_, ?_, invalidate_owed, invalidate_sameBut⟩
    · rw [part, invalidate_parts, Tab.get_put, if_pos rfl]
    · refine invalidate_segs.trans (List.filter_congr fun g _ => ?_)
      simp [fvaPages]
  · obtain ⟨g, hg⟩ := heard_form r.src s
    refine canRun_refused h rfl ?_ (by decide)
    rw [hg]
    exact (firstFail_skip hs).trans <| firstFail_hit (decide_eq_true hn)
  · refine (run_live hl).trans (congrArg _ ?_)
    unfold invalDone
    rw [hf]
    dsimp only [settle]
    rw [ho]
    rfl
  · refine (run_live hl).trans (congrArg _ ?_)
    have hnone : s.xlt.invals.find? (fun i => i.src == src && !invalOpen s i) = none := by
      rw [List.find?_eq_none]
      intro x hx hc
      rw [Bool.and_eq_true, beq_iff_eq, Bool.not_eq_true'] at hc
      rw [hno x hx hc.1] at hc
      exact absurd hc.2 (by decide)
    unfold invalDone
    rw [hnone]
  · obtain ⟨g, hg⟩ := heard_form r.src s
    refine canRun_ok h rfl ?_ (by rw [hg]; rfl)
    rw [hg]
    refine (firstFail_skip hs).trans <| firstFail_skip ?_
    rw [noPart_false h63, decide_eq_false (by omega)]
    rfl

end Sys2Proof.Machine
end

section
/-! The walk of a page whose leaf is the first of its partition's tables (R93 to R97, R99, R101, R102). -/

namespace Sys2Proof.Machine

/-! ### Pointer entries (R94) -/

theorem ptrEntry_toNat {t : Nat} (h : t % 512 = 0) (ht : t < 2 ^ 37) : (ptrEntry t).toNat = 1 + t := by
  rw [ptrEntry, BitVec.toNat_ofNat, fld, bitsOf]
  omega

theorem ptrNext_ptrEntry {t : Nat} (h : t % 512 = 0) (ht : t < 2 ^ 37) : ptrNext (ptrEntry t) = t := by
  rw [ptrNext, ptrEntry_toNat h ht, bitsOf]
  omega

theorem ptrOk_ptrEntry {lv t : Nat} (hl : lv ≤ 3) (h : t % 512 = 0) (ht : t < 2 ^ 37) : ptrOk lv (ptrEntry t) = true := by
  rw [ptrOk, ptrEntry_toNat h ht, bitsOf, bitsOf, decide_eq_true hl]
  simp only [Bool.true_and, Bool.and_eq_true, beq_iff_eq]
  omega

theorem getLsbD_odd {e : BitVec 128} (h : e.toNat % 4 = 1) : e.getLsbD 0 = true ∧ e.getLsbD 1 = false := by
  simp only [BitVec.getLsbD, Nat.testBit, Nat.shiftRight_zero, Nat.one_and_eq_mod_two]
  constructor
  · rw [show e.toNat % 2 = 1 by omega]; rfl
  · rw [Nat.shiftRight_succ, Nat.shiftRight_zero, show e.toNat / 2 % 2 = 0 by omega]; rfl

theorem leafV_ptrEntry {t : Nat} (h : t % 512 = 0) (ht : t < 2 ^ 37) : Leaf.v (ptrEntry t) = true :=
  (getLsbD_odd (by rw [ptrEntry_toNat h ht]; omega)).1

theorem isLeaf_ptrEntry {t : Nat} (h : t % 512 = 0) (ht : t < 2 ^ 37) : Leaf.isLeaf (ptrEntry t) = false :=
  (getLsbD_odd (by rw [ptrEntry_toNat h ht]; omega)).2

/-! ### Places of tables (R93, R97) -/

theorem findPlace_free {base size n : Nat} {used : List (Nat × Nat)} {f k a : Nat} (h : findPlace base size n used f k = some a) :
    (∃ k, a = base + size * (k % n)) ∧ ∀ u ∈ used, a + size ≤ u.1 ∨ u.1 + u.2 ≤ a := by
  induction f generalizing k with
  | zero => cases h
  | succ f ih =>
    unfold findPlace at h
    dsimp only at h
    split at h
    · next hu =>
      cases h
      refine ⟨⟨k, rfl⟩, fun u hm => ?_⟩
      simpa using List.all_eq_true.1 hu u hm
    · exact ih h

/-- The sizes of the tables of R93. -/
theorem tableSize_cases (lv : Nat) : tableSize lv = 32768 ∨ tableSize lv = 8192 ∨ tableSize lv = 512 := by
  unfold tableSize
  split <;> simp

theorem tableSize_mod (lv : Nat) : tableSize lv % 512 = 0 := by
  obtain h | h | h := tableSize_cases lv <;> rw [h]

/-- A table has been allocated at `a`: where it stands, and what it leaves. -/
structure Allocated (p lv a : Nat) (s t : State) : Prop where
  aligned : a % 512 = 0
  inPool : a + tableSize lv ≤ 2 ^ 37
  apart : ∀ u ∈ placed s, a + tableSize lv ≤ u.1 ∨ u.1 + u.2 ≤ a
  sys : t.sys = s.sys
  part : part t p = { part s p with tabs := (part s p).tabs.ins a lv }
  bad : ∀ w, badWord t w = if a / 8 ≤ w ∧ w < a / 8 + tableSize lv / 8 then false else badWord s w

/-- A word of the table that has been allocated can be read. -/
theorem Allocated.good {p lv a w : Nat} {s t : State} (h : Allocated p lv a s t) (h1 : a ≤ 8 * w) (h2 : 8 * w < a + tableSize lv) :
    badWord t w = false := by
  have ha := h.aligned
  have hs := tableSize_mod lv
  rw [h.bad, if_pos]
  omega

/-- Words that could be read before still can. -/
theorem Allocated.readable {p lv a w : Nat} {s t : State} (h : Allocated p lv a s t) (hw : badWord s w = false) : badWord t w = false := by
  rw [h.bad, hw]
  split <;> rfl

theorem badWord_readable (a n : Nat) (s : State) (w : Nat) :
    badWord (readable a n s) w = if a / 8 ≤ w ∧ w < a / 8 + n / 8 then false else badWord s w := Tab.get_clearRange ..

theorem allocTable_inv {p lv a : Nat} {s t : State} (hr : s.sys.reserveGiB ≠ 0) (h : allocTable p lv s = some (a, t)) :
    Allocated p lv a s t := by
  unfold allocTable at h
  dsimp only at h
  split at h
  · cases h
  · split at h
    · next hf =>
      cases h
      obtain ⟨⟨k, ha⟩, hu⟩ := findPlace_free hf
      refine ⟨?_, ?_, hu, rfl, (part_congr (s := setPart s p _) rfl p).trans ((part_setPart ..).trans (if_pos rfl)), fun w => badWord_readable a _ _ w⟩
      · rw [ha, poolTop]
        obtain h | h | h := tableSize_cases lv <;> rw [h] <;> omega
      · have hn : 0 < (2 ^ 37 - (poolTop s + 2 ^ 21)) / tableSize lv := by
          rw [poolTop]
          obtain h | h | h := tableSize_cases lv <;> rw [h] <;> omega
        have hk := Nat.mod_lt k hn
        have hm := Nat.mul_le_mul_left (tableSize lv) (Nat.succ_le_of_lt hk)
        have hd := Nat.mul_div_le (2 ^ 37 - (poolTop s + 2 ^ 21)) (tableSize lv)
        have hs : poolTop s + 2 ^ 21 ≤ 2 ^ 37 := by rw [poolTop]; omega
        rw [ha]
        rw [Nat.mul_succ] at hm
        omega
    · cases h

/-! ### Indices (R93) -/

theorem entryAddr_in (t lv page : Nat) : t ≤ entryAddr t lv page ∧ entryAddr t lv page + 16 ≤ t + tableSize lv := by
  have h : tableIdx lv page < tableSize lv / 16 := Nat.mod_lt _ (by obtain h | h | h := tableSize_cases lv <;> rw [h] <;> decide)
  rw [entryAddr]
  obtain hs | hs | hs := tableSize_cases lv <;> rw [hs] at h ⊢ <;> omega

/-! ### What a new table and a new entry leave -/

theorem Tab.find?_ins {α : Type} {t : Tab α} {k : Nat} {v : α} {f : Nat × α → Bool} (hk : ∀ e ∈ t, e.1 ≠ k) (hf : f (k, v) = false) :
    (t.ins k v).find? f = t.find? f := by
  induction t with
  | nil => simp [Tab.ins, hf]
  | cons e t ih =>
    obtain ⟨j, w⟩ := e
    have hj : k ≠ j := fun h => hk (j, w) (by simp) h.symm
    have ht := ih fun e he => hk e (List.mem_cons_of_mem _ he)
    rw [Tab.ins, if_neg hj]
    split
    · rw [List.find?_cons, hf]
    · rw [List.find?_cons, List.find?_cons, ht]

theorem Tab.mem_ins_iff {α : Type} {t : Tab α} {k : Nat} {v : α} (hk : ∀ e ∈ t, e.1 ≠ k) (e : Nat × α) :
    e ∈ t.ins k v ↔ e = (k, v) ∨ e ∈ t := by
  induction t with
  | nil => simp [Tab.ins]
  | cons c t ih =>
    obtain ⟨j, w⟩ := c
    have hj : k ≠ j := fun h => hk (j, w) (by simp) h.symm
    have ht := ih fun e he => hk e (List.mem_cons_of_mem _ he)
    rw [Tab.ins, if_neg hj]
    split
    · exact List.mem_cons
    · rw [List.mem_cons, ht, List.mem_cons]
      tauto

theorem tableBytes_eq (x : Part) : tableBytes x = (x.tabs.map fun t => tableSize t.2).sum := by
  rw [tableBytes, List.sum_eq_foldl, List.foldl_map]

theorem tableBytes_ins {t : Tab Nat} {k v : Nat} (hk : ∀ e ∈ t, e.1 ≠ k) :
    ((t.ins k v).map fun t => tableSize t.2).sum = (t.map fun t => tableSize t.2).sum + tableSize v := by
  induction t with
  | nil => simp [Tab.ins]
  | cons c t ih =>
    obtain ⟨j, w⟩ := c
    have hj : k ≠ j := fun h => hk (j, w) (by simp) h.symm
    have ht := ih fun e he => hk e (List.mem_cons_of_mem _ he)
    rw [Tab.ins, if_neg hj]
    split
    · simp only [List.map_cons, List.sum_cons]
      omega
    · simp only [List.map_cons, List.sum_cons, ht]
      omega

theorem part_putEntry (p a : Nat) (e : BitVec 128) (s : State) :
    part (putEntry p a e s) p = { part s p with ents := (part s p).ents.put 0#128 a e } :=
  (part_congr (s := setPart s p _) rfl p).trans ((part_setPart ..).trans (if_pos rfl))

theorem entryOf_putEntry (p a : Nat) (e : BitVec 128) (s : State) (b : Nat) :
    entryOf (part (putEntry p a e s) p) b = if b = a then e else entryOf (part s p) b := by
  rw [part_putEntry]
  exact Tab.get_put ..

theorem badWord_putEntry {p a w : Nat} {e : BitVec 128} {s : State} (h : badWord s w = false) : badWord (putEntry p a e s) w = false := by
  refine (badWord_readable a 16 s w).trans ?_
  split
  · rfl
  · exact h

/-- A table that the partition's tables take up is among the module's places. -/
theorem mem_placed {s : State} {p : Nat} {t : Nat × Nat} (h : t ∈ (part s p).tabs) : (t.1, tableSize t.2) ∈ placed s := by
  have hp : ∃ e ∈ s.parts, e.2 = part s p := by
    unfold part at h ⊢
    generalize s.parts = l at h ⊢
    induction l with
    | nil => simp [Tab.get, Part.init] at h
    | cons c l ih =>
      obtain ⟨j, w⟩ := c
      rw [Tab.get] at h ⊢
      split at h
      · next hj => exact ⟨(j, w), by simp, by rw [if_pos hj]⟩
      · next hj =>
        obtain ⟨e, he, hx⟩ := ih h
        exact ⟨e, List.mem_cons_of_mem _ he, by rw [if_neg hj, hx]⟩
  obtain ⟨e, he, hx⟩ := hp
  rw [placed, List.mem_flatMap]
  exact ⟨e, he, List.mem_map.2 ⟨t, by rw [hx]; exact h, rfl⟩⟩

/-! ### The path of a page, from the root table down -/

/-- The bytes of one table of each level from 1 to `m`. -/
def pathBytes : Nat → Nat
  | 0 => 0
  | m + 1 => pathBytes m + tableSize (m + 1)

/-- The partition's tables are those of levels 1 to `m` on the path of a page, at the addresses `T`; its entries are the pointers of that path. -/
structure Built (p page m : Nat) (T : Nat → Nat) (d : BitVec 64) (s : State) : Prop where
  reserve : s.sys.reserveGiB ≠ 0
  root : rootOf (part s p) = some (T 1)
  place : ∀ i, 1 ≤ i → i ≤ m → T i % 512 = 0 ∧ T i + tableSize i ≤ 2 ^ 37
  apart : ∀ i j, 1 ≤ i → i < j → j ≤ m → T i + tableSize i ≤ T j ∨ T j + tableSize j ≤ T i
  tabs : ∀ e, e ∈ (part s p).tabs ↔ ∃ i, 1 ≤ i ∧ i ≤ m ∧ e = (T i, i)
  bytes : tableBytes (part s p) = pathBytes m
  ptr : ∀ i, 1 ≤ i → i < m → entryOf (part s p) (entryAddr (T i) i page) = ptrEntry (T (i + 1))
  zero : ∀ a, (∀ i, 1 ≤ i → i < m → a ≠ entryAddr (T i) i page) → entryOf (part s p) a = 0#128
  good : ∀ i, 1 ≤ i → i ≤ m → ∀ w, T i ≤ 8 * w → 8 * w < T i + tableSize i → badWord s w = false
  digest : (part s p).digest = d

section Path

variable {p page m u : Nat} {T : Nat → Nat} {d : BitVec 64} {s t : State}

/-- The root table of a partition without tables. -/
theorem built_root (ht : (part s p).tabs = []) (he : (part s p).ents = []) (hr : s.sys.reserveGiB ≠ 0) (h : allocTable p 1 s = some (u, t)) :
    Built p page 1 (fun _ => u) (part s p).digest t := by
  have ha := allocTable_inv hr h
  have hp := ha.part
  rw [ht] at hp
  have hone : ∀ i, 1 ≤ i → i ≤ 1 → i = 1 := fun i h1 h2 => by omega
  refine ⟨by rw [ha.sys]; exact hr, by rw [hp]; rfl, fun i h1 h2 => hone i h1 h2 ▸ ⟨ha.aligned, ha.inPool⟩, fun i j h1 h2 h3 => by omega,
    fun e => ?_, by rw [hp]; simp [tableBytes, Tab.ins, pathBytes], fun i h1 h2 => by omega, fun a _ => ?_, fun i h1 h2 w hw hw' => ?_, by rw [hp]⟩
  · rw [hp]
    constructor
    · intro h
      exact ⟨1, le_rfl, le_rfl, by simpa [Tab.ins] using h⟩
    · rintro ⟨i, h1, h2, rfl⟩
      rw [hone i h1 h2]
      simp [Tab.ins]
  · rw [hp, entryOf, he]
    rfl
  · have h := hone i h1 h2
    subst h
    exact ha.good hw hw'

/-- An entry of a table on the path lies in no other table of it. -/
theorem Built.slot_ne (hb : Built p page m T d s) {i j g : Nat} (hi : 1 ≤ i) (him : i ≤ m) (hj : 1 ≤ j) (hjm : j ≤ m) (hne : i ≠ j) :
    entryAddr (T i) i g ≠ entryAddr (T j) j page := by
  have h1 := entryAddr_in (T i) i g
  have h2 := entryAddr_in (T j) j page
  obtain h | h := Nat.lt_or_gt_of_ne hne
  · have := hb.apart i j hi h hjm
    omega
  · have := hb.apart j i hj h him
    omega

/-- The entry of the last table at any page is still zero. -/
theorem Built.last_zero (hb : Built p page m T d s) (hm : 1 ≤ m) (g : Nat) : entryOf (part s p) (entryAddr (T m) m g) = 0#128 :=
  hb.zero _ fun _ hi him => hb.slot_ne hm le_rfl hi him.le (by omega)

/-- The addresses with one more table. -/
def under (T : Nat → Nat) (m u : Nat) : Nat → Nat := fun i => if i = m + 1 then u else T i

theorem under_last (T : Nat → Nat) (m u : Nat) : under T m u (m + 1) = u := if_pos rfl

theorem under_old {T : Nat → Nat} {m u i : Nat} (h : i ≤ m) : under T m u i = T i := if_neg (by omega)

/-- The next table of the path, with the pointer to it. -/
theorem Built.next (hb : Built p page m T d s) (hm : 1 ≤ m) (ha : Allocated p (m + 1) u s t) :
    Built p page (m + 1) (under T m u) d (putEntry p (entryAddr (T m) m page) (ptrEntry u) t) := by
  have hfar : ∀ i, 1 ≤ i → i ≤ m → u + tableSize (m + 1) ≤ T i ∨ T i + tableSize i ≤ u := fun i h1 h2 =>
    ha.apart (T i, tableSize i) (mem_placed (t := (T i, i)) ((hb.tabs _).2 ⟨i, h1, h2, rfl⟩))
  have hnew : ∀ e ∈ (part s p).tabs, e.1 ≠ u := fun e he => by
    obtain ⟨i, h1, h2, rfl⟩ := (hb.tabs e).1 he
    have := hfar i h1 h2
    have := tableSize_cases i
    have := tableSize_cases (m + 1)
    show T i ≠ u
    omega
  have hp : part (putEntry p (entryAddr (T m) m page) (ptrEntry u) t) p =
      { part s p with tabs := (part s p).tabs.ins u (m + 1), ents := (part s p).ents.put 0#128 (entryAddr (T m) m page) (ptrEntry u) } := by
    rw [part_putEntry, ha.part]
  have hent : ∀ b, entryOf (part (putEntry p (entryAddr (T m) m page) (ptrEntry u) t) p) b =
      if b = entryAddr (T m) m page then ptrEntry u else entryOf (part s p) b := fun b => by
    rw [entryOf_putEntry, ha.part]
    rfl
  have hcase : ∀ i, i ≤ m + 1 → i = m + 1 ∨ i ≤ m := fun i h => by omega
  refine ⟨?_, ?_, fun i h1 h2 => ?_, fun i j h1 h2 h3 => ?_, fun e => ?_, ?_, fun i h1 h2 => ?_, fun a h => ?_, fun i h1 h2 w hw hw' => ?_, ?_⟩
  · show t.sys.reserveGiB ≠ 0
    rw [ha.sys]
    exact hb.reserve
  · rw [hp, under_old hm, rootOf, Tab.find?_ins hnew (by show (m + 1 == 1) = false; exact beq_eq_false_iff_ne.2 (by omega))]
    exact hb.root
  · obtain rfl | h := hcase i h2
    · rw [under_last]
      exact ⟨ha.aligned, ha.inPool⟩
    · rw [under_old h]
      exact hb.place i h1 h
  · rw [under_old (i := i) (by omega)]
    obtain rfl | h := hcase j h3
    · rw [under_last]
      exact (hfar i h1 (by omega)).symm
    · rw [under_old h]
      exact hb.apart i j h1 h2 h
  · rw [hp, Tab.mem_ins_iff hnew, hb.tabs]
    constructor
    · rintro (rfl | ⟨i, h1, h2, rfl⟩)
      · exact ⟨m + 1, by omega, le_rfl, by rw [under_last]⟩
      · exact ⟨i, h1, by omega, by rw [under_old h2]⟩
    · rintro ⟨i, h1, h2, rfl⟩
      obtain rfl | h := hcase i h2
      · exact .inl (by rw [under_last])
      · exact .inr ⟨i, h1, h, by rw [under_old h]⟩
  · rw [hp, tableBytes_eq, tableBytes_ins hnew, ← tableBytes_eq, hb.bytes]
    rfl
  · rw [under_old (i := i) (by omega), hent]
    by_cases h : i = m
    · subst h
      rw [if_pos rfl, under_last]
    · rw [under_old (by omega), if_neg (hb.slot_ne h1 (by omega) hm le_rfl h), hb.ptr i h1 (by omega)]
  · have hm' := h m hm (by omega)
    rw [under_old le_rfl] at hm'
    rw [hent, if_neg hm']
    refine hb.zero a fun i h1 h2 => ?_
    have := h i h1 (by omega)
    rwa [under_old h2.le] at this
  · refine badWord_putEntry ?_
    obtain rfl | h := hcase i h2
    · rw [under_last] at hw hw'
      exact ha.good hw hw'
    · rw [under_old h] at hw hw'
      exact ha.readable (hb.good i h1 h w hw hw')
  · rw [hp]
    exact hb.digest

/-- A path that is built down to a level. -/
theorem pathFrom_built {n b : Nat} (hb : Built p page m T d s) (hm : 1 ≤ m) (h : pathFrom p page n m (T m) s = some (b, t)) :
    ∃ T, Built p page (m + n) T d t ∧ b = T (m + n) := by
  induction n generalizing m T s with
  | zero => cases h; exact ⟨T, hb, rfl⟩
  | succ n ih =>
    have hz : Leaf.v (entryOf (part s p) (entryAddr (T m) m page)) = false := by rw [hb.last_zero hm]; rfl
    unfold pathFrom at h
    dsimp only at h
    rw [hz] at h
    simp only [Bool.false_eq_true, if_false] at h
    split at h
    · next u w ha =>
      have hn := hb.next hm (allocTable_inv hb.reserve ha)
      obtain ⟨T', hb', he⟩ := ih hn (by omega) (by rw [under_last]; exact h)
      have he' : m + (n + 1) = m + 1 + n := by omega
      exact ⟨T', he' ▸ hb', he' ▸ he⟩
    · cases h

end Path

end Sys2Proof.Machine
end

section
/-! The walk of a page whose leaf is the first of its partition's tables, from the path that XLT_MAP has built (R99, R102). -/

namespace Sys2Proof.Machine

/-- The path of a page is built down to level `lv`, and the leaf `l` stands at its end. -/
structure Mapped (p page lv : Nat) (l : BitVec 128) (T : Nat → Nat) (s : State) : Prop where
  root : rootOf (part s p) = some (T 1)
  place : ∀ i, 1 ≤ i → i ≤ lv → T i % 512 = 0 ∧ T i + tableSize i ≤ 2 ^ 37
  entry : ∀ i, 1 ≤ i → i ≤ lv → ∀ g, entryOf (part s p) (entryAddr (T i) i g) =
    if tableIdx i g = tableIdx i page then (if i = lv then l else ptrEntry (T (i + 1))) else 0#128
  good : ∀ i, 1 ≤ i → i ≤ lv → ∀ w, T i ≤ 8 * w → 8 * w < T i + tableSize i → badWord s w = false

section Mapping

variable {p page lv : Nat} {l : BitVec 128} {T : Nat → Nat} {s t : State}

theorem part_flipDigest : part (flipDigest p page lv l s) p = { part s p with digest := (part s p).digest ^^^ leafDigest page lv l } :=
  (part_setPart ..).trans (if_pos rfl)

theorem entryAddr_inj {a i g h : Nat} : entryAddr a i g = entryAddr a i h ↔ tableIdx i g = tableIdx i h := by
  rw [entryAddr, entryAddr]
  omega

theorem Built.mapped {d : BitVec 64} (hb : Built p page lv T d s) (hlv : 1 ≤ lv) :
    Mapped p page lv l T (putEntry p (entryAddr (T lv) lv page) l (flipDigest p page lv l s)) := by
  have hent : ∀ b, entryOf (part (putEntry p (entryAddr (T lv) lv page) l (flipDigest p page lv l s)) p) b =
      if b = entryAddr (T lv) lv page then l else entryOf (part s p) b := fun b => by
    rw [entryOf_putEntry, part_flipDigest]
    rfl
  refine ⟨?_, hb.place, fun i h1 h2 g => ?_, fun i h1 h2 w hw hw' => badWord_putEntry (hb.good i h1 h2 w hw hw')⟩
  · rw [part_putEntry, part_flipDigest]
    exact hb.root
  · rw [hent]
    by_cases hi : i = lv
    · subst hi
      simp only [entryAddr_inj, if_true]
      split
      · rfl
      · exact hb.last_zero hlv g
    · rw [if_neg (hb.slot_ne h1 h2 hlv le_rfl hi), if_neg hi]
      split
      · next hx => rw [entryAddr_inj.2 hx, hb.ptr i h1 (by omega)]
      · next hx =>
        refine hb.zero _ fun j hj hjlv => ?_
        by_cases hij : i = j
        · subst hij
          rwa [Ne, entryAddr_inj]
        · exact hb.slot_ne h1 h2 hj hjlv.le hij

/-- XLT_MAP's first leaf of a partition: its path is built, and its share is in the digest. -/
theorem mapLeaf_first (ht : (part s p).tabs = []) (he : (part s p).ents = []) (hr : s.sys.reserveGiB ≠ 0) (hlv : 1 ≤ lv)
    (h : mapLeaf p page lv l s = some t) : ∃ T, Mapped p page lv l T t ∧ tableBytes (part t p) = pathBytes lv ∧
      (part t p).digest = (part s p).digest ^^^ leafDigest page lv l := by
  have hroot : rootOf (part s p) = none := by rw [rootOf, ht]; rfl
  have hpath : ∀ b u, pathTo p page lv s = some (b, u) → ∃ T, Built p page lv T (part s p).digest u ∧ b = T lv := by
    intro b u hp
    unfold pathTo at hp
    rw [hroot] at hp
    dsimp only at hp
    split at hp
    · next a v ha =>
      obtain ⟨T, hb, hbT⟩ := pathFrom_built (built_root (page := page) ht he hr ha) le_rfl hp
      have hl : 1 + (lv - 1) = lv := by omega
      exact ⟨T, hl ▸ hb, hl ▸ hbT⟩
    · cases hp
  unfold mapLeaf at h
  split at h
  · cases h
  · next b u hp =>
    obtain ⟨T, hb, rfl⟩ := hpath b u hp
    have hz : Leaf.v (entryOf (part u p) (entryAddr (T lv) lv page)) = false := by rw [hb.last_zero hlv]; rfl
    dsimp only at h
    rw [hz] at h
    simp only [Bool.false_eq_true, if_false] at h
    cases h
    refine ⟨T, hb.mapped hlv, ?_, ?_⟩
    · rw [part_putEntry]
      exact (congrArg tableBytes part_flipDigest).trans hb.bytes
    · rw [part_putEntry]
      exact (congrArg Part.digest part_flipDigest).trans (by rw [← hb.digest])

/-! ### The walk (R102) -/

variable (hm : Mapped p page lv l T s)
include hm

theorem Mapped.readable {i g : Nat} (h1 : 1 ≤ i) (h2 : i ≤ lv) : entryBad s (entryAddr (T i) i g) = false := by
  have ha := entryAddr_in (T i) i g
  have hp := hm.place i h1 h2
  have hd : entryAddr (T i) i g % 16 = 0 := by rw [entryAddr]; omega
  rw [entryBad, hm.good i h1 h2 _ (by omega) (by omega), hm.good i h1 h2 _ (by omega) (by omega)]
  rfl

/-- A walk for another index ends here. -/
theorem Mapped.walk_off {i g n : Nat} (h1 : 1 ≤ i) (h2 : i ≤ lv) (hg : tableIdx i g ≠ tableIdx i page) :
    (walkFrom s (part s p) (fun _ => none) g (n + 1) i (T i)).fin = .unmapped := by
  unfold walkFrom
  simp only [hm.entry i h1 h2 g, if_neg hg, hm.readable h1 h2]
  rfl

/-- A walk for the page's index follows the pointer. -/
theorem Mapped.walk_on {i g n : Nat} (h1 : 1 ≤ i) (h2 : i < lv) (h3 : i ≤ 3) (hg : tableIdx i g = tableIdx i page) :
    walkFrom s (part s p) (fun _ => none) g (n + 1) i (T i) =
      let w := walkFrom s (part s p) (fun _ => none) g n (i + 1) (T (i + 1))
      { w with path := entryAddr (T i) i g :: w.path, ptrs := (entryAddr (T i) i g, ptrEntry (T (i + 1))) :: w.ptrs } := by
  obtain ⟨hmod, hle⟩ := hm.place (i + 1) (by omega) h2
  have hlt : T (i + 1) < 2 ^ 37 := by have := tableSize_cases (i + 1); omega
  have he : entryOf (part s p) (entryAddr (T i) i g) = ptrEntry (T (i + 1)) := by
    rw [hm.entry i h1 h2.le g, if_pos hg, if_neg (by omega)]
  conv_lhs => unfold walkFrom
  simp only [he, hm.readable h1 h2.le, leafV_ptrEntry hmod hlt, isLeaf_ptrEntry hmod hlt, ptrOk_ptrEntry h3 hmod hlt, ptrNext_ptrEntry hmod hlt]
  rfl

/-- A walk for the leaf's own index ends at it. -/
theorem Mapped.walk_leaf {g n : Nat} (h1 : 1 ≤ lv) (hg : tableIdx lv g = tableIdx lv page) (hv : Leaf.v l = true) (hl : Leaf.isLeaf l = true)
    (hok : leafOk lv l = true) : walkFrom s (part s p) (fun _ => none) g (n + 1) lv (T lv) = ⟨[entryAddr (T lv) lv g], [], .leaf lv l⟩ := by
  have he : entryOf (part s p) (entryAddr (T lv) lv g) = l := by
    rw [hm.entry lv h1 le_rfl g, if_pos hg, if_pos rfl]
  unfold walkFrom
  simp only [he, hm.readable h1 le_rfl, hv, hl, hok]
  rfl

/-- A walk whose indices are all the page's ends at the leaf. -/
theorem Mapped.walk_same {g n : Nat} (hlv : lv ≤ 4) (hv : Leaf.v l = true) (hl : Leaf.isLeaf l = true) (hok : leafOk lv l = true)
    (hg : ∀ i, 1 ≤ i → i ≤ lv → tableIdx i g = tableIdx i page) (k i : Nat) (hi : 1 ≤ i) (hk : i + k = lv) (hn : k < n) :
    (walkFrom s (part s p) (fun _ => none) g n i (T i)).fin = .leaf lv l ∧
    (walkFrom s (part s p) (fun _ => none) g n i (T i)).path.length = k + 1 := by
  induction k generalizing i n with
  | zero =>
    obtain ⟨n, rfl⟩ := Nat.exists_eq_succ_of_ne_zero (by omega : n ≠ 0)
    obtain rfl : i = lv := hk
    rw [hm.walk_leaf hi (hg i hi le_rfl) hv hl hok]
    exact ⟨rfl, rfl⟩
  | succ k ih =>
    obtain ⟨n, rfl⟩ := Nat.exists_eq_succ_of_ne_zero (by omega : n ≠ 0)
    obtain ⟨hf, hp⟩ := ih (n := n) (i + 1) (by omega) (by omega) (by omega)
    rw [hm.walk_on hi (by omega) (by omega) (hg i hi (by omega))]
    exact ⟨hf, congrArg (· + 1) hp⟩

/-- A walk one of whose indices is not the page's ends unmapped. -/
theorem Mapped.walk_other {g n : Nat} (hlv : lv ≤ 4) (k i : Nat) (hi : 1 ≤ i) (hk : i + k = lv) (hn : k < n)
    (hg : ∃ j, i ≤ j ∧ j ≤ lv ∧ tableIdx j g ≠ tableIdx j page) :
    (walkFrom s (part s p) (fun _ => none) g n i (T i)).fin = .unmapped := by
  induction k generalizing i n with
  | zero =>
    obtain ⟨n, rfl⟩ := Nat.exists_eq_succ_of_ne_zero (by omega : n ≠ 0)
    obtain ⟨j, h1, h2, hj⟩ := hg
    obtain rfl : j = i := by omega
    exact hm.walk_off hi h2 hj
  | succ k ih =>
    obtain ⟨n, rfl⟩ := Nat.exists_eq_succ_of_ne_zero (by omega : n ≠ 0)
    by_cases hx : tableIdx i g = tableIdx i page
    · rw [hm.walk_on hi (by omega) (by omega) hx]
      obtain ⟨j, h1, h2, hj⟩ := hg
      have hij : j ≠ i := fun h => hj (h ▸ hx)
      exact ih (n := n) (i + 1) (by omega) (by omega) (by omega) ⟨j, by omega, h2, hj⟩
    · exact hm.walk_off hi (by omega) hx

end Mapping

/-! ### The indices of a page's FVAs (R93) -/

/-- The pages of a level divide those of the levels above it. -/
theorem pagesAt_dvd : ∀ lv ≤ 4, ∀ i, 1 ≤ i → i ≤ lv → pagesAt lv ∣ pagesAt i := by
  intro lv hlv i h1 h2
  interval_cases lv <;> interval_cases i <;> decide

/-- The indices of the levels from 1 to `lv` agree for all pages of one page of level `lv`, and for no other. -/
theorem tableIdx_agree {lv page g : Nat} (h2 : 2 ≤ lv) (h4 : lv ≤ 4) (hp : page < 2 ^ 34) (hg : g < 2 ^ 34) (hm : page % pagesAt lv = 0) :
    (∀ i, 1 ≤ i → i ≤ lv → tableIdx i g = tableIdx i page) ↔ page ≤ g ∧ g < page + pagesAt lv := by
  have h1 : ∀ x, tableIdx 1 x = x / 8388608 % 2048 := fun _ => rfl
  have h2' : ∀ x, tableIdx 2 x = x / 16384 % 512 := fun _ => rfl
  have h3 : ∀ x, tableIdx 3 x = x / 32 % 512 := fun _ => rfl
  have h4' : ∀ x, tableIdx 4 x = x % 32 := fun x => congrArg (· % 32) (Nat.div_one x)
  constructor
  · intro h
    have e1 := h 1 le_rfl (by omega)
    have e2 := h 2 (by omega) h2
    rw [h1, h1] at e1
    rw [h2', h2'] at e2
    obtain rfl | rfl | rfl : lv = 2 ∨ lv = 3 ∨ lv = 4 := by omega
    · simp only [pagesAt] at hm ⊢
      omega
    · have e3 := h 3 (by omega) le_rfl
      rw [h3, h3] at e3
      simp only [pagesAt] at hm ⊢
      omega
    · have e3 := h 3 (by omega) (by omega)
      have e4 := h 4 (by omega) le_rfl
      rw [h3, h3] at e3
      rw [h4', h4'] at e4
      simp only [pagesAt] at hm ⊢
      omega
  · rintro ⟨hl, hr⟩ i hi1 hi2
    obtain ⟨c, hc⟩ := pagesAt_dvd lv h4 i hi1 hi2
    have hq : page / pagesAt lv * pagesAt lv = page := Nat.div_mul_cancel (Nat.dvd_of_mod_eq_zero hm)
    have hdiv : g / pagesAt lv = page / pagesAt lv :=
      Nat.div_eq_of_lt_le (by rw [hq]; exact hl) (by rw [Nat.succ_mul, hq]; exact hr)
    rw [tableIdx, tableIdx, hc, ← Nat.div_div_eq_div_mul, ← Nat.div_div_eq_div_mul, hdiv]

/-- Settles O24: the walk by the path that is built, and by the indices at which another FVA leaves it. -/
theorem firstLeafWalks : Obligations.FirstLeafWalks := by
  unfold Obligations.FirstLeafWalks
  intro s t p page lv l ht he hr h2 h4 hp hmod hv hl hok h
  obtain ⟨T, hm, hbytes, hdig⟩ := mapLeaf_first ht he hr (by omega) h
  have hwalk : ∀ g, walkWith t p (fun _ => none) g = walkFrom t (part t p) (fun _ => none) g 4 1 (T 1) := fun g => by rw [walkWith, hm.root]
  have hsize : page + pagesAt lv ≤ 2 ^ 34 := by
    obtain rfl | rfl | rfl : lv = 2 ∨ lv = 3 ∨ lv = 4 := by omega
    all_goals simp only [pagesAt] at hmod ⊢; omega
  refine ⟨fun g hg1 hg2 => ?_, fun g hg hout => ?_, ?_, hdig⟩
  · rw [hwalk]
    obtain ⟨hf, hlen⟩ := hm.walk_same h4 hv hl hok ((tableIdx_agree h2 h4 hp (by omega) hmod).2 ⟨hg1, hg2⟩) (lv - 1) 1 le_rfl (by omega) (n := 4)
      (by omega)
    exact ⟨hf, by omega⟩
  · rw [hwalk]
    refine hm.walk_other h4 (lv - 1) 1 le_rfl (by omega) (by omega) ?_
    by_contra hno
    have hsame := (tableIdx_agree (g := g) h2 h4 hp hg hmod).1 fun i h1 hi => by
      by_contra hne
      exact hno ⟨i, h1, hi, hne⟩
    omega
  · rw [hbytes]
    obtain rfl | rfl | rfl : lv = 2 ∨ lv = 3 ∨ lv = 4 := by omega
    all_goals rfl

end Sys2Proof.Machine
end

section
/-! Queue commands and group commands (R119 to R123, R152 to R159, R184). -/

namespace Sys2Proof.Machine

section QueueRow

variable {s s' : State} {r : Req} {q : Nat} {m : Msg} {c : Instr} {checks : State → List (Bool × Status)} {eff : State → Answer}
variable (h : canRun s c = true) (hm : msgRow s c = some (r, m, queOwner s q))
include h hm

/-- A queue command is served for the partition that its queue belongs to. -/
theorem canRun_queue {b : Bytes} (hc : firstFail (checks (heard r.src s)) = none) (he : eff (heard r.src s) = (s', some b)) :
    run (fun s => message r m (queOwner s q) c checks eff s) s = .next (answer r .ok b s') := canRun_ok h hm hc he

theorem canRun_queue_refused {st : Status} (hc : firstFail (checks (heard r.src s)) = some st) (hst : st ≠ .lost) :
    run (fun s => message r m (queOwner s q) c checks eff s) s = .next (answer r st [] (heard r.src s)) := canRun_refused h hm hc hst

end QueueRow

theorem que_heard (src : Src) (s : State) (q : Nat) : que (heard src s) q = que s q := by rw [que, heard_qs]; rfl

theorem answer_out (r : Req) (st : Status) (b : Bytes) (s : State) :
    (answer r st b s).out = .resp r.src r.txn r.tag r.minor st b :: s.out := respond_out ..

theorem answersAfter_of {c : Instr} {s x : State} {r : Req} (h : exec c s = .next (answer r .ok [] (settled x))) (hq : quiet x = quiet s) :
    answersAfter c s r x := ⟨h, fun hs => by rw [h, settled_quiet (hq.trans hs)]⟩

/-- Settles O26: each by its row. -/
theorem queueCommands : Obligations.QueueCommands := by
  unfold Obligations.QueueCommands
  refine ⟨fun s r a p att h hst hr hp ha => ?_, fun s r q h hst ht => answersAfter_of ?_ ?_, fun s r q h hst ho => ⟨answer r .ok [] (destroyQueue q (heard r.src s)), ?_, ?_⟩,
    fun s r q h hst ho => ?_, fun s r q h => ?_⟩
  all_goals obtain ⟨g, hg⟩ := heard_form r.src s
  · refine canRun_queue h rfl ?_ ?_
    · rw [hg]
      exact (firstFail_skip (bne_eq_false_iff_eq.2 hst)).trans <| firstFail_skip hr
    · have hp' : partOfQueue (heard r.src s) a.q = some p := by rw [hg]; exact hp
      have ha' : srcAttach (heard r.src s) r.src = some att := (heard_srcAttach ..).trans ha
      simp only [hp', ha']
      rfl
  · refine canRun_queue h rfl ?_ ?_
    · rw [hg]
      refine firstFail_skip (show ((que s q).st != .halted || partIn s (que s q).part [.torn]) = false from ?_)
      rw [partIn_false (by simpa using ht), hst]
      rfl
    · rw [hg]; rfl
  · rw [hg]; rfl
  · refine canRun_queue h rfl ?_ rfl
    rw [hg]
    exact (firstFail_skip (beq_eq_false_iff_ne.2 hst)).trans <| firstFail_skip (show (!(que s q).ops.isEmpty) = false by rw [ho]; rfl)
  · refine ⟨?_, ?_, ?_, ?_, ?_, ?_⟩
    · rw [answer_qs, hg]; rfl
    · rw [answer_qs, hg]
      intro e he
      obtain ⟨hm, hq⟩ := List.mem_filter.1 he
      exact ⟨hm, bne_iff_ne.1 hq⟩
    · rw [answer_qs, hg]; rfl
    · rw [answer_qs, hg]; rfl
    · rw [answer_out, hg]; rfl
    · refine sameBut_trans ?_ (sameBut_mono answer_sameBut (by decide))
      rw [hg]
      exact sameBut_of_eq rfl
  · refine canRun_queue_refused h rfl ?_ (by decide)
    rw [hg]
    exact (firstFail_skip (beq_eq_false_iff_ne.2 hst)).trans <| firstFail_hit (show (!(que s q).ops.isEmpty) = true by simpa using ho)
  · exact canRun_queue h rfl rfl (by rw [hg]; rfl)

theorem noCtx_false {c : Nat} (h : c ≤ 4095) : noCtx c = false := decide_eq_false (by omega)

theorem grpSt_building {s : State} {ctx : Nat} {g : Grp} (h : s.col.grps.find ctx = some g) (hb : g.st = .building) :
    (grpSt s ctx != some .building) = false := by rw [grpSt, h, Option.map_some, hb]; rfl

/-- A group in which no collective runs is freed with its work. -/
theorem destroyGrp_idle {s : State} {ctx : Nat} (h : colRunning s ctx = []) : destroyGrp ctx s =
    { s with col := { s.col with
                      grps := s.col.grps.del ctx, mems := s.col.mems.filter (fun m => m.ctx ≠ ctx),
                      verts := s.col.verts.filter (fun v => v.ctx ≠ ctx), tops := s.col.tops.filter (fun t => t.ctx ≠ ctx) } } := by
  simp only [destroyGrp, h, List.foldl_nil, bne, beq_eq_decide, decide_not]

/-- Settles O27: each by its row. -/
theorem groupBuilding : Obligations.GroupBuilding := by
  unfold Obligations.GroupBuilding
  refine ⟨fun s r p h hd hl hr ho hf => ?_,
    fun s r ctx first es g h hd hc hg hst hr ho => ?_, fun s r ctx es g h hc hg hst hr hl hf => ?_, fun s r ctx g h hc hg hst hn hk => ?_,
    fun s r ctx h hc hg => ?_, fun s ctx h => destroyGrp_idle h, fun s r ctx h hc => ?_⟩
  · obtain ⟨g, hg⟩ := heard_form r.src s
    have hx : exec (.grpCreate r p) s = .next (answer r .ok [] (createGrp p (heard r.src s))) := by
      refine canRun_ok h rfl ?_ rfl
      rw [hg]
      exact (firstFail_skip hd).trans <| (firstFail_skip hl).trans <| (firstFail_skip hr).trans <| (firstFail_skip ho).trans <| firstFail_skip hf
    have hcol : (answer r .ok [] (createGrp p (heard r.src s))).col = (createGrp p s).col := by rw [answer_col, hg]; rfl
    refine ⟨_, hx, ⟨_, congrArg (·.grps) hcol, rfl, rfl, rfl, rfl, rfl, rfl, rfl, rfl⟩, congrArg (·.mems) hcol, congrArg (·.verts) hcol,
      congrArg (·.tops) hcol, ?_, ?_⟩
    · rw [answer_out, hg]; rfl
    · refine sameBut_trans ?_ (sameBut_mono answer_sameBut (by decide))
      rw [hg]
      exact sameBut_of_eq rfl
  · obtain ⟨k, hk⟩ := heard_form r.src s
    refine canRun_ok h rfl ?_ ?_
    · rw [hk]
      exact (firstFail_skip hd).trans <| (firstFail_skip (noCtx_false hc)).trans <| (firstFail_skip (grpSt_building hg hst)).trans <|
        (firstFail_skip hr).trans <| firstFail_skip ho
    · have hg' : (heard r.src s).col.grps.find ctx = some g := by rw [heard_col]; exact hg
      simp only [done, onGrp, hg']
  · obtain ⟨k, hk⟩ := heard_form r.src s
    refine canRun_ok h rfl ?_ ?_
    · rw [hk]
      have hlost : es.any (fun h => isLost s h.host) = false := List.any_eq_false.2 fun x hx => by rw [hl x hx]; decide
      exact (firstFail_skip (noCtx_false hc)).trans <| (firstFail_skip (grpSt_building hg hst)).trans <| (firstFail_skip hr).trans <|
        (firstFail_skip hlost).trans <| firstFail_skip (decide_eq_false (Nat.not_lt.2 hf))
    · have hg' : (heard r.src s).col.grps.find ctx = some g := by rw [heard_col]; exact hg
      simp only [done, onGrp, hg']
  · obtain ⟨k, hk'⟩ := heard_form r.src s
    refine canRun_ok h rfl ?_ ?_
    · rw [hk']
      have hstate : armState s ctx = false := by
        rw [armState, hg]
        show (g.st != .building || decide (g.members.length < g.p.n)) = false
        rw [hst, decide_eq_false (by omega)]
        rfl
      exact (firstFail_skip (noCtx_false hc)).trans <| (firstFail_skip hstate).trans <| firstFail_skip hk
    · have hg' : (heard r.src s).col.grps.find ctx = some g := by rw [heard_col]; exact hg
      simp only [armGrp, hg']
  · obtain ⟨k, hk⟩ := heard_form r.src s
    refine canRun_ok h rfl ?_ rfl
    rw [hk]
    refine (firstFail_skip (noCtx_false hc)).trans <| firstFail_skip (show (s.col.grps.find ctx).isNone = false from ?_)
    cases hf : s.col.grps.find ctx with
    | none => rw [hf] at hg; cases hg
    | some g => rfl
  · exact canRun_ok h rfl (firstFail_skip (noCtx_false hc)) (by obtain ⟨k, hk⟩ := heard_form r.src s; rw [hk]; rfl)

end Sys2Proof.Machine
end

section
/-! Messages on endpoints, multicast trees and the analysis port (R210 to R214, R227, R231, R235 to R239). -/

namespace Sys2Proof.Machine

theorem answersAfter_still {c : Instr} {s x : State} {r : Req} (h : exec c s = .next (answer r .ok [] (settled x)))
    (hq : quiet s = true → quiet x = true) : answersAfter c s r x := ⟨h, fun hs => by rw [h, settled_quiet (hq hs)]⟩

/-! ### Path sets (R327) -/

theorem retryRoutes_none {s : State} (h : s.fab.noRoute = []) : retryRoutes s = s := by
  have hs : { s with fab := { s.fab with noRoute := [] } } = s := by rw [← h]
  rw [retryRoutes, h, hs]
  rfl

/-- Distances are a matter of which modules neighbour which. -/
theorem hops_congr {s t : State} (h : neighbours t = neighbours s) (block : Nat → Bool) (dst n : Nat) (seen front : List Nat) (k : Nat) :
    hops t block dst n seen front k = hops s block dst n seen front k := by
  induction n generalizing seen front k with
  | zero => rfl
  | succ n ih =>
    simp only [hops, h]
    split
    · rfl
    · split
      · rfl
      · exact ih ..

theorem distance_congr {s t : State} (h : neighbours t = neighbours s) (hl : t.rep.lsdb.length = s.rep.lsdb.length) :
    distance t = distance s := by
  funext block a b
  rw [distance, distance, hl, hops_congr h]

/-- The path set toward a module does not turn on the endpoint table, the home map, or which EPIDs are out of service. -/
theorem pathSet_congr (s : State) (g : Mgt) (ep : Tab Ep) (hm : Tab (Nat × Bool)) (o : List Nat) (h : Nat) :
    pathSet { s with mgt := g, fab := { s.fab with ep := ep, homeMap := hm }, rep := { s.rep with out := o } } h = pathSet s h := by
  have hd : distance { s with mgt := g, fab := { s.fab with ep := ep, homeMap := hm }, rep := { s.rep with out := o } } = distance s :=
    distance_congr rfl rfl
  simp only [pathSet, minimalRecs, hd]
  rfl

/-- An entry toward another module, that no flow uses, takes its path set; nothing else changes. -/
theorem installPath_far {e : Nat} {s : State} (hv : (endpoint s e).v = true) (hl : (endpoint s e).isLocal = false)
    (hf : ∀ f ∈ s.fab.sflow, f.1 / 8 % 2 ^ 17 ≠ e) :
    (installPath e s).fab.ep.get Ep.init e =
        { endpoint s e with
          members := (pathSet s (endpoint s e).home).1, detour := (pathSet s (endpoint s e).home).2,
          pathVer := if (pathSet s (endpoint s e).home).1 = (endpoint s e).members ∧ (pathSet s (endpoint s e).home).2 = (endpoint s e).detour
            then (endpoint s e).pathVer else ((endpoint s e).pathVer + 1) % 65536 } ∧
      (∀ k, k ≠ e → endpoint (installPath e s) k = endpoint s k) ∧
      installPath e s = { s with fab := { s.fab with ep := (installPath e s).fab.ep } } := by
  have hnone : s.fab.sflow.filter (fun f => f.1 / 8 % 2 ^ 17 == e) = [] := by
    simpa only [List.filter_eq_nil_iff, beq_iff_eq] using hf
  unfold installPath
  rw [if_neg (by rw [hv, hl]; decide)]
  by_cases h : (pathSet s (endpoint s e).home).1 = (endpoint s e).members ∧ (pathSet s (endpoint s e).home).2 = (endpoint s e).detour
  · rw [if_pos h, if_pos h, h.1, h.2]
    exact ⟨rfl, fun _ _ => rfl, rfl⟩
  · rw [if_neg h, if_neg h]
    simp only [hnone, List.foldl_nil]
    refine ⟨by rw [Tab.get_put, if_pos rfl], fun k hk => ?_, trivial⟩
    show Tab.get .. = Tab.get ..
    rw [Tab.get_put, if_neg hk]

/-! ### Endpoints and trees -/

theorem homeHere_iff (s : State) (home : Nat) : homeHere s home = true ↔ home = s.sys.moduleId := beq_iff_eq

/-- EPID_ASSIGN, its parameters in range, of an entry not in use. -/
theorem exec_epidAssign {s : State} {r : Req} {e kind att home : Nat} (h : canRun s (.epidAssign r e kind att home) = true)
    (hrole : s.sys.spine = true → home = s.sys.moduleId → kind = 2) (hr : assignRange s e kind att home = false)
    (hv : (endpoint s e).v = false) :
    exec (.epidAssign r e kind att home) s = .next (answer r .ok [] (settled (assign e kind att home (heard r.src s)))) := by
  refine canRun_ok h rfl ?_ rfl
  obtain ⟨g, hg⟩ := heard_form r.src s
  rw [hg]
  refine (firstFail_skip (show (s.sys.spine && homeHere s home && decide (kind ≤ 1)) = false from ?_)).trans <|
    (firstFail_skip hr).trans <| firstFail_skip hv
  by_contra hn
  simp only [Bool.not_eq_false, Bool.and_eq_true, homeHere_iff, decide_eq_true_eq] at hn
  have := hrole hn.1.1 hn.1.2
  omega

/-- The entry of an EPID of this module is written as it is. -/
theorem assign_here {s : State} {e kind att home : Nat} (hh : home = s.sys.moduleId) (hn : s.fab.noRoute = []) : assign e kind att home s =
    { s with
      fab := { s.fab with
        ep := s.fab.ep.put Ep.init e ⟨true, true, kind, att, home, false,
          ((endpoint s e).pathVer + bit ((endpoint s e).detour || !(endpoint s e).members.isEmpty)) % 65536, []⟩,
        homeMap := if kind = 1 then s.fab.homeMap.ins home (e, false) else s.fab.homeMap },
      rep := { s.rep with out := s.rep.out.filter (fun x => x ≠ e) } } := by
  have hhere : homeHere s home = true := (homeHere_iff ..).2 hh
  unfold assign
  simp only [hhere, Bool.not_true, Bool.and_false, Bool.true_and, if_true, bne, beq_eq_decide, ← decide_not]
  rw [installPath, if_pos (by simp only [endpoint, Tab.get_put, if_true, Bool.or_true]), retryRoutes_none (by exact hn)]

/-- The entry of an EPID of another module, that no flow names, takes its path set. -/
theorem assign_far {s : State} {e kind att home : Nat} (hh : home ≠ s.sys.moduleId) (hn : s.fab.noRoute = [])
    (hf : ∀ f ∈ s.fab.sflow, f.1 / 8 % 2 ^ 17 ≠ e) : let t := assign e kind att home s
    t.fab.ep.get Ep.init e = ⟨true, false, kind, att, home, (pathSet s home).2,
      ((endpoint s e).pathVer +
        (if (pathSet s home).1 = (endpoint s e).members ∧ (pathSet s home).2 = (endpoint s e).detour then 0 else 1)) % 65536,
      (pathSet s home).1⟩ ∧
    (∀ k, k ≠ e → endpoint t k = endpoint s k) ∧
    t.fab.homeMap = (if kind = 1 then s.fab.homeMap.ins home (e, false) else s.fab.homeMap) ∧
    t = { s with fab := { s.fab with ep := t.fab.ep, homeMap := t.fab.homeMap }, rep := { s.rep with out := t.rep.out } } := by
  have hhere : homeHere s home = false := Bool.eq_false_iff.2 fun h => hh ((homeHere_iff ..).1 h)
  unfold assign
  simp only [hhere, Bool.not_false, Bool.and_true, Bool.false_and, Bool.false_eq_true, if_false]
  generalize hu : ({ s with
    fab := { s.fab with
      ep := s.fab.ep.put Ep.init e ⟨true, false, kind, att, home, (endpoint s e).detour, ((endpoint s e).pathVer + bit false) % 65536,
        (endpoint s e).members⟩,
      homeMap := if kind = 1 then s.fab.homeMap.ins home (e, false) else s.fab.homeMap },
    rep := { s.rep with out := s.rep.out.filter (fun x => x != e) } } : State) = u
  have hue : endpoint u e = ⟨true, false, kind, att, home, (endpoint s e).detour, ((endpoint s e).pathVer + bit false) % 65536,
      (endpoint s e).members⟩ := by
    rw [← hu]
    show Tab.get .. = _
    rw [Tab.get_put, if_pos rfl]
  have hps : pathSet u home = pathSet s home := by
    rw [← hu]
    exact pathSet_congr s s.mgt _ _ _ home
  obtain ⟨h1, h2, h3⟩ := installPath_far (e := e) (s := u) (by rw [hue]) (by rw [hue]) (by rw [← hu]; exact hf)
  rw [retryRoutes_none (by rw [h3, ← hu]; exact hn)]
  refine ⟨?_, fun k hk => ?_, ?_, ?_⟩
  · rw [h1, hue]
    simp only [hps]
    congr 1
    split
    · rfl
    · exact Nat.mod_add_mod ..
  · rw [h2 k hk, ← hu]
    show Tab.get .. = Tab.get ..
    rw [Tab.get_put, if_neg hk]
  · rw [h3, ← hu]
  · rw [h3, ← hu]

theorem quiet_endpoints (s : State) (g : Mgt) (ep : Tab Ep) (hm : Tab (Nat × Bool)) (o : List Nat) :
    quiet { s with mgt := g, fab := { s.fab with ep := ep, homeMap := hm }, rep := { s.rep with out := o } } = quiet s := rfl

/-- A table of flows of which some are taken off holds only what it held. -/
theorem Tab.mem_keep {β : Type} {t : Tab β} {f : Nat → β → Bool} {e : Nat × β} (h : e ∈ t.keep f) : e ∈ t := (List.mem_filter.1 h).1

theorem quiet_release (e : Nat) {s : State} (h : quiet s = true) : quiet (release e s) = true := by
  unfold release freeFlows
  simp only [quiet, Bool.and_eq_true, List.all_eq_true] at h ⊢
  obtain ⟨⟨⟨⟨⟨⟨⟨⟨⟨⟨⟨⟨⟨h1, h2⟩, h3⟩, hs⟩, h4⟩, h5⟩, h6⟩, h7⟩, h8⟩, hw⟩, he⟩, h9⟩, h10⟩, h11⟩ := h
  exact ⟨⟨⟨⟨⟨⟨⟨⟨⟨⟨⟨⟨⟨h1, h2⟩, h3⟩, hs⟩, fun x hx => h4 x (Tab.mem_keep hx)⟩, fun x hx => h5 x (Tab.mem_keep hx)⟩, h6⟩, h7⟩, h8⟩, hw⟩, he⟩, h9⟩,
    h10⟩, h11⟩

/-- Settles O28: each by its row. -/
theorem endpointTable : Obligations.EndpointTable := by
  unfold Obligations.EndpointTable
  refine ⟨fun s r e kind att home h hh hrole hr hv hn => ?_, fun s r e kind att home h hh hr hv hn hf => ?_,
    fun s r e kind att home h hr hrole hv => ?_, fun s r e h he hv => ?_, fun s r n e h hd hb hr hl => ?_, fun s r n e h hd hb => ?_,
    fun s r n h hn hb => ?_, fun s r n h hn hb => ?_, fun s r i h hi => ?_, fun s r i h hi => ?_, fun s r i h => ?_⟩
  all_goals obtain ⟨g, hg⟩ := heard_form r.src s
  · have hx := exec_epidAssign h (fun hs _ => hrole hs) hr hv
    rw [assign_here (by rw [hg]; exact hh) (by rw [hg]; exact hn)] at hx
    rw [hg] at hx ⊢
    exact answersAfter_of hx rfl
  · obtain ⟨h1, h2, h3, h4⟩ := assign_far (s := { s with mgt := g }) (kind := kind) (att := att) hh hn hf
    have hps : pathSet { s with mgt := g } home = pathSet s home := pathSet_congr s g s.fab.ep s.fab.homeMap s.rep.out home
    rw [hps] at h1
    have hx := exec_epidAssign h (fun _ hm => absurd hm hh) hr hv
    rw [hg] at hx
    refine ⟨_, _, hx, fun hq => settled_quiet ?_, h1, rfl, rfl, rfl, rfl, rfl, h2, rfl, rfl, rfl, h3, ?_⟩
    · rw [h4]; exact hq
    · rw [h4]; exact sameBut_of_eq rfl
  · refine canRun_refused h rfl ?_ (by decide)
    rw [hg]
    refine (firstFail_skip (show (s.sys.spine && homeHere s home && decide (kind ≤ 1)) = false from ?_)).trans <|
      (firstFail_skip hr).trans <| firstFail_hit hv
    by_contra hn
    simp only [Bool.not_eq_false, Bool.and_eq_true, homeHere_iff, decide_eq_true_eq] at hn
    have := hrole hn.1.1 hn.1.2
    omega
  · have hx : exec (.epidRelease r e) s = .next (answer r .ok [] (settled (release e (heard r.src s)))) := by
      refine canRun_ok h rfl ?_ rfl
      rw [hg]
      exact (firstFail_skip (decide_eq_false (Nat.not_le.2 he))).trans <|
        firstFail_skip (show (!(endpoint s e).v) = false by rw [hv]; rfl)
    rw [hg] at hx ⊢
    exact answersAfter_still hx fun hq => quiet_release e (s := { s with mgt := g }) hq
  · refine canRun_ok h rfl ?_ (by rw [hg]; rfl)
    rw [hg]
    exact (firstFail_skip hd).trans <| (firstFail_skip hb).trans <| (firstFail_skip hr).trans <| firstFail_skip hl
  · refine canRun_refused h rfl ?_ (by decide)
    rw [hg]
    exact (firstFail_skip hd).trans <| firstFail_hit hb
  · refine canRun_ok h rfl ?_ (by rw [hg]; rfl)
    rw [hg]
    exact (firstFail_skip (decide_eq_false (Nat.not_lt.2 hn))).trans <| firstFail_skip hb
  · refine canRun_refused h rfl ?_ (by decide)
    rw [hg]
    exact (firstFail_skip (decide_eq_false (Nat.not_lt.2 hn))).trans <| firstFail_hit hb
  · exact canRun_ok h rfl (firstFail_skip (by simpa using hi)) (by rw [hg]; rfl)
  · exact canRun_ok h rfl (firstFail_skip (by simpa using hi)) (by rw [hg]; rfl)
  · exact canRun_ok h rfl (firstFail_skip rfl) (by rw [hg]; rfl)

/-! ### The analysis port (R235 to R239) -/

/-- What the switch does after a change of repair's record. -/
theorem SwitchedFrom.rep {s u t : State} (h : SwitchedFrom u t) (hu : Machine.sameBut [.rep] s u) : SwitchedFrom { s with rep := t.rep } t := by
  have hr : t.rep = u.rep := h.1 .rep (by decide)
  have hs : { s with rep := u.rep } = u := (sameBut_iff.1 hu).symm
  rw [hr, hs]
  exact h

theorem storeLsa_sameBut {l : Lsa} {s : State} : sameBut [.rep] s (storeLsa l s) := by
  have hfresh : ∀ b : Bool, sameBut [.rep] s (if b then startHold { s with rep := { s.rep with lsdb := s.rep.lsdb.ins l.origin l } }
      else { s with rep := { s.rep with lsdb := s.rep.lsdb.ins l.origin l } }) := by
    intro b
    cases b
    · exact sameBut_of_eq rfl
    · simp only [startHold, if_true]
      split
      · exact sameBut_of_eq rfl
      · exact sameBut_of_eq rfl
  exact hfresh _

theorem switched_floodLsa {l : Lsa} {arrival : Option Nat} {s : State} : SwitchedFrom s (floodLsa l arrival s) :=
  switched_foldl fun _ _ => switched_enterBuffer

/-- An advertisement of the module changes repair's record, and goes out as the switch lets it. -/
theorem switched_originateLsa {s : State} : SwitchedFrom { s with rep := (originateLsa s).rep } (originateLsa s) :=
  switched_floodLsa.rep (sameBut_trans (sameBut_of_eq rfl) storeLsa_sameBut)

theorem switched_changeLsa {s : State} : SwitchedFrom { s with rep := (changeLsa s).rep } (changeLsa s) := by
  unfold changeLsa
  split
  · split
    · exact .refl s
    · exact switched_originateLsa
  · exact switched_originateLsa

theorem changeLsa_sameBut {s : State} : sameBut [.out, .regs, .fab, .rep, .opt] s (changeLsa s) :=
  sameBut_trans (sameBut_of_eq rfl) (switched_changeLsa.sameBut (by decide))

/-- Without an analysis port enabled, advertising changes no endpoint, no tree entry, and nothing of the analysis port. -/
theorem changeLsa_core (s : State) : CoreFrom s.fab (changeLsa s).fab := switched_changeLsa.2.1

/-- Every job of a list leaves the consent list of the analysis port. -/
theorem foldl_dropConsent (l : List Nat) (s : State) : l.foldl (fun s j => dropConsent j s) s =
    { s with fab := { s.fab with ana := { s.fab.ana with jobs := s.fab.ana.jobs.filter (fun j => !l.contains j),
                                                         queue := s.fab.ana.queue.filter (fun x => !l.contains x.1) } } } := by
  induction l generalizing s with
  | nil => simp
  | cons j l ih =>
    rw [List.foldl_cons, ih]
    simp only [dropConsent, List.filter_filter, List.contains_cons, Bool.not_or, Bool.and_comm, bne]

/-- Settles O29: each by its row. -/
theorem analysisPort : Obligations.AnalysisPort := by
  unfold Obligations.AnalysisPort
  refine ⟨fun s r a h he ha => ?_, fun s r tok h hj => ?_, fun s r job h => ?_, fun s r job h => ?_, fun s r off job h => ?_⟩
  all_goals obtain ⟨g, hg⟩ := heard_form r.src s
  · refine canRun_ok h rfl ?_ rfl
    rw [hg]
    exact (firstFail_skip he).trans <| firstFail_skip ha
  · rw [hg]
    have hok : anaTokenOk { s with mgt := g } tok = anaTokenOk s tok := rfl
    have hnew : s.fab.ana.jobs.contains (leNat ((tok.drop 4).take 4)) = false := by simpa using hj
    have hfull : anaFull { s with mgt := g } (tokenField tok 4 4) = decide (16 ≤ s.fab.ana.jobs.length) := by
      show (!s.fab.ana.jobs.contains (leNat ((tok.drop 4).take 4)) && decide (16 ≤ s.fab.ana.jobs.length)) = _
      rw [hnew]
      rfl
    by_cases ht : anaTokenOk s tok = false
    · rw [if_pos ht]
      refine canRun_later h rfl rfl ?_
      rw [hg]
      simp only [hok, ht]
      rfl
    · rw [if_neg ht]
      by_cases hlen : s.fab.ana.jobs.length < 16
      · rw [if_pos hlen]
        refine canRun_ok h rfl rfl ?_
        rw [hg]
        simp only [hok, ht, hfull, decide_eq_false (Nat.not_le.2 hlen)]
        exact congrArg done (if_neg (ne_of_eq_of_ne hnew Bool.false_ne_true))
      · rw [if_neg hlen]
        refine canRun_later h rfl rfl ?_
        rw [hg]
        simp only [hok, ht, hfull, decide_eq_true (Nat.not_lt.1 hlen)]
        rfl
  · have hx : exec (.anaClear r false false job) s = .next (answer r .ok [] (settled (dropConsent job (heard r.src s)))) := canRun_ok h rfl rfl rfl
    simp only [dropConsent, hg, bne, beq_eq_decide, ← decide_not] at hx ⊢
    refine answersAfter_still hx fun hq => ?_
    have he : s.fab.ana.queue = [] := by
      obtain ⟨-, -, -, hs, -⟩ := quiet_parts hq
      simp only [switchQuiet, Bool.and_eq_true, List.isEmpty_iff] at hs
      exact hs.1.2
    simp only [he, List.filter_nil]
    rw [← hq]
    simp only [quiet, switchQuiet, he]
  · have hx : exec (.anaClear r false true job) s = .next (answer r .ok [] (settled (stopAna (dropConsent job (heard r.src s))))) :=
      canRun_ok h rfl rfl rfl
    simp only [stopAna, dropConsent, bne, beq_eq_decide, ← decide_not] at hx
    rw [hx, hg]
  · have hx : exec (.anaClear r true off job) s = .next (answer r .ok [] (settled
        (if off then stopAna ((heard r.src s).fab.ana.jobs.foldl (fun s j => dropConsent j s) (heard r.src s))
          else (heard r.src s).fab.ana.jobs.foldl (fun s j => dropConsent j s) (heard r.src s)))) := canRun_ok h rfl rfl rfl
    rw [hg, foldl_dropConsent] at hx
    refine ⟨_, hx, ?_⟩
    have hnone : s.fab.ana.jobs.filter (fun j => !s.fab.ana.jobs.contains j) = [] := by
      rw [List.filter_eq_nil_iff]
      intro j hj
      simpa using hj
    cases off with
    | false => exact ⟨hnone, (Bool.and_true _).symm, nofun, fun _ => rfl, rfl, rfl, sameBut_of_eq rfl⟩
    | true =>
      simp only [if_true, stopAna]
      obtain ⟨hc, hq⟩ := changeLsa_core { s with mgt := g, fab := { s.fab with ana := { s.fab.ana with
        jobs := s.fab.ana.jobs.filter (fun j => !s.fab.ana.jobs.contains j), en := false, queue := [] } } }
      refine ⟨?_, ?_, fun _ => hq rfl, nofun, ?_, ?_, sameBut_trans (sameBut_of_eq rfl) (sameBut_mono changeLsa_sameBut (by decide))⟩
      · rw [hc]; exact hnone
      · rw [hc]; exact (Bool.and_false _).symm
      · rw [hc]
      · rw [hc]

end Sys2Proof.Machine
end

section
/-! Power states and self-tests (R402, R423, R431). -/

namespace Sys2Proof.Machine

/-! ### A table of which every entry has a property -/

theorem Tab.get_of_all {α : Type} {P : α → Prop} {d : α} {t : Tab α} (h0 : P d) (h : ∀ e ∈ t, P e.2) (k : Nat) : P (t.get d k) := by
  induction t with
  | nil => exact h0
  | cons x t ih =>
    simp only [Tab.get]
    split
    · exact h x (List.mem_cons_self ..)
    · exact ih fun e he => h e (List.mem_cons_of_mem _ he)

theorem Tab.all_put {α : Type} [DecidableEq α] {P : α → Prop} {d : α} {t : Tab α} {k : Nat} {v : α} (h : ∀ e ∈ t, P e.2) (hv : P v) :
    ∀ e ∈ t.put d k v, P e.2 := by
  intro e he
  unfold Tab.put at he
  split at he
  · exact h e (Tab.mem_del _ _ _ he)
  · rcases Tab.mem_ins _ _ _ _ he with rfl | he
    · exact hv
    · exact h e he

/-- A quiet state stays quiet when a CXL port changes that holds no request. -/
theorem quiet_setCxl {s : State} {p : Nat} {c : CxlPort} (h : quiet s = true) (hc : c.held = []) : quiet (setCxl s p c) = true := by
  have hp : (setCxl s p c).cxl.ports.all (fun e => e.2.held.isEmpty) = true := by
    obtain ⟨-, -, -, -, -, -, -, -, -, -, -, h9, -⟩ := quiet_parts h
    rw [List.all_eq_true]
    exact Tab.all_put (P := fun x : CxlPort => x.held.isEmpty = true) (fun e he => by rw [h9 e he]; rfl) (by rw [hc]; rfl)
  unfold quiet at h ⊢
  simp only [Bool.and_eq_true] at h ⊢
  obtain ⟨⟨⟨h1, -⟩, h2⟩, h3⟩ := h
  exact ⟨⟨⟨h1, hp⟩, h2⟩, h3⟩

theorem quiet_held {s : State} (h : quiet s = true) (p : Nat) : (cxlPort s p).held = [] := by
  obtain ⟨-, -, -, -, -, -, -, -, -, -, -, h9, -⟩ := quiet_parts h
  exact Tab.get_of_all (P := fun x : CxlPort => x.held = []) rfl h9 p

theorem quiet_enableMem {s : State} (h : quiet s = true) : quiet (enableMem s) = true := by
  unfold enableMem
  refine List.foldlRecOn (motive := fun t => quiet t = true) _ _ h fun t ht p _ => ?_
  dsimp only
  split
  · exact quiet_setCxl ht (quiet_held ht p)
  · exact ht

/-! ### Self-tests -/

/-- SELFTEST has no checks of its own: its kind says what it does. -/
theorem exec_selftest {s : State} {r : Req} {k p : Nat} {x : State} (h : canRun s (.selftest r k p) = true)
    (he : (if k = 0 then done (heard r.src s) else if k = 1 then optCal r p (heard r.src s) else if k = 2 then sramBist r (heard r.src s)
      else if k = 3 then gddrRetrain r (heard r.src s) else testRefused r .range (heard r.src s)) = done x) :
    exec (.selftest r k p) s = .next (answer r .ok [] x) := canRun_ok h rfl rfl he

/-- A kind that answers by itself, before its effect or with a refusal. -/
theorem exec_selftest_own {s : State} {r : Req} {k p : Nat} {x : State} (h : canRun s (.selftest r k p) = true)
    (he : (if k = 0 then done (heard r.src s) else if k = 1 then optCal r p (heard r.src s) else if k = 2 then sramBist r (heard r.src s)
      else if k = 3 then gddrRetrain r (heard r.src s) else testRefused r .range (heard r.src s)) = (x, none)) :
    exec (.selftest r k p) s = .next x := canRun_later h rfl rfl he

theorem exec_lightingDone {s : State} (hl : live s = true) : exec .lightingDone s = .next (settled (lit s)) := by
  show execLightingDone s = _
  rw [execLightingDone, run_live hl]

/-- Settles O30: each by its row. -/
theorem powerStates : Obligations.PowerStates := by
  unfold Obligations.PowerStates
  refine ⟨fun s r h hd hs => ?_, fun s r h hd hs => ?_, fun s r h hd => ?_, fun s r h hd hb => ?_, fun s r h hd hb => ?_,
    fun s hl hst hp => ?_, fun s hl hst => ?_, fun s hl hst hp => ?_, fun s hl hst => ?_, fun s r p h => ?_, fun s r p h hp hu => ?_,
    fun s r p h hp hu => ?_, fun s r p h hp => ?_, fun s r p h hb => ?_, fun s r p h hb => ?_, fun s r p h hs hb => ?_, fun s r p h hs => ?_,
    fun s r p h hs hb => ?_, fun s r k p h hk => ?_⟩
  case refine_6 =>
    have hx : lit s = enableMem { s with pwr := { s.pwr with st := .lit } } := if_pos ⟨hst, hp⟩
    have h := exec_lightingDone hl
    rw [hx] at h
    exact ⟨h, fun hq => h.trans (congrArg _ (settled_quiet (quiet_enableMem (by exact hq))))⟩
  case refine_7 =>
    have hx : lit s = s := if_neg fun h => hst h.1
    have h := exec_lightingDone hl
    rw [hx] at h
    exact endsIn_of_settled h rfl
  case refine_8 =>
    have hall : s.opt.all (fun e => e.2.st == .off) = true := List.all_eq_true.2 fun e he => beq_iff_eq.2 (hp e he)
    exact (run_live hl).trans (congrArg _ (if_pos ⟨hst, hall⟩))
  case refine_9 => exact (run_live hl).trans (congrArg _ (if_neg fun h => hst h.1))
  all_goals obtain ⟨g, hg⟩ := heard_form r.src s
  · refine canRun_ok h rfl ?_ ?_
    · rw [hg]; exact firstFail_skip (bne_eq_false_iff_eq.2 hd)
    · rw [hg]; exact congrArg done (if_pos hs)
  · refine canRun_ok h rfl ?_ ?_
    · rw [hg]; exact firstFail_skip (bne_eq_false_iff_eq.2 hd)
    · rw [hg]; exact congrArg done (if_neg (ne_of_eq_of_ne hs Bool.false_ne_true))
  · exact canRun_refused h rfl (by rw [hg]; exact firstFail_hit (bne_iff_ne.2 hd)) (by decide)
  · refine canRun_ok h rfl ?_ rfl
    rw [hg]
    exact (firstFail_skip (bne_eq_false_iff_eq.2 hd)).trans <| firstFail_skip hb
  · refine canRun_refused h rfl ?_ (by decide)
    rw [hg]
    exact (firstFail_skip (bne_eq_false_iff_eq.2 hd)).trans <| firstFail_hit hb
  · exact exec_selftest h rfl
  · refine exec_selftest h ?_
    rw [hg]
    exact (if_neg (Nat.not_le.2 hp)).trans (if_neg (not_not.2 hu))
  · refine exec_selftest_own h ?_
    rw [hg]
    exact (if_neg (Nat.not_le.2 hp)).trans (if_pos hu)
  · exact exec_selftest_own h (if_pos hp)
  · refine exec_selftest_own h ?_
    rw [hg]
    exact if_neg (ne_of_eq_of_ne hb Bool.false_ne_true)
  · refine exec_selftest_own h ?_
    rw [hg]
    exact if_pos hb
  · refine exec_selftest h ?_
    rw [hg]
    exact (if_neg (ne_of_eq_of_ne hs Bool.false_ne_true)).trans (if_neg (ne_of_eq_of_ne hb Bool.false_ne_true))
  · refine exec_selftest_own h ?_
    rw [hg]
    exact if_pos hs
  · refine exec_selftest_own h ?_
    rw [hg]
    exact (if_neg (ne_of_eq_of_ne hs Bool.false_ne_true)).trans (if_pos hb)
  · refine exec_selftest_own h ?_
    rw [if_neg (by omega), if_neg (by omega), if_neg (by omega), if_neg (by omega)]
    rfl

end Sys2Proof.Machine
end

section
/-! The state of reset, and a step on an empty queue (R372, R431, R479; log entries 2, 3 and 10). -/

namespace Sys2Proof.Machine

/-- Settles O3: what is listed nowhere reads as its default. -/
theorem resetState : Obligations.ResetState := by
  unfold Obligations.ResetState
  exact ⟨rfl, rfl, rfl, rfl, rfl, rfl, rfl, rfl, rfl, rfl, rfl, rfl, rfl, fun _ => rfl, fun _ => rfl, fun _ => rfl, fun _ => rfl, fun _ => rfl,
    fun _ => rfl, fun _ => rfl, fun _ => rfl, fun _ => rfl, fun _ => rfl, reset_canonical, fun _ => rfl⟩

/-- With no message held a step on an empty queue is what firmware does in its own time. -/
theorem step_idle {s : State} (hp : s.pending = []) (hh : s.fw.held = []) : step s = .next (idle s) := by
  have hi : idleCmd s = none := by
    rw [idleCmd, hh]
    split <;> rfl
  rw [step, hp]
  simp only [hi]

theorem logEntry_sameBut {src lv : Nat} {p : Option Nat} {pt code : Nat} {d : Bytes} {s : State} :
    sameBut [.fw] s (logEntry src lv p pt code d s) := sameBut_of_eq rfl

/-- What follows a popped record's report leaves reports alone. -/
theorem toldBoth_then {code : Nat} {payload : Bytes} {s t u : State} (h : toldBoth code payload s t)
    (hu : ∃ l k, u.fw = { t.fw with log := l, logSeq := k }) : toldBoth code payload s u := by
  obtain ⟨l, k, hu⟩ := hu
  rw [toldBoth, hu]
  exact h

/-- The binds of a record's partition hear of it by their event logs alone. -/
def popEvents (r : FRec) (s : State) : State :=
  match r.part with
  | none => s
  | some p => ((part s p).binds.map Prod.fst).foldl (fun s a => event a 2 [r.cls, r.addr, r.detail] s) s

theorem popEvents_sameBut {r : FRec} {s : State} : sameBut [.out, .cxl] s (popEvents r s) := by
  unfold popEvents
  cases r.part with
  | none => exact sameBut_refl _ s
  | some p => exact sameBut_foldl fun _ _ _ => event_sameBut

/-- The oldest fault record leaves the queue, is reported and logged, and goes to the event logs (R372). -/
theorem popFault_eq {s : State} {r : FRec} {q : List FRec} (h : s.flt.q = r :: q) :
    ∃ lv pt d, popFault s = popEvents r (logEntry 2 lv r.part pt r.cls d
      (reportRaw 0x8001 ((List.range 8).map (fun k => leBytes 4 (r.word k))).flatten { s with flt := { s.flt with q := q } })) := by
  unfold popFault
  rw [h]
  exact ⟨_, _, _, rfl⟩

/-- Settles O2: by whether the fault queue holds a record. -/
theorem idleStep : Obligations.IdleStep := by
  unfold Obligations.IdleStep
  refine ⟨fun s hp hh hq => ?_, fun s r q hp hh hq hl hf hg => ?_⟩
  · have hpop : popFault s = s := by rw [popFault, hq]
    rw [step_idle hp hh, idle, hpop, ite_self]
  · obtain ⟨lv, pt, d, hpop⟩ := popFault_eq hq
    have hi : idle s = popFault s := by
      refine if_pos ?_
      have hl : (running s && !unbound s) = true := hl
      rw [hl, hf, hg]
      rfl
    rw [step_idle hp hh, hi, hpop]
    set x := reportRaw 0x8001 ((List.range 8).map (fun k => leBytes 4 (r.word k))).flatten { s with flt := { s.flt with q := q } } with hx
    have hev : sameBut [.out, .cxl] _ (popEvents r (logEntry 2 lv r.part pt r.cls d x)) := popEvents_sameBut
    have hrep : sameBut [.out, .fw, .regs] { s with flt := { s.flt with q := q } } x := reportRaw_sameBut
    have hflt : (popEvents r (logEntry 2 lv r.part pt r.cls d x)).flt = { s.flt with q := q } :=
      (hev .flt (by decide)).trans (hrep .flt (by decide))
    refine ⟨_, rfl, by rw [hflt], by rw [hflt], ?_, ?_⟩
    · have htold : toldBoth 0x8001 ((List.range 8).map (fun k => leBytes 4 (r.word k))).flatten s x :=
        toldBoth_of_fw (by rw [hx, reportRaw_fw, reportRaw_fw])
      exact toldBoth_then htold ⟨_, _, hev .fw (by decide)⟩
    · exact sameBut_trans (sameBut_of_eq rfl) (sameBut_trans (sameBut_mono hrep (by decide))
        (sameBut_trans (sameBut_mono logEntry_sameBut (by decide)) (sameBut_mono hev (by decide))))

end Sys2Proof.Machine
end

section
/-! The margin plan, the scores of health (R421 to R425, R429). -/

namespace Sys2Proof.Machine

theorem exec_marginPlanDone {s : State} (hl : live s = true) : exec .marginPlanDone s = .next (settled (planEnd s)) := by
  show execMarginPlanDone s = _
  rw [execMarginPlanDone, run_live hl]

theorem exec_healthSecond {s : State} (hl : live s = true) : exec .healthSecond s = .next (settled (secondOver s)) := by
  show execHealthSecond s = _
  rw [execHealthSecond, run_live hl]

/-- What the first step of a plan reports before it raises the core voltage (R422). -/
def vcoreReported (s : State) : State :=
  if wantVcore s ≤ 850 then s
  else if 850 < up5 ((worstSlice s).2 + 50) then report 0x8016 (930 + (worstSlice s).1) 850 s
  else report 0x8016 (freeVal (2 ^ 64) s).1 850 (freeVal (2 ^ 64) s).2

theorem planVcore_eq (s : State) : planVcore s =
    { vcoreReported s with hlt := { (vcoreReported s).hlt with vcore := Nat.max (vcoreReported s).hlt.vcore (Nat.min (wantVcore s) 850) } } := rfl

theorem vcoreReported_sameBut (s : State) : sameBut [.out, .seed, .fw, .regs] s (vcoreReported s) := by
  unfold vcoreReported
  split
  · exact sameBut_refl _ s
  · split
    · exact sameBut_mono report_sameBut (by decide)
    · exact sameBut_trans (sameBut_of_eq rfl) (sameBut_mono report_sameBut (by decide))

theorem planVcore_vcore (s : State) : (planVcore s).hlt.vcore = Nat.max s.hlt.vcore (Nat.min (wantVcore s) 850) := by
  rw [planVcore_eq, vcoreReported_sameBut s .hlt (by decide)]

/-- Events beyond the allowance of their kind, times its weight, raise the penalty of their part. -/
theorem addEvents_one {s : State} {i k n : Nat} (hk : k < 16) (h : s.hlt.events = [(16 * i + k, n)]) : addEvents s =
    { s with hlt := { s.hlt with
      pen := s.hlt.pen.put 0 i (s.hlt.pen.get 0 i + (weightOf (partKind i) k).2 * (n - (weightOf (partKind i) k).1)), events := [] } } := by
  have hi : (16 * i + k) / 16 = i := by omega
  have hm : (16 * i + k) % 16 = k := by omega
  simp only [addEvents, h, List.foldl_cons, List.foldl_nil, hi, hm]

/-- A second without events, with no penalty standing, changes nothing. -/
theorem secondOver_none {s : State} (he : s.hlt.events = []) (hp : s.hlt.pen = []) : secondOver s = s := by
  have ha : addEvents s = s := by
    simp only [addEvents, he, List.foldl_nil]
    rw [← he]
  simp only [secondOver, ha, hp, List.map_nil, List.foldl_nil]

/-- Settles O36: each by its row. -/
theorem marginPlan : Obligations.MarginPlan := by
  unfold Obligations.MarginPlan
  refine ⟨fun s hl hf hp => ?_, fun s hl hp => ?_, fun s hl => exec_marginPlanDone hl, fun s hl hp => ?_,
    fun s => ⟨planVcore_vcore s, ?_, fun h => ?_, ?_⟩, fun s hl hd hb => ?_, fun s hl h => ?_, fun s hl => exec_healthSecond hl,
    fun s hl he hp => ?_, fun s i k n hk h => ?_, fun s hl => ⟨_, run_live hl, fun i => ?_, rfl, rfl, sameBut_of_eq rfl⟩⟩
  · exact (run_live hl).trans (congrArg _ (if_pos (by rw [hf, hp]; rfl)))
  · exact (run_live hl).trans (congrArg _ (if_neg (by rw [hp, Bool.not_true, Bool.and_false]; exact Bool.false_ne_true)))
  · have hx : planEnd s = s := if_pos (by rw [hp]; rfl)
    have h := exec_marginPlanDone hl
    rw [hx] at h
    exact endsIn_of_settled h rfl
  · rw [planVcore_vcore]
    exact Nat.le_max_left ..
  · rw [planVcore_vcore]
    exact Nat.max_le.2 ⟨h, Nat.min_le_right ..⟩
  · rw [planVcore_eq]
    exact sameBut_trans (sameBut_mono (vcoreReported_sameBut s) (by decide)) (sameBut_of_eq rfl)
  · exact (run_live hl).trans (congrArg _ (if_pos (by rw [hd, hb]; rfl)))
  · refine (run_live hl).trans (congrArg _ (if_neg ?_))
    rcases h with h | h <;> simp [h]
  · have h := exec_healthSecond hl
    rw [secondOver_none he hp] at h
    exact endsIn_of_settled h rfl
  · rw [addEvents_one hk h]
    exact ⟨by rw [Tab.get_put, if_pos rfl], fun j hj => by rw [Tab.get_put, if_neg hj], rfl, sameBut_of_eq rfl⟩
  · exact get_mapD_of_fix 0 (fun _ p => p - p / 64) s.hlt.pen i rfl

end Sys2Proof.Machine
end

section
/-! Patrol reads and sensors (R57 to R61, R419, R420, R473). -/

namespace Sys2Proof.Machine

/-! ### Words and wrong bits -/

theorem bitOf_eq_testBit (v i : Nat) : bitOf v i = v.testBit i := by
  rw [Nat.testBit_eq_decide_div_mod_eq, bitOf, beq_eq_decide]

theorem wrongBits_one {b : Nat} (hb : b < 72) : wrongBits (2 ^ b) = [b] := by
  have hf : bitOf (2 ^ b) = fun i => i == b := by
    funext i
    rw [bitOf_eq_testBit, Nat.testBit_two_pow, beq_eq_decide]
    exact decide_eq_decide.2 eq_comm
  rw [wrongBits, hf, List.filter_beq, List.count_eq_one_of_mem List.nodup_range (List.mem_range.2 hb)]
  rfl

theorem mem_wrongBits {m i : Nat} : i ∈ wrongBits m ↔ i < 72 ∧ m.testBit i = true := by
  rw [wrongBits, List.mem_filter, List.mem_range, bitOf_eq_testBit]

/-- Two wrong bits are more than one. -/
theorem wrongBits_two {b c : Nat} (hb : b < 72) (hc : c < 72) (h : b ≠ c) : 2 ≤ (wrongBits (2 ^ b ^^^ 2 ^ c)).length := by
  have hmem : ∀ i, i = b ∨ i = c → i ∈ wrongBits (2 ^ b ^^^ 2 ^ c) := by
    rintro i (rfl | rfl)
    · exact mem_wrongBits.2 ⟨hb, by simp [h.symm]⟩
    · exact mem_wrongBits.2 ⟨hc, by simp [h]⟩
  have hsub : [b, c] ⊆ wrongBits (2 ^ b ^^^ 2 ^ c) := fun i hi => hmem i (by simpa using hi)
  exact (List.subperm_of_subset (by simpa using h) hsub).length_le

theorem mem_stripe {a w : Nat} : w ∈ wordsOf (a / 256 * 256) 256 ↔ w / 32 = a / 256 := by
  simp only [wordsOf, if_neg (show (256 : Nat) ≠ 0 by decide), List.mem_map, List.mem_range]
  constructor
  · rintro ⟨i, hi, rfl⟩
    omega
  · intro h
    exact ⟨w - a / 256 * 32, by omega, by omega⟩

theorem wordsOf_nodup (a n : Nat) : (wordsOf a n).Nodup := by
  unfold wordsOf
  split
  · exact List.nodup_nil
  · exact List.nodup_range.map fun _ _ h => Nat.add_left_cancel h

/-- Where nothing of the stripe was uncorrectable, nothing is but the words that have since become so. -/
theorem badWord_of_badIn {s : State} {a w : Nat} (h : badIn s (a / 256 * 256) 256 = []) (hw : w / 32 = a / 256) : badWord s w = false := by
  simpa using List.filter_eq_nil_iff.1 h w (mem_stripe.2 hw)

/-! ### The cells of a stripe -/

theorem patrol_sameWord (a k : Nat) (hk : k < 32) : (a / 256 * 32 + k) / 32 = a / 256 := by omega

/-- The state with the wrong bits given in its cells. -/
def withFlip (f : Tab Nat) (s : State) : State := { s with pool := { s.pool with flip := f } }

theorem withFlip_none {s : State} (h : s.pool.flip = []) : withFlip [] s = s := by rw [withFlip, ← h]

theorem badWord_withFlip (f : Tab Nat) (s : State) (w : Nat) : badWord (withFlip f s) w = badWord s w := rfl

theorem flipBit_first {s : State} (h : s.pool.flip = []) (w b : Nat) : flipBit w b s = withFlip [(w, 2 ^ b)] s := by
  have hx : Nat.xor 0 (2 ^ b) = 2 ^ b := Nat.zero_xor _
  simp only [flipBit, withFlip, h, Tab.get, hx, Tab.put, if_neg (Nat.two_pow_pos b).ne', Tab.ins]

theorem flipBit_second (s : State) (w : Nat) {b c : Nat} (h : b ≠ c) :
    flipBit w c (withFlip [(w, 2 ^ b)] s) = withFlip [(w, 2 ^ b ^^^ 2 ^ c)] s := by
  have hx : Nat.xor (2 ^ b) (2 ^ c) = 2 ^ b ^^^ 2 ^ c := rfl
  have h0 : 2 ^ b ^^^ 2 ^ c ≠ 0 := fun h0 => h (Nat.pow_right_injective (le_refl 2) (Nat.xor_eq_zero_iff.1 h0))
  simp only [flipBit, withFlip, Tab.get, if_true, hx, Tab.put, if_neg h0, Tab.ins]

theorem checkRead_clean {s : State} {a : Nat} (h : ∀ e ∈ s.pool.flip, e.1 / 32 ≠ a / 256) : checkRead none (a / 256 * 256) 256 s = s := by
  have hf : s.pool.flip.filter (fun e => decide (a / 256 * 256 / 256 ≤ e.1 / 32) && decide (e.1 / 32 ≤ (a / 256 * 256 + 256 - 1) / 256)) = [] := by
    rw [List.filter_eq_nil_iff]
    intro e he
    have := h e he
    simp only [Bool.and_eq_true, decide_eq_true_eq]
    omega
  rw [checkRead, if_neg (by decide), hf]
  rfl

/-- A read of a stripe in whose cells one word has wrong bits checks that word. -/
theorem checkRead_one {s : State} {a w m : Nat} (hw : w / 32 = a / 256) :
    checkRead none (a / 256 * 256) 256 (withFlip [(w, m)] s) = checkWord w m (withFlip [(w, m)] s) := by
  have hin : (wordsOf (a / 256 * 256) 256).contains w = true := List.contains_iff_mem.2 (mem_stripe.2 hw)
  have hf : (withFlip [(w, m)] s).pool.flip.filter (fun e => decide (a / 256 * 256 / 256 ≤ e.1 / 32) &&
      decide (e.1 / 32 ≤ (a / 256 * 256 + 256 - 1) / 256)) = [(w, m)] := by
    show List.filter _ [(w, m)] = [(w, m)]
    rw [List.filter_eq_self]
    intro e he
    rw [List.mem_singleton.1 he]
    simp only [Bool.and_eq_true, decide_eq_true_eq]
    omega
  rw [checkRead, if_neg (by decide), hf]
  simp only [List.foldl_cons, List.foldl_nil, hin, Bool.not_true, Bool.and_false, Bool.false_eq_true, if_false]

theorem mendWord_one (w m : Nat) (s : State) : mendWord w (withFlip [(w, m)] s) = withFlip [] s := by
  simp [mendWord, withFlip, Tab.put, Tab.del]

theorem checkWord_one {s : State} {w b : Nat} (hb : b < 72) (h : badWord s w = false) :
    checkWord w (2 ^ b) s = health (912 + channelOf w b) 0 1 (mendWord w s) := by
  rw [checkWord, wrongBits_one hb, h]
  rfl

theorem checkWord_many {s : State} {w m : Nat} (hm : 2 ≤ (wrongBits m).length) (h : badWord s w = false) :
    checkWord w m s = poisonWords [w] (health (912 + channelOf w 0) 1 1 (mendWord w s)) := by
  rw [checkWord, h]
  match hl : wrongBits m with
  | [] => simp [hl] at hm
  | [b] => simp [hl] at hm
  | b :: c :: l => rfl

/-! ### Patrol reads -/

section Patrol

variable {s : State} {a : Nat}

theorem patrol_node {flips : List (Nat × Nat)} (hs : s.sys.spine = false) (ha : a < 2 ^ 37) (hf : fwRuns (cellErrors flips s) = true) :
    patrol a flips s = (badIn (checkRead none (a / 256 * 256) 256 (cellErrors flips s)) (a / 256 * 256) 256).foldl (fun s w => patrolBad w s)
      (checkRead none (a / 256 * 256) 256 (cellErrors flips s)) := by
  unfold patrol
  rw [if_neg (by rw [hs, decide_eq_false (Nat.not_le.2 ha)]; decide)]
  simp only [hf, Bool.not_true, Bool.false_eq_true, if_false]

/-- A stripe without wrong bits and uncorrectable words has nothing to correct. -/
theorem patrol_clean (h : ∀ e ∈ s.pool.flip, e.1 / 32 ≠ a / 256) (hb : badIn s (a / 256 * 256) 256 = []) : patrol a [] s = s := by
  have hc : cellErrors [] s = s := rfl
  unfold patrol
  split
  · rfl
  · simp only [hc, checkRead_clean h, hb, List.foldl_nil, ite_self]

variable (hs : s.sys.spine = false) (hf : fwRuns s = true) (ha : a < 2 ^ 37) {k : Nat} (hk : k < 32) (h0 : s.pool.flip = [])
  (hbad : badIn s (a / 256 * 256) 256 = [])
include hs hf ha hk h0 hbad

/-- One wrong bit of the stripe is corrected and counted. -/
theorem patrol_one {b : Nat} (hb : b < 72) :
    patrol a [(a / 256 * 32 + k, b)] s = health (912 + channelOf (a / 256 * 32 + k) b) 0 1 s := by
  have hw : (a / 256 * 32 + k) / 32 = a / 256 := by omega
  have hcell : cellErrors [(a / 256 * 32 + k, b)] s = withFlip [(a / 256 * 32 + k, 2 ^ b)] s := by
    simp only [cellErrors, List.foldl_cons, List.foldl_nil, if_pos (show a / 256 * 32 + k < 2 ^ 34 ∧ b < 72 by omega), flipBit_first h0]
  have hbw : badWord (withFlip [(a / 256 * 32 + k, 2 ^ b)] s) (a / 256 * 32 + k) = false := badWord_of_badIn hbad hw
  rw [patrol_node hs ha (by rw [hcell]; exact hf), hcell, checkRead_one hw, checkWord_one hb hbw, mendWord_one, withFlip_none h0]
  rw [show badIn (health (912 + channelOf (a / 256 * 32 + k) b) 0 1 s) (a / 256 * 256) 256 = [] from hbad]
  rfl

/-- Two wrong bits of a word leave it uncorrectable, which is recorded. -/
theorem patrol_two {b c : Nat} (hb : b < 72) (hc : c < 72) (h : b ≠ c) (he : extentAt s (a / 256 * 32 + k) = none) :
    patrol a [(a / 256 * 32 + k, b), (a / 256 * 32 + k, c)] s = faultAt 6 3 none (8 * (a / 256 * 32 + k))
      (poisonWords [a / 256 * 32 + k] (health (912 + channelOf (a / 256 * 32 + k) 0) 1 1 s)) := by
  generalize hwd : a / 256 * 32 + k = w at he ⊢
  have hw : w / 32 = a / 256 := by omega
  have hcell : cellErrors [(w, b), (w, c)] s = withFlip [(w, 2 ^ b ^^^ 2 ^ c)] s := by
    simp only [cellErrors, List.foldl_cons, List.foldl_nil, if_pos (show w < 2 ^ 34 ∧ b < 72 by omega),
      if_pos (show w < 2 ^ 34 ∧ c < 72 by omega), flipBit_first h0, flipBit_second s w h]
  have hbw : badWord (withFlip [(w, 2 ^ b ^^^ 2 ^ c)] s) w = false := badWord_of_badIn hbad hw
  rw [patrol_node hs ha (by rw [hcell]; exact hf), hcell, checkRead_one hw, checkWord_many (wrongBits_two hb hc h) hbw, mendWord_one,
    withFlip_none h0]
  generalize hx : poisonWords [w] (health (912 + channelOf w 0) 1 1 s) = x
  have hbw : ∀ v ∈ wordsOf (a / 256 * 256) 256, badWord x v = (v == w) := by
    intro v hv
    have hnone := badWord_of_badIn hbad (mem_stripe.1 hv)
    rw [← hx]
    show Tab.get false (s.pool.bad.put false w true) v = _
    rw [Tab.get_put]
    split
    · next h => rw [h, beq_self_eq_true]
    · next h => rw [beq_eq_false_iff_ne.2 h]; exact hnone
  have hin : badIn x (a / 256 * 256) 256 = [w] := by
    rw [badIn, List.filter_congr hbw, List.filter_beq, List.count_eq_one_of_mem (wordsOf_nodup ..) (mem_stripe.2 hw)]
    rfl
  have hext : extentAt x w = none := by rw [← hx]; exact he
  rw [hin, List.foldl_cons, List.foldl_nil, patrolBad, hext]

end Patrol

/-! ### Sensors -/

theorem corrected_sameBut {a old new : Nat} {s : State} : sameBut [.hlt] s (corrected a old new s) := by
  unfold corrected
  split
  · exact sameBut_of_eq rfl
  · exact sameBut_refl _ s

theorem firstTraining_sameBut {a v : Nat} {s : State} : sameBut [.hlt] s (firstTraining a v s) := by
  unfold firstTraining
  dsimp only
  split
  · split
    · exact sameBut_of_eq rfl
    · exact sameBut_refl _ s
  · exact sameBut_refl _ s

theorem sensorReg_lt {s : State} {a : Nat} (h : sensorReg s a = true) : a < 0x06000000 := by
  simp only [sensorReg, Bool.or_eq_true, Bool.and_eq_true, decide_eq_true_eq] at h
  omega

/-- A register of the indirect space takes its reading; beside it only health changes. -/
theorem sensor_reg {s : State} {a : Nat} (v : Word) (h : sensorReg s a = true) :
    sameBut [.hlt] { s with regs := { s.regs with ind := s.regs.ind.put 0#32 a (v &&& sensorMask a) } } (sensor a v s) := by
  have hlt := sensorReg_lt h
  unfold sensor
  rw [if_neg (by omega), if_neg (by rw [h]; decide)]
  exact sameBut_trans corrected_sameBut firstTraining_sameBut

theorem exec_sramVminTest {s : State} (i : Fin 256) (mv : Nat) (hl : live s = true) : exec (.sramVminTest i mv) s =
    .next (if s.pwr.st = .standby then s else { s with hlt := { s.hlt with vmin := s.hlt.vmin.put 0 i.val (mv % 1024) } }) := by
  show execSramVminTest i mv s = _
  rw [execSramVminTest, run_live hl]

theorem faultAtSev_room {cls block sev : Nat} {p : Option Nat} {addr : Nat} {s : State} (h : s.flt.q.length < 4096) :
    ∃ d, (faultAtSev cls block sev p addr s).flt.q = s.flt.q ++ [⟨cls, block, sev, p, s.flt.seq % 2 ^ 32, s.now, addr, d⟩] :=
  ⟨_, congrArg (·.flt.q) (faultSev_room cls block sev p addr (freeVal (2 ^ 64) s).1 (s := (freeVal (2 ^ 64) s).2) h)⟩

/-- Settles O37: each by its row. -/
theorem patrolRead : Obligations.PatrolRead := by
  unfold Obligations.PatrolRead
  refine ⟨fun s a hl hf hb => (run_live hl).trans (congrArg _ (patrol_clean hf hb)),
    fun s a k b hl hs hf ha hk hb h0 hbad => (run_live hl).trans (congrArg _ (patrol_one hs hf ha hk h0 hbad hb)),
    fun s a k b c hl hs hf ha hk hb hc hbc h0 hbad he => ⟨_, (run_live hl).trans (congrArg _ (patrol_two hs hf ha hk h0 hbad hb hc hbc he)), ?_⟩,
    fun s i mv hl hst => (exec_sramVminTest i mv hl).trans (congrArg _ (if_neg hst)),
    fun s i mv hl hst => (exec_sramVminTest i mv hl).trans (congrArg _ (if_pos hst)), fun s k v hl hk => ?_, fun s a v hl h => ?_⟩
  · generalize a / 256 * 32 + k = w
    generalize hx : poisonWords [w] (health (912 + channelOf w 0) 1 1 s) = x
    have hpool : x.pool = { s.pool with bad := s.pool.bad.put false w true } := by
      rw [← hx]
      have hk : s.pool.flip.keep (fun v _ => !([w] : List Nat).contains v) = s.pool.flip := by rw [h0]; rfl
      show ({ s.pool with bad := s.pool.bad.put false w true, flip := s.pool.flip.keep (fun v _ => !([w] : List Nat).contains v) } : Pool) = _
      rw [hk]
    have hfp : (faultAt 6 3 none (8 * w) x).pool = x.pool := faultAtSev_sameBut .pool (by decide)
    have hbw : ∀ v, badWord (faultAt 6 3 none (8 * w) x) v = if v = w then true else badWord s v := by
      intro v
      rw [badWord, hfp, hpool]
      show Tab.get false (s.pool.bad.put false w true) v = _
      rw [Tab.get_put]
      rfl
    refine ⟨?_, fun v hv => ?_, ?_, fun hroom => ?_, ?_⟩
    · rw [hbw, if_pos rfl]
    · rw [hbw, if_neg hv]
    · rw [hfp, hpool]
    · have hq : x.flt = s.flt := by rw [← hx]; rfl
      obtain ⟨d, hd⟩ := faultAtSev_room (cls := 6) (block := 3) (sev := sevOf 6) (p := none) (addr := 8 * w) (s := x) (by rw [hq]; exact hroom)
      rw [hq] at hd
      exact ⟨_, hd, rfl, rfl⟩
    · refine sameBut_trans ?_ (sameBut_mono faultAtSev_sameBut (by decide))
      rw [← hx]
      exact sameBut_of_eq rfl
  · have ha : (BitVec.ofNat 32 (0x06000000 + 4 * k)).toNat = 0x06000000 + 4 * k := by
      rw [BitVec.toNat_ofNat, Nat.mod_eq_of_lt (by omega)]
    refine (run_live hl).trans (congrArg _ ?_)
    rw [ha, sensor, if_pos (by omega), show (0x06000000 + 4 * k - 0x06000000) / 4 = k by omega]
  · have hx := sensor_reg v h
    refine ⟨_, run_live hl, ?_, fun b hb => ?_, ?_, ?_, sameBut_trans (sameBut_of_eq rfl) (sameBut_mono hx (by decide))⟩
    · rw [hx .regs (by decide)]
      exact Tab.get_put_self ..
    · rw [hx .regs (by decide)]
      show Tab.get .. = _
      rw [Tab.get_put, if_neg hb]
    · rw [hx .regs (by decide)]
    · rw [hx .regs (by decide)]

end Sys2Proof.Machine
end

section
/-! What the end of a link, and the start of a training, can change (R257, R258, R278, R288). -/

namespace Sys2Proof.Machine

/-- `t` is `s` but for what has left the module, fault records and their free values, counts, the fabric and its ports. -/
def LinkedFrom (s t : State) : Prop :=
  sameBut [.out, .seed, .regs, .flt, .fab, .opt] s t ∧ t.regs = { s.regs with cnt := t.regs.cnt }

theorem LinkedFrom.refl (s : State) : LinkedFrom s s := ⟨sameBut_refl _ s, rfl⟩

theorem LinkedFrom.trans {s t u : State} (h : LinkedFrom s t) (h' : LinkedFrom t u) : LinkedFrom s u := by
  obtain ⟨hs, hr⟩ := h
  obtain ⟨hs', hr'⟩ := h'
  rw [hr] at hr'
  exact ⟨sameBut_trans hs hs', hr'⟩

theorem LinkedFrom.after {s t u : State} (h' : LinkedFrom t u) (h : LinkedFrom s t) : LinkedFrom s u := h.trans h'

theorem LinkedFrom.of_eq {s t : State} (h : t = framed [.out, .seed, .regs, .flt, .fab, .opt] s t)
    (hr : t.regs = { s.regs with cnt := t.regs.cnt } := by exact rfl) : LinkedFrom s t := ⟨sameBut_of_eq h, hr⟩

theorem SwitchedFrom.linked {s t : State} (h : SwitchedFrom s t) : LinkedFrom s t := ⟨h.sameBut (by decide), h.2.2⟩

theorem linked_foldl {α : Type} {f : State → α → State} {xs : List α} {s : State} (h : ∀ t x, LinkedFrom t (f t x)) :
    LinkedFrom s (xs.foldl f s) :=
  List.foldlRecOn (motive := LinkedFrom s) _ _ (.refl s) fun _ ht x _ => ht.trans (h _ x)

theorem linked_faultSev {cls block sev : Nat} {p : Option Nat} {addr detail : Nat} {s : State} :
    LinkedFrom s (faultSev cls block sev p addr detail s) := by
  unfold faultSev
  dsimp only
  split
  · exact .of_eq rfl
  · exact .of_eq rfl

theorem linked_faultAt {cls block : Nat} {p : Option Nat} {addr : Nat} {s : State} : LinkedFrom s (faultAt cls block p addr s) :=
  linked_faultSev.after (.of_eq rfl)

theorem linked_noteAbandon {dst : Nat} {s : State} : LinkedFrom s (noteAbandon dst s) := linked_faultAt.trans switched_bump.linked

theorem linked_abandonCut {c : Cut} {s : State} : LinkedFrom s (abandonCut c s) := by
  have hs : LinkedFrom s (leave c.own (c.cells - c.k) { s with fab := { s.fab with cuts := s.fab.cuts.filter (fun x => x.inp != c.inp) } }) :=
    switched_leave.linked.after (.of_eq rfl)
  unfold abandonCut
  dsimp only
  split
  · exact hs
  · exact (sentFrom_frameOut ..).switched.linked.after hs

theorem linked_abandonSent {p : Nat} {s : State} : LinkedFrom s (abandonSent p s) := by
  unfold abandonSent
  dsimp only
  refine (linked_foldl fun _ _ => linked_noteAbandon).after (.after (.of_eq rfl) (.after (linked_foldl fun _ _ => linked_noteAbandon)
    (linked_foldl fun t f => ?_)))
  split
  · exact switched_leave.linked
  · exact .refl t

/-- A link that ends changes nothing but the fabric and its ports, what is counted and recorded of it, and what has left the module. -/
theorem linked_endLink {p : Nat} {s : State} : LinkedFrom s (endLink p s) := by
  unfold endLink
  refine linked_abandonSent.trans (linked_foldl fun t c => ?_)
  split
  · exact linked_noteAbandon.trans linked_abandonCut
  · exact linked_abandonCut

/-! ### A training starts -/

theorem optPort_setOpt (s : State) (p : Nat) (o : OptPort) (k : Nat) : optPort (setOpt s p o) k = if k = p then o else optPort s k := Tab.get_put ..

theorem applyBias_sameBut {p : Nat} {s : State} : sameBut [.hlt] s (applyBias p s) := by
  refine sameBut_foldl fun t w _ => ?_
  dsimp only
  split
  · exact sameBut_of_eq rfl
  · exact sameBut_refl _ t

theorem startTrain_port (p : Nat) (full : Bool) (s : State) :
    (optPort (startTrain p full s) p).st = .training ∧ (optPort (startTrain p full s) p).step = if full then 1 else 4 := by
  unfold startTrain
  cases full
  · simp only [Bool.false_eq_true, if_false, optPort_setOpt, if_true, and_self]
  · simp only [if_true]
    have h : ∀ x : State, optPort (applyBias p x) p = optPort x p := fun x => by rw [optPort, applyBias_sameBut .opt (by decide)]; rfl
    rw [h]
    have ho : ∀ (x : State) (r : Repair), optPort { x with rep := r } p = optPort x p := fun _ _ => rfl
    rw [ho, optPort_setOpt, if_pos rfl]
    exact ⟨rfl, rfl⟩

theorem startTrain_cfg (p : Nat) (full : Bool) (s : State) : (startTrain p full s).regs.cfg = s.regs.cfg := by
  have he : (endLink p s).regs.cfg = s.regs.cfg := by rw [linked_endLink.2]
  unfold startTrain
  cases full
  · simp only [Bool.false_eq_true, if_false]
    exact he
  · simp only [if_true]
    rw [applyBias_sameBut .regs (by decide)]
    exact he

end Sys2Proof.Machine
end

section
/-! Writes of the register window: how they come to a register, and what a write leaves there (R463 to R471). -/

namespace Sys2Proof.Machine

/-! ### The accessor -/

theorem exec_regRow {c : Instr} {a : RAcc} {off : Nat} {d : Word} (h : regRow c = some (a, off, d)) (s : State) :
    exec c s = runWrite (regWrite a off d) s := by
  cases c <;> cases h <;> rfl

theorem freshTxn_iff {s : State} {l : Link} {txn : Nat} : freshTxn s l txn = true ↔
    linkStored s l txn = none ∧ (s.mgt.owed.any (fun w => w.src == .mgt l && w.txn == txn)) = false := by
  rw [freshTxn, Bool.and_eq_true, Option.isNone_iff_eq_none, Bool.not_eq_true']

theorem linkStored_heard (s : State) (l : Link) (txn : Nat) : linkStored (heard (.mgt l) s) l txn = linkStored s l txn := by
  rw [linkStored, linkStored, heard_last]

/-- A manager's access in a new transaction is answered with what it gives. -/
theorem linkAccess_new {s s' : State} {l : Link} {txn v : Nat} {st : Status} {f : State → Status × Nat × State} (h : freshTxn s l txn = true)
    (hf : f (heard (.mgt l) s) = (st, v, s')) : linkAccess l txn f s = regAnswered l txn st v s' := by
  obtain ⟨hs, ho⟩ := freshTxn_iff.1 h
  rw [← linkStored_heard] at hs
  rw [← heard_owed (.mgt l)] at ho
  simp only [linkAccess, hs, ho, hf, Bool.false_eq_true, if_false]
  rfl

theorem linkAccess_repeated {s : State} {l : Link} {txn : Nat} {o : Out} {f : State → Status × Nat × State} (h : linkStored s l txn = some o) :
    linkAccess l txn f s = emit o (heard (.mgt l) s) := by
  rw [← linkStored_heard] at h
  simp only [linkAccess, h]

theorem acc_heard (src : Src) (s : State) (x : Nat) : acc (heard src s) x = acc s x := by rw [acc, acc, heard_regs]

/-- A manager's write at a register of the window. -/
theorem linkWrite_reaches {s : State} {l : Link} {off o : Nat} {d : Word} {k : WriteKind} (h4 : off % 4 = 0) (hi : inCounters off = false)
    (hr : resolve off = some (o, k)) (hd : inDoorbells o = false) (hm : s.mgt.holder = some l ∨ leaseFreeReg o = true) :
    linkWrite l off d (heard (.mgt l) s) =
      let w := writeReg (.mgt l) (linkIdx l) o k d (acc s (linkIdx l)).unlocked (mgrHeard s l)
      (w.1, 0, settled w.2) := by
  have hc : ((heard (.mgt l) s).mgt.holder != some l && !leaseFreeReg o) = false := by
    rw [heard_holder]
    rcases hm with hm | hm <;> simp [hm]
  simp only [linkWrite, h4, hi, hr, hc, windowWrite, hd, acc_heard, ne_eq, not_true_eq_false, Bool.false_eq_true, if_false]
  rfl

theorem linkWrite_unleased {s : State} {l : Link} {off o : Nat} {d : Word} {k : WriteKind} (h4 : off % 4 = 0) (hi : inCounters off = false)
    (hr : resolve off = some (o, k)) (hm : s.mgt.holder ≠ some l) (hf : leaseFreeReg o = false) :
    linkWrite l off d (heard (.mgt l) s) = (.lease, 0, bump 0x4000C (heard (.mgt l) s)) := by
  have hc : ((heard (.mgt l) s).mgt.holder != some l && !leaseFreeReg o) = true := by
    rw [heard_holder, hf]
    simpa using hm
  simp only [linkWrite, h4, hi, hr, hc, ne_eq, not_true_eq_false, Bool.false_eq_true, if_false, if_true]

theorem regWrite_mgt {a : RAcc} {l : Link} (h : a.who = .mgt l) (off : Nat) (d : Word) (s : State) :
    regWrite a off d s = linkAccess l a.txn (linkWrite l off d) s := by rw [regWrite, h]

theorem exec_reg_mgt {c : Instr} {a : RAcc} {off : Nat} {d : Word} {s : State} {l : Link} (hc : regRow c = some (a, off, d))
    (hr : running s = true) (ha : a.who = .mgt l) : exec c s = .next (linkAccess l a.txn (linkWrite l off d) s) := by
  rw [exec_regRow hc, runWrite_running hr, regWrite_mgt ha]

/-! ### The register -/

theorem cfgReg_congr {s t : State} (h : t.regs.cfg = s.regs.cfg) (off : Nat) : cfgReg t off = cfgReg s off := by rw [cfgReg, cfgReg, h]

theorem cfgReg_setCfg (s : State) (off : Nat) (v : Word) (o : Nat) : cfgReg (setCfg s off v) o = if o = off then v else cfgReg s o := by
  unfold cfgReg setCfg
  dsimp only
  split
  · next h =>
    rw [Tab.find_del]
    split
    · next ho => rw [ho, h, Option.getD_none]
    · rfl
  · rw [Tab.find_ins]
    split <;> rfl

/-- The write of a register, at its own offset or at one of its SET, CLR and TGL offsets, that no locked bit keeps out. -/
theorem writeReg_open {who : Acc} {x off : Nat} {k : WriteKind} {d : Word} {u : Bool} {s : State} {r : RegDef} (hr : regDef off = some r)
    (hw : r.writable = true) (hf : off ≠ 0x3C0010) (hk : k = .plain ∨ off ≠ 0x20 ∧ r.aliasMask ≠ 0#32) (hcap : off ≠ 0x20004)
    (hl : let v := (clampAll r (newBits r k (heldBits s x off) d)).1
      (v ^^^ heldBits s x off) &&& BitVec.ofNat 32 r.rwl = 0#32 ∨ u = true) :
    writeReg who x off k d u s =
      let old := heldBits s x off
      let v := clampAll r (newBits r k old d)
      let t := storeBits x off v.1 (disarm r s)
      let t := if v.2 then faultAt 0xD 10 none off t else t
      let plain := if k = .plain then some d else none
      let t := match plain with | some d => clearW1c off d t | none => t
      (.ok, writeActs x off old v.1 plain (reserved off ((v.1 ^^^ old) &&& BitVec.ofNat 32 r.rsvp) t)) := by
  have h1 : ¬(!r.writable ∨ off = 0x3C0010 ∧ (who ≠ .ctrl ∨ (disarm r s).fw.hinge = none)) := by simp [hw, hf]
  have h2 : ¬(k ≠ .plain ∧ off = 0x20) := by rcases hk with hk | hk <;> simp [hk]
  have h3 : ¬(k ≠ .plain ∧ r.aliasMask = 0#32) := by rcases hk with hk | hk <;> simp [hk]
  have h4 : ¬(((clampAll r (newBits r k (heldBits s x off) d)).1 ^^^ heldBits s x off) &&& BitVec.ofNat 32 r.rwl ≠ 0#32 ∧ !u) := by
    rcases hl with hl | hl <;> simp [hl]
  unfold writeReg
  simp only [hr]
  rw [if_neg h1, if_neg h2, if_neg h3]
  simp only [if_neg h4, if_neg hcap] <;> rfl

/-- One that a locked bit keeps out is counted and recorded. -/
theorem writeReg_locked {who : Acc} {x off : Nat} {k : WriteKind} {d : Word} {s : State} {r : RegDef} (hr : regDef off = some r)
    (hw : r.writable = true) (hf : off ≠ 0x3C0010) (hk : k = .plain ∨ off ≠ 0x20 ∧ r.aliasMask ≠ 0#32)
    (hl : ((clampAll r (newBits r k (heldBits s x off) d)).1 ^^^ heldBits s x off) &&& BitVec.ofNat 32 r.rwl ≠ 0#32) :
    writeReg who x off k d false s = (.denied, faultAt 0 10 none off (bump 0x2C (disarm r s))) := by
  have h1 : ¬(!r.writable ∨ off = 0x3C0010 ∧ (who ≠ .ctrl ∨ (disarm r s).fw.hinge = none)) := by simp [hw, hf]
  have h2 : ¬(k ≠ .plain ∧ off = 0x20) := by rcases hk with hk | hk <;> simp [hk]
  have h3 : ¬(k ≠ .plain ∧ r.aliasMask = 0#32) := by rcases hk with hk | hk <;> simp [hk]
  unfold writeReg
  simp only [hr]
  rw [if_neg h1, if_neg h2, if_neg h3]
  simp only [if_pos (show _ ∧ (!false) = true from ⟨hl, rfl⟩)]

/-! ### A register without actions and without a home of its own -/

section Plain

variable {x off : Nat}

theorem heldBits_cfg {s : State} (h1 : off ≠ 0x10) (h2 : off ≠ 0x1C) (h3 : off ≠ 0x28) : heldBits s x off = cfgReg s off := by
  rw [heldBits, if_neg h1, if_neg h2, if_neg h3]

theorem storeBits_cfg {v : Word} {s : State} (h1 : off ≠ 0x10) (h2 : off ≠ 0x1C) (h3 : off ≠ 0x28) (h4 : off ≠ 0x20) :
    storeBits x off v s = setCfg s off v := by rw [storeBits, if_neg h1, if_neg h2, if_neg h3, if_neg h4]

theorem clearW1c_none {d : Word} {s : State} (h1 : off ≠ 0x8) (h2 : off ≠ 0x2000C) (h3 : off ≠ 0x380000) : clearW1c off d s = s := by
  rw [clearW1c, if_neg h1, if_neg h2, if_neg h3]

theorem reserved_none {diff : Word} {s : State} (h : diff = 0#32) : reserved off diff s = s := if_pos h

theorem reserved_sameBut {diff : Word} {s : State} : sameBut [.regs, .flt] s (reserved off diff s) := by
  unfold reserved
  split
  · exact sameBut_refl _ s
  · exact sameBut_trans (sameBut_of_eq rfl) faultSev_sameBut

theorem faultSev_cfg (cls block sev : Nat) (p : Option Nat) (addr detail : Nat) (s : State) :
    (faultSev cls block sev p addr detail s).regs.cfg = s.regs.cfg := by
  rw [linked_faultSev.2]

theorem faultAt_cfg (cls block : Nat) (p : Option Nat) (addr : Nat) (s : State) : (faultAt cls block p addr s).regs.cfg = s.regs.cfg := by
  rw [linked_faultAt.2]

theorem reserved_cfg (diff : Word) (s : State) : (reserved off diff s).regs.cfg = s.regs.cfg := by
  unfold reserved
  split
  · rfl
  · exact faultSev_cfg ..

theorem disarm_sameBut {r : RegDef} {s : State} : sameBut [.regs] s (disarm r s) := by
  unfold disarm
  split
  · exact sameBut_of_eq rfl
  · exact sameBut_refl _ s

theorem disarm_cfg (r : RegDef) (s : State) : (disarm r s).regs.cfg = s.regs.cfg := by
  unfold disarm
  split <;> rfl

theorem heldBits_disarm (r : RegDef) (s : State) (x off : Nat) : heldBits (disarm r s) x off = heldBits s x off := by
  unfold disarm
  split <;> rfl

/-- The registers with an action or a home of their own, one by one and by their ranges. -/
theorem writeActs_none {old v : Word} {d : Option Word} {s : State} (h : off ∉ [0xC, 0x10, 0x20, 0x28, 0x10008, 0x30000, 0x38000C, 0x3C0010])
    (ho : ¬(0xC1000 ≤ off ∧ off < 0xC2000)) (hc : ¬(0x101000 ≤ off ∧ off < 0x101400)) : writeActs x off old v d s = s := by
  simp only [List.mem_cons, List.not_mem_nil, or_false, not_or] at h
  obtain ⟨h1, h2, h3, h4, h5, h6, h7, h8⟩ := h
  simp only [writeActs, h1, h2, h3, h4, h5, h6, h7, h8, if_false]
  rw [if_neg ho, if_neg hc]

end Plain

/-- The state once such a register has taken the bits of a write. -/
theorem writeReg_takes {w : Acc} {x off : Nat} {k : WriteKind} {d : Word} {u : Bool} {s : State} {r : RegDef} (hr : regDef off = some r)
    (hw : r.writable = true) (hm : r.aliasMask ≠ 0#32)
    (hoff : off ∉ [0x8, 0xC, 0x10, 0x1C, 0x20, 0x28, 0x10008, 0x20004, 0x2000C, 0x30000, 0x380000, 0x38000C, 0x3C0010])
    (ho : ¬(0xC1000 ≤ off ∧ off < 0xC2000)) (hc : ¬(0x101000 ≤ off ∧ off < 0x101400))
    (hl : ((clampAll r (newBits r k (cfgReg s off) d)).1 ^^^ cfgReg s off) &&& BitVec.ofNat 32 r.rwl = 0#32 ∨ u = true) :
    writeReg w x off k d u s = (.ok,
      let v := clampAll r (newBits r k (cfgReg s off) d)
      let t := setCfg (disarm r s) off v.1
      reserved off ((v.1 ^^^ cfgReg s off) &&& BitVec.ofNat 32 r.rsvp) (if v.2 then faultAt 0xD 10 none off t else t)) := by
  have hoff' := hoff
  simp only [List.mem_cons, List.not_mem_nil, or_false, not_or] at hoff'
  obtain ⟨h8, hC, h10, h1C, h20, h28, h10008, h20004, h2000C, h30000, h380000, h38000C, h3C0010⟩ := hoff'
  have hh : heldBits s x off = cfgReg s off := heldBits_cfg h10 h1C h28
  have hclear : ∀ (p : Option Word) (t : State), (match p with | some d => clearW1c off d t | none => t) = t := by
    intro p t
    cases p
    · rfl
    · exact clearW1c_none h8 h2000C h380000
  rw [writeReg_open hr hw h3C0010 (.inr ⟨h20, hm⟩) h20004 (by rw [hh]; exact hl)]
  simp only [hh, storeBits_cfg h10 h1C h28 h20, hclear]
  rw [writeActs_none (by simp only [List.mem_cons, List.not_mem_nil, or_false, not_or]; exact ⟨hC, h10, h20, h28, h10008, h30000, h38000C, h3C0010⟩) ho hc]

theorem takes_cfg (r : RegDef) (off : Nat) (v : Word) (out : Bool) (diff : Word) (s : State) (o : Nat) :
    cfgReg (reserved off diff (if out then faultAt 0xD 10 none off (setCfg (disarm r s) off v) else setCfg (disarm r s) off v)) o =
      if o = off then v else cfgReg s o := by
  have hf : (if out then faultAt 0xD 10 none off (setCfg (disarm r s) off v) else setCfg (disarm r s) off v).regs.cfg =
      (setCfg (disarm r s) off v).regs.cfg := by
    cases out
    · rfl
    · exact faultAt_cfg ..
  rw [cfgReg_congr ((reserved_cfg ..).trans hf), cfgReg_setCfg, cfgReg_congr (disarm_cfg r s)]

theorem takes_sameBut {r : RegDef} {off : Nat} {v : Word} {out : Bool} {diff : Word} {s : State} : sameBut [.seed, .regs, .flt] s
    (reserved off diff (if out then faultAt 0xD 10 none off (setCfg (disarm r s) off v) else setCfg (disarm r s) off v)) := by
  refine sameBut_trans ?_ (sameBut_mono reserved_sameBut (by decide))
  have hs : sameBut [.seed, .regs, .flt] s (setCfg (disarm r s) off v) :=
    sameBut_trans (sameBut_mono disarm_sameBut (by decide)) (sameBut_of_eq rfl)
  cases out
  · exact hs
  · exact sameBut_trans hs faultAtSev_sameBut

/-! ### Doorbells -/

/-- A doorbell of a queue of a partition, written by a host of a port of an attachment that carries CXL.io. -/
theorem exec_doorbell {s : State} {p : Fin 16} {q n att : Nat} {v : DWord} {a : RAcc} (ha : a.who = .host p) (hr : running s = true)
    (hq : q < 65536) (hat : attachOf s p.val = some att) (hio : ioUp (cxlPort s p.val) = true) (hp : partOfQueue s q = some n) (h8 : a.size = 8) :
    exec (.doorbell a q v true) s = .next (
      if !boundTo s n att then hostDoorbellDropped att q s
      else if (part s n).st = .resetting ∨ (part s n).st = .torn then s
      else if (part s n).st ≠ .active then faultAt 0 0 (some n) (0x200000 + 8 * q) s
      else if (que s q).st = .disabled ∨ (que s q).attach ≠ att ∨ bitsOf v.toNat 63 33 ≠ 0 then hostDoorbellDropped att q s
      else if 2 ^ (que s q).sqLog2 ≤ bitsOf v.toNat 15 0 ∨ 2 ^ (que s q).cqLog2 ≤ bitsOf v.toNat 31 16 then doorbellHalts q s
      else ringDoorbell q v s) := by
  show execDoorbell a q v true s = _
  rw [execDoorbell, runWrite_running hr, doorbellWrite, if_neg (Nat.not_le.2 hq), ha]
  simp only [hostDoorbell, hat, hp, hio, h8, Bool.not_true, Bool.false_eq_true, if_false, ne_eq, not_true_eq_false, false_or]

/-- Settles O57: the accessor's path, then what the register takes, then the doorbell. -/
theorem registerWrites : Obligations.RegisterWrites := by
  unfold Obligations.RegisterWrites
  refine ⟨fun c s a l off o d k hc hr ha hf h4 hi hres hd => ⟨fun hm => ?_, fun hm hfree => ?_⟩,
    fun c s a l off d hc hr ha => ⟨fun hf h4 => ?_, fun o ho => ?_⟩, fun c s a off o d k hc hr ha hf h4 hm hi hres hd => ?_,
    fun c s a off o att d k p hc hr ha hio hat hres hd => ?_, fun s w x off k d u r hr hw hm hoff ho hcx => ⟨fun hl hu => ?_, fun hl => ?_⟩,
    fun r v d => ⟨rfl, rfl, rfl⟩, fun s p q n v a att ha hr hq hat hio hp h8 => ⟨fun hb hst hen hqa hres => ⟨fun h1 h2 => ?_, fun h => ?_⟩,
      fun hb => ?_, fun hb hst => ?_, fun hb hst => ?_⟩⟩
  · rw [exec_reg_mgt hc hr ha, linkAccess_new hf (linkWrite_reaches h4 hi hres hd hm)]
  · rw [exec_reg_mgt hc hr ha, linkAccess_new hf (linkWrite_unleased h4 hi hres hm hfree)]
  · rw [exec_reg_mgt hc hr ha, linkAccess_new hf (if_pos h4)]
  · rw [exec_reg_mgt hc hr ha, linkAccess_repeated ho]
  · rw [exec_regRow hc, runWrite_running hr, regWrite, ha]
    simp only [hf, h4, hm, hi, hres, windowWrite, hd, reduceCtorEq, Bool.not_true, Bool.false_eq_true, false_and, and_false, or_self, ne_eq,
      not_true_eq_false, if_false]
  · rw [exec_regRow hc, runWrite_running hr, regWrite, ha]
    simp only [hostRegWrite, hio, hat, hres, hd, Bool.not_true, Bool.false_eq_true, if_false, classRefused]
  · have hoff' := hoff
    simp only [List.mem_cons, List.not_mem_nil, or_false, not_or] at hoff'
    obtain ⟨-, -, h10, h1C, h20, h28, -, -, -, -, -, -, h3C0010⟩ := hoff'
    rw [hu, writeReg_locked hr hw h3C0010 (.inr ⟨h20, hm⟩) (by rw [heldBits_cfg h10 h1C h28]; exact hl)]
    have hcfg : (faultAt 0 10 none off (bump 0x2C (disarm r s))).regs.cfg = s.regs.cfg := by
      rw [faultAt_cfg]
      exact disarm_cfg r s
    exact ⟨rfl, cfgReg_congr hcfg⟩
  · rw [writeReg_takes hr hw hm hoff ho hcx hl]
    exact ⟨rfl, (takes_cfg ..).trans (if_pos rfl), fun o ho => (takes_cfg ..).trans (if_neg ho), takes_sameBut⟩
  · rw [exec_doorbell ha hr hq hat hio hp h8, if_neg (by simp [hb]), if_neg (by simp [hst]), if_neg (by simp [hst]), if_neg (by simp [hen, hqa, hres]),
      if_neg (by omega)]
  · rw [exec_doorbell ha hr hq hat hio hp h8, if_neg (by simp [hb]), if_neg (by simp [hst]), if_neg (by simp [hst]), if_neg (by simp [hen, hqa, hres]),
      if_pos h]
  · rw [exec_doorbell ha hr hq hat hio hp h8, if_pos (by simp [hb])]
    simp only [hostDoorbellDropped, hp, hb, Bool.false_eq_true, if_false, doorbellDropped]
  · rw [exec_doorbell ha hr hq hat hio hp h8, if_neg (by simp [hb]), if_pos hst]
  · simp only [List.mem_cons, List.not_mem_nil, or_false, not_or] at hst
    rw [exec_doorbell ha hr hq hat hio hp h8, if_neg (by simp [hb]), if_neg (by simp [hst]), if_pos hst.1]

end Sys2Proof.Machine
end

section
/-! What a manager's writes of the registers with actions of their own do (R373, R410, R417, R418, R421, R466 to R480). -/

namespace Sys2Proof.Machine

/-! ### Reserved bits -/

theorem Tab.mem_of_find {α : Type} {t : Tab α} {k : Nat} {v : α} (h : t.find k = some v) : (k, v) ∈ t := by
  induction t with
  | nil => cases h
  | cons x t ih =>
    obtain ⟨k', v'⟩ := x
    simp only [Tab.find] at h
    split at h
    · next hk =>
      cases h
      rw [hk]
      exact List.mem_cons_self ..
    · exact List.mem_cons_of_mem _ (ih h)

/-- While no changed RSV-P bit stands, every stored bit of them is as at reset (R471). -/
theorem rsvp_bound {s : State} {off : Nat} {r : RegDef} (h : unbound s = false) (hr : regDef off = some r) :
    (cfgReg s off ^^^ BitVec.ofNat 32 r.reset) &&& BitVec.ofNat 32 r.rsvp = 0#32 := by
  rw [cfgReg]
  cases hf : s.regs.cfg.find off with
  | none => rw [Option.getD_none, regReset, hr, BitVec.xor_self, BitVec.zero_and]
  | some v =>
    have hany := (Bool.or_eq_false_iff.1 h).1
    have := List.any_eq_false.1 hany (off, v) (Tab.mem_of_find hf)
    rw [Option.getD_some]
    simpa only [hr, decide_eq_true_eq, ne_eq, not_not] using this

/-- A write that gives reserved bits their reset value changes none that have it. -/
theorem newBits_rsvp {r : RegDef} {v d : Word} (hv : (v ^^^ BitVec.ofNat 32 r.reset) &&& BitVec.ofNat 32 r.rsvp = 0#32)
    (hd : (d ^^^ BitVec.ofNat 32 r.reset) &&& BitVec.ofNat 32 r.rsvp = 0#32) :
    (newBits r .plain v d ^^^ v) &&& BitVec.ofNat 32 r.rsvp = 0#32 := by
  simp only [newBits]
  generalize BitVec.ofNat 32 r.rsvp = m at *
  generalize BitVec.ofNat 32 r.reset = e at *
  generalize r.aliasMask = a
  refine BitVec.eq_of_getLsbD_eq fun i hi => ?_
  have hvi := congrArg (·.getLsbD i) hv
  have hdi := congrArg (·.getLsbD i) hd
  simp only [BitVec.getLsbD_and, BitVec.getLsbD_xor, BitVec.getLsbD_or, BitVec.getLsbD_not, BitVec.getLsbD_zero, hi, decide_true, Bool.true_and] at *
  revert hvi hdi
  cases v.getLsbD i <;> cases d.getLsbD i <;> cases e.getLsbD i <;> cases m.getLsbD i <;> cases a.getLsbD i <;> decide

/-! ### A plain write of a register without ranges -/

/-- The write of a register whose fields have no ranges, that changes no reserved bit and no locked one. -/
theorem writeReg_plain {who : Acc} {x off : Nat} {d : Word} {u : Bool} {s : State} {r : RegDef} (hr : regDef off = some r)
    (hw : r.writable = true) (hf : off ≠ 0x3C0010) (hcap : off ≠ 0x20004) (hfields : r.fields = [])
    (hl : (newBits r .plain (heldBits s x off) d ^^^ heldBits s x off) &&& BitVec.ofNat 32 r.rwl = 0#32 ∨ u = true)
    (hrs : (newBits r .plain (heldBits s x off) d ^^^ heldBits s x off) &&& BitVec.ofNat 32 r.rsvp = 0#32) :
    writeReg who x off .plain d u s =
      (.ok, writeActs x off (heldBits s x off) (newBits r .plain (heldBits s x off) d) (some d)
        (clearW1c off d (storeBits x off (newBits r .plain (heldBits s x off) d) (disarm r s)))) := by
  have hc : ∀ v, clampAll r v = (v, false) := fun v => by rw [clampAll, hfields]; rfl
  rw [writeReg_open hr hw hf (.inl rfl) hcap (by rw [hc]; exact hl)]
  simp only [hc, if_true, Bool.false_eq_true, if_false]
  rw [reserved_none hrs]

section Manager

variable {s : State} {a : RAcc} {l : Link}

theorem heldBits_mgrHeard (off : Nat) (h1 : off ≠ 0x10) (h2 : off ≠ 0x1C) :
    heldBits (mgrHeard s l) (linkIdx l) off = heldBits s (linkIdx l) off := by
  obtain ⟨g, hg⟩ := heard_form (.mgt l) s
  rw [mgrHeard, hg, heldBits, heldBits, if_neg h1, if_neg h2, if_neg h1, if_neg h2]
  rfl

theorem cfgReg_mgrHeard (s : State) (l : Link) (off : Nat) : cfgReg (mgrHeard s l) off = cfgReg s off := by
  obtain ⟨g, hg⟩ := heard_form (.mgt l) s
  rw [mgrHeard, hg]
  rfl

theorem acc_mgrHeard (s : State) (l : Link) (y : Nat) :
    acc (mgrHeard s l) y = if y = linkIdx l then { acc s (linkIdx l) with unlocked := false } else acc s y := by
  obtain ⟨g, hg⟩ := heard_form (.mgt l) s
  rw [mgrHeard, hg]
  exact Tab.get_put ..

/-- A manager's write at an offset of the registers, once what it leaves is known. -/
theorem answersReg_of {c : Instr} {off : Nat} {d : Word} {t : State} (h : mgrWrites s a l) (hc : regRow c = some (a, off, d)) (h4 : off % 4 = 0)
    (hi : off < 0x200000 ∨ 0x280000 ≤ off ∧ off < 0x400000)
    (hw : writeReg (.mgt l) (linkIdx l) off .plain d (acc s (linkIdx l)).unlocked (mgrHeard s l) = (.ok, t)) : answersReg c s a l t := by
  obtain ⟨hr, ha, hf, hm⟩ := h
  have hctr : inCounters off = false := by simp [inCounters]; omega
  have hres : resolve off = some (off, .plain) := if_pos (by omega)
  have hdb : inDoorbells off = false := by simp [inDoorbells]; omega
  rw [answersReg, exec_reg_mgt hc hr ha, linkAccess_new hf (linkWrite_reaches h4 hctr hres hdb (.inl hm)), hw]

/-- What a plain write of a register, with its reserved bits at their reset value, leaves. -/
theorem answersReg_plain {c : Instr} {off : Nat} {d : Word} {r : RegDef} (h : mgrWrites s a l) (hu : unbound s = false)
    (hc : regRow c = some (a, off, d)) (hi : off < 0x200000 ∨ 0x280000 ≤ off ∧ off < 0x400000) (hr : regDef off = some r)
    (hw : r.writable = true) (hf : off ∉ [0x3C0010, 0x20004, 0x10, 0x1C, 0x28]) (hfields : r.fields = [])
    (hl : (newBits r .plain (cfgReg s off) d ^^^ cfgReg s off) &&& BitVec.ofNat 32 r.rwl = 0#32 ∨ (acc s (linkIdx l)).unlocked = true)
    (hd : (d ^^^ BitVec.ofNat 32 r.reset) &&& BitVec.ofNat 32 r.rsvp = 0#32) :
    answersReg c s a l (writeActs (linkIdx l) off (cfgReg s off) (newBits r .plain (cfgReg s off) d) (some d)
      (clearW1c off d (storeBits (linkIdx l) off (newBits r .plain (cfgReg s off) d) (disarm r (mgrHeard s l))))) := by
  simp only [List.mem_cons, List.not_mem_nil, or_false, not_or] at hf
  obtain ⟨h1, h2, h3, h4, h5⟩ := hf
  have hh : heldBits (mgrHeard s l) (linkIdx l) off = cfgReg s off := by rw [heldBits_mgrHeard off h3 h4, heldBits_cfg h3 h4 h5]
  have h4 : off % 4 = 0 := by
    by_contra hn
    rw [regDef, if_neg hn] at hr
    cases hr
  have hrs := newBits_rsvp (rsvp_bound hu hr) hd
  refine answersReg_of h hc h4 hi ?_
  rw [writeReg_plain hr hw h1 h2 hfields (by rw [hh]; exact hl) (by rw [hh]; exact hrs), hh]

end Manager

/-! ### The actions, register by register -/

section Acts

variable {x off : Nat} {old v : Word} {s : State}

theorem writeActs_pop : writeActs x 0x38000C old v (some 1#32) s = popOldest s := rfl

theorem writeActs_lost : writeActs x 0x380000 old v (some 0x2000#32) s = s := rfl

theorem clearW1c_lost : clearW1c 0x380000 0x2000#32 s = clearLost s := rfl

theorem writeActs_snap : writeActs x 0x10 old v (some 1#32) s = snapshot s := rfl

theorem writeActs_unlock (k : Word) : writeActs x 0xC old v (some k) s = unlockWith x k s := rfl

theorem writeActs_ind (d : Word) : writeActs x 0x20 old v (some d) s = advanceInd x s := rfl

theorem writeActs_ref (d : Word) : writeActs x 0x28 old v (some d) s = { s with regs := { s.regs with armed := true } } := rfl

theorem writeActs_plan : writeActs x 0x30000 old v (some 1#32) s = startPlan s := rfl

theorem writeActs_obs (d : Word) : writeActs x 0x10004 old v (some d) s = s := rfl

theorem writeActs_gate (d : Word) : writeActs x 0x10008 old v (some d) s = gateDomains (bitsOf v.toNat 4 0) s := rfl

end Acts

theorem mgrHeard_flt (s : State) (l : Link) : (mgrHeard s l).flt = s.flt := by simp [mgrHeard]
theorem mgrHeard_hlt (s : State) (l : Link) : (mgrHeard s l).hlt = s.hlt := by simp [mgrHeard]
theorem mgrHeard_now (s : State) (l : Link) : (mgrHeard s l).now = s.now := by simp [mgrHeard]

/-- Bits below a limit, and none beyond. -/
theorem and_below {w : Word} {k : Nat} (hk : k ≤ 32) (h : w.toNat < 2 ^ k) : w &&& BitVec.ofNat 32 (2 ^ k - 1) = w := by
  have h32 : 2 ^ k ≤ 2 ^ 32 := Nat.pow_le_pow_right (by decide) hk
  refine BitVec.eq_of_toNat_eq ?_
  rw [BitVec.toNat_and, BitVec.toNat_ofNat, Nat.mod_eq_of_lt (by omega), Nat.and_two_pow_sub_one_eq_mod, Nat.mod_eq_of_lt h]

theorem xor_beyond {w e m : Word} (hw : w &&& m = w) (he : e &&& m = e) : (w ^^^ e) &&& ~~~m = 0#32 := by
  rw [← hw, ← he]
  refine BitVec.eq_of_getLsbD_eq fun i hi => ?_
  simp only [BitVec.getLsbD_and, BitVec.getLsbD_xor, BitVec.getLsbD_not, BitVec.getLsbD_zero, hi, decide_true, Bool.true_and]
  cases w.getLsbD i <;> cases e.getLsbD i <;> cases m.getLsbD i <;> rfl

/-- A write that reaches every bit gives the register its data. -/
theorem newBits_all {r : RegDef} (v d : Word) (h : r.aliasMask ||| BitVec.ofNat 32 r.rsvp = BitVec.allOnes 32) : newBits r .plain v d = d := by
  simp only [newBits, h]
  rw [BitVec.and_allOnes, BitVec.not_allOnes, BitVec.and_zero, BitVec.or_zero]

/-- A part of a register of ports at the offset of one port's. -/
theorem regDef_optPort {p : Nat} (hp : p < 64) : regDef (0xC1000 + 0x40 * p) = some ⟨0xC1000, 2, 3, 0, 0, 4, 0xFFFFFFF8, false, true, false, []⟩ := by
  have hb : regBase (0xC1000 + 0x40 * p) = 0xC1000 := by
    rw [regBase, if_pos (by omega)]
    omega
  rw [regDef, if_pos (by omega), hb]
  rfl

theorem regDef_cxlPort {p : Nat} (hp : p < 16) : regDef (0x101000 + 0x40 * p) = some ⟨0x101000, 0, 0, 0, 0, 1, 0xFFFFFFFE, false, false, false, []⟩ := by
  have hb : regBase (0x101000 + 0x40 * p) = 0x101000 := by
    rw [regBase, if_neg (by omega), if_pos (by omega)]
    omega
  rw [regDef, if_pos (by omega), hb]
  rfl

theorem writeActs_optPort {x p : Nat} {old v d : Word} {s : State} (hp : p < 64) : writeActs x (0xC1000 + 0x40 * p) old v (some d) s =
    let t := if bitOf old.toNat 0 != bitOf v.toNat 0 then enablePort p s else s
    if bitOf d.toNat 2 then retrainPort p t else t := by
  have hk : (0xC1000 + 0x40 * p - 0xC1000) / 0x40 = p := by omega
  unfold writeActs
  rw [if_neg (by omega), if_neg (by omega), if_neg (by omega), if_neg (by omega), if_pos (by omega), hk]

theorem writeActs_cxlPort {x p : Nat} {old v d : Word} {s : State} (hp : p < 16) : writeActs x (0x101000 + 0x40 * p) old v (some d) s =
    if bitOf d.toNat 0 then cxlRetrain p s else s := by
  have hk : (0x101000 + 0x40 * p - 0x101000) / 0x40 = p := by omega
  unfold writeActs
  rw [if_neg (by omega), if_neg (by omega), if_neg (by omega), if_neg (by omega), if_neg (by omega), if_pos (by omega), hk]

/-- Where every domain is asked for none is gated. -/
theorem gateDomains_none (s : State) : (gateDomains 0 s).clk.gated =
    (List.range 5).foldl (fun g d => if bitOf g d then g - 2 ^ d else g) s.clk.gated := by
  have hb : ∀ d, bitOf 0 d = false := fun d => by simp [bitOf]
  unfold gateDomains
  simp only [hb, Bool.not_false, if_true]
  generalize List.range 5 = ds
  induction ds generalizing s with
  | nil => rfl
  | cons d ds ih => rw [List.foldl_cons, List.foldl_cons, ih]

theorem ungated : ∀ g < 32, (List.range 5).foldl (fun g d => if bitOf g d then g - 2 ^ d else g) g = 0 := by decide

theorem gateDomains_cfg (n : Nat) (s : State) : (gateDomains n s).regs.cfg = s.regs.cfg ∧ sameBut [.clk, .regs] s (gateDomains n s) := by
  unfold gateDomains
  refine List.foldlRecOn (motive := fun t => t.regs.cfg = s.regs.cfg ∧ sameBut [.clk, .regs] s t) _ _ ⟨rfl, sameBut_refl _ s⟩ fun t ht d _ => ?_
  split
  · exact ⟨ht.1, sameBut_trans ht.2 (sameBut_of_eq rfl)⟩
  · split
    · exact ht
    · split
      · exact ⟨ht.1, sameBut_trans ht.2 (sameBut_of_eq rfl)⟩
      · exact ⟨ht.1, sameBut_trans ht.2 (sameBut_of_eq rfl)⟩

/-- Two values that agree with a third in some bits agree in them. -/
theorem xor_agree {v w e m : Word} (hv : (v ^^^ e) &&& m = 0#32) (hw : (w ^^^ e) &&& m = 0#32) : (v ^^^ w) &&& m = 0#32 := by
  refine BitVec.eq_of_getLsbD_eq fun i hi => ?_
  have hvi := congrArg (·.getLsbD i) hv
  have hwi := congrArg (·.getLsbD i) hw
  simp only [BitVec.getLsbD_and, BitVec.getLsbD_xor, BitVec.getLsbD_zero] at *
  revert hvi hwi
  cases v.getLsbD i <;> cases w.getLsbD i <;> cases e.getLsbD i <;> cases m.getLsbD i <;> decide

/-! ### PWR_CAP (R410, R427) -/

/-- PWR_CAP as the register table gives it. -/
def capReg : RegDef := ⟨0x20004, 0x47E, 0x7FF, 0, 0, 0, 0xFFFFF800, false, true, false, []⟩

theorem regDef_cap : regDef 0x20004 = some capReg := rfl

theorem litIdle_lt (s : State) : litIdle s < 2048 := by
  unfold litIdle
  split <;> decide

/-- A cap of its eleven bits, and no others: it is stored as it is, or as lit-idle where it is below that. -/
theorem clampCap_of {d : Word} {s : State} (hd : d.toNat < 2048) : clampCap d s =
    if d.toNat < litIdle s then
      (BitVec.ofNat 32 (litIdle s), faultAny 0x17 11 0 none { s with pwr := { s.pwr with capClamped := true } })
    else (d, s) := by
  have hb : bitsOf d.toNat 10 0 = d.toNat := by simp [bitsOf]; omega
  have h0 : d &&& ~~~0x7FF#32 = 0#32 := by
    have h := and_below (k := 11) (by decide) hd
    rw [← h, BitVec.and_assoc, show BitVec.ofNat 32 (2 ^ 11 - 1) &&& ~~~0x7FF#32 = 0#32 by decide, BitVec.and_zero]
  rw [clampCap, hb, h0, BitVec.zero_or]

theorem clampCap_lt {d : Word} {s : State} (hd : d.toNat < 2048) : (clampCap d s).1.toNat < 2048 := by
  rw [clampCap_of hd]
  split
  · have := litIdle_lt s
    rw [BitVec.toNat_ofNat, Nat.mod_eq_of_lt (by omega)]
    exact this
  · exact hd

/-- The write of PWR_CAP stores what clampCap gives. -/
theorem writeReg_cap {who : Acc} {x : Nat} {d : Word} {u : Bool} {s : State} (hd : d.toNat < 2048)
    (hb : (cfgReg s 0x20004 ^^^ 0x47E#32) &&& 0xFFFFF800#32 = 0#32) : writeReg who x 0x20004 .plain d u s =
    (.ok, setCfg (clampCap d (disarm capReg s)).2 0x20004 (clampCap d (disarm capReg s)).1) := by
  have hn : clampAll capReg (newBits capReg .plain (cfgReg s 0x20004) d) = (d, false) := by
    rw [newBits_all _ _ (by decide)]
    rfl
  have hh : heldBits s x 0x20004 = cfgReg s 0x20004 := heldBits_cfg (by decide) (by decide) (by decide)
  have hrs : (((clampCap d (disarm capReg s)).1 ^^^ cfgReg s 0x20004) &&& BitVec.ofNat 32 capReg.rsvp) = 0#32 :=
    xor_agree (xor_beyond (m := 0x7FF#32) (and_below (k := 11) (by decide) (clampCap_lt hd)) rfl) hb
  unfold writeReg
  simp only [regDef_cap, hh, hn]
  rw [if_neg (by simp [RegDef.writable, capReg]), if_neg (by simp), if_neg (by simp), if_neg (by simp [capReg])]
  simp only [if_true, Bool.false_eq_true, if_false]
  rw [reserved_none hrs, clearW1c_none (by decide) (by decide) (by decide), storeBits_cfg (by decide) (by decide) (by decide) (by decide),
    writeActs_none (by decide) (by decide) (by decide)]

section Actions

variable {s : State} {a : RAcc} {l : Link} (h : mgrWrites s a l) (hu : unbound s = false)
include h hu

theorem fltPop_leaves : ∃ t, answersReg (.fltPop a 1#32) s a l t ∧ t.flt.q = s.flt.q.drop 1 ∧ t.flt.lost = s.flt.lost ∧ t.flt.seq = s.flt.seq ∧
    sameBut [.regs, .flt] (mgrHeard s l) t := by
  have hx := answersReg_plain h hu (c := .fltPop a 1#32) (r := ⟨0x38000C, 0, 0, 0, 0, 1, 0xFFFFFFFE, false, false, false, []⟩) rfl
    (.inr (by omega)) rfl rfl (by decide) rfl (.inl (BitVec.and_zero ..)) (by decide)
  rw [writeActs_pop] at hx
  exact ⟨_, hx, congrArg (·.q.drop 1) (mgrHeard_flt s l), congrArg (·.lost) (mgrHeard_flt s l), congrArg (·.seq) (mgrHeard_flt s l), sameBut_of_eq rfl⟩

theorem fltStatLostClear_leaves : ∃ t, answersReg (.fltStatLostClear a 0x2000#32) s a l t ∧ t.flt.lost = false ∧ t.flt.q = s.flt.q ∧
    (∀ o, 0x380100 ≤ o → o < 0x380200 → t.regs.cnt.get 0 o = 0) ∧ sameBut [.regs, .flt] (mgrHeard s l) t := by
  have hx := answersReg_plain h hu (c := .fltStatLostClear a 0x2000#32) (r := ⟨0x380000, 0, 0, 0, 0x2000, 0, 0xFFFFC000, false, false, false, []⟩)
    rfl (.inr (by omega)) rfl rfl (by decide) rfl (.inl (BitVec.and_zero ..)) (by decide)
  rw [writeActs_lost, clearW1c_lost] at hx
  refine ⟨_, hx, rfl, congrArg (·.q) (mgrHeard_flt s l), fun o h1 h2 => ?_, sameBut_of_eq rfl⟩
  exact (Tab.get_filter 0 _ (fun o => decide (o < 0x380100 ∨ 0x380200 ≤ o)) o).trans (if_neg (by simp; omega))

theorem unlock_leaves (k : Word) : ∃ t, answersReg (.unlock a k) s a l t ∧ (acc t (linkIdx l)).unlocked = (k == 0x4C4F434B#32) ∧
    (∀ y, y ≠ linkIdx l → acc t y = acc s y) ∧ sameBut [.regs] (mgrHeard s l) t := by
  have hx := answersReg_plain h hu (c := .unlock a k) (r := ⟨0xC, 0, 0, 0, 0, 0xFFFFFFFF, 0, false, false, false, []⟩)
    rfl (.inl (by omega)) rfl rfl (by decide) rfl (.inl (BitVec.and_zero ..)) (BitVec.and_zero ..)
  rw [writeActs_unlock] at hx
  refine ⟨_, hx, ?_⟩
  generalize hy : clearW1c 0xC k _ = y
  have hacc : ∀ n, acc y n = acc (mgrHeard s l) n := fun n => by rw [← hy]; rfl
  have hsame : sameBut [.regs] (mgrHeard s l) y := by rw [← hy]; exact sameBut_of_eq rfl
  have hul : ∀ n, acc (unlockWith (linkIdx l) k y) n =
      if n = linkIdx l then { acc y (linkIdx l) with unlocked := k == 0x4C4F434B#32 } else acc y n := by
    intro n
    unfold unlockWith
    dsimp only
    split
    · exact Tab.get_put ..
    · exact Tab.get_put ..
  refine ⟨by rw [hul, if_pos rfl], fun n hn => by rw [hul, if_neg hn, hacc, acc_mgrHeard, if_neg hn], sameBut_trans hsame ?_⟩
  unfold unlockWith
  dsimp only
  split
  · exact sameBut_of_eq rfl
  · exact sameBut_of_eq rfl

theorem indDataWrite_leaves (d : Word) : ∃ t, answersReg (.indDataWrite a d) s a l t ∧
    (acc t (linkIdx l)).ind = ((acc s (linkIdx l)).ind / 4 * 4 + 4) % 2 ^ 32 + (acc s (linkIdx l)).ind % 4 ∧ t.regs.ind = s.regs.ind ∧
    sameBut [.regs] (mgrHeard s l) t := by
  have hx := answersReg_plain h hu (c := .indDataWrite a d) (r := ⟨0x20, 0, 0xFFFFFFFF, 0, 0, 0, 0, false, false, false, []⟩)
    rfl (.inl (by omega)) rfl rfl (by decide) rfl (.inl (BitVec.and_zero ..)) (BitVec.and_zero ..)
  rw [writeActs_ind] at hx
  refine ⟨_, hx, ?_, ?_, sameBut_of_eq rfl⟩
  · have hacc := acc_mgrHeard s l (linkIdx l)
    rw [if_pos rfl] at hacc
    have hi : (acc (mgrHeard s l) (linkIdx l)).ind = (acc s (linkIdx l)).ind := by rw [hacc]
    rw [← hi]
    refine (congrArg AccSt.ind (Tab.get_put ..)).trans ?_
    rw [if_pos rfl]
    rfl
  · obtain ⟨g, hg⟩ := heard_form (.mgt l) s
    show (mgrHeard s l).regs.ind = s.regs.ind
    rw [mgrHeard, hg]
    rfl

theorem hltPlanRun_leaves (hf : fwRuns s = true) : ∃ t, answersReg (.hltPlanRun a 1#32) s a l t ∧ t.hlt = { s.hlt with plan := true } ∧
    sameBut [.regs, .hlt] (mgrHeard s l) t := by
  have hx := answersReg_plain h hu (c := .hltPlanRun a 1#32) (r := ⟨0x30000, 0, 0, 0, 0, 1, 0xFFFFFFF8, false, false, false, []⟩)
    rfl (.inl (by omega)) rfl rfl (by decide) rfl (.inl (BitVec.and_zero ..)) (by decide)
  rw [writeActs_plan] at hx
  refine ⟨_, hx, ?_⟩
  generalize hy : clearW1c 0x30000 1#32 _ = y
  have hsame : sameBut [.regs] (mgrHeard s l) y := by rw [← hy]; exact sameBut_of_eq rfl
  have hh : y.hlt = s.hlt := (hsame .hlt (by decide)).trans (mgrHeard_hlt s l)
  have hfy : fwRuns y = true := by
    obtain ⟨g, hg⟩ := heard_form (.mgt l) s
    rw [← hy, mgrHeard, hg]
    exact hf
  cases hp : y.hlt.plan with
  | false =>
    rw [startPlan, if_pos (by rw [hfy, hp]; rfl), hh]
    exact ⟨rfl, sameBut_trans (sameBut_mono hsame (by decide)) (sameBut_of_eq rfl)⟩
  | true =>
    rw [startPlan, if_neg (by rw [hp]; simp), hh, ← hp, hh]
    exact ⟨rfl, sameBut_mono hsame (by decide)⟩

theorem clkObsWrite_leaves (v : Word) (hv : v.toNat < 65536) : ∃ t, answersReg (.clkObsWrite a v) s a l t ∧ cfgReg t 0x10004 = v ∧
    sameBut [.regs] (mgrHeard s l) t := by
  have hx := answersReg_plain h hu (c := .clkObsWrite a v) (r := ⟨0x10004, 0, 0xFFFF, 0, 0, 0, 0xFFFF0000, false, true, false, []⟩)
    rfl (.inl (by omega)) rfl rfl (by decide) rfl (.inl (BitVec.and_zero ..)) (xor_beyond (m := 0xFFFF#32) (and_below (k := 16) (by decide) hv) rfl)
  have hb : newBits ⟨0x10004, 0, 0xFFFF, 0, 0, 0, 0xFFFF0000, false, true, false, []⟩ .plain (cfgReg s 0x10004) v = v := by
    exact newBits_all _ _ (by decide)
  rw [writeActs_obs, hb] at hx
  exact ⟨_, hx, (cfgReg_setCfg ..).trans (if_pos rfl), sameBut_of_eq rfl⟩

theorem clkGateOffReq_leaves (v : Word) (hv : v.toNat < 32) (hl : (acc s (linkIdx l)).unlocked = true ∨ v = cfgReg s 0x10008) :
    ∃ t, answersReg (.clkGateOffReq a v) s a l t ∧ cfgReg t 0x10008 = v ∧ (v = 0#32 → s.clk.gated < 32 → t.clk.gated = 0) ∧
      sameBut [.clk, .regs] (mgrHeard s l) t := by
  have hb : newBits ⟨0x10008, 0, 0, 0x1F, 0, 0, 0xFFFFFFE0, false, true, false, []⟩ .plain (cfgReg s 0x10008) v = v :=
    newBits_all _ _ (by decide)
  have hx := answersReg_plain h hu (c := .clkGateOffReq a v) (r := ⟨0x10008, 0, 0, 0x1F, 0, 0, 0xFFFFFFE0, false, true, false, []⟩)
    rfl (.inl (by omega)) rfl rfl (by decide) rfl
    (hl.symm.imp (fun hl => by rw [hb, ← hl, BitVec.xor_self, BitVec.zero_and]) id)
    (xor_beyond (m := 0x1F#32) (and_below (k := 5) (by decide) hv) rfl)
  rw [writeActs_gate, hb] at hx
  refine ⟨_, hx, ?_⟩
  generalize hy : clearW1c 0x10008 v _ = y
  have hcfg : cfgReg y 0x10008 = v := by rw [← hy]; exact (cfgReg_setCfg ..).trans (if_pos rfl)
  have hsame : sameBut [.regs] (mgrHeard s l) y := by rw [← hy]; exact sameBut_of_eq rfl
  have hclk : y.clk = s.clk := (hsame .clk (by decide)).trans (by simp [mgrHeard])
  refine ⟨(cfgReg_congr (gateDomains_cfg _ y).1 _).trans hcfg, fun h0 hg => ?_, sameBut_trans (sameBut_mono hsame (by decide)) (gateDomains_cfg _ y).2⟩
  rw [h0]
  exact (gateDomains_none y).trans (ungated _ (by rw [hclk]; exact hg))

theorem cxlPortRetrain_leaves (p : Fin 16) (hio : ioUp (cxlPort s p.val) = true) :
    ∃ t, answersReg (.cxlPortRetrain a p 1#32) s a l t ∧ cxlPort t p.val = { cxlPort s p.val with st := .training } := by
  have hp := p.isLt
  have hx := answersReg_plain h hu (c := .cxlPortRetrain a p 1#32) rfl (.inl (by omega)) (regDef_cxlPort hp) rfl
    (by simp only [List.mem_cons, List.not_mem_nil, or_false]; omega) rfl (.inl (BitVec.and_zero ..)) (by decide)
  rw [writeActs_cxlPort hp, if_pos (by decide), clearW1c_none (by omega) (by omega) (by omega),
    storeBits_cfg (by omega) (by omega) (by omega) (by omega)] at hx
  refine ⟨_, hx, ?_⟩
  generalize hy : setCfg _ _ _ = y
  have hc : cxlPort y p.val = cxlPort s p.val := by
    obtain ⟨g, hg⟩ := heard_form (.mgt l) s
    rw [← hy, mgrHeard, hg]
    rfl
  rw [cxlRetrain, hc]
  simp only [hio, if_true]
  show cxlPort (setCxl y p.val _) p.val = _
  rw [cxlPort_setCxl, if_pos rfl]

/-- What a write of OPT_PORT_CTRL leaves where it enables the port, and where it asks for a retrain of one that is enabled. -/
theorem optPortCtrl_starts {c : Instr} {d : Word} (p : Fin 64) (hc : regRow c = some (a, 0xC1000 + 0x40 * p.val, d))
    (hd : (d ^^^ 2#32) &&& 0xFFFFFFF8#32 = 0#32) : ∃ y v, bitOf v.toNat 0 = bitOf d.toNat 0 ∧ cfgReg y (0xC1000 + 0x40 * p.val) = v ∧
      sameBut [.regs] (mgrHeard s l) y ∧ answersReg c s a l (
        let t := if bitOf (cfgReg s (0xC1000 + 0x40 * p.val)).toNat 0 != bitOf v.toNat 0 then enablePort p.val y else y
        if bitOf d.toNat 2 then retrainPort p.val t else t) := by
  have hp := p.isLt
  have hx := answersReg_plain h hu hc (.inl (by omega)) (regDef_optPort hp) rfl
    (by simp only [List.mem_cons, List.not_mem_nil, or_false]; omega) rfl (.inl (BitVec.and_zero ..)) hd
  rw [writeActs_optPort hp, clearW1c_none (by omega) (by omega) (by omega), storeBits_cfg (by omega) (by omega) (by omega) (by omega)] at hx
  refine ⟨_, _, ?_, ?_, ?_, hx⟩
  · have hm : ((BitVec.ofNat 32 3 ||| BitVec.ofNat 32 0) ||| BitVec.ofNat 32 0xFFFFFFF8 : Word).getLsbD 0 = true := by decide
    rw [bitOf_eq_testBit, bitOf_eq_testBit]
    show BitVec.getLsbD (newBits _ .plain _ d) 0 = BitVec.getLsbD d 0
    simp only [newBits, RegDef.aliasMask, BitVec.getLsbD_and, hm, Bool.and_true, BitVec.getLsbD_or (x := d &&& _), BitVec.getLsbD_not,
      Bool.not_true, Bool.and_false, Bool.or_false]
  · exact (cfgReg_setCfg ..).trans (if_pos rfl)
  · exact sameBut_trans disarm_sameBut (sameBut_of_eq rfl)

theorem optPortEnable_leaves (p : Fin 64) (hoff : (optPort s p.val).st = .off) (hen : optEn s p.val = false) (hls : lasersOn s = true)
    (hpll : (optPort s p.val).pll = true) : ∃ t, answersReg (.optPortEnable a p 3#32) s a l t ∧ optEn t p.val = true ∧
      (optPort t p.val).st = .training ∧ (optPort t p.val).step = 1 := by
  obtain ⟨y, v, hv, hcfg, hsame, hx⟩ := optPortCtrl_starts h hu (c := .optPortEnable a p 3#32) p rfl (by decide)
  have hold : bitOf (cfgReg s (0xC1000 + 0x40 * p.val)).toNat 0 = false := hen
  have hv1 : bitOf v.toNat 0 = true := hv
  have hport : optPort y p.val = optPort s p.val := by
    rw [optPort, hsame .opt (by decide)]
    simp [mgrHeard, optPort]
  have heny : optEn y p.val = true := by rw [optEn, hcfg]; exact hv1
  have hlsy : lasersOn y = true := by
    rw [lasersOn, hsame .pwr (by decide)]
    simpa [mgrHeard, lasersOn] using hls
  have hstart : enablePort p.val y = startTrain p.val true y := by
    have ht : trainable y p.val = true := by rw [trainable, heny, hlsy, hport, hpll]; rfl
    rw [enablePort, if_pos heny, if_pos ⟨by rw [hport]; exact hoff, ht⟩]
  simp only [hold, hv1, hstart, show bitOf (3#32 : Word).toNat 2 = false by decide, show (false != true) = true from rfl, Bool.false_eq_true, if_false,
    if_true] at hx
  refine ⟨_, hx, ?_, startTrain_port p.val true y⟩
  rw [optEn, cfgReg_congr (startTrain_cfg ..)]
  exact heny

theorem optPortRetrain_leaves (p : Fin 64) (hdown : (optPort s p.val).st = .down) (hen : optEn s p.val = true) (hls : lasersOn s = true)
    (hpll : (optPort s p.val).pll = true) : ∃ t, answersReg (.optPortRetrain a p 7#32) s a l t ∧ optEn t p.val = true ∧
      (optPort t p.val).st = .training ∧ (optPort t p.val).step = 4 := by
  obtain ⟨y, v, hv, hcfg, hsame, hx⟩ := optPortCtrl_starts h hu (c := .optPortRetrain a p 7#32) p rfl (by decide)
  have hold : bitOf (cfgReg s (0xC1000 + 0x40 * p.val)).toNat 0 = true := hen
  have hv1 : bitOf v.toNat 0 = true := hv
  have hport : optPort y p.val = optPort s p.val := by
    rw [optPort, hsame .opt (by decide)]
    simp [mgrHeard, optPort]
  have heny : optEn y p.val = true := by rw [optEn, hcfg]; exact hv1
  have hlsy : lasersOn y = true := by
    rw [lasersOn, hsame .pwr (by decide)]
    simpa [mgrHeard, lasersOn] using hls
  have hstart : retrainPort p.val y = startTrain p.val false y := by
    have ht : trainable y p.val = true := by rw [trainable, heny, hlsy, hport, hpll]; rfl
    have hdy : (optPort y p.val).st = .down := by rw [hport]; exact hdown
    rw [retrainPort, if_pos (.inr hdy), quickRetrain, if_pos ht, if_pos hdy]
  simp only [hold, hv1, show bitOf (7#32 : Word).toNat 2 = true by decide, bne_self_eq_false, Bool.false_eq_true, if_false, if_true] at hx
  rw [hstart] at hx
  refine ⟨_, hx, ?_, startTrain_port p.val false y⟩
  rw [optEn, cfgReg_congr (startTrain_cfg ..)]
  exact heny

omit hu in
theorem cfgcrcRefWrite_leaves (d : Word) : ∃ t, answersReg (.cfgcrcRefWrite a d) s a l t ∧ t.regs.ref = d ∧ t.regs.armed = true ∧
    t.regs.cfg = s.regs.cfg ∧ sameBut [.regs] (mgrHeard s l) t := by
  have hw := writeReg_plain (who := .mgt l) (x := linkIdx l) (d := d) (u := (acc s (linkIdx l)).unlocked) (s := mgrHeard s l)
    (r := ⟨0x28, 0, 0xFFFFFFFF, 0, 0, 0, 0, false, false, false, []⟩) (off := 0x28) rfl rfl (by decide) (by decide) rfl
    (.inl (BitVec.and_zero ..)) (BitVec.and_zero ..)
  rw [newBits_all _ _ (by decide), writeActs_ref] at hw
  refine ⟨_, answersReg_of h rfl rfl (.inl (by omega)) hw, rfl, rfl, ?_, sameBut_of_eq rfl⟩
  show (mgrHeard s l).regs.cfg = s.regs.cfg
  obtain ⟨g, hg⟩ := heard_form (.mgt l) s
  rw [mgrHeard, hg]
  rfl

theorem latchSnap_leaves : ∃ t, answersReg (.latchSnap a 1#32) s a l t ∧ t.regs.held.isSome = true ∧
    t.regs.latchSeq = (s.regs.latchSeq + 1) % 65536 ∧ t.regs.latchNs = s.now ∧ sameBut [.regs] (mgrHeard s l) t := by
  have hv : (heldBits (mgrHeard s l) (linkIdx l) 0x10 ^^^ 0#32) &&& 0xFFF8#32 = 0#32 := by
    have hc : (cfgReg s 0x10 ^^^ 0#32) &&& 0xFFF8#32 = 0#32 :=
      rsvp_bound hu (r := ⟨0x10, 0, 2, 0, 0, 1, 0xFFF8, false, false, false, []⟩) rfl
    rw [BitVec.xor_zero] at hc ⊢
    rw [heldBits, if_pos rfl, cfgReg_mgrHeard, hc, BitVec.zero_or]
    cases (acc (mgrHeard s l) (linkIdx l)).view <;> decide
  have hw := writeReg_plain (who := .mgt l) (x := linkIdx l) (d := 1#32) (u := (acc s (linkIdx l)).unlocked) (s := mgrHeard s l)
    (r := ⟨0x10, 0, 2, 0, 0, 1, 0xFFF8, false, false, false, []⟩) (off := 0x10) rfl rfl (by decide) (by decide) rfl
    (.inl (BitVec.and_zero ..)) (newBits_rsvp hv (by decide))
  rw [writeActs_snap] at hw
  refine ⟨_, answersReg_of h rfl rfl (.inl (by omega)) hw, ?_⟩
  generalize hy : clearW1c 0x10 1#32 _ = y
  have hsame : sameBut [.regs] (mgrHeard s l) y := by rw [← hy]; exact sameBut_of_eq rfl
  have hseq : y.regs.latchSeq = s.regs.latchSeq := by
    obtain ⟨g, hg⟩ := heard_form (.mgt l) s
    rw [← hy, mgrHeard, hg]
    rfl
  have hnow : y.now = s.now := (hsame .now (by decide)).trans (mgrHeard_now s l)
  exact ⟨rfl, congrArg (fun n => (n + 1) % 65536) hseq, hnow, sameBut_trans hsame (sameBut_of_eq rfl)⟩

theorem capCommand_leaves (v : Word) (hv : v.toNat < 2048) : ∃ t, answersReg (.capCommand a v) s a l t ∧
    (litIdle s ≤ v.toNat → cfgReg t 0x20004 = v ∧ sameBut [.regs] (mgrHeard s l) t) ∧
    (v.toNat < litIdle s → cfgReg t 0x20004 = BitVec.ofNat 32 (litIdle s) ∧ t.pwr = { s.pwr with capClamped := true } ∧
      sameBut [.seed, .pwr, .regs, .flt] (mgrHeard s l) t) := by
  have hw := writeReg_cap (who := .mgt l) (x := linkIdx l) (u := (acc s (linkIdx l)).unlocked) (s := mgrHeard s l) hv
    (by rw [cfgReg_mgrHeard]; exact rsvp_bound hu regDef_cap)
  refine ⟨_, answersReg_of h rfl rfl (.inl (by omega)) hw, ?_⟩
  have hdis : sameBut [.regs] (mgrHeard s l) (disarm capReg (mgrHeard s l)) := disarm_sameBut
  generalize disarm capReg (mgrHeard s l) = y at hdis
  have hli : litIdle y = litIdle s := by
    rw [litIdle, hdis .sys (by decide)]
    simp [mgrHeard, litIdle]
  have hpwr : y.pwr = s.pwr := (hdis .pwr (by decide)).trans (by simp [mgrHeard])
  rw [clampCap_of hv, hli]
  refine ⟨fun hle => ?_, fun hlt => ?_⟩
  · rw [if_neg (Nat.not_lt.2 hle)]
    exact ⟨(cfgReg_setCfg ..).trans (if_pos rfl), sameBut_trans hdis (sameBut_of_eq rfl)⟩
  · rw [if_pos hlt]
    have hf : sameBut [.seed, .regs, .flt] { y with pwr := { y.pwr with capClamped := true } }
      (faultAny 0x17 11 0 none { y with pwr := { y.pwr with capClamped := true } }) := faultAny_sameBut
    refine ⟨(cfgReg_setCfg ..).trans (if_pos rfl), ?_, ?_⟩
    · exact (hf .pwr (by decide)).trans (by rw [hpwr])
    · exact sameBut_trans (sameBut_mono hdis (by decide)) (sameBut_trans (sameBut_of_eq rfl)
        (sameBut_trans (sameBut_mono hf (by decide)) (sameBut_of_eq rfl)))

end Actions

/-! ### Reads, and the pass of the configuration CRC -/

section Reads

variable {s : State} {a : RAcc} {l : Link} (hl : live s = true) (ha : a.who = .mgt l) (hf : freshTxn s l a.txn = true)
include hl ha hf

theorem indDataRead_answers : exec (.indDataRead a) s = .next
    (regAnswered l a.txn .ok (readInd (heard (.mgt l) s) (linkIdx l)).toNat (advanceInd (linkIdx l) (heard (.mgt l) s))) := by
  show execIndDataRead a s = _
  rw [execIndDataRead, run_live hl, regRead, ha]
  exact congrArg _ (linkAccess_new hf rfl)

theorem topTimeLoRead_answers : exec (.topTimeLoRead a) s = .next (regAnswered l a.txn .ok (s.now % 2 ^ 32)
    (let h := heard (.mgt l) s
     setAcc h (linkIdx l) { acc s (linkIdx l) with timeHi := s.now / 2 ^ 32 % 2 ^ 32 })) := by
  have hread : (readReg (heard (.mgt l) s) (linkIdx l) 0x34).toNat = s.now % 2 ^ 32 := by
    have hreg : readReg (heard (.mgt l) s) (linkIdx l) 0x34 =
        BitVec.ofNat 32 (s.now % 2 ^ 32) ||| (cfgReg (heard (.mgt l) s) 0x34 &&& 0#32) := by
      rw [← heard_now (.mgt l)]
      rfl
    rw [hreg, BitVec.and_zero, BitVec.or_zero, BitVec.toNat_ofNat, Nat.mod_mod]
  show execTopTimeLoRead a s = _
  rw [execTopTimeLoRead, run_live hl, regRead, ha]
  refine congrArg _ (linkAccess_new hf ?_)
  rw [← hread, ← acc_heard (.mgt l), ← heard_now (.mgt l)]
  rfl

end Reads

theorem exec_unlockLapse {s : State} (a : Acc) (hl : live s = true) :
    exec (.unlockLapse a) s = .next (setAcc s (accOf s a) { acc s (accOf s a) with unlocked := false }) := by
  show execUnlockLapse a s = _
  rw [execUnlockLapse, run_live hl]

theorem exec_cfgcrcPass {s : State} (hr : running s = true) : exec .cfgcrcPass s = .next (crcPass s) := by
  show execCfgcrcPass s = _
  rw [execCfgcrcPass, runWrite_running hr]

theorem faultSev_roomed {cls block sev : Nat} {p : Option Nat} {addr detail : Nat} {s : State} (h : s.flt.q.length < 4096) :
    (faultSev cls block sev p addr detail s).flt.q = s.flt.q ++ [⟨cls, block, sev, p, s.flt.seq % 2 ^ 32, s.now, addr, detail⟩] := by
  rw [faultSev_room cls block sev p addr detail h]

theorem crcPass_agrees {s : State} {c : Word} (hc : configCrc s = c) (h : s.regs.armed = false ∨ c = s.regs.ref) :
    crcPass s = { s with regs := { s.regs with crc := c } } := by
  have hbad : (s.regs.armed && c != s.regs.ref) = false := by rcases h with h | h <;> simp [h]
  rw [crcPass, hc]
  simp only [hbad, Bool.false_eq_true, if_false]

theorem crcPass_differs {s : State} {c : Word} (hc : configCrc s = c) (ha : s.regs.armed = true) (h : c ≠ s.regs.ref) :
    (crcPass s).regs.cfgErr = true ∧ (crcPass s).regs.armed = false ∧ (crcPass s).regs.crc = c ∧
      (s.flt.q.length < 4096 → ∃ r, (crcPass s).flt.q = s.flt.q ++ [r] ∧ r.cls = 0x16 ∧ r.sev = 2) ∧ sameBut [.regs, .flt] s (crcPass s) := by
  have hbad : (s.regs.armed && c != s.regs.ref) = true := by simp [ha, h]
  have hp : crcPass s = faultSev 0x16 11 2 none s.regs.ref.toNat c.toNat
      { s with regs := { s.regs with crc := c, cfgErr := true, armed := false } } := by
    rw [crcPass, hc]
    simp only [hbad, if_true]
  obtain ⟨hs, hr⟩ := linked_faultSev (cls := 0x16) (block := 11) (sev := 2) (p := none) (addr := s.regs.ref.toNat) (detail := c.toNat)
    (s := { s with regs := { s.regs with crc := c, cfgErr := true, armed := false } })
  rw [hp]
  refine ⟨by rw [hr], by rw [hr], by rw [hr], fun hroom => ?_, sameBut_trans (sameBut_of_eq rfl) faultSev_sameBut⟩
  exact ⟨⟨0x16, 11, 2, none, _, _, _, _⟩, faultSev_roomed hroom, rfl, rfl⟩

/-- Settles O58: each by its register. -/
theorem registerActions : Obligations.RegisterActions := by
  unfold Obligations.RegisterActions
  refine ⟨fun s a l h hu => ⟨fltPop_leaves h hu, fltStatLostClear_leaves h hu, latchSnap_leaves h hu, unlock_leaves h hu, indDataWrite_leaves h hu,
      cfgcrcRefWrite_leaves h, hltPlanRun_leaves h hu, capCommand_leaves h hu, optPortEnable_leaves h hu, optPortRetrain_leaves h hu,
      cxlPortRetrain_leaves h hu, clkObsWrite_leaves h hu, clkGateOffReq_leaves h hu⟩,
    fun s a hl => exec_unlockLapse a hl, fun s a l hl ha hf => ⟨indDataRead_answers hl ha hf, topTimeLoRead_answers hl ha hf⟩,
    fun s hr => ⟨fun h => ?_, fun harm hne => ?_⟩⟩
  · rw [exec_cfgcrcPass hr, crcPass_agrees rfl h]
  · exact ⟨_, exec_cfgcrcPass hr, crcPass_differs rfl harm hne⟩

end Sys2Proof.Machine
end

section
/-! Debug frames and the debug operations (R456 to R459). -/

namespace Sys2Proof.Machine

/-! ### Frames -/

/-- A row of the debug port runs its frame. -/
theorem exec_dbgRow {c : Instr} {ok : Bool} {s : State} (hl : live s = true) (h : dbgRow c = some ok) : ∃ f, exec c s = .next (frame ok f s) := by
  have hr : running s = true := (Bool.and_eq_true_iff.1 hl).1
  cases c <;> cases h
  case regWr a d => exact ⟨_, runWrite_running hr⟩
  all_goals exact ⟨_, run_live hl⟩

theorem dbgReady_iff {s : State} : dbgReady s = true ↔ live s = true ∧ s.dbg.en = true ∧ s.dbg.busy = none := by
  simp only [dbgReady, Bool.and_eq_true, Option.isNone_iff_eq_none, and_assoc]

/-- A frame whose CRC holds, of a port that is ready, is answered, and its operation runs. -/
theorem frame_ready {f : State → State} {s : State} (h : dbgReady s = true) : frame true f s = f (dbgShown s) := by
  obtain ⟨-, he, hb⟩ := dbgReady_iff.1 h
  rw [frame, if_neg (by rw [he]; decide), if_neg (by rw [hb]; decide), if_pos rfl]
  rfl

theorem run_frame {f : State → State} {s : State} (h : dbgReady s = true) : run (frame true f) s = .next (f (dbgShown s)) := by
  rw [run_live (dbgReady_iff.1 h).1, frame_ready h]

theorem onCore_core {c : Nat} {f : State → State} {s : State} (h : c < 16) : onCore c f s = f s := if_pos h

theorem onHalted_halted {c : Nat} {f : State → State} {s : State} (h : c < 16) (hc : c ∈ s.dbg.halted) : onHalted c f s = f s := by
  rw [onHalted, onCore_core h, if_pos (show coreHalted s c = true from List.contains_iff_mem.2 hc)]

theorem onHalted_runs {c : Nat} {f : State → State} {s : State} (h : c < 16) (hc : c ∉ s.dbg.halted) : onHalted c f s = resultSt 3 s := by
  rw [onHalted, onCore_core h, if_neg fun hh : coreHalted s c = true => hc (List.contains_iff_mem.1 hh)]

theorem resultSt_sameBut {st : Nat} {s : State} : sameBut [.seed, .dbg] s (resultSt st s) := sameBut_of_eq rfl

theorem dbgShown_sameBut {s : State} : sameBut [.out] s (dbgShown s) := sameBut_of_eq rfl

/-! ### Cores -/

theorem haltCore_halted (c : Nat) (s : State) : (haltCore c s).dbg.halted =
    if c ∈ s.dbg.halted then s.dbg.halted else s.dbg.halted.filter (· < c) ++ [c] ++ s.dbg.halted.filter (c < ·) := by
  unfold haltCore coreHalted
  by_cases h : c ∈ s.dbg.halted
  · rw [if_pos (List.contains_iff_mem.2 h), if_pos h]
  · rw [if_neg fun hh => h (List.contains_iff_mem.1 hh), if_neg h]

theorem mem_haltCore (c : Nat) (s : State) : c ∈ (haltCore c s).dbg.halted := by
  rw [haltCore_halted]
  split
  · assumption
  · simp

theorem haltCore_keeps {c k : Nat} {s : State} (h : k ∈ s.dbg.halted) : k ∈ (haltCore c s).dbg.halted := by
  rw [haltCore_halted]
  split
  · exact h
  · simp only [List.mem_append, List.mem_filter, List.mem_singleton, decide_eq_true_eq, h, true_and]
    omega

/-- What a core's register reads as once the port has written it, and every other register of the core. -/
theorem coreVal_written {s t : State} {c a v k : Nat} (hr : t.dbg.regs = s.dbg.regs.ins (65536 * c + a) v) (hn : t.dbg.runs = s.dbg.runs) :
    coreVal t c k = if k = a then v else coreVal s c k := by
  rw [coreVal, hr, Tab.find_ins, hn]
  by_cases h : k = a
  · rw [if_pos (by omega), if_pos h]
  · rw [if_neg (by omega), if_neg h]
    rfl

/-! ### Control memory -/

theorem get_listBytes (m : Tab Byte) (a : Nat) (bs : Bytes) (j : Nat) :
    (listBytes m a bs).get 0#8 j = if a ≤ j ∧ j < a + bs.length then (bs[j - a]?).getD 0#8 else m.get 0#8 j := by
  induction bs generalizing m a with
  | nil => exact (if_neg (by simp)).symm
  | cons b bs ih =>
    rw [listBytes, ih, Tab.get_ins]
    by_cases hj : j = a
    · subst hj
      simp
    · by_cases hin : a + 1 ≤ j ∧ j < a + 1 + bs.length
      · obtain ⟨n, rfl⟩ : ∃ n, j = a + 1 + n := ⟨j - (a + 1), by omega⟩
        rw [if_pos hin, if_pos (by rw [List.length_cons]; omega), show a + 1 + n - a = n + 1 by omega, List.getElem?_cons_succ, Nat.add_sub_cancel_left]
      · rw [if_neg hin, if_neg hj, if_neg (by rw [List.length_cons]; omega)]

theorem bytes_listBytes (m : Tab Byte) (a : Nat) (bs : Bytes) : (listBytes m a bs).bytes a bs.length = bs := by
  refine List.ext_getElem (by simp [Tab.bytes]) fun i h1 h2 => ?_
  simp only [Tab.bytes, List.getElem_map, List.getElem_range, get_listBytes]
  rw [if_pos (by omega), Nat.add_sub_cancel_left, List.getElem?_eq_getElem h2, Option.getD_some]

theorem length_leBytes (n v : Nat) : (leBytes n v).length = n := by
  induction n generalizing v with
  | zero => rfl
  | succ n ih => rw [leBytes, List.length_cons, ih]

/-! ### The operations -/

theorem halted_coreRuns {c : Nat} {s : State} : (coreRuns c s).dbg.halted = s.dbg.halted := rfl

theorem not_halted_resumeCore (c : Nat) (s : State) : c ∉ (resumeCore c s).dbg.halted := fun h => by
  have h : c ∈ s.dbg.halted.filter fun x => x != c := h
  simp at h

theorem coreReg_below {a : Nat} (h : coreReg a = true) : a < 65536 := by
  simp only [coreReg, Bool.or_eq_true, Bool.and_eq_true, decide_eq_true_eq] at h
  omega

/-- The state once CORE_WR has written a register of a core. -/
def coreWritten (c a d : Nat) (s : State) : State :=
  resultSt 0 { s with dbg := { s.dbg with regs := s.dbg.regs.ins (65536 * c + a) (d % 2 ^ 32) } }

theorem coreVal_coreWritten (c a d k : Nat) (s : State) :
    coreVal (coreWritten c a d s) c k = if k = a then d % 2 ^ 32 else coreVal s c k :=
  coreVal_written (t := coreWritten c a d s) rfl rfl

/-- CORE_WR of a halted core writes the register and no other. -/
theorem coreWr_writes {s : State} {c a d : Nat} (h : dbgReady s = true) (hc : c < 16) (hh : c ∈ s.dbg.halted) (ha : coreReg a = true) :
    ∃ t, exec (.coreWr true c a d) s = .next t ∧ coreVal t c a = d % 2 ^ 32 ∧ t.dbg.lastSt = 0 ∧
      (∀ k, k < 65536 → k ≠ a → coreVal t c k = coreVal s c k) ∧ sameBut [.out, .seed, .dbg] s t :=
  ⟨coreWritten c a d (dbgShown s), (run_frame h).trans (congrArg _ ((onHalted_halted (s := dbgShown s) hc hh).trans (if_pos ha))),
    (coreVal_coreWritten c a d a _).trans (if_pos rfl), rfl, fun k _ hk => (coreVal_coreWritten c a d k _).trans (if_neg hk), sameBut_of_eq rfl⟩

/-- An operation on a core that is not halted has status 3 and does nothing. -/
theorem notHalted_refused {f : State → State} {s : State} {c : Nat} (h : dbgReady s = true) (hc : c < 16) (hh : c ∉ s.dbg.halted) :
    ∃ t, run (frame true (onHalted c f)) s = .next t ∧ t.dbg.lastSt = 3 ∧ sameBut [.out, .seed, .dbg] s t :=
  ⟨resultSt 3 (dbgShown s), (run_frame h).trans (congrArg _ (onHalted_runs hc hh)), rfl, sameBut_of_eq rfl⟩

/-- MEM_WR with all cores halted writes its four bytes and no other. -/
theorem memWr_writes {s : State} {a : Nat} {d : Word} (h : dbgReady s = true) (ha : a % 4 = 0) (hb : a < 2 ^ 25) (hh : s.dbg.halted.length = 16) :
    ∃ t, exec (.memWr true a d) s = .next t ∧ t.dbg.mem.bytes a 4 = leBytes 4 d.toNat ∧ t.dbg.lastSt = 0 ∧
      (∀ b, b < a ∨ a + 4 ≤ b → t.dbg.mem.get 0#8 b = s.dbg.mem.get 0#8 b) ∧ sameBut [.out, .seed, .dbg] s t := by
  have hs : coresStill (dbgShown s) = true := beq_iff_eq.2 hh
  have he : exec (.memWr true a d) s = .next (resultSt 0 { dbgShown s with dbg := { s.dbg with
      mem := listBytes s.dbg.mem a (leBytes 4 d.toNat) } }) :=
    (run_frame h).trans (congrArg _ ((if_neg (not_not.2 ha)).trans ((if_neg (show ¬ ctlBytes ≤ a from Nat.not_le.2 hb)).trans
      (congrArg _ (if_pos hs)))))
  refine ⟨_, he, ?_, rfl, fun b hb => ?_, sameBut_of_eq rfl⟩
  · exact (congrArg _ (length_leBytes 4 d.toNat).symm).trans (bytes_listBytes s.dbg.mem a (leBytes 4 d.toNat))
  · refine (get_listBytes s.dbg.mem a (leBytes 4 d.toNat) b).trans (if_neg ?_)
    rw [length_leBytes]
    omega

theorem readVal_shown {s : State} {x o : Nat} : readVal (dbgShown s) x o = readVal s x o := rfl

theorem debugRegRead_reads {s : State} {a o : Nat} {k : WriteKind} (ha : a % 4 = 0) (hi : inCounters a = false) (hr : resolve a = some (o, k)) :
    debugRegRead a (dbgShown s) = result 0 (readVal s (accIdx .debug 0) o).toNat (readSide (accIdx .debug 0) o (dbgShown s)) := by
  rw [debugRegRead, if_neg (not_not.2 ha), if_neg (by rw [hi]; decide), windowRead, hr]
  rfl

theorem debugRegWrite_writes {s : State} {a o : Nat} {d : Word} {k : WriteKind} (ha : a % 4 = 0) (hi : inCounters a = false)
    (hr : resolve a = some (o, k)) : debugRegWrite a d s =
      (let w := windowWrite .debug (accIdx .debug 0) o k d s
       resultSt (if w.1 = .ok then 0 else 1) w.2) := by
  rw [debugRegWrite, if_neg (not_not.2 ha), if_neg (by rw [hi]; decide), hr]

/-! ### Breakpoints and the enable pin -/

theorem exec_breakpointHit {s : State} (c : Fin 16) (n : Fin 8) (hl : live s = true) : exec (.breakpointHit c n) s =
    .next (if s.dbg.en && fwRuns s && (s.dbg.bps.find (8 * c.val + n.val)).isSome then haltCore c.val s else s) := run_live hl

/-- DBG_EN_FALL of an enabled port with no core halted, in a quiet state. -/
theorem dbgEnFall_ends {s : State} (hl : live s = true) (he : s.dbg.en = true) (hh : s.dbg.halted = []) (hq : quiet s = true) :
    ∃ t, exec .dbgEnFall s = .next t ∧ t.dbg.en = false ∧ t.dbg.bps = [] ∧ t.dbg.busy = none ∧ sameBut [.seed, .dbg] s t := by
  have ho : debugOff s = settled { (freeVal (2 ^ 64) s).2 with dbg := { s.dbg with en := false, halted := [], bps := [], busy := none, used := none } } := by
    have hx : (freeVal (2 ^ 64) s).2.dbg = s.dbg := rfl
    rw [debugOff, if_neg (by rw [he]; decide)]
    generalize freeVal (2 ^ 64) s = w at hx ⊢
    obtain ⟨v, x⟩ := w
    change x.dbg = s.dbg at hx
    simp only [hx, hh, if_true, List.foldl_nil]
  rw [show exec .dbgEnFall s = .next (debugOff s) from run_live hl, ho, settled_quiet (by exact hq)]
  exact ⟨_, rfl, rfl, rfl, rfl, sameBut_of_eq rfl⟩

/-- Settles O60: each row of the debug port runs its frame, and a frame that is ready is its operation on the state that has answered. -/
theorem debugOperations : Obligations.DebugOperations := by
  refine ⟨fun s h => run_frame h, fun s c h hc => ⟨?_, mem_haltCore c s, fun k => haltCore_keeps, fun a d => ?_, fun d => ?_⟩,
    fun s c h hc hh => ⟨?_, not_halted_resumeCore c s, ?_, rfl, fun a ha => ?_, fun a d ha => coreWr_writes h hc hh ha⟩,
    fun s c h hc hh i hi => ?_, fun s c n hl => ⟨fun he hf hb => ?_, fun hn => ?_⟩,
    fun s a d h ha hb => ⟨memWr_writes h ha hb, fun hm => ?_⟩, fun s a d h ha => ?_, fun s a o d k h ha hi hr => ⟨?_, ?_⟩,
    fun s p a d h => ⟨run_frame h, run_frame h, fun hn => ?_⟩, fun s hl => ⟨run_live hl, fun he => ?_, dbgEnFall_ends hl⟩,
    fun c s ok hl hr he => ?_, fun c s ok hl hr he hb => ?_, fun c s h hr => ?_⟩
  · exact (run_frame h).trans (congrArg _ (onCore_core hc))
  · exact (run_frame h).trans (congrArg _ (onCore_core hc))
  · exact (run_frame h).trans (congrArg _ (onCore_core hc))
  · exact (run_frame h).trans (congrArg _ (onHalted_halted hc hh))
  · exact (run_frame h).trans (congrArg _ (onHalted_halted hc hh))
  · exact (run_frame h).trans (congrArg _ ((onHalted_halted (s := dbgShown s) hc hh).trans (if_pos ha)))
  · simp only [List.mem_cons, List.not_mem_nil, or_false] at hi
    obtain rfl | rfl | rfl := hi
    · exact notHalted_refused h hc hh
    · exact notHalted_refused h hc hh
    · exact notHalted_refused h hc hh
  · rw [exec_breakpointHit c n hl, he, hf, hb]
    rfl
  · rw [exec_breakpointHit c n hl, if_neg]
    obtain hn | hn := hn <;> rw [hn] <;> simp
  · refine (run_frame h).trans (congrArg _ ?_)
    have hlt : ¬ ctlBytes ≤ a := Nat.not_le.2 hb
    rw [memRead, if_neg (not_not.2 ha), if_neg hlt]
    exact if_pos hm
  · refine ⟨(run_frame h).trans (congrArg _ (if_pos ha)), (run_frame h).trans (congrArg _ (if_pos ha)),
      (run_frame h).trans (congrArg _ (if_pos ha)), ?_⟩
    exact (runWrite_running (running_of_live (dbgReady_iff.1 h).1)).trans (congrArg _ ((frame_ready h).trans (if_pos ha)))
  · exact (run_frame h).trans (congrArg _ (debugRegRead_reads ha hi hr))
  · exact (runWrite_running (running_of_live (dbgReady_iff.1 h).1)).trans
      (congrArg _ ((frame_ready h).trans (debugRegWrite_writes ha hi hr)))
  · exact if_pos (.inr (by rw [hn]; rfl))
  · exact (run_live hl).trans (congrArg _ (if_pos (by rw [he]; rfl)))
  · obtain ⟨f, hf⟩ := exec_dbgRow hl hr
    exact hf.trans (congrArg _ (if_pos (by rw [he]; rfl)))
  · obtain ⟨f, hf⟩ := exec_dbgRow hl hr
    exact ⟨_, _, hf.trans (congrArg _ ((if_neg (by rw [he]; decide)).trans (if_pos hb))), rfl, sameBut_of_eq rfl⟩
  · obtain ⟨hl, he, hb⟩ := dbgReady_iff.1 h
    obtain ⟨f, hf⟩ := exec_dbgRow hl hr
    refine ⟨_, hf.trans (congrArg _ ((if_neg (by rw [he]; decide)).trans ((if_neg (by rw [hb]; decide)).trans (if_neg (by decide))))), rfl, rfl,
      rfl, rfl, rfl, rfl, sameBut_of_eq rfl⟩

end Sys2Proof.Machine
end

section
/-! Flits received, idle power and replays (R266, R270 to R276). -/

namespace Sys2Proof.Machine

theorem optPort_setOpt_same (s : State) (p : Nat) (o : OptPort) : optPort (setOpt s p o) p = o := (optPort_setOpt ..).trans (if_pos rfl)

theorem optPort_bumpN (a n : Nat) (s : State) (p : Nat) : optPort (bumpN a n s) p = optPort s p := rfl

/-- A flit that finds the port lit and sends nothing sequenced is answered by an IDLE flit. -/
theorem answerIdle_same {p n : Nat} {s : State} (hl : (optPort s p).lit = true) (hn : (optPort s p).next = n) : answerIdle p n s = sendIdle p s :=
  if_pos (by rw [hl, hn, beq_self_eq_true]; rfl)

/-- The state once a flit that does not pass its checks has been counted. -/
def flitRefused (p : Nat) (s : State) : State := setOpt (bump (0xC100C + 0x40 * p) s) p { optPort s p with nak := true }

theorem answerIdle_flitRefused {p n : Nat} {s : State} (hl : (optPort s p).lit = true) (hn : (optPort s p).next = n) :
    answerIdle p n (flitRefused p s) = sendIdle p (flitRefused p s) :=
  answerIdle_same (by rw [flitRefused, optPort_setOpt_same]; exact hl) (by rw [flitRefused, optPort_setOpt_same]; exact hn)

theorem exec_flitReceived {p : Fin 64} {f : Bytes} {s : State} (hl : live s = true) :
    exec (.flitReceived p f) s = .next (settled (flitIn p.val f s)) := run_live (f := fun s => settled (flitIn p.val f s)) hl

theorem flitIn_unlit {p : Nat} {f : Bytes} {s : State} (h : (optPort s p).lit = false) : flitIn p f s = s := if_pos (by rw [h]; rfl)

theorem flitIn_undecoded {p : Nat} {f : Bytes} {s : State} (h : (optPort s p).lit = true) (hc : flitCorrect f = none) :
    flitIn p f s = sendIdle p (flitRefused p s) := by
  rw [flitIn, if_neg (by rw [h]; decide), hc]
  exact answerIdle_flitRefused h rfl

theorem flitIn_failed {p : Nat} {f c : Bytes} {n : Nat} {s : State} (h : (optPort s p).lit = true) (hc : flitCorrect f = some (c, n))
    (hk : flitCheck f = none) : flitIn p f s = sendIdle p (flitRefused p (bumpN (0xC1010 + 0x40 * p) n s)) := by
  rw [flitIn, if_neg (by rw [h]; decide), hc]
  simp only [hk]
  exact answerIdle_flitRefused (s := bumpN (0xC1010 + 0x40 * p) n s) h rfl

theorem flitIn_passes {p : Nat} {f c g : Bytes} {n m : Nat} {s : State} (h : (optPort s p).lit = true) (hc : flitCorrect f = some (c, n))
    (hk : flitCheck f = some (g, m)) : flitIn p f s = answerIdle p (optPort s p).next
      (switch (txPort p (goodFlit p g (bumpN (0xC1010 + 0x40 * p) n s)))) := by
  rw [flitIn, if_neg (by rw [h]; decide), hc]
  simp only [hk]

/-! ### A flit that passes -/

theorem goodFlit_reserved {p : Nat} {g : Bytes} {s : State} (h : (flitHdrOf g).type = 3) : goodFlit p g s = bump (0xC100C + 0x40 * p) s :=
  if_pos (.inl h)

theorem goodFlit_idle {p : Nat} {g : Bytes} {s : State} (h : (flitHdrOf g).type = 0) (hc : (flitHdrOf g).crCount = 0)
    (hz : g.drop 8 = zeroBytes 240) (hn : (flitHdrOf g).nak = false) : goodFlit p g s = ackTo p (flitHdrOf g).ack s := by
  unfold goodFlit
  rw [if_neg (by simp [h, hc, hz]), hn]
  exact if_pos h

theorem goodFlit_sequenced {p : Nat} {g : Bytes} {s : State} (h : (flitHdrOf g).type = 1 ∨ (flitHdrOf g).type = 2)
    (hn : (flitHdrOf g).nak = false) (hl : (optPort (ackTo p (flitHdrOf g).ack s) p).lit = true) :
    goodFlit p g s =
      let h := flitHdrOf g
      let x := ackTo p h.ack s
      let o := optPort x p
      if h.lseq ≠ o.expect then setOpt x p { o with nak := true }
      else
        let o := takeReturn h.crVc h.crClass h.crShared h.crCount o
        let z := setOpt x p { o with expect := (o.expect + 1) % 16384, nak := false }
        if h.type = 1 then dataFlit p h.sop h.eop h.abandon g z else applyLink p g z := by
  have h3 : ¬((flitHdrOf g).type = 3 ∨ (flitHdrOf g).type = 0 ∧ ((flitHdrOf g).crCount ≠ 0 ∨ g.drop 8 ≠ zeroBytes 240)) := by omega
  have h0 : ¬(flitHdrOf g).type = 0 := by omega
  unfold goodFlit
  rw [if_neg h3, hn]
  simp only [Bool.false_eq_true, if_false, if_neg h0, hl, Bool.not_true]

/-! ### Replays -/

theorem replay_still {p : Nat} {c : Bool} {s : State} (h : (optPort s p).sent = [] ∨ (optPort s p).stall = true) : replay p c s = s :=
  if_pos (by obtain h | h := h <;> simp [h])

theorem replay_again {p : Nat} {s : State} (hs : (optPort s p).sent ≠ []) (ht : (optPort s p).stall = false) : replay p true s =
    if replayLimit s ≤ (optPort s p).replays then goDown p s
    else resendFlits p (health (576 + p) 0 1 (bump (0xC1014 + 0x40 * p) (setOpt s p { optPort s p with replays := (optPort s p).replays + 1 }))) := by
  unfold replay
  rw [if_neg (by simp [hs, ht])]
  simp only [true_and]
  rfl

theorem exec_replayTimeout {p : Fin 64} {s : State} (hl : live s = true) :
    exec (.replayTimeout p) s = .next (if (optPort s p.val).lit then replay p.val true s else s) :=
  run_live (f := fun s => if (optPort s p.val).lit then replay p.val true s else s) hl

theorem exec_portIdle {p : Fin 64} {s : State} (hl : live s = true) :
    exec (.portIdle p) s = .next (if (optPort s p.val).lit then setOpt s p.val { optPort s p.val with idle := true } else s) :=
  run_live (f := fun s => if (optPort s p.val).lit then setOpt s p.val { optPort s p.val with idle := true } else s) hl

/-- Settles O53: by the checks of a flit, then by its type and number; a replay by what its port holds and how often it has replayed. -/
theorem flits : Obligations.Flits := by
  refine ⟨fun s p f hl => ⟨fun h => ?_, fun h hc => ?_, fun c n h hc hk => ?_, fun c n g m h hc hk => ?_⟩,
    fun s p g => ⟨goodFlit_reserved, goodFlit_idle, fun ht hn hp => ⟨fun he => ?_, fun he => ?_⟩⟩,
    fun s p hl => ⟨run_live (f := fun s => settled (switch (txPort p.val s))) hl, fun h => ?_, fun h => ⟨?_, ?_⟩, fun h hs => ?_,
      fun h hs ht => ⟨fun hr => ?_, fun hr => ?_⟩⟩⟩
  · refine endsIn_of_settled (x := s) ?_ rfl
    rw [exec_flitReceived hl, flitIn_unlit h]
  · exact (exec_flitReceived hl).trans (by rw [flitIn_undecoded h hc]; rfl)
  · exact (exec_flitReceived hl).trans (by rw [flitIn_failed h hc hk]; rfl)
  · rw [exec_flitReceived hl, flitIn_passes h hc hk]
  · exact (goodFlit_sequenced ht hn hp).trans (if_pos he)
  · exact (goodFlit_sequenced ht hn hp).trans (if_neg (not_not.2 he))
  · rw [exec_portIdle hl, if_pos h]
  · rw [exec_portIdle hl, if_neg (by rw [h]; decide)]
  · rw [exec_replayTimeout hl, if_neg (by rw [h]; decide)]
  · rw [exec_replayTimeout hl, if_pos h, replay_still hs]
  · rw [exec_replayTimeout hl, if_pos h, replay_again hs ht, if_neg (Nat.not_le.2 hr)]
  · rw [exec_replayTimeout hl, if_pos h, replay_again hs ht, if_pos hr]

end Sys2Proof.Machine
end

section
/-! Link messages on lanes, failures of wavelengths, swaps, calibration and rotation (R277, R280 to R286). -/

namespace Sys2Proof.Machine

/-! ### What a port's sending leaves of its state -/

theorem optPort_putFlit_st (p : Nat) (h : FlitHdr) (m : Bytes) (s : State) (k : Nat) : (optPort (putFlit p h m s) k).st = (optPort s k).st := by
  unfold putFlit
  refine (congrArg OptPort.st (optPort_setOpt ..)).trans ?_
  split
  · next h => rw [h]
  · rfl

theorem optPort_setOpt_st {s : State} {p : Nat} {o : OptPort} (h : o.st = (optPort s p).st) (k : Nat) :
    (optPort (setOpt s p o) k).st = (optPort s k).st := by
  rw [optPort_setOpt]
  split
  · next hk => rw [h, hk]
  · rfl

theorem optPort_sendSeq_st (p : Nat) (f : TxFlit) (s : State) (k : Nat) : (optPort (sendSeq p f s) k).st = (optPort s k).st := by
  unfold sendSeq
  exact (optPort_putFlit_st ..).trans (optPort_setOpt_st (by rfl) k)

theorem optPort_txNext_st {p : Nat} {s t : State} (h : txNext p s = some t) (k : Nat) : (optPort t k).st = (optPort s k).st := by
  unfold txNext at h
  dsimp only at h
  repeat' split at h
  · exact nomatch h
  · rw [← Option.some.inj h]; exact (optPort_sendSeq_st ..).trans (optPort_setOpt_st (by rfl) k)
  · rw [← Option.some.inj h]; exact (optPort_sendSeq_st ..).trans (optPort_setOpt_st (by rfl) k)
  · exact nomatch h
  · rw [← Option.some.inj h]; exact optPort_sendSeq_st ..
  · exact nomatch h
  · rw [← Option.some.inj h]; exact optPort_sendSeq_st ..

theorem optPort_txRun_st (p n : Nat) (s : State) (k : Nat) : (optPort (txRun p n s) k).st = (optPort s k).st := by
  induction n generalizing s with
  | zero => rfl
  | succ n ih =>
    unfold txRun
    split
    · next t h => rw [ih, optPort_txNext_st h]
    · rfl

/-- A link message that a port sends leaves the state of every port. -/
theorem optPort_sendLink_st (p opc : Nat) (a : List Nat) (s : State) (k : Nat) : (optPort (sendLink p opc a s) k).st = (optPort s k).st := by
  unfold sendLink
  dsimp only
  split
  · exact (optPort_txRun_st ..).trans (optPort_setOpt_st (by rfl) k)
  · rfl

/-! ### A port that goes DOWN -/

/-- A port that is not OFF is DOWN once it goes DOWN. -/
theorem goDown_down {p : Nat} {s : State} (h : (optPort s p).st ≠ .off) : (optPort (goDown p s) p).st = .down := by
  unfold goDown
  dsimp only
  split
  · next hd => exact hd.resolve_left h
  · exact congrArg OptPort.st (optPort_setOpt_same (endLink p s) p { dropLink (optPort s p) with st := .down })

theorem st_ne_off {o : OptPort} (h : o.lit = true) : o.st ≠ .off := fun he => by simp [OptPort.lit, he] at h

theorem lit_swapLate {p : Nat} {s : State} (hl : (optPort s p).lit = true)
    (h : swapping (optPort s p).rx = true ∨ swapping (optPort s p).tx = true) : (optPort (swapLate p s) p).st = .down := by
  unfold swapLate
  dsimp only
  rw [if_pos (by obtain h | h := h <;> simp [hl, h])]
  refine goDown_down ?_
  rw [optPort_setOpt_same]
  exact fun he => st_ne_off hl ((optPort_sendLink_st ..).symm.trans he)

/-! ### The messages on a port that is not lit -/

section Unlit

variable {p : Nat} {s : State} (h : (optPort s p).lit = false)
include h

theorem swapReqMsg_unlit {dir : Bool} {lane src dst : Nat} {f : Bool} : swapReqMsg p dir lane src dst f s = s := if_pos (by rw [h]; rfl)

theorem swapDoneMsg_unlit {dir : Bool} {lane dst : Nat} : swapDoneMsg p dir lane dst s = s := by
  unfold swapDoneMsg
  dsimp only
  split
  · rfl
  · exact if_pos (.inl (by rw [h]; rfl))

theorem swapAbortMsg_unlit {dir : Bool} {lane r : Nat} : swapAbortMsg p dir lane r s = s := if_pos (by rw [h]; rfl)

theorem calStartMsg_unlit {w : Nat} : calStartMsg p w s = s := if_pos (by rw [h]; rfl)

theorem calEndMsg_unlit {w : Nat} {r : Bool} : calEndMsg p w r s = s := if_pos (by rw [h]; rfl)

theorem lanesMsg_unlit {dir : Bool} {n m : Nat} : lanesMsg p dir n m s = s := if_pos (by rw [h]; rfl)

theorem wlFail_unlit {w : Nat} : wlFail p w s = s := if_neg (by rw [h]; decide)

theorem swapChecked_unlit {ok : Bool} : swapChecked p ok s = s := by
  unfold swapChecked
  dsimp only
  split
  · rfl
  · exact if_pos (by rw [h]; rfl)

theorem swapLate_unlit : swapLate p s = s := if_neg (by rw [h]; simp)

theorem calMeasured_unlit {ok : Bool} : calMeasured p ok s = s := by
  unfold calMeasured
  dsimp only
  split
  · exact if_neg (by rw [h]; decide)
  · rfl

end Unlit

/-! ### The messages on a lit port -/

section Lit

variable {p : Nat} {s : State} (h : (optPort s p).lit = true)
include h

/-- SWAP_REQ of the receiver begins the swap it asks for. -/
theorem swapReqMsg_begins {lane src dst : Nat} {f : Bool} (hm : (optPort s p).tx.map[lane]? = some src) (hs : (optPort s p).tx.swap = none)
    (hc : (optPort s p).tx.cal = none) (hd : (optPort s p).tx.spare = some dst) : swapReqMsg p true lane src dst f s =
      setOpt s p { optPort s p with tx := { (optPort s p).tx with swap := some ⟨lane, src, dst, f⟩ }, stall := f } := by
  have hw : swapping (optPort s p).tx = false := by rw [swapping, hs]
  unfold swapReqMsg
  dsimp only
  rw [if_neg (by rw [h]; decide), if_pos rfl, if_neg (by rw [hw]; simp [hm])]
  simp only [hs, hc, hd]
  rw [if_neg (by simp)]

/-- SWAP_DONE of a failure swap under way. -/
theorem swapDoneMsg_failure {x : Swap} (hs : (optPort s p).tx.swap = some x) (hf : x.failed = true) : swapDoneMsg p true x.lane x.dst s =
    restate p (replay p false (laneEvent p
      (setOpt s p { optPort s p with tx := retire x.src (moveLane x (optPort s p).tx), stall := false }))) := by
  unfold swapDoneMsg
  simp only [hs]
  rw [if_neg (by simp [h]), if_pos hf]

/-- SWAP_ABORT with reason 2 of a planned swap under way. -/
theorem swapAbortMsg_planned {x : Swap} (hs : (optPort s p).tx.swap = some x) (hf : x.failed = false) : swapAbortMsg p true x.lane 2 s =
    setOpt s p { optPort s p with tx := { (optPort s p).tx with swap := none }, stall := false } := by
  unfold swapAbortMsg
  dsimp only
  rw [if_neg (by rw [h]; decide), if_pos rfl]
  simp only [hs]
  rw [if_neg (by simp), if_neg (by decide), if_neg (by rw [hf]; decide)]

theorem calStartMsg_begins {w : Nat} (hd : doomed s (9 * p + w) = false) : calStartMsg p w s =
    setOpt s p { optPort s p with rx := { (optPort s p).rx with cal := some w } } := by
  unfold calStartMsg
  dsimp only
  rw [if_neg (by rw [h]; decide), if_neg (by rw [hd]; decide)]
  rfl

theorem calEndMsg_spare {w : Nat} (hc : (optPort s p).rx.cal = some w) : calEndMsg p w false s =
    restate p (setOpt s p { optPort s p with rx := { (optPort s p).rx with cal := none, spare := some w } }) := by
  unfold calEndMsg
  dsimp only
  rw [if_neg (by rw [h]; decide), if_pos hc]
  rfl

/-- A lane's wavelength that fails, with a spare and no swap under way, has its swap asked for. -/
theorem wlFail_asks {w lane d : Nat} (hm : (optPort s p).rx.map.idxOf? w = some lane) (hs : (optPort s p).rx.swap = none)
    (hd : (optPort s p).rx.spare = some d) : wlFail p w s = sendLink p 2 [1, lane, w, d, 1] (setOpt (health (9 * p + w) 1 1 s) p
      { optPort s p with rx := { (optPort s p).rx with lost := w :: (optPort s p).rx.lost, swap := some ⟨lane, w, d, true⟩, spare := some d,
                                                        cal := none } }) := by
  have ho : optPort (health (9 * p + w) 1 1 s) p = optPort s p := rfl
  have hw : swapping { (optPort s p).rx with lost := w :: (optPort s p).rx.lost } = false := by rw [swapping]; simp only [hs]
  rw [wlFail, if_pos h]
  unfold wlOut
  simp only [ho]
  rw [if_neg (by rw [h]; decide)]
  simp only [hm, hw, hs, hd, Bool.false_eq_true, if_false]
  rfl

/-- A check that passes, of a planned swap. -/
theorem swapChecked_planned {x : Swap} (hs : (optPort s p).rx.swap = some x) (hf : x.failed = false) : swapChecked p true s =
    restate p (sendLink p 3 [1, x.lane, x.dst, (optPort s p).expect]
      (setOpt s p { optPort s p with rx := { moveLane x (optPort s p).rx with cal := some x.src } })) := by
  unfold swapChecked
  simp only [hs]
  rw [if_neg (by rw [h]; decide), if_pos trivial]
  simp only [hf, Bool.false_eq_true, if_false]
  rfl

theorem calMeasured_ends {w : Nat} {ok : Bool} (hc : (optPort s p).tx.cal = some w) : calMeasured p ok s =
    restate p (sendLink p 6 [w, if ok then 0 else 1] (setOpt s p { optPort s p with tx := calOver w (!ok) (optPort s p).tx })) := by
  unfold calMeasured
  simp only [hc]
  rw [if_pos h]
  cases ok <;> rfl

/-- LANES gives its direction the map it names. -/
theorem lanesMsg_lit {dir : Bool} {n m : Nat} : lanesMsg p dir n m s =
    let w := lanesOf (Nat.min n 8) m
    let cut (d : Dir) : Dir := { d with map := w, swap := none, retired := rising (d.retired ++ d.map.filter (fun x => !w.contains x)) }
    let o := optPort s p
    restate p (laneEvent p (setOpt s p (if dir then { o with tx := cut o.tx } else { o with rx := cut o.rx }))) := by
  unfold lanesMsg
  dsimp only
  rw [if_neg (by rw [h]; decide)]
  cases dir <;> rfl

/-- A planned swap of a lane's wavelength to the spare is asked for. -/
theorem plannedSwap_asks {d w lane : Nat} (hm : (optPort s p).tx.map.idxOf? w = some lane) (hd : (optPort s p).tx.spare = some d)
    (hs : (optPort s p).tx.swap = none) (hc : (optPort s p).tx.cal = none) : plannedSwap p w s =
      sendLink p 2 [0, lane, w, d, 0] (setOpt s p { optPort s p with tx := { (optPort s p).tx with swap := some ⟨lane, w, d, false⟩ } }) := by
  unfold plannedSwap
  simp only [hm, hd]
  rw [if_pos ⟨h, hs, hc⟩]
  rfl

end Lit

theorem mayRotate_lit {s : State} {p : Nat} (h : mayRotate s p = true) : (optPort s p).lit = true := by
  simp only [mayRotate, Bool.and_eq_true, beq_iff_eq] at h
  simp [OptPort.lit, h.1.1]

/-- A rotation step of a port with a spare, no swap and no calibration. -/
theorem rotate_asks {p d w lane : Nat} {s : State} (h : (optPort s p).lit = true) (hd : (optPort s p).tx.spare = some d)
    (hn : rotateNext (optPort s p).tx.map d = some w) (hm : (optPort s p).tx.map.idxOf? w = some lane) (hs : (optPort s p).tx.swap = none)
    (hc : (optPort s p).tx.cal = none) : rotate p s =
      sendLink p 2 [0, lane, w, d, 0] (setOpt s p { optPort s p with tx := { (optPort s p).tx with swap := some ⟨lane, w, d, false⟩ } }) := by
  have hr : rotate p s = plannedSwap p w s := by
    unfold rotate
    simp only [hd, hn]
  exact hr.trans (plannedSwap_asks h hm hd hs hc)

theorem exec_spareRotation {p : Fin 64} {s : State} (hl : live s = true) :
    exec (.spareRotation p) s = .next (if mayRotate s p.val then rotate p.val s else s) :=
  run_live (f := fun s => if mayRotate s p.val then rotate p.val s else s) hl

theorem exec_swapDone {p : Fin 64} {dir : Bool} {lane dst n : Nat} {s : State} (hl : live s = true) :
    exec (.swapDone p dir lane dst n) s = .next (settled (swapDoneMsg p.val dir lane dst s)) :=
  run_live (f := fun s => settled (swapDoneMsg p.val dir lane dst s)) hl

theorem exec_swapAbort {p : Fin 64} {dir : Bool} {lane r : Nat} {s : State} (hl : live s = true) :
    exec (.swapAbort p dir lane r) s = .next (settled (swapAbortMsg p.val dir lane r s)) :=
  run_live (f := fun s => settled (swapAbortMsg p.val dir lane r s)) hl

/-- Settles O54: each message by whether its port is lit, and then by the swap or calibration that it names. -/
theorem linkLanes : Obligations.LinkLanes := by
  refine ⟨fun s p hl h => ⟨fun dir lane src dst f => ?_, fun dir lane dst n => ?_, fun dir lane r => ?_, fun w => ?_, fun w r => ?_,
      fun dir n m k => ?_, fun w => ?_, fun ok => ?_, ?_, fun ok => ?_⟩,
    fun s p lane src dst f hl h hm hs hc hd => ?_, fun s p x n hl h hs hf => ?_, fun s p x hl h hs hf => ?_, fun s p w hl h hd => ?_,
    fun s p w hl h hc => ?_, fun s p dir n m k hl h => ?_, fun s p w lane d hl h hm hs hd => ?_, fun s p x hl h hs hf => ?_,
    fun s p hl hr ht => ?_, fun s p hl h hs => ?_, fun s p hl => ⟨fun d w lane hm hd hn hi hs hc => ?_, fun hm => ?_⟩,
    fun s p w ok hl h hc => ?_⟩
  · exact (run_live hl).trans (congrArg _ (swapReqMsg_unlit h))
  · exact endsIn_of_settled (x := s) ((exec_swapDone hl).trans (by rw [swapDoneMsg_unlit h])) rfl
  · exact endsIn_of_settled (x := s) ((exec_swapAbort hl).trans (by rw [swapAbortMsg_unlit h])) rfl
  · exact (run_live hl).trans (congrArg _ (calStartMsg_unlit h))
  · exact (run_live hl).trans (congrArg _ (calEndMsg_unlit h))
  · exact (run_live hl).trans (congrArg _ (lanesMsg_unlit h))
  · exact (run_live hl).trans (congrArg _ (wlFail_unlit h))
  · exact (run_live hl).trans (congrArg _ (swapChecked_unlit h))
  · exact (run_live hl).trans (congrArg _ (swapLate_unlit h))
  · exact (run_live hl).trans (congrArg _ (calMeasured_unlit h))
  · exact (run_live hl).trans (congrArg _ (swapReqMsg_begins h hm hs hc hd))
  · exact (exec_swapDone hl).trans (by rw [swapDoneMsg_failure h hs hf])
  · exact (exec_swapAbort hl).trans (by rw [swapAbortMsg_planned h hs hf])
  · exact (run_live hl).trans (congrArg _ (calStartMsg_begins h hd))
  · exact (run_live hl).trans (congrArg _ (calEndMsg_spare h hc))
  · exact (run_live hl).trans (congrArg _ (lanesMsg_lit h))
  · exact (run_live hl).trans (congrArg _ (wlFail_asks h hm hs hd))
  · exact (run_live hl).trans (congrArg _ (swapChecked_planned h hs hf))
  · exact (run_live hl).trans (congrArg _ (if_neg (by rw [hr, ht]; simp)))
  · exact ⟨_, run_live hl, rfl, lit_swapLate h hs⟩
  · rw [exec_spareRotation hl, if_pos hm, rotate_asks (mayRotate_lit hm) hd hn hi hs hc]
  · rw [exec_spareRotation hl, if_neg (by rw [hm]; decide)]
  · exact (run_live hl).trans (congrArg _ (calMeasured_ends h hc))

end Sys2Proof.Machine
end

section
/-! Training of a Biria port, its PHY PLL, and changes of its state (R278, R280, R288). -/

namespace Sys2Proof.Machine

/-! ### Steps of a training -/

theorem exec_trainingStepDone {p : Fin 64} {ok mg : List Nat} {s : State} (hl : live s = true) :
    exec (.trainingStepDone p ok mg) s = .next (if trainable s p.val then trainStep p.val ok mg s else s) :=
  run_live (f := fun s => if trainable s p.val then trainStep p.val ok mg s else s) hl

theorem exec_trainingRetry {p : Fin 64} {s : State} (hl : live s = true) :
    exec (.trainingRetry p) s = .next (if trainable s p.val then repeatStep p.val s else s) :=
  run_live (f := fun s => if trainable s p.val then repeatStep p.val s else s) hl

theorem trainStep_other {p : Nat} {ok mg : List Nat} {s : State} (h : (optPort s p).st ≠ .training) : trainStep p ok mg s = s := if_pos h

theorem repeatStep_other {p : Nat} {s : State} (h : (optPort s p).st ≠ .training ∨ (optPort s p).step ≠ 5) : repeatStep p s = s :=
  if_neg fun hc => h.elim (fun h => h hc.1) fun h => h hc.2

section Training

variable {p : Nat} {ok mg : List Nat} {s : State} (h : (optPort s p).st = .training)
include h

/-- What a step of a training does, by the step. -/
theorem trainStep_training : trainStep p ok mg s =
    let o := optPort s p
    if o.step = 4 then
      let m := alive o.rx
      sendTrain p { o.rx with map := m.take 8, spare := if m.length = 9 then m.getLast? else none } (setOpt s p { o with step := 5 })
    else if o.step = 5 then (if o.nbr.isSome then setOpt s p { o with step := 6 } else s)
    else if o.step = 6 then
      let d := measured ok mg o.rx
      if d.map.length < minLanes s then setRx p d s
      else enterUp p (sendTrain p d (setOpt s p { o with rx := d, step := 7 }))
    else if o.step < 4 then setOpt s p { o with step := o.step + 1 }
    else s := if_neg (not_not.2 h)

theorem trainStep_early (hs : (optPort s p).step < 4) :
    trainStep p ok mg s = setOpt s p { optPort s p with step := (optPort s p).step + 1 } :=
  (trainStep_training h).trans ((if_neg (by omega)).trans ((if_neg (by omega)).trans ((if_neg (by omega)).trans (if_pos hs))))

theorem trainStep_four (hs : (optPort s p).step = 4) : trainStep p ok mg s =
    let m := alive (optPort s p).rx
    sendTrain p { (optPort s p).rx with map := m.take 8, spare := if m.length = 9 then m.getLast? else none }
      (setOpt s p { optPort s p with step := 5 }) := (trainStep_training h).trans (if_pos hs)

theorem trainStep_five (hs : (optPort s p).step = 5) :
    trainStep p ok mg s = if (optPort s p).nbr.isSome then setOpt s p { optPort s p with step := 6 } else s :=
  (trainStep_training h).trans ((if_neg (by omega)).trans (if_pos hs))

theorem trainStep_six (hs : (optPort s p).step = 6) : trainStep p ok mg s =
    let d := measured ok mg (optPort s p).rx
    if d.map.length < minLanes s then setRx p d s
    else enterUp p (sendTrain p d (setOpt s p { optPort s p with rx := d, step := 7 })) :=
  (trainStep_training h).trans ((if_neg (by omega)).trans ((if_neg (by omega)).trans (if_pos hs)))

end Training

/-! ### TRAIN messages -/

theorem not_training_of_lit {o : OptPort} (h : o.lit = true) : o.st ≠ .training := fun he => by simp [OptPort.lit, he] at h

theorem trainMsg_lit {p m n k mp : Nat} {s : State} (h : (optPort s p).lit = true) :
    trainMsg p m n k mp s = restate p (setOpt s p { optPort s p with tx := proposed k mp (optPort s p).tx }) :=
  (if_neg fun hc => not_training_of_lit h hc.1).trans (if_pos h)

theorem trainMsg_training {p m n k mp : Nat} {s : State} (h : (optPort s p).st = .training) (hs : 5 ≤ (optPort s p).step) :
    trainMsg p m n k mp s = enterUp p (foundNbr p m n
      (setOpt s p { optPort s p with nbr := some (m, n), tx := proposed k mp (optPort s p).tx })) := if_pos ⟨h, hs⟩

theorem trainMsg_dark {p m n k mp : Nat} {s : State} (h : (optPort s p).st = .off ∨ (optPort s p).st = .down) : trainMsg p m n k mp s = s := by
  refine (if_neg fun hc => ?_).trans (if_neg ?_)
  · rw [hc.1] at h
    simp at h
  · obtain h | h := h <;> simp [OptPort.lit, h]

/-- A port at step 7 with its neighbour known, whose lanes suffice, comes up. -/
theorem enterUp_up {p : Nat} {s : State} (h : (optPort s p).st = .training) (hs : (optPort s p).step = 7) (hn : (optPort s p).nbr.isSome = true)
    (hp : portState s (optPort s p) ≠ .down) : enterUp p s =
      advertise p { setOpt s p { optPort s p with st := portState s (optPort s p), step := 0 } with rep := { s.rep with isolated := false } } :=
  (if_pos ⟨h, hs, hn⟩).trans (if_neg hp)

/-! ### The PHY PLL -/

/-- The state once the loss of a port's PLL has been counted in its register. -/
def pllCounted (p : Nat) (s : State) : State :=
  let a := 0x05000000 + 0x40 * p
  let n := Nat.min ((s.regs.ind.get 0#32 a).toNat / 65536 + bit (optPort s p).pll) 65535
  { s with regs := { s.regs with ind := s.regs.ind.put 0#32 a (BitVec.ofNat 32 (n * 65536)) } }

theorem pllLost_eq (p : Nat) (s : State) :
    pllLost p s = setOpt (goDown p (pllCounted p s)) p { optPort (goDown p (pllCounted p s)) p with pll := false } := rfl

theorem optPort_pllCounted (p : Nat) (s : State) (k : Nat) : optPort (pllCounted p s) k = optPort s k := rfl

theorem pllLost_down {p : Nat} {s : State} (h : (optPort s p).st ≠ .off) : (optPort (pllLost p s) p).st = .down := by
  rw [pllLost_eq, optPort_setOpt_same]
  exact goDown_down h

/-- The link of a port that holds no flits, in a module that cuts no packet through, ends without a trace. -/
theorem endLink_idle {p : Nat} {s : State} (hs : (optPort s p).sent = []) (hd : (optPort s p).data = []) (hc : s.fab.cuts = []) :
    endLink p s = s := by
  have ha : abandonSent p s = s := by
    simp only [abandonSent, hs, hd, hc, List.append_nil, List.filter_nil, List.foldl_nil, List.map_nil]
    rw [← hc]
  rw [endLink, ha, hc]
  rfl

theorem goDown_idle {p : Nat} {s : State} (hs : (optPort s p).sent = []) (hd : (optPort s p).data = []) (hc : s.fab.cuts = []) :
    (∀ k, k ≠ p → optPort (goDown p s) k = optPort s k) ∧ sameBut [.hlt, .opt] s (goDown p s) := by
  unfold goDown
  dsimp only
  split
  · exact ⟨fun _ _ => rfl, sameBut_refl _ s⟩
  · rw [endLink_idle hs hd hc]
    exact ⟨fun k hk => (optPort_setOpt s p { dropLink (optPort s p) with st := .down } k).trans (if_neg hk), sameBut_of_eq rfl⟩

theorem pllLost_idle {p : Nat} {s : State} (hs : (optPort s p).sent = []) (hd : (optPort s p).data = []) (hc : s.fab.cuts = []) :
    (∀ k, k ≠ p → optPort (pllLost p s) k = optPort s k) ∧ sameBut [.seed, .hlt, .regs, .flt, .opt] s (pllLost p s) := by
  obtain ⟨ho, hb⟩ := goDown_idle (s := pllCounted p s) hs hd hc
  rw [pllLost_eq]
  refine ⟨fun k hk => ?_, sameBut_trans (sameBut_of_eq (t := pllCounted p s) rfl) (sameBut_trans (sameBut_mono hb (by decide))
    (sameBut_of_eq rfl))⟩
  rw [optPort_setOpt, if_neg hk, ho k hk, optPort_pllCounted]

theorem pllBack_up {p : Nat} {s : State} (h : (optPort s p).st ≠ .down) : pllBack p s = setOpt s p { optPort s p with pll := true } :=
  if_neg fun hc => h (by have := hc.1; rwa [optPort_setOpt_same] at this)

theorem pllBack_down {p : Nat} {s : State} (h : (optPort s p).st = .down) (he : optEn s p = true) :
    pllBack p s = quickRetrain p (setOpt s p { optPort s p with pll := true }) :=
  if_pos ⟨by rw [optPort_setOpt_same]; exact h, he⟩

theorem quickRetrain_trains {p : Nat} {s : State} (h : trainable s p = true) :
    (optPort (quickRetrain p s) p).st = .training ∧ (optPort (quickRetrain p s) p).step = 4 := by
  rw [quickRetrain, if_pos h]
  exact startTrain_port p false _

/-! ### Changes of state -/

theorem tellState_told {p : Nat} {s : State} (h : (optPort s p).st = (optPort s p).told) : tellState p s = s := if_pos h

/-- A state that is neither lit nor DOWN, of a port that was not lit, is recorded and advertised. -/
theorem tellState_quietly {p : Nat} {s : State} (h : (optPort s p).st ≠ (optPort s p).told) (hd : (optPort s p).st ≠ .down)
    (hl : (optPort s p).lit = false) (ht : (optPort s p).told ∉ [OptSt.up, .spareless, .degraded]) : tellState p s =
      changeLsa (faultSev 0xF 8 0 none p (optPort s p).st.code (setOpt s p { optPort s p with told := (optPort s p).st })) := by
  have hw : ((optPort s p).told == .up || (optPort s p).told == .spareless || (optPort s p).told == .degraded) = false := by
    simpa [and_assoc] using ht
  have hg : ((optPort s p).st == .degraded || (optPort s p).st == .down) = false := by
    simp only [OptPort.lit, Bool.or_eq_false_iff] at hl
    simp [hl.2, hd]
  unfold tellState
  dsimp only
  rw [if_neg h, hw, hg, hl, if_neg hd]
  rfl

theorem exec_portStateChange {p : Fin 64} {s : State} (hl : live s = true) :
    exec (.portStateChange p) s = .next (settled (tellState p.val s)) := run_live (f := fun s => settled (tellState p.val s)) hl

/-- Settles O55: by the step of the training, by the state of the port, and by what the port held when its PLL lost lock. -/
theorem linkTraining : Obligations.LinkTraining := by
  refine ⟨fun s p ok mg hl hc ht => ⟨fun hs => ?_, fun hs => ?_, fun hs hn => ?_, fun hs hn => ?_, fun hs hm => ?_, fun hs hm => ?_⟩,
    fun s p ok mg hl h => ⟨?_, ?_⟩, fun s p hl hc ht hs => ?_, fun s p hl hs => ?_, fun s p m n k mn mp hl h => ?_,
    fun s p m n k mn mp hl h hs => ?_, fun s p m n k mn mp hl h => ?_, fun s p h hs hn hp => ⟨_, rfl, enterUp_up h hs hn hp⟩,
    fun s p hl => ⟨⟨_, run_live hl, ?_, pllLost_down, pllLost_idle⟩, fun h => ?_, fun h he => ⟨?_, fun hc => ?_⟩⟩,
    fun s p hl => ⟨exec_portStateChange hl, fun h => ?_, fun h hd hn ht => ?_⟩⟩
  · rw [exec_trainingStepDone hl, if_pos hc, trainStep_early ht hs]
  · rw [exec_trainingStepDone hl, if_pos hc, trainStep_four ht hs]
  · rw [exec_trainingStepDone hl, if_pos hc, trainStep_five ht hs, if_pos hn]
  · rw [exec_trainingStepDone hl, if_pos hc, trainStep_five ht hs, if_neg (by rw [hn]; decide)]
  · rw [exec_trainingStepDone hl, if_pos hc, trainStep_six ht hs]
    exact congrArg _ (if_pos hm)
  · rw [exec_trainingStepDone hl, if_pos hc, trainStep_six ht hs]
    exact congrArg _ (if_neg (Nat.not_lt.2 hm))
  · rw [exec_trainingStepDone hl]
    split
    · next hc => rw [trainStep_other (h.resolve_left (by rw [hc]; decide))]
    · rfl
  · rw [exec_trainingRetry hl]
    split
    · next hc => rw [repeatStep_other (.inl (h.resolve_left (by rw [hc]; decide)))]
    · rfl
  · rw [exec_trainingRetry hl, if_pos hc]
    exact congrArg _ (if_pos ⟨ht, hs⟩)
  · rw [exec_trainingRetry hl, repeatStep_other (.inr hs), ite_self]
  · exact (run_live hl).trans (congrArg _ (trainMsg_lit h))
  · exact (run_live hl).trans (congrArg _ (trainMsg_training h hs))
  · exact (run_live hl).trans (congrArg _ (trainMsg_dark h))
  · rw [pllLost_eq, optPort_setOpt_same]
  · exact (run_live hl).trans (congrArg _ (pllBack_up h))
  · exact (run_live hl).trans (congrArg _ (pllBack_down h he))
  · exact ⟨_, (run_live hl).trans (congrArg _ (pllBack_down h he)), quickRetrain_trains hc⟩
  · exact endsIn_of_settled (x := s) ((exec_portStateChange hl).trans (by rw [tellState_told h])) rfl
  · rw [exec_portStateChange hl, tellState_quietly h hd hn ht]

end Sys2Proof.Machine
end

section
/-! Link-state advertisements, the end of a repair, isolation and the tray release (R323 to R329, R342). -/

namespace Sys2Proof.Machine

/-! ### What an advertisement leaves in the database -/

theorem storeLsa_lsdb (l : Lsa) (s : State) : (storeLsa l s).rep.lsdb = s.rep.lsdb.ins l.origin l := by
  have h : ∀ b : Bool, (if b then startHold { s with rep := { s.rep with lsdb := s.rep.lsdb.ins l.origin l } }
      else { s with rep := { s.rep with lsdb := s.rep.lsdb.ins l.origin l } }).rep.lsdb = s.rep.lsdb.ins l.origin l := by
    intro b
    cases b
    · rfl
    · simp only [if_true, startHold]
      split <;> rfl
  exact h _

theorem startHold_rep (s : State) : (startHold s).rep = if s.rep.hold.isSome then s.rep else { s.rep with hold := some s.now } := by
  unfold startHold
  split <;> rfl

/-- An advertisement of new content starts the hold where none runs, and one that falls into a hold leaves it. -/
theorem storeLsa_hold (l : Lsa) (s : State) :
    ((∀ o, s.rep.lsdb.find l.origin = some o → sameLsa o l = false) → s.rep.hold = none → (storeLsa l s).rep.hold = some s.now) ∧
    (s.rep.hold.isSome = true → (storeLsa l s).rep.hold = s.rep.hold) ∧ (storeLsa l s).rep.lsaSeq = s.rep.lsaSeq := by
  have hf : ∃ b : Bool, storeLsa l s = (if b then startHold { s with rep := { s.rep with lsdb := s.rep.lsdb.ins l.origin l } }
      else { s with rep := { s.rep with lsdb := s.rep.lsdb.ins l.origin l } }) ∧
      ((∀ o, s.rep.lsdb.find l.origin = some o → sameLsa o l = false) → b = true) := by
    refine ⟨_, rfl, fun h => ?_⟩
    split
    · next o ho => rw [h o ho]; rfl
    · rfl
  obtain ⟨b, hb, hn⟩ := hf
  rw [hb]
  cases b
  · exact ⟨fun h => absurd (hn h) (by decide), fun _ => rfl, rfl⟩
  · rw [if_pos rfl, startHold_rep]
    refine ⟨fun _ h => ?_, fun h => ?_, ?_⟩
    · rw [if_neg (by rw [h]; decide)]
    · rw [if_pos h]
    · split <;> rfl

/-- Flooding leaves repair's record. -/
theorem floodLsa_rep {l : Lsa} {arrival : Option Nat} {s : State} : (floodLsa l arrival s).rep = s.rep := switched_floodLsa.1 .rep (by decide)

theorem linkWork_rep {s : State} : (linkWork s).rep = s.rep := switched_linkWork.1 .rep (by decide)

/-- Where no port is up nothing is flooded. -/
theorem floodLsa_none {l : Lsa} {arrival : Option Nat} {s : State} (h : ∀ p, p < 64 → portUp s p = false) : floodLsa l arrival s = s := by
  have hn : (List.range 64).filter (fun p => portUp s p && some p != arrival) = [] :=
    List.filter_eq_nil_iff.2 fun p hp => by simp [h p (List.mem_range.1 hp)]
  rw [floodLsa, hn]
  rfl

theorem portUp_of_sameBut {s t : State} (h : sameBut [.rep] s t) (p : Nat) : portUp t p = portUp s p := by
  have ho : t.opt = s.opt := h .opt (by decide)
  have hf : t.fab = s.fab := h .fab (by decide)
  rw [portUp, portUp, optPort, optPort, ho, hf]

/-- The state in which the module has stored its own advertisement. -/
def ownStored (s : State) : State := storeLsa (ownLsa s s.rep.lsaSeq) { s with rep := { s.rep with lsaSeq := (s.rep.lsaSeq + 1) % 2 ^ 32 } }

theorem originateLsa_eq (s : State) : originateLsa s = floodLsa (ownLsa s s.rep.lsaSeq) none (ownStored s) := rfl

theorem originateLsa_rep (s : State) : (originateLsa s).rep.lsaSeq = (s.rep.lsaSeq + 1) % 2 ^ 32 ∧
    (originateLsa s).rep.lsdb = s.rep.lsdb.ins s.sys.moduleId (ownLsa s s.rep.lsaSeq) := by
  rw [originateLsa_eq, floodLsa_rep]
  exact ⟨(storeLsa_hold _ _).2.2, storeLsa_lsdb _ _⟩

theorem ownStored_sameBut {s : State} : sameBut [.rep] s (ownStored s) :=
  sameBut_trans (sameBut_of_eq rfl) storeLsa_sameBut

theorem originateLsa_silent {s : State} (h : ∀ p, p < 64 → portUp s p = false) : sameBut [.rep] s (originateLsa s) := by
  rw [originateLsa_eq, floodLsa_none fun p hp => (portUp_of_sameBut ownStored_sameBut p).trans (h p hp)]
  exact ownStored_sameBut

theorem originateLsa_sameBut {s : State} : sameBut [.out, .regs, .rep, .fab, .opt] s (originateLsa s) :=
  sameBut_trans (sameBut_of_eq rfl) (switched_originateLsa.sameBut (by decide))

/-! ### An advertisement arrives -/

theorem exec_lsaReceived {p : Fin 64} {l : Lsa} {s : State} (hl : live s = true) : exec (.lsaReceived p l) s =
    .next (if portUp s p.val then linkWork (lsaArrive p.val l (passCells p.val 0 1 (Load.lsa l 0).cells s)) else s) :=
  run_live (f := fun s => if portUp s p.val then linkWork (lsaArrive p.val l (passCells p.val 0 1 (Load.lsa l 0).cells s)) else s) hl

theorem lsaArrive_old {p : Nat} {l : Lsa} {s : State}
    (h : l.origin = s.sys.moduleId ∨ ∃ o, s.rep.lsdb.find l.origin = some o ∧ newerSeq l.seq o.seq = false) : lsaArrive p l s = s := by
  unfold lsaArrive
  split
  · rfl
  · next hn =>
    obtain ⟨o, ho, hs⟩ := h.resolve_left hn
    simp only [ho, hs, Bool.false_eq_true, if_false]

theorem lsaArrive_new {p : Nat} {l : Lsa} {s : State} (h : l.origin ≠ s.sys.moduleId)
    (hn : ∀ o, s.rep.lsdb.find l.origin = some o → newerSeq l.seq o.seq = true) : lsaArrive p l s = floodLsa l (some p) (storeLsa l s) := by
  unfold lsaArrive
  rw [if_neg h]
  cases hf : s.rep.lsdb.find l.origin with
  | some o => simp only [hn o hf, if_true]
  | none => simp only [if_true]

/-- A newer advertisement is stored and flooded, and starts the hold where its content differs. -/
theorem lsaReceived_new {s : State} {p : Fin 64} {l : Lsa} (hl : live s = true) (hp : portUp s p.val = true) (ho : l.origin ≠ s.sys.moduleId)
    (hn : ∀ o, s.rep.lsdb.find l.origin = some o → newerSeq l.seq o.seq = true) :
    ∃ t, exec (.lsaReceived p l) s = .next t ∧
      t = linkWork (floodLsa l (some p.val) (storeLsa l (passCells p.val 0 1 (Load.lsa l 0).cells s))) ∧
      t.rep.lsdb = s.rep.lsdb.ins l.origin l ∧
      ((∀ o, s.rep.lsdb.find l.origin = some o → sameLsa o l = false) → s.rep.hold = none → t.rep.hold = some s.now) ∧
      (s.rep.hold.isSome = true → t.rep.hold = s.rep.hold) ∧ sameBut [.out, .regs, .rep, .fab, .opt] s t := by
  have hx : SentFrom s (passCells p.val 0 1 (Load.lsa l 0).cells s) := sentFrom_passCells ..
  have he := exec_lsaReceived (p := p) (l := l) hl
  rw [if_pos hp] at he
  generalize passCells p.val 0 1 (Load.lsa l 0).cells s = x at hx he ⊢
  have hs : x.sys = s.sys := by rw [show x = _ from hx]
  have hr : x.rep = s.rep := by rw [show x = _ from hx]
  have hw : x.now = s.now := by rw [show x = _ from hx]
  rw [lsaArrive_new (by rw [hs]; exact ho) (by rw [hr]; exact hn)] at he
  obtain ⟨hf, hk, -⟩ := storeLsa_hold l x
  rw [hr, hw] at hf
  rw [hr] at hk
  refine ⟨_, he, rfl, ?_, ?_, ?_, ?_⟩
  · rw [linkWork_rep, floodLsa_rep, storeLsa_lsdb, hr]
  · rw [linkWork_rep, floodLsa_rep]
    exact hf
  · rw [linkWork_rep, floodLsa_rep]
    exact hk
  · exact sameBut_trans (hx.switched.sameBut (by decide)) (sameBut_trans (sameBut_mono storeLsa_sameBut (by decide))
      ((switched_floodLsa.trans switched_linkWork).sameBut (by decide)))

/-! ### The end of the hold, isolation, the tray -/

theorem exec_repairHoldEnd {s : State} (hl : live s = true) : exec .repairHoldEnd s = .next (settled (repairEnd s)) :=
  run_live (f := fun s => settled (repairEnd s)) hl

theorem exec_isolationTimeout {s : State} (hl : live s = true) : exec .isolationTimeout s = .next (settled (isolate s)) :=
  run_live (f := fun s => settled (isolate s)) hl

theorem repairEnd_none {s : State} (h : s.rep.hold = none) : repairEnd s = s := by
  unfold repairEnd
  rw [h]

theorem isolate_still {s : State} (h : linked s = true ∨ s.rep.isolated = true) : isolate s = s := if_pos (by simpa using h)

theorem ageOut_unreachable {o : Nat} {s : State} (ho : o ≠ s.sys.moduleId) (h : reachable s o = false) :
    ageOut o s = { s with rep := { s.rep with lsdb := s.rep.lsdb.del o } } := if_pos (by simp [ho, h])

theorem ageOut_reachable {o : Nat} {s : State} (h : reachable s o = true) : ageOut o s = s := if_neg (by simp [h])

/-- Settles O56: an advertisement by its origin and number, and the other events by the hold, the links and the mark. -/
theorem repair : Obligations.Repair := by
  refine ⟨fun s hl => ⟨_, run_live hl, rfl, (originateLsa_rep s).1, ?_, fun k hk => ?_, originateLsa_sameBut, originateLsa_silent⟩,
    fun s p l hl => ⟨fun hp => ?_, fun hp ho => ?_, lsaReceived_new hl⟩, fun s o hl ho => ⟨fun h => ?_, fun h => ?_⟩,
    fun s hl => ⟨fun h => ?_, fun t h => ?_, fun h => ?_, fun _ _ => exec_isolationTimeout hl⟩, fun s hl h => ?_, fun s hl h => ?_,
    fun s hl h => ?_, fun s hl h => ?_⟩
  · rw [(originateLsa_rep s).2, Tab.find_ins, if_pos rfl]
  · rw [(originateLsa_rep s).2, Tab.find_ins, if_neg hk]
  · rw [exec_lsaReceived hl, if_neg (by rw [hp]; decide)]
  · have hx : SentFrom s (passCells p.val 0 1 (Load.lsa l 0).cells s) := sentFrom_passCells ..
    rw [exec_lsaReceived hl, if_pos hp, lsaArrive_old]
    rw [show passCells p.val 0 1 (Load.lsa l 0).cells s = _ from hx]
    exact ho
  · exact (run_live hl).trans (congrArg _ (ageOut_unreachable ho h))
  · exact (run_live hl).trans (congrArg _ (ageOut_reachable h))
  · exact endsIn_of_settled (x := s) ((exec_repairHoldEnd hl).trans (by rw [repairEnd_none h])) rfl
  · rw [exec_repairHoldEnd hl, repairEnd, h]
  · exact endsIn_of_settled (x := s) ((exec_isolationTimeout hl).trans (by rw [isolate_still h])) rfl
  · exact (run_live hl).trans (congrArg _ (if_neg (by rw [h]; decide)))
  · exact (run_live hl).trans (congrArg _ (if_pos h))
  · exact (run_live hl).trans (congrArg _ (if_pos h))
  · exact (run_live hl).trans (congrArg _ (if_neg (by rw [h]; decide)))

end Sys2Proof.Machine
end

section
/-! The timers of flows, packets and requests (R34, R108, R223, R234, R253, R328, R331, R334, R336). -/

namespace Sys2Proof.Machine

/-- What all entries of a table meet, they meet once an entry is written over by one that meets it as well. -/
theorem Tab.all_ins_same {β : Type} {t : Tab β} {k : Nat} {v w : β} {f : Nat × β → Bool} (h : t.find k = some v) (hf : f (k, w) = f (k, v)) :
    (t.ins k w).all f = t.all f := by
  induction t with
  | nil => exact nomatch h
  | cons e t ih =>
    obtain ⟨a, b⟩ := e
    rw [Tab.ins]
    by_cases hk : k = a
    · subst hk
      rw [Tab.find, if_pos rfl] at h
      cases h
      simp [hf]
    · rw [Tab.find, if_neg hk] at h
      rw [if_neg hk]
      split
      · have hm : f (k, w) = true ∨ t.all f = false := by
          by_cases hv : f (k, v) = true
          · exact .inl (hf.trans hv)
          · exact .inr (List.all_eq_false.2 ⟨(k, v), Tab.mem_of_find h, hv⟩)
        obtain hm | hm := hm <;> simp [hm]
      · rw [List.all_cons, List.all_cons, ih h]

/-- Setting the timer of a flow does not disturb a quiet state. -/
theorem quiet_setFlow_timer {s : State} {k n : Nat} {f : SFlow} (h : s.fab.sflow.find k = some f) :
    quiet (setFlow s k { f with retxUs := n }) = quiet s := by
  have ha : (s.fab.sflow.ins k { f with retxUs := n }).all (fun e => e.2.queue.isEmpty && (!e.2.frozen || e.2.recs.isEmpty)) =
      s.fab.sflow.all (fun e => e.2.queue.isEmpty && (!e.2.frozen || e.2.recs.isEmpty)) := Tab.all_ins_same h rfl
  unfold quiet
  rw [show (setFlow s k { f with retxUs := n }).fab.sflow = s.fab.sflow.ins k { f with retxUs := n } from rfl, ha]
  rfl

/-! ### Flows -/

theorem sendClose_none {src dst vc : Nat} {s : State} (h : s.fab.sflow.find (flowKey src dst vc) = none) : sendClose src dst vc s = s := by
  unfold sendClose
  simp only [h]

theorem sendClose_idle {src dst vc : Nat} {s : State} {f : SFlow} (h : s.fab.sflow.find (flowKey src dst vc) = some f) (hr : f.recs = [])
    (hq : f.queue = []) (hc : f.closing = false) (hz : f.frozen = false) : sendClose src dst vc s = settled (sendFlow
      { h := { mkHdr (takeWid s).2 ((partOfJob (takeWid s).2 f.job).getD 64) src dst vc 0 (takeWid s).1 true with job := f.job, close := true },
        rd := none, body := .close, tr := .zero } (takeWid s).2) := by
  unfold sendClose
  simp only [h]
  rw [if_pos (by simp [hr, hq, hc, hz])]

theorem resend_none {k : Nat} {s : State} (h : s.fab.sflow.find k = none) : resend k s = s := by
  unfold resend
  rw [h]

theorem resend_frozen {k : Nat} {s : State} {f : SFlow} (h : s.fab.sflow.find k = some f) (hz : f.frozen = true) :
    resend k s = setFlow s k { f with retxUs := s.now / 1000 + retxUs s } := by
  unfold resend
  rw [h]
  exact if_pos hz

theorem resend_runs {k : Nat} {s : State} {f : SFlow} (h : s.fab.sflow.find k = some f) (hz : f.frozen = false) :
    resend k s = f.recs.foldl (fun s q =>
      forwardRecorded { q with h := { q.h with hops := 0, detoured := false, ce := false } } (bump 0x6004C s))
      (setFlow s k { f with retxUs := s.now / 1000 + retxUs s }) := by
  unfold resend
  rw [h]
  exact if_neg (by rw [hz]; decide)

theorem exec_retxDue {src dst vc : Nat} {s : State} (hl : live s = true) :
    exec (.retxDue src dst vc) s = .next (settled (resend (flowKey src dst vc) s)) :=
  run_live (f := fun s => settled (resend (flowKey src dst vc) s)) hl

/-! ### Windows of congestion control -/

theorem newRate_le (s : State) (a b : Bool) (n : Nat) : newRate s a b n ≤ 64 * rateMax s := Nat.min_le_right ..

theorem windowFlow_eq (s : State) (k : Nat) (f : SFlow) : windowFlow s k f = { f with
    rate := if k % 8 = 0 ∨ k % 8 = 2 then f.rate else newRate s f.gotAck f.gotEcho f.rate, gotAck := false, gotEcho := false } := by
  have hk : k % 8 < 8 := Nat.mod_lt _ (by decide)
  unfold windowFlow ccVc
  generalize k % 8 = v at hk ⊢
  interval_cases v <;> rfl

/-! ### Packets that are too old -/

theorem packetOld_copy {src dst vc seq : Nat} {s : State} {q : Queued} (h : oldest (waitingCopies src dst vc seq s) = some q) :
    packetOld src dst vc seq s = settled (faultAt 0xE 6 none dst (bump 0x80020 (discardQueued q s))) := by
  unfold packetOld
  rw [h]
  rfl

theorem packetOld_held {src dst vc seq : Nat} {s : State} {d : DFlow} {x : Pkt × Option (Fin 64)} (h : waitingCopies src dst vc seq s = [])
    (hd : s.fab.dflow.find (flowKey src dst vc) = some d) (hx : d.held.find seq = some (some x)) : packetOld src dst vc seq s =
      settled (faultAt 0xE 6 none dst (bump 0x80020 (setDFlow (flowKey src dst vc) { d with held := d.held.del seq } s))) := by
  unfold packetOld
  simp only [h, hd, hx]
  rfl

theorem packetOld_none {src dst vc seq : Nat} {s : State} (h : waitingCopies src dst vc seq s = [])
    (hd : s.fab.dflow.find (flowKey src dst vc) = none) : packetOld src dst vc seq s = s := by
  unfold packetOld
  simp only [h, hd]
  rfl

theorem routeOld_none {src dst vc seq : Nat} {s : State} (h : s.fab.noRoute.any (isQueued src dst vc seq) = false) :
    routeOld src dst vc seq s = s := by
  unfold routeOld
  rw [List.find?_eq_none.2 fun q hq => by simpa using List.any_eq_false.1 h q hq]

theorem routeOld_some {src dst vc seq : Nat} {s : State} {q : Queued} (h : s.fab.noRoute.find? (isQueued src dst vc seq) = some q) :
    routeOld src dst vc seq s =
      linkWork (faultAt 0xE 7 none dst (bump 0x60024 (dropQueued q { s with fab := { s.fab with noRoute := s.fab.noRoute.erase q } }))) := by
  unfold routeOld
  rw [h]

theorem redirOld_none {src dst vc seq : Nat} {s : State} (h : s.fab.redirWait.filter (fun y => isPkt src dst vc seq y.1) = []) :
    redirOld src dst vc seq s = s := by
  unfold redirOld
  simp only [h]

theorem redirOld_one {src dst vc seq : Nat} {s : State} {x : Pkt × Option (Fin 64)}
    (h : s.fab.redirWait.filter (fun y => isPkt src dst vc seq y.1) = [x]) : redirOld src dst vc seq s =
      settled (poolRefuse x.1.h x.1.body St.denied
        { s with fab := { s.fab with redirWait := s.fab.redirWait.filter (fun y => !isPkt src dst vc seq y.1) } }) := by
  unfold redirOld
  simp only [h]
  rfl

/-! ### Requests whose timer has expired -/

theorem reqExpired_plain {wid : Nat} {r : OutReq} {s : State} (hm : ∀ k, r.serves ≠ .mctl k) (hb : ∀ n k, r.serves ≠ .rebuild n k) :
    reqExpired wid r s =
      let t := endReq wid St.timeout (faultAt 3 (reqBlock r.serves) (some r.part) r.dst s)
      if (part s r.part).st = .idle ∨ (part s r.part).st = .active
      then originate (part t r.part).prm.jobTag 1 t.sys.moduleId r.src t else t := by
  unfold reqExpired
  split
  · next k h => exact absurd h (hm k)
  · next n k h => exact absurd h (hb n k)
  · rfl

theorem requestLate_other {src wid : Nat} {s : State} (h : ∀ r, s.fab.reqs.find wid = some r → r.src ≠ src) : requestLate src wid s = s := by
  unfold requestLate
  split
  · rfl
  · next r hr => exact if_pos (h r hr)

theorem requestLate_held {src wid : Nat} {s : State} {r : OutReq} (h : s.fab.reqs.find wid = some r) (hs : r.src = src)
    (hh : s.rep.hold.isSome = true) : requestLate src wid s =
      if s.rep.late.contains wid then s else { s with rep := { s.rep with late := s.rep.late ++ [wid] } } := by
  unfold requestLate
  rw [h]
  exact (if_neg (not_not.2 hs)).trans (if_pos hh)

theorem requestLate_ends {src wid : Nat} {s : State} {r : OutReq} (h : s.fab.reqs.find wid = some r) (hs : r.src = src)
    (hh : s.rep.hold = none) : requestLate src wid s = settled (reqExpired wid r s) := by
  unfold requestLate
  rw [h]
  exact (if_neg (not_not.2 hs)).trans (if_neg (by rw [hh]; decide))

/-- Settles O49: each timer by what it finds. -/
theorem flowTimers : Obligations.FlowTimers := by
  refine ⟨fun s src dst vc hl => ⟨fun f h hr hq hc hz => ?_, fun h => ⟨?_, ?_⟩, fun f h hz => ?_, fun f h hz => ?_⟩,
    fun s hl => ⟨_, run_live hl, ?_, rfl, rfl, newRate_le s, rfl, rfl, rfl, rfl, sameBut_of_eq rfl⟩, fun s src wid hl => ?_,
    fun s src dst vc seq hl => ⟨fun q h => ?_, fun d x h hd hx => ?_, fun h hd => ?_, fun q h => ?_, fun h => ?_, fun x h => ?_, fun h => ?_⟩,
    fun s src wid r hl h hs hh hm hb => ?_, fun s src wid r hl h hs hh => ⟨fun hw => ?_, fun hw => ?_⟩, fun s src wid hl h => ?_,
    fun s m hl => ⟨fun h => ?_, fun h => ?_⟩⟩
  · exact (run_live hl).trans (congrArg _ (sendClose_idle h hr hq hc hz))
  · exact (run_live hl).trans (congrArg _ (sendClose_none h))
  · exact endsIn_of_settled (x := s) ((exec_retxDue hl).trans (by rw [resend_none h])) rfl
  · rw [exec_retxDue hl, resend_runs h hz]
  · exact endsIn_of_settled ((exec_retxDue hl).trans (by rw [resend_frozen h hz])) (quiet_setFlow_timer h)
  · exact List.map_congr_left fun e _ => congrArg _ (windowFlow_eq s e.1 e.2)
  · exact endsIn_of_settled (run_live (f := fun s => settled { s with fab := { s.fab with dup := s.fab.dup.del (dupKey src wid) } }) hl) rfl
  · exact (run_live hl).trans (congrArg _ (packetOld_copy h))
  · exact (run_live hl).trans (congrArg _ (packetOld_held h hd hx))
  · exact (run_live hl).trans (congrArg _ (packetOld_none h hd))
  · exact (run_live hl).trans (congrArg _ (routeOld_some h))
  · exact (run_live hl).trans (congrArg _ (routeOld_none h))
  · exact (run_live hl).trans (congrArg _ (redirOld_one h))
  · exact (run_live hl).trans (congrArg _ (redirOld_none h))
  · subst hs
    exact (run_live hl).trans (congrArg _ ((requestLate_ends h rfl hh).trans (congrArg _ (reqExpired_plain hm hb))))
  · exact (run_live hl).trans (congrArg _ ((requestLate_held h hs hh).trans (if_neg fun hc => hw (List.contains_iff_mem.1 hc))))
  · exact (run_live hl).trans (congrArg _ ((requestLate_held h hs hh).trans (if_pos (List.contains_iff_mem.2 hw))))
  · exact (run_live hl).trans (congrArg _ (requestLate_other h))
  · exact (run_live hl).trans (congrArg _ (if_neg (by rw [h]; decide)))
  · exact (run_live hl).trans (congrArg _ (if_pos h))

end Sys2Proof.Machine
end

section
/-! A packet that passes takes effect in the state in which it is the open packet of its flow (R10, R25, R42, R83, R225). -/

namespace Sys2Proof.Machine

/-! ### What the state `opened` has in common with the one before it -/

section Opened

variable {s : State} {port : Option (Fin 64)} {q : Pkt}

theorem switched_taken : SwitchedFrom s (handOver port q.h (entered port q s)) := switched_entered.trans switched_handOver

theorem opened_sameBut : sameBut [.out, .regs, .fab, .opt] s (opened s port q) :=
  sameBut_trans switched_taken.1 (sameBut_of_eq rfl)

theorem opened_parts : (opened s port q).parts = s.parts := opened_sameBut .parts (by decide)

theorem opened_pool : (opened s port q).pool = s.pool := opened_sameBut .pool (by decide)

theorem opened_sys : (opened s port q).sys = s.sys := opened_sameBut .sys (by decide)

theorem opened_endpoint (e : Nat) : endpoint (opened s port q) e = endpoint s e := by
  have h : (handOver port q.h (entered port q s)).fab.ep = s.fab.ep := by rw [switched_taken.2.1.1]
  exact congrArg (fun t : Tab Ep => t.get Ep.init e) h

theorem opened_closing (p : Nat) : closing (opened s port q) p = closing s p := by rw [closing, part_congr opened_parts]; rfl

theorem opened_partOfCtr (c : Nat) : partOfCtr (opened s port q) c = partOfCtr s c := by rw [partOfCtr, opened_parts]; rfl

theorem opened_ctrBad (p : Nat) (c : Option Nat) : ctrBad (opened s port q) p c = ctrBad s p c := by
  unfold ctrBad
  split
  · rw [opened_partOfCtr]
  · rfl

theorem opened_mirrorExt (m x : Nat) : mirrorExt (opened s port q) m x = mirrorExt s m x := by rw [mirrorExt, opened_pool]; rfl

theorem opened_admitAt (job a n : Nat) (x r : Option Nat) : admitAt (opened s port q) job a n x r = admitAt s job a n x r := by
  rw [admitAt, homeExt, poolTop, opened_pool, opened_sys]
  rfl

end Opened

/-! ### Rows -/

theorem exec_packetRow {port : Option (Fin 64)} {e : Env} {b : Body} {s : State} (hl : live s = true) :
    packetRow port e b s = .next (settled (packetIn (rowPkt e b) port s)) := run_live (f := fun s => settled (packetIn (rowPkt e b) port s)) hl

/-- The row of a packet that passes applies it in the state `opened`. -/
theorem packetRow_passes {port : Option (Fin 64)} {e : Env} {b : Body} {p : Nat} {s : State} (h : passes s port (rowPkt e b) p = true)
    (hb : (∀ st, b ≠ .ack st) ∧ (∀ st d v, b = .reply st d v → e.h.vc ≠ 2)) :
    packetRow port e b s = .next (settled (applyPkt p (rowPkt e b) port (opened s port (rowPkt e b)))) := by
  obtain ⟨hl, hp⟩ := packetIn_passes h hb
  rw [exec_packetRow hl, hp]

/-- The row of a unicast packet that passes and is not redirected: its effect by its body. -/
theorem packetRow_direct {port : Option (Fin 64)} {e : Env} {b : Body} {p : Nat} {s t : State} (h : passes s port (rowPkt e b) p = true)
    (hb : (∀ st, b ≠ .ack st) ∧ (∀ st d v, b = .reply st d v → e.h.vc ≠ 2))
    (ht : applyPkt p (rowPkt e b) port (opened s port (rowPkt e b)) = t) : packetRow port e b s = .next (settled t) := by
  rw [packetRow_passes h hb, ht]

theorem applyPkt_redirected {p : Nat} {e : Env} {b : Body} {port : Option (Fin 64)} {s : State} {r : Redirect} (hr : e.rd = some r) :
    applyPkt p (rowPkt e b) port s = redirectApply p (rowPkt e b) port r s := by
  unfold applyPkt
  simp only [rowPkt, hr]

theorem applyPkt_leg {p : Nat} {e : Env} {b : Body} {port : Option (Fin 64)} {s : State} (hr : e.rd = none) (hm : e.h.mc = true) :
    applyPkt p (rowPkt e b) port s = legApply p e.h port b s := by
  unfold applyPkt
  simp only [rowPkt, hr, hm, if_true]

/-! ### Effects by body -/

/-- A request to the pool that its home admits makes its access. -/
theorem poolRequest_access {p : Nat} {e : Env} {port : Option (Fin 64)} {s : State} {b : Body} {a i : Nat} {r : Ext} {acc : Access} 
    (hacc : accessOf e.h port none a b = some acc)
    (hc : isWrite b = true → closing s p = false) (ht : ctrBad s p (ctrOf b) = false)
    (ha : admitAt s e.h.job a acc.what.size (some acc.ext) acc.redirect = .ok (i, r)) :
    poolRequest p e.h port none b a s = access i r acc false s := by
  unfold poolRequest
  simp only [hacc]
  rw [if_neg (by rintro ⟨hw, hcl⟩; rw [hc hw] at hcl; exact nomatch hcl), if_neg (by rw [ht]; decide)]
  simp only [ha]

section Bodies

variable {p : Nat} {e : Env} {port : Option (Fin 64)} {s : State} (hr : e.rd = none) (hm : e.h.mc = false)
include hr hm

theorem applyPkt_write_home {b : WriteBody} {a x : Nat} (hd : b.dest = .home a x) :
    applyPkt p (rowPkt e (.write b)) port s = poolRequest p e.h port none (.write b) a s := by
  unfold applyPkt
  simp only [rowPkt, hr, hm, hd, Bool.false_eq_true, if_false]

theorem applyPkt_write_device {b : WriteBody} {a : Nat} (hd : b.dest = .device a) (hc : closing s p = false) (ht : ctrBad s p b.ctr = false) :
    applyPkt p (rowPkt e (.write b)) port s = deviceWrite p (endpoint s e.h.dst).attach e.h port b a s := by
  unfold applyPkt
  simp only [rowPkt, hr, hm, hd, hc, ht, Bool.false_eq_true, if_false]

theorem applyPkt_read {b : ReadBody} (hv : e.h.vc ≠ 7) :
    applyPkt p (rowPkt e (.read b)) port s = poolRequest p e.h port none (.read b) b.addr s := by
  unfold applyPkt
  simp only [rowPkt, hr, hm, Bool.false_eq_true, if_false, if_neg hv]

theorem applyPkt_atomic {b : AtomBody} :
    applyPkt p (rowPkt e (.atomic b)) port s = poolRequest p e.h port none (.atomic b) b.addr s := by
  unfold applyPkt
  simp only [rowPkt, hr, hm, Bool.false_eq_true, if_false]

theorem applyPkt_signal {c v : Nat} : applyPkt p (rowPkt e (.signal c v)) port s =
    if closing s p then refused e.h St.closed s else if ctrBad s p (some c) then refused e.h St.counter s
    else landed e.h false (raiseCtr c v s) := by
  unfold applyPkt
  simp only [rowPkt, hr, hm, Bool.false_eq_true, if_false]

theorem applyPkt_reply {st : Nat} {d : Bytes} {v : List Bool} :
    applyPkt p (rowPkt e (.reply st d v)) port s = landed e.h false (replyArrive e.h st d v s) := by
  unfold applyPkt
  simp only [rowPkt, hr, hm, Bool.false_eq_true, if_false]

theorem applyPkt_report {x : Bool} : applyPkt p (rowPkt e (.report x)) port s = reportApply e.h x s := by
  unfold applyPkt
  simp only [rowPkt, hr, hm, Bool.false_eq_true, if_false]

theorem applyPkt_close : applyPkt p (rowPkt e .close) port s = closeApply e.h s := by
  unfold applyPkt
  simp only [rowPkt, hr, hm, Bool.false_eq_true, if_false]

theorem applyPkt_mirror {b : MirrorBody} {n : Nat} {r : Ext} (hx : mirrorExt s b.home b.ext = some (n, r)) :
    applyPkt p (rowPkt e (.mirror b)) port s = if mirrorRoom s e.h b then mirrorApply e.h b r s else turnAway e.h s := by
  unfold applyPkt
  simp only [rowPkt, hr, hm, hx, Bool.false_eq_true, if_false]

theorem applyPkt_rebuild {b : RebuildBody} {n : Nat} {r : Ext} (hx : mirrorExt s b.home b.ext = some (n, r)) :
    applyPkt p (rowPkt e (.rebuild b)) port s = rebuildApply e.h b n r s := by
  unfold applyPkt
  simp only [rowPkt, hr, hm, hx, Bool.false_eq_true, if_false]

theorem applyPkt_mctl {m : MirrorCtl} : applyPkt p (rowPkt e (.mctl m)) port s =
    mctlApply (endpoint s e.h.src).home e.h.job e.h.gen m (landed e.h true s) := by
  unfold applyPkt
  simp only [rowPkt, hr, hm, Bool.false_eq_true, if_false]

theorem applyPkt_header {k v : Nat} {left : Bool} {r : CollRec} {c : CollOp} : applyPkt p (rowPkt e (.header k v left r c)) port s =
    landed e.h false (vertHeader e.h k v left r c s) := by
  unfold applyPkt
  simp only [rowPkt, hr, hm, Bool.false_eq_true, if_false]

theorem applyPkt_chunk {b : ChunkBody} : applyPkt p (rowPkt e (.chunk b)) port s = landed e.h false (vertChunk e.h b s) := by
  unfold applyPkt
  simp only [rowPkt, hr, hm, Bool.false_eq_true, if_false]

theorem applyPkt_result {b : ResultBody} : applyPkt p (rowPkt e (.result b)) port s = resultArrive e.h b s := by
  unfold applyPkt
  simp only [rowPkt, hr, hm, Bool.false_eq_true, if_false]

theorem applyPkt_done {r : CollRec} : applyPkt p (rowPkt e (.done r)) port s = landed e.h false (recArrive e.h.job (.done r) s) := by
  unfold applyPkt
  simp only [rowPkt, hr, hm, Bool.false_eq_true, if_false]

theorem applyPkt_go {r : CollRec} : applyPkt p (rowPkt e (.go r)) port s = landed e.h false (recArrive e.h.job (.go r) s) := by
  unfold applyPkt
  simp only [rowPkt, hr, hm, Bool.false_eq_true, if_false]

theorem applyPkt_abort {r : CollRec} : applyPkt p (rowPkt e (.abort r)) port s = landed e.h false (recArrive e.h.job (.abort r) s) := by
  unfold applyPkt
  simp only [rowPkt, hr, hm, Bool.false_eq_true, if_false]

theorem applyPkt_a2aReport {r : CollRec} : applyPkt p (rowPkt e (.a2aReport r)) port s = landed e.h false (a2aReported e.h r s) := by
  unfold applyPkt
  simp only [rowPkt, hr, hm, Bool.false_eq_true, if_false]

theorem applyPkt_cause {r : CollRec} : applyPkt p (rowPkt e (.cause r)) port s = landed e.h false (causeArrive e.h r s) := by
  unfold applyPkt
  simp only [rowPkt, hr, hm, Bool.false_eq_true, if_false]

end Bodies

/-! ### Packets that the Ward clears -/

/-- What the Ward's verdict does with a packet for this module. -/
def judged (port : Option (Fin 64)) (q : Pkt) (x : State) : State :=
  match ward x q.h q.rd q.body with
  | .late => dropLate x
  | .deny => wardDeny q.h q.body x
  | .clear => if q.tr = .zero then admitted 0 q port x else authFail none q.h x
  | .pass p =>
    match q.tr, q.body with
    | .zero, .ack st => unprotected q.h st x
    | _, _ => if authOk x p q then admitted p q port x else authFail (some p) q.h x

/-- A packet for an EPID of this module is judged by its Ward. -/
theorem packetIn_here {s : State} {port : Option (Fin 64)} {q : Pkt} (h : forHere s port q = true) :
    live s = true ∧ packetIn q port s = judged port q (entered port q s) := by
  simp only [forHere, Bool.and_eq_true] at h
  obtain ⟨⟨⟨hl, hp⟩, hv⟩, hloc⟩ := h
  refine ⟨hl, ?_⟩
  have hv' : (endpoint (entered port q s) q.h.dst).v = true := by rw [entered_endpoint]; exact hv
  have hl' : (endpoint (entered port q s) q.h.dst).isLocal = true := by rw [entered_endpoint]; exact hloc
  cases port with
  | none => exact (if_neg (by rw [hv]; decide)).trans (if_neg (by rw [hloc]; decide))
  | some n =>
    simp only [Bool.and_eq_true, decide_eq_true_eq] at hp
    have hin : packetIn q (some n) s = arrive q (some n) (passCells n.val q.h.vc q.h.hops (pktCells q) s) := by
      simp [packetIn, hp.1, Nat.not_lt.2 hp.2, hv, hloc]
    rw [hin]
    exact (if_neg (show ¬(!(endpoint (entered (some n) q s) q.h.dst).v) = true by rw [hv']; decide)).trans
      (if_neg (show ¬(!(endpoint (entered (some n) q s) q.h.dst).isLocal) = true by rw [hl']; decide))

/-- Mirror control, which the Ward clears, in its turn. -/
theorem mirrorControl_cleared {s : State} {port : Option (Fin 64)} {e : Env} {m : MirrorCtl} (h : forHere s port (rowPkt e (.mctl m)) = true)
    (hz : e.tr = .zero) (hr : e.rd = none) (hm : e.h.mc = false) (hi : inTurn (entered port (rowPkt e (.mctl m)) s) e.h = true) :
    exec (.mirrorControl port e m) s = .next (settled (mctlApply (endpoint s e.h.src).home e.h.job e.h.gen m
      (landed e.h true (opened s port (rowPkt e (.mctl m)))))) := by
  obtain ⟨hl, hp⟩ := packetIn_here h
  have ha : judged port (rowPkt e (.mctl m)) (entered port (rowPkt e (.mctl m)) s) =
      seqArrive 0 (rowPkt e (.mctl m)) port (entered port (rowPkt e (.mctl m)) s) := if_pos hz
  have ht : seqArrive 0 (rowPkt e (.mctl m)) port (entered port (rowPkt e (.mctl m)) s) =
      applyPkt 0 (rowPkt e (.mctl m)) port (opened s port (rowPkt e (.mctl m))) := seqArrive_inTurn _ _ _ _ hi
  refine (exec_packetRow hl).trans ?_
  rw [hp, ha, ht, applyPkt_mctl hr hm, opened_endpoint]

/-- No body but an acknowledgement or a reply acts outside its turn. -/
theorem inTurnBody {b : Body} {vc : Nat} (ha : ∀ st, b ≠ .ack st) (hr : ∀ st d v, b ≠ .reply st d v) :
    (∀ st, b ≠ .ack st) ∧ (∀ st d v, b = .reply st d v → vc ≠ 2) := ⟨ha, fun st d v h => absurd h (hr st d v)⟩

/-- Settles O51: each body's effect, in the state `opened`, whose pool, partitions and endpoints are those from before. -/
theorem packetEffects : Obligations.PacketEffects := by
  refine ⟨fun s port e p i a x b r hd h hr hm hc ht ha => ?_, fun s port e p a b hd h hr hm hc ht => ?_,
    fun s port e p i b r h hr hm hv ha => ?_, fun s port e p i b r h hr hm hc ht ha => ?_, fun s port e p c v h hr hm hc hp => ?_,
    fun s port e p c v h hr hm hc => ?_, fun s port e p x h hr hm => ?_, fun s port e p hcl h hr hm => ?_, fun s port e p b r h hr ha hb => ?_,
    fun s port e p n b r h hr hm hx => ⟨fun hroom => ?_, fun hroom => ?_⟩, fun s port e p n b r h hr hm hx => ?_,
    fun s port e m h hz hr hm _ hi => mirrorControl_cleared h hz hr hm hi, fun s port e p b hm h hr ha hb => ?_⟩
  · refine packetRow_direct h (inTurnBody nofun nofun) ((applyPkt_write_home hr hm hd).trans (poolRequest_access
      (acc := { who := .fabric e.h port, addr := a, ext := x, redirect := none, what := .write b.data b.mask b.ctr b.total }) ?_ (fun _ => ?_) ?_ ?_))
    · rw [accessOf, extentOf, hd]
      rfl
    · rw [opened_closing, hc]
    · rw [opened_ctrBad]
      exact ht
    · rw [opened_admitAt]
      exact ha
  · have he := applyPkt_write_device (s := opened s port (rowPkt e (.write b))) (port := port) (p := p) hr hm hd
      (by rw [opened_closing, hc]) (by rw [opened_ctrBad]; exact ht)
    rw [opened_endpoint] at he
    exact packetRow_direct h (inTurnBody nofun nofun) he
  · refine packetRow_direct h (inTurnBody nofun nofun) ((applyPkt_read hr hm hv).trans (poolRequest_access rfl nofun rfl ?_))
    rw [opened_admitAt]
    exact ha
  · refine packetRow_direct h (inTurnBody nofun nofun) ((applyPkt_atomic hr hm).trans (poolRequest_access rfl (fun _ => ?_) ?_ ?_))
    · rw [opened_closing, hc]
    · rw [opened_ctrBad]
      exact ht
    · rw [opened_admitAt]
      exact ha
  · refine packetRow_direct h (inTurnBody nofun nofun) ((applyPkt_signal hr hm).trans ?_)
    rw [opened_closing, hc, opened_ctrBad, ctrBad, hp, if_neg (by decide), if_neg (by simp)]
  · refine packetRow_direct h (inTurnBody nofun nofun) ((applyPkt_signal hr hm).trans ?_)
    rw [opened_closing, if_pos hc]
  · exact packetRow_direct h (inTurnBody nofun nofun) (applyPkt_report hr hm)
  · have he : { e with h := { e.h with close := true } } = e := by
      obtain ⟨hd, rd, tr⟩ := e
      obtain ⟨⟩ := hd
      cases hcl
      rfl
    show packetRow port { e with h := { e.h with close := true } } .close s = _
    rw [he]
    exact packetRow_direct h (inTurnBody nofun nofun) (applyPkt_close hr hm)
  · exact packetRow_direct h ⟨ha, hb⟩ (applyPkt_redirected hr)
  · refine packetRow_direct h (inTurnBody nofun nofun) ((applyPkt_mirror (n := n) hr hm ?_).trans (if_pos hroom))
    rw [opened_mirrorExt, hx]
  · refine packetRow_direct h (inTurnBody nofun nofun) ((applyPkt_mirror (n := n) (r := r) hr hm ?_).trans (if_neg (by rw [hroom]; decide)))
    rw [opened_mirrorExt, hx]
  · refine packetRow_direct h (inTurnBody nofun nofun) (applyPkt_rebuild hr hm ?_)
    rw [opened_mirrorExt, hx]
  · have he : { e with h := { e.h with mc := true } } = e := by
      obtain ⟨hd, rd, tr⟩ := e
      obtain ⟨⟩ := hd
      cases hm
      rfl
    show packetRow port { e with h := { e.h with mc := true } } b s = _
    rw [he]
    exact packetRow_direct h ⟨ha, hb⟩ (applyPkt_leg hr hm)

end Sys2Proof.Machine
end

section
/-! Records of collectives in their turn, and packets that arrive (R10, R24, R165 to R182, R211, R219 to R223, R255, R332, R387, R503). -/

namespace Sys2Proof.Machine

/-! ### The wait of a vertex for an operand -/

theorem arrivalLate_waits {ctx seq lv vtx : Nat} {s : State} {g : Grp} {v : CVert} (hg : s.col.grps.find ctx = some g)
    (hv : vertOf s ctx seq lv vtx = some v) : arrivalLate ctx seq lv vtx s =
      if g.p.arrivalMs = 0 ∨ v.lh.isSome = v.rh.isSome then s
      else settled (colCause g seq 0x43 (if v.lh.isNone then vtx else vtx + 2 ^ lv) (rankMod s g (if v.lh.isNone then vtx else vtx + 2 ^ lv)) s) := by
  unfold arrivalLate
  simp only [hg, hv]

/-- Settles O52: the records by their bodies, in the state `opened`; a vertex by the operands that it has. -/
theorem collectiveRecords : Obligations.CollectiveRecords := by
  refine ⟨fun s port e p k v left r c hr hm h => packetRow_direct h (inTurnBody nofun nofun) (applyPkt_header hr hm),
    fun s port e p b hr hm h => packetRow_direct h (inTurnBody nofun nofun) (applyPkt_chunk hr hm),
    fun s port e p b hr hm h => packetRow_direct h (inTurnBody nofun nofun) (applyPkt_result hr hm),
    fun s port e p r hr hm => ⟨fun h => packetRow_direct h (inTurnBody nofun nofun) (applyPkt_done hr hm),
      fun h => packetRow_direct h (inTurnBody nofun nofun) (applyPkt_go hr hm),
      fun h => packetRow_direct h (inTurnBody nofun nofun) (applyPkt_abort hr hm),
      fun h => packetRow_direct h (inTurnBody nofun nofun) (applyPkt_a2aReport hr hm),
      fun h => packetRow_direct h (inTurnBody nofun nofun) (applyPkt_cause hr hm)⟩,
    fun s ctx seq lv vtx g v hl hg hv => ⟨fun ha hlh hrh => ?_, fun ha hlh hrh => ?_, fun h => ?_⟩⟩
  · refine (run_live hl).trans (congrArg _ ((arrivalLate_waits hg hv).trans ((if_neg (by simp [ha, hlh, hrh])).trans ?_)))
    rw [hlh]
    rfl
  · refine (run_live hl).trans (congrArg _ ((arrivalLate_waits hg hv).trans ((if_neg (by simp [ha, hlh, hrh])).trans ?_)))
    rw [if_neg (by rw [Option.isNone_iff_eq_none]; intro hn; rw [hn] at hlh; exact nomatch hlh)]
  · exact (run_live hl).trans (congrArg _ ((arrivalLate_waits hg hv).trans (if_pos h)))

/-! ### A packet that comes in whole -/

theorem exec_transit {port : Fin 64} {q : Pkt} {n : Nat} {s : State} (hl : live s = true) :
    exec (.fabricPacketTransit port q n) s = .next (settled (packetWhole q n port s)) :=
  run_live (f := fun s => settled (packetWhole q n port s)) hl

theorem packetWhole_down {port : Fin 64} {q : Pkt} {n : Nat} {s : State} (h : portUp s port.val = false) : packetWhole q n port s = s :=
  (if_neg (by rw [h]; simp)).trans (if_pos (by rw [h]; rfl))

theorem packetWhole_fits {port : Fin 64} {q : Pkt} {s : State} : packetWhole q (pktCells q) port s = packetIn q (some port) s :=
  if_neg (by simp)

theorem packetWhole_malformed {port : Fin 64} {q : Pkt} {n : Nat} {s : State} (hu : portUp s port.val = true)
    (h : 4096 < q.h.len ∨ n ≠ pktCells q) :
    packetWhole q n port s = noteMalformed q.h.dst (passCells port.val q.h.vc q.h.hops n s) := by
  by_cases hn : n = pktCells q
  · subst hn
    rw [packetWhole_fits]
    exact (if_neg (by rw [hu]; decide)).trans (if_pos (h.resolve_right fun h => h rfl))
  · exact if_pos (by simp [hu, hn])

theorem packetIn_away {port : Fin 64} {q : Pkt} {s : State} (hu : portUp s port.val = true) (hn : q.h.len ≤ 4096)
    (hv : (endpoint s q.h.dst).v = true) (hf : (endpoint s q.h.dst).isLocal = false) : packetIn q (some port) s = transit q port.val s :=
  (if_neg (by rw [hu]; decide)).trans ((if_neg (Nat.not_lt.2 hn)).trans (if_pos (by rw [hv, hf]; rfl)))

theorem packetIn_invalid {port : Fin 64} {q : Pkt} {s : State} (hu : portUp s port.val = true) (hn : q.h.len ≤ 4096)
    (hv : (endpoint s q.h.dst).v = false) : packetIn q (some port) s = bump 0x60024 (entered (some port) q s) := by
  have he : (endpoint (entered (some port) q s) q.h.dst).v = false := by rw [entered_endpoint]; exact hv
  refine (if_neg (by rw [hu]; decide)).trans ((if_neg (Nat.not_lt.2 hn)).trans ((if_neg (by rw [hv]; simp)).trans ?_))
  exact (if_pos (show (!(endpoint (entered (some port) q s) q.h.dst).v) = true by rw [he]; rfl)).trans (if_pos rfl)

theorem hopLimit_anaCopy {p : Nat} {b : Bool} {q : Pkt} {s : State} : hopLimit (anaCopy p b q s) = hopLimit s := by
  have hc : (anaCopy p b q s).regs.cfg = s.regs.cfg := by rw [switched_anaCopy.2.2]
  unfold hopLimit
  exact cfgField_congr hc ..

theorem transit_beyond {q : Pkt} {p : Nat} {s : State} (h : hopLimit s ≤ q.h.hops) : transit q p s =
    faultAt 0xE 7 none q.h.dst (bump 0x6001C (passCells p q.h.vc q.h.hops (pktCells q) (anaCopy p false q s))) :=
  if_pos (by rw [hopLimit_anaCopy]; exact h)

theorem transit_within {q : Pkt} {p : Nat} {s : State} (h : q.h.hops < hopLimit s) :
    transit q p s = forwardTransit p q (anaCopy p false q s) := if_neg (by rw [hopLimit_anaCopy]; exact Nat.not_le.2 h)

theorem takeFabric_fab (p vc cls cells : Nat) (s : State) : (takeFabric p vc cls cells s).2.fab = s.fab := by
  unfold takeFabric
  dsimp only
  split <;> rfl

theorem takeFabric_now (p vc cls cells : Nat) (s : State) : (takeFabric p vc cls cells s).2.now = s.now := by
  unfold takeFabric
  dsimp only
  split <;> rfl

/-- A packet for another module that finds no port waits for a route. -/
theorem forwardTransit_waits {s : State} {q : Pkt} {p : Nat} (hv : (endpoint s q.h.dst).v = true) (hf : (endpoint s q.h.dst).isLocal = false)
    (hn : isLost s (endpoint s q.h.dst).home = false) (hc : choosePort (takeFabric p q.h.vc q.h.hops (pktCells q) s).2 q.h = none) :
    forwardTransit p q s =
      let x := takeFabric p q.h.vc q.h.hops (pktCells q) s
      { x.2 with fab := { x.2.fab with noRoute := x.2.fab.noRoute ++ [⟨p, x.1, s.now, .pkt q⟩] } } := by
  have hx := takeFabric_fab p q.h.vc q.h.hops (pktCells q) s
  unfold forwardTransit
  generalize takeFabric p q.h.vc q.h.hops (pktCells q) s = x at hx hc ⊢
  have he : ∀ e, endpoint x.2 e = endpoint s e := fun e => by rw [endpoint, hx]; rfl
  have hl : ∀ m, isLost x.2 m = isLost s m := fun m => by rw [isLost, hx]; rfl
  unfold routePkt
  simp only [he, hl, hv, hf, hn, hc, Bool.not_true, Bool.false_eq_true, if_false]

/-- A packet of this module for an invalid EPID is refused by its Ward. -/
theorem packetIn_own_invalid {e : Env} {b : Body} {s : State} (hv : (endpoint s e.h.dst).v = false) :
    packetIn (rowPkt e b) none s = wardDeny e.h b s :=
  (if_pos (show (!(endpoint s e.h.dst).v) = true by rw [hv]; rfl)).trans (if_neg (by decide))

/-! ### Verdicts -/

theorem judged_late {port : Option (Fin 64)} {q : Pkt} {x : State} (h : ward x q.h q.rd q.body = .late) : judged port q x = bump 0x380004 x := by
  rw [judged, h]
  rfl

theorem judged_pass {port : Option (Fin 64)} {q : Pkt} {x : State} {p : Nat} (h : ward x q.h q.rd q.body = .pass p) (hz : q.tr ≠ .zero) :
    judged port q x = if authOk x p q then admitted p q port x else authFail (some p) q.h x := by
  rw [judged, h]
  dsimp only
  split
  · next ht _ => exact absurd ht hz
  · rfl

theorem tr_of_authOk {q : Pkt} {x : State} {p : Nat} (h : authOk x p q = true) : q.tr ≠ .zero := fun hz => by
  rw [authOk, hz] at h
  exact nomatch h

theorem judged_authentic {port : Option (Fin 64)} {q : Pkt} {x : State} {p : Nat} (h : ward x q.h q.rd q.body = .pass p)
    (ha : authOk x p q = true) : judged port q x = admitted p q port x := by
  rw [judged_pass h (tr_of_authOk ha), if_pos ha]

theorem judged_clear {port : Option (Fin 64)} {q : Pkt} {x : State} (h : ward x q.h q.rd q.body = .clear) (hz : q.tr = .zero) :
    judged port q x = admitted 0 q port x := by
  rw [judged, h]
  exact if_pos hz

/-- A refusal without protection is judged by the request that it names. -/
theorem judged_unprotected {port : Option (Fin 64)} {q : Pkt} {x : State} {p st : Nat} (h : ward x q.h q.rd q.body = .pass p)
    (hz : q.tr = .zero) (hb : q.body = .ack st) : judged port q x = unprotected q.h st x := by
  rw [judged, h]
  dsimp only
  split
  · next ha => rw [Body.ack.inj (hb.symm.trans ha)]
  · next hn => exact absurd hb (hn st hz)

theorem admitted_ack {p : Nat} {e : Env} {st : Nat} {port : Option (Fin 64)} {x : State} :
    admitted p (rowPkt e (.ack st)) port x = ackArrive e.h st (handOver port e.h x) := rfl

/-! ### Refusals without protection -/

theorem unprotected_unknown {h : Hdr} {st : Nat} {s : State} (hn : s.fab.reqs.find h.wid = none) :
    unprotected h st s = authFail (partOfJob s h.job) h s := by
  unfold unprotected
  rw [hn]

theorem unprotected_ends {h : Hdr} {s : State} {r : OutReq} (hr : s.fab.reqs.find h.wid = some r) (hv : h.vc = 2) (hn : h.len = 0)
    (hw : h.wid ≠ 0) (hs : r.src = h.dst) (hd : r.dst = h.src) (hf : s.fab.sflow.find (flowKey h.dst h.src h.ackedVc) = none)
    (hm : ∀ k, r.serves ≠ .mctl k) (hb : ∀ n k, r.serves ≠ .rebuild n k) :
    unprotected h St.denied s = endReq h.wid St.denied (faultAt 0x1C 0 (some r.part) h.src s) := by
  unfold unprotected
  rw [hr]
  dsimp only
  rw [if_pos ⟨hv, hn, rfl, hw, hs, hd⟩]
  rw [hf]
  dsimp only
  split
  · next k h => exact absurd h (hm k)
  · next n k h => exact absurd h (hb n k)
  · rfl

/-- Settles O50: a packet by its port, length and endpoint; one for this module by the verdict of its Ward. -/
theorem packetArrival : Obligations.PacketArrival := by
  refine ⟨fun s port q n hl => ⟨fun hu => ?_, fun hu h => ?_, fun hu hlen hn hv hf => ⟨fun hh => ?_, fun hh => ?_⟩, fun hu hlen hn hv => ?_⟩,
    fun s q p hv hf hn hc => forwardTransit_waits hv hf hn hc, fun s e hl hv => ⟨fun b => ?_, fun b => ?_, fun b => ?_⟩,
    fun s port q h => ⟨fun hw => ?_, fun p hw hz ha => ?_⟩, fun s port e st h => ⟨fun p hw hz ha => ?_, fun hw hz => ?_⟩,
    fun s port e p st d v h hw ha hv => ?_, fun s port e p st d v h hv hr hm => ?_, fun s port e p h hw => ?_,
    fun s h => ⟨fun hn st => unprotected_unknown hn, fun r hr hv hn hw hs hd hf hm hb => unprotected_ends hr hv hn hw hs hd hf hm hb⟩⟩
  · exact endsIn_of_settled (x := s) ((exec_transit hl).trans (by rw [packetWhole_down hu])) rfl
  · rw [exec_transit hl, packetWhole_malformed hu h]
    rfl
  · rw [exec_transit hl, hn, packetWhole_fits, packetIn_away hu hlen hv hf, transit_beyond hh]
  · rw [exec_transit hl, hn, packetWhole_fits, packetIn_away hu hlen hv hf, transit_within hh]
  · rw [exec_transit hl, hn, packetWhole_fits, packetIn_invalid hu hlen hv]
  · exact (exec_packetRow hl).trans (by rw [packetIn_own_invalid hv])
  · exact (exec_packetRow hl).trans (by rw [packetIn_own_invalid hv])
  · exact (exec_packetRow hl).trans (by rw [packetIn_own_invalid hv])
  · obtain ⟨hl, hp⟩ := packetIn_here h
    rw [exec_transit hl, packetWhole_fits, hp, judged_late hw]
  · obtain ⟨hl, hp⟩ := packetIn_here h
    rw [exec_transit hl, packetWhole_fits, hp, judged_pass hw hz, if_neg (by rw [ha]; decide)]
    rfl
  · obtain ⟨hl, hp⟩ := packetIn_here h
    exact (exec_packetRow hl).trans (by rw [hp, judged_authentic hw ha, admitted_ack])
  · obtain ⟨hl, hp⟩ := packetIn_here h
    exact (exec_packetRow hl).trans (by rw [hp, judged_clear hw hz, admitted_ack])
  · obtain ⟨hl, hp⟩ := packetIn_here h
    have he : admitted p (rowPkt e (.reply st d v)) port (entered port (rowPkt e (.reply st d v)) s) =
        replyArrive e.h st d v (handOver port e.h (entered port (rowPkt e (.reply st d v)) s)) := if_pos hv
    exact (exec_packetRow hl).trans (by rw [hp, judged_authentic hw ha, he])
  · exact packetRow_direct h ⟨nofun, fun _ _ _ _ => hv⟩ (applyPkt_reply hr hm)
  · obtain ⟨hl, hp⟩ := packetIn_here h
    exact (exec_packetRow hl).trans (by rw [hp, judged_unprotected hw rfl rfl]; rfl)

end Sys2Proof.Machine
end

section
/-! The CXL memory device mailbox, SPDM and IDE keys (R303 to R306, R312, R315, R390, R392). -/

namespace Sys2Proof.Machine

/-! ### Bits of a mask -/

/-- A number whose half above a bit is unchanged reads as before at every other bit. -/
theorem testBit_replace {q q' r a b : Nat} (hr : r < 2 ^ a) (hq : q' / 2 = q / 2) :
    (2 ^ a * q' + r).testBit b = if b = a then decide (q' % 2 = 1) else (2 ^ a * q + r).testBit b := by
  rw [Nat.testBit_two_pow_mul_add q' hr, Nat.testBit_two_pow_mul_add q hr]
  split
  · next h => rw [if_neg (by omega)]
  · next h =>
    obtain ⟨k, rfl⟩ : ∃ k, b = a + k := ⟨b - a, by omega⟩
    rw [Nat.add_sub_cancel_left]
    cases k with
    | zero => rw [if_pos (by omega), Nat.testBit_zero]
    | succ k => rw [if_neg (by omega), Nat.testBit_succ, Nat.testBit_succ, hq]

theorem half_succ {q : Nat} (h : q % 2 = 0) : (q + 1) / 2 = q / 2 := by omega

theorem half_pred {q : Nat} (h : q % 2 = 1) : (q - 1) / 2 = q / 2 := by omega

theorem bitOf_setBit (m a b : Nat) : bitOf (setBit m a) b = (bitOf m b || a == b) := by
  by_cases h : bitOf m a = true
  · rw [setBit, if_pos h]
    by_cases hb : a = b
    · subst hb
      simp [h]
    · simp [hb]
  · have hq : (m / 2 ^ a) % 2 = 0 := by
      have hh : ¬(m / 2 ^ a) % 2 = 1 := fun he => h (beq_iff_eq.2 he)
      omega
    have hm : m + 2 ^ a = 2 ^ a * (m / 2 ^ a + 1) + m % 2 ^ a := by
      have := Nat.div_add_mod m (2 ^ a)
      rw [Nat.mul_add, Nat.mul_one]
      omega
    rw [setBit, if_neg h, bitOf_eq_testBit, bitOf_eq_testBit, hm,
      testBit_replace (q := m / 2 ^ a) (Nat.mod_lt _ (Nat.two_pow_pos a)) (half_succ hq), Nat.div_add_mod]
    by_cases hb : b = a
    · simp [hb, Nat.add_mod, hq]
    · simp [hb, Ne.symm hb]

theorem bitOf_clearBit (m a b : Nat) : bitOf (clearBit m a) b = (bitOf m b && a != b) := by
  by_cases h : bitOf m a = true
  · have hq : (m / 2 ^ a) % 2 = 1 := beq_iff_eq.1 h
    have hm : m - 2 ^ a = 2 ^ a * (m / 2 ^ a - 1) + m % 2 ^ a := by
      have hd := Nat.div_add_mod m (2 ^ a)
      obtain ⟨k, hk⟩ : ∃ k, m / 2 ^ a = k + 1 := Nat.exists_eq_succ_of_ne_zero fun h0 => by simp [h0] at hq
      rw [hk, Nat.mul_add, Nat.mul_one] at hd
      rw [hk, Nat.add_sub_cancel]
      omega
    rw [clearBit, if_pos h, bitOf_eq_testBit, bitOf_eq_testBit, hm,
      testBit_replace (q := m / 2 ^ a) (Nat.mod_lt _ (Nat.two_pow_pos a)) (half_pred hq), Nat.div_add_mod]
    by_cases hb : b = a
    · have ho : (m / 2 ^ a - 1) % 2 = 0 := by omega
      simp [hb, ho]
    · simp [hb, Ne.symm hb]
  · rw [clearBit, if_neg h]
    by_cases hb : a = b
    · subst hb
      simp [h]
    · simp [hb]

/-! ### Commands -/

section Commands

variable {port : Fin 16} {c : Instr} {f : Nat → State → State} {s : State}

theorem mailCmd_down (h : srcUp s (.cxl port) = false) : mailCmd port c f s = s := if_pos (by rw [h]; rfl)

/-- A mailbox command that reaches its port while the port is live. -/
theorem mailCmd_up (h : srcUp s (.cxl port) = true) : mailCmd port c f s =
    if busyPort s (.cxl port) then mailbox port .busy [] s
    else if s.fw.hinge.isSome then owe ⟨.cxl port, 0, 1, 0, 0, true⟩ 9 0 { s with fw := { s.fw with held := s.fw.held ++ [c] } }
    else if !fwRuns s then mailbox port .noFw [] s
    else match attachOf s port.val with
      | some a => f a s
      | none => s := if_neg (by rw [h]; decide)

theorem mailCmd_served {a : Nat} (h : mailServed s port a = true) : live s = true ∧ mailCmd port c f s = f a s := by
  simp only [mailServed, Bool.and_eq_true, Bool.not_eq_true', Option.isNone_iff_eq_none, beq_iff_eq] at h
  obtain ⟨⟨⟨⟨⟨hl, hu⟩, hb⟩, hh⟩, hf⟩, ha⟩ := h
  refine ⟨hl, (mailCmd_up hu).trans ?_⟩
  rw [if_neg (by rw [hb]; decide), if_neg (by rw [hh]; decide), if_neg (by rw [hf]; decide), ha]

theorem run_mailCmd {a : Nat} (h : mailServed s port a = true) : run (mailCmd port c f) s = .next (f a s) := by
  obtain ⟨hl, he⟩ := mailCmd_served (c := c) (f := f) h
  rw [run_live hl, he]

end Commands

/-- A row of the mailbox runs its command. -/
theorem exec_mailRow {c : Instr} {port : Fin 16} {s : State} (hl : live s = true) (h : mailRow c = some port) :
    ∃ f, exec c s = .next (mailCmd port c f s) := by
  cases c <;> cases h
  all_goals exact ⟨_, run_live hl⟩

/-! ### Offers -/

theorem declined_awaited {n a : Nat} {s : State} (h : bitOf (extRec s n).asked a = true) : declined n a s =
    report 0x800D (extTag (extRec s n)) a (setExt n { extRec s n with asked := clearBit (extRec s n).asked a } s) := if_pos h

theorem declined_late {n a : Nat} {s : State} (h : bitOf (extRec s n).asked a = false) : declined n a s = s := if_neg (by rw [h]; decide)

theorem exec_presentAnswerTimeout {a home ext : Nat} {s : State} (hl : live s = true) : exec (.presentAnswerTimeout a home ext) s =
    .next (match offered s home ext a with | some n => declined n a s | none => s) :=
  run_live (f := fun s => match offered s home ext a with | some n => declined n a s | none => s) hl

theorem exec_addResponse {p : Fin 16} {a home ext : Nat} {yes : Bool} {s : State} (h : mailServed s p a = true) :
    exec (.addDynamicCapacityResponse p home ext yes) s = .next (match offered s home ext a with
      | some n => mailbox p .ok [] (if yes then accepted n a s else declined n a s)
      | none => mailbox p .range [] s) := run_mailCmd (f := fun a s => match offered s home ext a with
      | some n => mailbox p .ok [] (if yes then accepted n a s else declined n a s)
      | none => mailbox p .range [] s) h

theorem exec_releaseCapacity {p : Fin 16} {a home ext : Nat} {s : State} (h : mailServed s p a = true) :
    exec (.releaseDynamicCapacity p home ext) s = .next (mailbox p .ok [] (hostRelease home ext a s)) :=
  run_mailCmd (f := fun a s => mailbox p .ok [] (hostRelease home ext a s)) h

theorem hostRelease_accepted {home ext a n : Nat} {s : State} (h : offered s home ext a = some n) (hb : bitOf (extRec s n).accepted a = true) :
    hostRelease home ext a s =
      report 0x800E (extTag (extRec s n)) a (setExt n { extRec s n with accepted := clearBit (extRec s n).accepted a } s) := by
  unfold hostRelease
  rw [h]
  exact if_pos hb

theorem hostRelease_none {home ext a : Nat} {s : State} (h : offered s home ext a = none) : hostRelease home ext a s = s := by
  unfold hostRelease
  rw [h]

/-! ### Event logs -/

theorem exec_clearEvents {p : Fin 16} {a : Nat} {hs : List Nat} {s : State} (h : mailServed s p a = true) :
    exec (.clearEventRecords p hs) s = .next (mailbox p .ok [] (clearEvents a hs s)) :=
  run_mailCmd (f := fun a s => mailbox p .ok [] (clearEvents a hs s)) h

theorem clearEvents_port {a e : Nat} {hs : List Nat} {s : State} (h : evtPort s a = some e) :
    clearEvents a hs s = setCxl s e { cxlPort s e with evts := (cxlPort s e).evts.filter (fun x => x.handle ∉ hs) } := by
  unfold clearEvents
  rw [h]
  simp

/-! ### SPDM and IDE -/

theorem spdm_up {p : Fin 16} {f m : Bool} {s : State} (h : ioUp (cxlPort s p.val) = true) : spdm p f m s =
    if !s.sys.idOk then mailbox p .identity [] s
    else if f && m then mailbox p .ok s.sys.certChain (setCxl s p.val { cxlPort s p.val with spdm := true })
    else mailbox p .denied [] s := if_neg (by rw [h]; decide)

theorem ideKeys_up {p : Fin 16} {on : Bool} {s : State} (h : ioUp (cxlPort s p.val) = true) : ideKeys p on s =
    if !(cxlPort s p.val).spdm then mailbox p .denied [] s
    else mailbox p .ok [] (setCxl s p.val { cxlPort s p.val with ide := on }) := if_neg (by rw [h]; decide)

theorem exec_getEventRecords {p : Fin 16} {a : Nat} {s : State} (h : mailServed s p a = true) :
    exec (.getEventRecords p) s = .next (mailbox p .ok (evtsIn 4096 (eventLog s a)) s) :=
  run_mailCmd (f := fun a s => mailbox p .ok (evtsIn 4096 (eventLog s a)) s) h

end Sys2Proof.Machine

namespace Sys2Proof

open Sys2Proof.Machine

/-- Settles O40: a command by what keeps its port from being served, and by the offer or session that it finds. -/
theorem mailbox : Obligations.Mailbox := by
  refine ⟨fun s p a h => ⟨run_mailCmd h, run_mailCmd h, run_mailCmd h,
      exec_getEventRecords h, run_mailCmd h⟩,
    fun s p a e hs h he => ⟨_, exec_clearEvents h, ?_, fun k hk => ?_, ?_, ?_⟩, fun s p a home ext n h ho => ⟨?_, ?_⟩,
    fun s p a home ext yes h ho => ?_, fun s a home ext n hl ho hb => ?_, fun s a home ext n hl ho hb => ?_, fun s a home ext hl ho => ?_,
    fun s p a home ext n h ho hb => ?_, fun s p a home ext h ho => ?_, fun m a b => ⟨bitOf_setBit m a b, bitOf_clearBit m a b⟩,
    fun s p f m hl hu => ⟨fun hi => ?_, fun hi hf hm => ?_, fun hi hn => ?_⟩, fun s p on hl hu => ⟨fun hs => ?_, fun hs => ?_⟩,
    fun s p f m on hl hu => ⟨?_, ?_⟩, fun s c port hl hr => ?_⟩
  · rw [clearEvents_port he]
    exact congrArg CxlPort.evts ((cxlPort_setCxl ..).trans (if_pos rfl))
  · rw [clearEvents_port he]
    exact (cxlPort_setCxl ..).trans (if_neg hk)
  · rw [clearEvents_port he]
    rfl
  · rw [clearEvents_port he]
    exact sameBut_of_eq rfl
  · rw [exec_addResponse h, ho]
    rfl
  · rw [exec_addResponse h, ho]
    rfl
  · rw [exec_addResponse h, ho]
  · rw [exec_presentAnswerTimeout hl, ho]
    exact congrArg _ (declined_awaited hb)
  · rw [exec_presentAnswerTimeout hl, ho]
    exact congrArg _ (declined_late hb)
  · rw [exec_presentAnswerTimeout hl, ho]
  · rw [exec_releaseCapacity h, hostRelease_accepted ho hb]
  · rw [exec_releaseCapacity h, hostRelease_none ho]
  · exact (run_live hl).trans (congrArg _ ((spdm_up hu).trans (if_pos (by rw [hi]; rfl))))
  · exact (run_live hl).trans (congrArg _ ((spdm_up hu).trans ((if_neg (by rw [hi]; decide)).trans (if_pos (by rw [hf, hm]; rfl)))))
  · refine (run_live hl).trans (congrArg _ ((spdm_up hu).trans ((if_neg (by rw [hi]; decide)).trans (if_neg ?_))))
    obtain hn | hn := hn <;> simp [hn]
  · exact (run_live hl).trans (congrArg _ ((ideKeys_up hu).trans (if_neg (by rw [hs]; decide))))
  · exact (run_live hl).trans (congrArg _ ((ideKeys_up hu).trans (if_pos (by rw [hs]; rfl))))
  · exact (run_live hl).trans (congrArg _ (if_pos (by rw [hu]; rfl)))
  · exact (run_live hl).trans (congrArg _ (if_pos (by rw [hu]; rfl)))
  · obtain ⟨f, he⟩ := exec_mailRow hl hr
    refine ⟨fun hu => ?_, fun hu => ⟨fun hb => ?_, fun hb => ⟨fun hh => ?_, fun hh hf => ?_⟩⟩⟩
    · rw [he, mailCmd_down hu]
    · rw [he, mailCmd_up hu, if_pos hb]
    · rw [he, mailCmd_up hu, if_neg (by rw [hb]; decide), if_pos hh]
    · rw [he, mailCmd_up hu, if_neg (by rw [hb]; decide), if_neg (by rw [hh]; decide), if_pos (by rw [hf]; rfl)]

end Sys2Proof
end

section
/-! The link of a CXL port, its decoders and its resets (R293 to R295, R300, R308, R313 to R315). -/

namespace Sys2Proof.Machine

/-- A command ends in `x` where what has become possible in `x` is nothing once it was nothing before. -/
theorem endsIn_of_quiet {c : Instr} {s x : State} (h : exec c s = .next (settled x)) (hq : quiet s = true → quiet x = true) : endsIn c s x :=
  ⟨h, fun hs => h.trans (congrArg _ (settled_quiet (hq hs)))⟩

/-! ### Links -/

section Links

variable {p : Fin 16} {w : Nat} {full : Bool} {s : State} (hl : live s = true)
include hl

theorem exec_cxlLinkUp : exec (.cxlLinkUp p w full) s = .next
    (if cxlFree s p.val && !(cxlPort s p.val).perst && (cxlPort s p.val).st == .training then settled (cxlTrained p.val w full s) else s) :=
  run_live (f := fun s =>
    if cxlFree s p.val && !(cxlPort s p.val).perst && (cxlPort s p.val).st == .training then settled (cxlTrained p.val w full s) else s) hl

theorem exec_cxlTrainRetry : exec (.cxlTrainRetry p w full) s = .next
    (if cxlFree s p.val && !(cxlPort s p.val).perst && !(cxlPort s p.val).dead && (cxlPort s p.val).st == .down
     then settled (cxlTrained p.val w full s) else s) :=
  run_live (f := fun s =>
    if cxlFree s p.val && !(cxlPort s p.val).perst && !(cxlPort s p.val).dead && (cxlPort s p.val).st == .down
    then settled (cxlTrained p.val w full s) else s) hl

theorem exec_cxlLinkDown : exec (.cxlLinkDown p w) s = .next (settled (cxlLost p.val w s)) :=
  run_live (f := fun s => settled (cxlLost p.val w s)) hl

theorem exec_ideIntegrityFailure : exec (.ideIntegrityFailure p) s = .next (settled (ideFailed p.val s)) :=
  run_live (f := fun s => settled (ideFailed p.val s)) hl

end Links

theorem cxlLost_noIo {p w : Nat} {s : State} (h : ioUp (cxlPort s p) = false) : cxlLost p w s = s := if_pos (by rw [h]; rfl)

theorem cxlLost_link {p : Nat} {s : State} (h : ioUp (cxlPort s p) = true) :
    cxlLost p 0 s = cxlRetrainEvent p (setCxl s p { cxlPort s p with st := .training }) :=
  (if_neg (by rw [h]; decide)).trans ((if_pos rfl).trans (if_pos h))

theorem cxlLost_lanes {p w : Nat} {s : State} (h : ioUp (cxlPort s p) = true) (hw : w ≠ 0) : cxlLost p w s =
    if w < minWidth s then heldTimeout p (cxlRetrainEvent p (setCxl s p { cxlPort s p with st := .down, width := 0, trained := 0, dmaq := [] }))
    else cxlRetrainEvent p (setCxl s p { cxlPort s p with width := w, trained := w }) :=
  (if_neg (by rw [h]; decide)).trans (if_neg hw)

theorem followWidth_follows {p w : Nat} {s : State} (hs : (cxlPort s p).st = .up) (he : l0pEn s = true) (hw : w = 4 ∨ w = 8 ∨ w = 16)
    (ht : w ≤ (cxlPort s p).trained) : followWidth p w s = setCxl s p { cxlPort s p with width := w } :=
  if_pos (by simp [hs, he, hw, ht])

theorem followWidth_refuses {p w : Nat} {s : State} (h : (cxlPort s p).st ≠ .up ∨ l0pEn s = false ∨ (w ≠ 4 ∧ w ≠ 8 ∧ w ≠ 16) ∨
    (cxlPort s p).trained < w) : followWidth p w s = s := by
  refine if_neg fun hc => ?_
  simp only [Bool.and_eq_true, beq_iff_eq, List.contains_iff_mem, List.mem_cons, List.not_mem_nil, or_false, decide_eq_true_eq] at hc
  obtain ⟨⟨⟨hs, he⟩, hw⟩, ht⟩ := hc
  obtain h | h | h | h := h
  · exact h hs
  · rw [he] at h
    exact nomatch h
  · omega
  · omega

theorem ideFailed_stream {p : Nat} {s : State} (h : (cxlPort s p).ide = true) : ideFailed p s =
    heldTimeout p (faultAtSev 0x10 9 2 none p (setCxl s p { cxlPort s p with
      st := .down, ide := false, ideErr := true, width := 0, trained := 0, dmaq := [] })) := if_pos h

theorem ideFailed_none {p : Nat} {s : State} (h : (cxlPort s p).ide = false) : ideFailed p s = s := if_neg (by rw [h]; decide)

/-- Settles O41: a link's events by the state of its port and the width that is left. -/
theorem cxlLinks : Obligations.CxlLinks := by
  refine ⟨fun s p w full hl hf hp ht => ?_, fun s p w full hl hf hp hd ht => ?_, fun s p w hw => ⟨?_, ?_⟩, fun s p w full hw => if_pos hw,
    fun s p w hl hu hw => ?_, fun s p w hl hu hw => ⟨exec_cxlLinkDown hl, fun hm => ?_, fun hm => ?_⟩, fun s p w hl hu => ?_,
    fun s p w hl => ⟨fun hs he hw ht => ?_, fun h => ?_, fun h => ?_, fun h => ?_, fun h => ?_, fun h => ?_⟩, fun s p hl h => ?_,
    fun s p hl h => ?_⟩
  · rw [exec_cxlLinkUp hl, if_pos (by rw [hf, hp, ht]; rfl)]
  · rw [exec_cxlTrainRetry hl, if_pos (by rw [hf, hp, hd, ht]; rfl)]
  · exact (if_neg (Nat.not_lt.2 hw)).trans (if_pos rfl)
  · exact (if_neg (Nat.not_lt.2 hw)).trans (if_neg (by decide))
  · subst hw
    refine endsIn_of_quiet ((exec_cxlLinkDown hl).trans (by rw [cxlLost_link hu]; rfl)) fun hq => ?_
    exact (quiet_setCxl hq (quiet_held hq p.val) : quiet (setCxl s p.val { cxlPort s p.val with st := .training }) = true)
  · exact (cxlLost_lanes hu hw).trans (if_neg (Nat.not_lt.2 hm))
  · exact (cxlLost_lanes hu hw).trans (if_pos hm)
  · exact endsIn_of_settled (x := s) ((exec_cxlLinkDown hl).trans (by rw [cxlLost_noIo hu])) rfl
  · exact (run_live hl).trans (congrArg _ (followWidth_follows hs he hw ht))
  · exact (run_live hl).trans (congrArg _ (followWidth_refuses h))
  · exact (run_live hl).trans (congrArg _ (if_pos h))
  · exact (run_live hl).trans (congrArg _ (if_neg (by rw [h]; decide)))
  · exact (run_live hl).trans (congrArg _ (if_pos h))
  · exact (run_live hl).trans (congrArg _ (if_neg h))
  · rw [exec_ideIntegrityFailure hl, ideFailed_stream h]
  · exact endsIn_of_settled (x := s) ((exec_ideIntegrityFailure hl).trans (by rw [ideFailed_none h])) rfl

/-! ### Snoop entries that lose an attachment -/

/-- `t` is `s` but for the snoop filter and which words are poison. -/
def SnoopedFrom (s t : State) : Prop := t = { s with pool := { s.pool with bad := t.pool.bad, flip := t.pool.flip, snoop := t.pool.snoop } }

theorem SnoopedFrom.refl (s : State) : SnoopedFrom s s := rfl

theorem SnoopedFrom.trans {s t u : State} (h : SnoopedFrom s t) (h' : SnoopedFrom t u) : SnoopedFrom s u := by
  unfold SnoopedFrom at *
  rw [h] at h'
  exact h'

theorem snooped_setSnoop {line : Nat} {x : Snoop} {s : State} : SnoopedFrom s (setSnoop line x s) := rfl

theorem snooped_orphan {line p : Nat} {s : State} : SnoopedFrom s (orphan line p s) := by
  unfold orphan
  split
  · rfl
  · exact .refl s

theorem snooped_biAnswer {line att : Nat} {keep : Bool} {s : State} : SnoopedFrom s (biAnswer line att keep s) := by
  unfold biAnswer
  dsimp only
  split
  · exact .refl s
  · next m nx _ =>
    generalize (if bitOf m att = true then m - 2 ^ att else m) = left
    split
    · exact snooped_setSnoop
    · exact snooped_setSnoop

/-- Resolving an attachment's lines changes the snoop filter and poison alone. -/
theorem snooped_resolveAttach {att : Nat} {s : State} : SnoopedFrom s (resolveAttach att s).1 := by
  unfold resolveAttach
  refine List.foldlRecOn (motive := fun acc : State × Nat => SnoopedFrom s acc.1) _ _ (.refl s) fun acc ht e _ => ?_
  obtain ⟨t, n⟩ := acc
  dsimp only at ht ⊢
  have hu : SnoopedFrom s (if ((snoop t e.1).owner == some att) = true then orphan e.1 (snoop t e.1).part t else t) := by
    split
    · exact ht.trans snooped_orphan
    · exact ht
  generalize (if ((snoop t e.1).owner == some att) = true then orphan e.1 (snoop t e.1).part t else t) = u at hu ⊢
  split
  · split
    · exact hu.trans (snooped_setSnoop.trans snooped_biAnswer)
    · exact hu.trans snooped_setSnoop
  · split
    · exact hu.trans snooped_setSnoop
    · split
      · exact hu.trans snooped_setSnoop
      · exact hu

/-! ### Resets of a port -/

/-- A fault that is recorded where there is something to record changes no port, partition, or part of the pool. -/
theorem fault_unless {c : Bool} {cls block : Nat} {p : Option Nat} {addr detail : Nat} {s : State} :
    let t := if c then s else fault cls block p addr detail s
    t.cxl = s.cxl ∧ t.parts = s.parts ∧ t.pool = s.pool := by
  cases c
  · exact ⟨fault_cxl .., fault_parts .., fault_pool ..⟩
  · exact ⟨rfl, rfl, rfl⟩

/-- The reset of an attachment's port in a module without partitions. -/
theorem portReset_alone {p a : Nat} {down : Bool} {s : State} (ha : attachOf s p = some a) (hp : s.parts = []) :
    (portReset p down s).cxl = (setCxl s p (resetPort down (cxlPort s p))).cxl ∧
    (portReset p down s).pool.severed = s.pool.severed.filter (fun x => x != a) ∧ (portReset p down s).pool.mem = s.pool.mem ∧
    (portReset p down s).pool.ext = s.pool.ext := by
  have hr := snooped_resolveAttach (att := a) (s := setCxl s p (resetPort down (cxlPort s p)))
  unfold portReset
  rw [ha]
  dsimp only
  generalize resolveAttach a (setCxl s p (resetPort down (cxlPort s p))) = r at hr ⊢
  obtain ⟨y, n⟩ := r
  dsimp only at hr ⊢
  have hc : y.cxl = (setCxl s p (resetPort down (cxlPort s p))).cxl := by rw [hr]
  have hparts : y.parts = [] := by rw [hr]; exact hp
  have hsev : y.pool.severed = s.pool.severed := by rw [hr]; rfl
  have hmem : y.pool.mem = s.pool.mem := by rw [hr]; rfl
  have hext : y.pool.ext = s.pool.ext := by rw [hr]; rfl
  obtain ⟨hfc, hfp, hfo⟩ := fault_unless (c := decide (n = 0)) (cls := 9) (block := 3) (p := none) (addr := a) (detail := n)
    (s := { y with pool := { y.pool with severed := y.pool.severed.filter (fun x => x != a) } })
  simp only [decide_eq_true_eq] at hfc hfp hfo
  generalize (if n = 0 then { y with pool := { y.pool with severed := y.pool.severed.filter (fun x => x != a) } }
    else fault 9 3 none a n { y with pool := { y.pool with severed := y.pool.severed.filter (fun x => x != a) } }) = z at hfc hfp hfo ⊢
  have hn : partsAt z a = [] := by rw [partsAt, hfp, hparts]; rfl
  rw [hn]
  refine ⟨hfc.trans hc, ?_, ?_, ?_⟩
  · rw [List.foldl_nil, hfo, ← hsev]
  · rw [List.foldl_nil, hfo, ← hmem]
  · rw [List.foldl_nil, hfo, ← hext]

theorem portReset_none {p : Nat} {down : Bool} {s : State} (h : attachOf s p = none) : portReset p down s = s := by
  unfold portReset
  rw [h]

theorem portReset_port {p a : Nat} {down : Bool} {s : State} (ha : attachOf s p = some a) (hp : s.parts = []) (k : Nat) :
    cxlPort (portReset p down s) k = if k = p then resetPort down (cxlPort s p) else cxlPort s k := by
  rw [cxlPort, (portReset_alone ha hp).1]
  exact cxlPort_setCxl ..

theorem resetPort_clears (down : Bool) (c : CxlPort) : let r := resetPort down c
    r.dec = CxlPort.init.dec ∧ r.bi = false ∧ r.ide = false ∧ r.spdm = false ∧ r.mem = false ∧ r.held = [] ∧ r.dmaq = [] ∧
    (down = true → r.st = .reset ∧ r.width = 0) ∧ (down = false → r.st = c.st) ∧ r.evts = c.evts := by
  cases down
  · exact ⟨rfl, rfl, rfl, rfl, rfl, rfl, rfl, nofun, fun _ => rfl, rfl⟩
  · exact ⟨rfl, rfl, rfl, rfl, rfl, rfl, rfl, fun _ => ⟨rfl, rfl⟩, nofun, rfl⟩

/-! ### The rows -/

section Rows

variable {p : Fin 16} {s : State} (hl : live s = true)
include hl

theorem exec_biEnable {on : Bool} : exec (.biEnable p on) s = .next
    (if ioUp (cxlPort s p.val) then setCxl s p.val { cxlPort s p.val with bi := on } else s) :=
  run_live (f := fun s => if ioUp (cxlPort s p.val) then setCxl s p.val { cxlPort s p.val with bi := on } else s) hl

theorem exec_hotReset : exec (.hotReset p) s = .next
    (if ioUp (cxlPort s p.val) then settled (cxlTrain p.val (portReset p.val true s)) else s) :=
  run_live (f := fun s => if ioUp (cxlPort s p.val) then settled (cxlTrain p.val (portReset p.val true s)) else s) hl

theorem exec_functionLevelReset : exec (.functionLevelReset p) s = .next
    (if ioUp (cxlPort s p.val) then settled (portReset p.val false s) else s) :=
  run_live (f := fun s => if ioUp (cxlPort s p.val) then settled (portReset p.val false s) else s) hl

theorem exec_cxlReset : exec (.cxlReset p) s = .next (if ioUp (cxlPort s p.val) then settled (portReset p.val false s) else s) :=
  run_live (f := fun s => if ioUp (cxlPort s p.val) then settled (portReset p.val false s) else s) hl

theorem exec_perstRelease : exec (.perstNRelease p) s = .next (cxlTrain p.val (setCxl s p.val { cxlPort s p.val with perst := false })) :=
  run_live (f := fun s => cxlTrain p.val (setCxl s p.val { cxlPort s p.val with perst := false })) hl

end Rows

theorem commitDecoder_noIo {p r : Nat} {d : Decoder} {s : State} (h : ioUp (cxlPort s p) = false) : commitDecoder p r d s = s :=
  if_pos (by rw [h]; rfl)

theorem commitDecoder_io {p r : Nat} {d : Decoder} {s : State} (h : ioUp (cxlPort s p) = true) : commitDecoder p r d s =
    let c := cxlPort s p
    if decoderOk s p r d then
      setCxl s p { c with dec := c.dec.set r (some d), decErr := c.decErr.set r false, mem := c.mem || (c.st == .up && fwRuns s) }
    else setCxl s p { c with dec := c.dec.set r none, decErr := c.decErr.set r true } := if_neg (by rw [h]; decide)

/-- A port that nothing holds in reset starts to train. -/
theorem cxlTrain_trains {p : Nat} {s : State} {c : CxlPort} (hc : cxlPort s p = c) (hf : cxlFree s p = true) (hp : c.perst = false)
    (hd : c.dead = false) (hs : c.st = .reset) : cxlTrain p s = setCxl s p { c with st := .training, trained := 0, width := 0 } := by
  subst hc
  exact if_pos (by rw [hf, hp, hd, hs]; rfl)

/-- The release of PERST lets a port that nothing else holds train. -/
theorem cxlTrain_released {p : Nat} {s : State} (hf : cxlFree s p = true) (hd : (cxlPort s p).dead = false) (hs : (cxlPort s p).st = .reset) :
    let t := cxlTrain p (setCxl s p { cxlPort s p with perst := false })
    cxlPort t p = { cxlPort s p with perst := false, st := .training, trained := 0, width := 0 } ∧
    (∀ k, k ≠ p → cxlPort t k = cxlPort s k) ∧ sameBut [.cxl] s t := by
  have hc : cxlPort (setCxl s p { cxlPort s p with perst := false }) p = { cxlPort s p with perst := false } :=
    (cxlPort_setCxl ..).trans (if_pos rfl)
  have ht : cxlTrain p (setCxl s p { cxlPort s p with perst := false }) = setCxl (setCxl s p { cxlPort s p with perst := false }) p
      { cxlPort s p with perst := false, st := .training, trained := 0, width := 0 } := cxlTrain_trains hc hf rfl hd hs
  dsimp only
  rw [ht]
  refine ⟨(cxlPort_setCxl ..).trans (if_pos rfl), fun k hk => ?_, sameBut_of_eq rfl⟩
  rw [cxlPort_setCxl, if_neg hk, cxlPort_setCxl, if_neg hk]

/-- Settles O42: by CXL.io on the port, by the decoder's rules, and by what `resetPort` leaves of a port. -/
theorem cxlPortResets : Obligations.CxlPortResets := by
  refine ⟨fun s p r d hl hu => ⟨fun hd => ?_, fun hd => ?_, fun on => ?_, ?_, ?_, ?_⟩, fun s p r d on hl hu => ⟨?_, ?_, ?_, ?_, ?_⟩,
    fun s p hl => run_live (f := fun s => settled (portReset p.val true (setCxl s p.val { cxlPort s p.val with perst := true }))) hl,
    fun s p hl hf hd hs => ⟨_, exec_perstRelease hl, cxlTrain_released hf hd hs⟩, fun s p a down ha hp => ?_, fun s p down h => portReset_none h⟩
  · exact (run_live hl).trans (congrArg _ ((commitDecoder_io hu).trans (if_pos hd)))
  · exact (run_live hl).trans (congrArg _ ((commitDecoder_io hu).trans (if_neg (by rw [hd]; decide))))
  · rw [exec_biEnable hl, if_pos hu]
  · rw [exec_hotReset hl, if_pos hu]
  · rw [exec_functionLevelReset hl, if_pos hu]
  · rw [exec_cxlReset hl, if_pos hu]
  · exact (run_live hl).trans (congrArg _ (commitDecoder_noIo hu))
  · rw [exec_biEnable hl, if_neg (by rw [hu]; decide)]
  · rw [exec_hotReset hl, if_neg (by rw [hu]; decide)]
  · rw [exec_functionLevelReset hl, if_neg (by rw [hu]; decide)]
  · rw [exec_cxlReset hl, if_neg (by rw [hu]; decide)]
  · obtain ⟨-, hsev, hmem, hext⟩ := portReset_alone (down := down) ha hp
    have hport := portReset_port (down := down) ha hp
    obtain ⟨h1, h2, h3, h4, h5, h6, h7, h8, h9, h10⟩ := resetPort_clears down (cxlPort s p)
    dsimp only
    rw [hport p, if_pos rfl]
    exact ⟨h1, h2, h3, h4, h5, h6, h7, h8, h9, h10, fun k hk => (hport k).trans (if_neg hk), by rw [hsev]; simp, hmem, hext⟩

end Sys2Proof.Machine
end

section
/-! A host's loads and stores (R25, R57, R58, R300 to R304): the statements leave out that a cached leaf is aligned to its page (R96). -/

namespace Sys2Proof.Machine

/-! ### A state that no run reaches: a cached leaf whose home address is not that of a page -/

/-- A leaf that may be read and written, of this module, with the home address 224: R96 accepts no such leaf. -/
def oddLeaf : BitVec 128 := BitVec.ofNat 128 (15 + 224 * 2 ^ 16 + 5 * 2 ^ 53)

/-- The cached translation of page 0 of partition 1 by that leaf. -/
def oddEntry : CEnt := ⟨1, 0, 4, oddLeaf, 0, false⟩

/-- A decoder of 1 PiB from address 0. -/
def oddDecoder : Decoder := ⟨0, 2 ^ 50, 1, 256, 0⟩

/-- A HOME record of 64 MiB from address 0, accepted by attachment 0. -/
def oddExt : Ext := { Ext.init with st := .shackled, log2 := 26, home := 5, part := 1, job := 77, tenant := 9, mask := 1, accepted := 1 }

/-- A module whose line at home address 224 lies in two stripes, with a wrong bit in word 32, the first of the second stripe. -/
def straddling : State := { State.reset with
  clk := { State.reset.clk with src := 2, refOk := true, rootLock := true }
  sys := { State.reset.sys with moduleId := 5, imgRead := true, imgOk := true, attachMap := [0, 1] ++ List.replicate 14 31 }
  fw := { State.reset.fw with img := some ⟨1, [], 0, 0, 0, 0, true⟩ }
  parts := [(1, { Part.init with st := .active, prm := { PartParams.none with part := 1, jobTag := 77 }, binds := [(0, 1)] })]
  pool := { State.reset.pool with ext := [(0, oddExt)], flip := [(32, 1)] }
  xlt := { State.reset.xlt with cache := [oddEntry] }
  fab := { State.reset.fab with ep := [(0, ⟨true, true, 1, 0, 5, false, 0, []⟩)], homeMap := [(5, (0, false))] }
  cxl := { State.reset.cxl with ports := [(0, { CxlPort.init with
    st := .up, width := 16, trained := 16, mem := true, perst := false, dec := [none, some oddDecoder, none, none] })] } }

/-- The target of line 0: home address 224. -/
def oddTarget : Target := ⟨5, 0, 224, 0, none⟩

/-- A store of line 0 that leaves out byte 32, the first of word 32. -/
def oddStore : StoreArgs := ⟨List.replicate 32 true ++ false :: List.replicate 31 true, [], .any⟩

/-- The next state of a result has no wrong bit, and has counted an event of health. -/
def wasCorrected (x : Result) : Bool := match x with | .next u => u.pool.flip.isEmpty && !u.hlt.events.isEmpty | _ => false

set_option maxRecDepth 20000 in
theorem straddling_ready : live straddling = true ∧ quiet straddling = true ∧ attachOf straddling 0 = some 0 ∧
    (cxlPort straddling 0).mem = true ∧ (cxlPort straddling 0).st = .up ∧ braked straddling = false ∧
    decoderOf straddling 0 0 = some (1, oddDecoder) ∧ partInSlot straddling 0 1 = some 1 ∧ (part straddling 1).st = .active ∧
    acceptedAt straddling 1 0 0 = true ∧ closing straddling 1 = false ∧ cached straddling 1 0 = some oddEntry ∧
    targetOf straddling 0 4 oddLeaf = .ok oddTarget ∧ admitAt straddling 77 224 64 (some 0) none = .ok (0, oddExt) := by decide

set_option maxRecDepth 20000 in
theorem straddling_load : wasCorrected (exec (.cxlMemLoad ⟨0, 0⟩ .data) straddling) = true := by decide

set_option maxRecDepth 20000 in
theorem straddling_store : wasCorrected (exec (.cxlMemStore ⟨0, 0⟩ oddStore.mask oddStore.data oddStore.mv) straddling) = true := by decide

/-- A result that has corrected a bit is no result that leaves health alone. -/
theorem hlt_of_corrected {x : Result} {u : State} (hc : wasCorrected x = true) (hu : x = .next u) : u.hlt ≠ straddling.hlt := fun h => by
  subst hu
  rw [wasCorrected, h] at hc
  simp [straddling, State.reset] at hc

/-- Refutes O43: a cached leaf whose home address is 224 makes a load read bytes of two stripes, and the wrong bit in the second is corrected
and counted. No run caches such a leaf (R96); the statement, of every state, does not leave it out. -/
theorem not_hostLoad : ¬ Obligations.HostLoad := fun h => by
  obtain ⟨hl, hq, ha, hm, hs, hb, hd, hp, hst, hacc, -, hc, ht, had⟩ := straddling_ready
  obtain ⟨u, hu, -, -, hsame⟩ := h.2 straddling ⟨0, 0⟩ .data 0 1 1 0 oddDecoder oddEntry oddTarget oddExt hl hq ha hm hs hb hd (by decide) hp hst
    hacc hc (by decide) ht rfl rfl had rfl rfl (by decide) (by decide)
  exact hlt_of_corrected straddling_load hu (hsame .hlt (by decide))

/-- Refutes O44: in the same state a store that writes a part of the word with the wrong bit corrects and counts it. -/
theorem not_hostStore : ¬ Obligations.HostStore := fun h => by
  obtain ⟨hl, hq, ha, hm, hs, hb, hd, hp, hst, hacc, hcl, hc, ht, had⟩ := straddling_ready
  obtain ⟨u, hu, -, -, -, -, -, hsame⟩ := h.2 straddling ⟨0, 0⟩ oddStore 0 1 1 0 oddDecoder oddEntry oddTarget oddExt hl hq ha hm hs hb hd
    (by decide) hp hst hacc hcl hc (by decide) ht rfl rfl had rfl rfl (by decide) (by decide)
  exact hlt_of_corrected straddling_store hu (hsame .hlt (by decide))

end Sys2Proof.Machine
end

section
/-! Answers of hosts, CXL.io reads and landing counters (R26, R46, R78, R81, R308 to R310). -/

namespace Sys2Proof.Machine

/-! ### Back-invalidations -/

theorem biArrive_awaited {p : Fin 16} {line a m n : Nat} {keep : Bool} {s : State} (ha : attachOf s p.val = some a)
    (hb : (snoop s line).bi = some (m, n)) :
    biArrive p line keep s = if bitOf m a then settled (biAnswer line a keep s) else bump 0x380004 s := by
  unfold biArrive
  simp only [ha, hb]

theorem biArrive_late {p : Fin 16} {line a : Nat} {keep : Bool} {s : State} (ha : attachOf s p.val = some a) (hb : (snoop s line).bi = none) :
    biArrive p line keep s = bump 0x380004 s := by
  unfold biArrive
  simp only [ha, hb]

theorem biSilent_awaited {line a m n : Nat} {s : State} (hb : (snoop s line).bi = some (m, n)) (hm : bitOf m a = true) :
    biSilent line a s = settled (sever line a s) := by
  unfold biSilent
  simp only [hb]
  exact if_pos hm

theorem biSilent_none {line a : Nat} {s : State} (hb : (snoop s line).bi = none) : biSilent line a s = s := by
  unfold biSilent
  simp only [hb]

theorem snoop_setSnoop (line : Nat) (x : Snoop) (s : State) (k : Nat) : snoop (setSnoop line x s) k = if k = line then x else snoop s k :=
  Tab.get_put ..

/-- A line that has been settled waits for no answer. -/
theorem settled_bi (x : Snoop) (keep : Nat) : (x.settled keep).bi = none := by
  unfold Snoop.settled
  split
  · rfl
  · split <;> rfl

/-- The last answer that a line waits for. -/
theorem biAnswer_last {line a n : Nat} {keep : Bool} {s : State} (hb : (snoop s line).bi = some (2 ^ a, n)) :
    ∃ nx, biAnswer line a keep s = setSnoop line ((snoop s line).settled nx) s := by
  have hbit : bitOf (2 ^ a) a = true := by rw [bitOf_eq_testBit, Nat.testBit_two_pow_self]
  unfold biAnswer
  simp only [hb, hbit, if_true, Nat.sub_self]
  exact ⟨_, rfl⟩

theorem SnoopedFrom.sameBut {s t : State} (h : SnoopedFrom s t) : Machine.sameBut [.pool] s t := by
  rw [h]
  exact sameBut_of_eq rfl

theorem SnoopedFrom.mem {s t : State} (h : SnoopedFrom s t) : t.pool.mem = s.pool.mem := by rw [h]

/-- Severing an attachment: its lines resolved, the attachment listed, one record. -/
theorem sever_severs (line a : Nat) (s : State) : a ∈ (sever line a s).pool.severed ∧ (sever line a s).pool.mem = s.pool.mem ∧
    sameBut [.seed, .pool, .regs, .flt] s (sever line a s) := by
  have hx : SnoopedFrom s (if ((snoop s line).owner != some a) = true then orphan line (snoop s line).part s else s) := by
    split
    · exact snooped_orphan
    · exact .refl s
  unfold sever
  dsimp only
  generalize (if ((snoop s line).owner != some a) = true then orphan line (snoop s line).part s else s) = x at hx ⊢
  have hr : SnoopedFrom s (resolveAttach a x).1 := hx.trans snooped_resolveAttach
  generalize resolveAttach a x = r at hr ⊢
  obtain ⟨y, n⟩ := r
  dsimp only at hr ⊢
  refine ⟨?_, ?_, sameBut_trans (sameBut_mono hr.sameBut (by decide)) (sameBut_trans (sameBut_of_eq rfl)
    (sameBut_mono faultSev_sameBut (by decide)))⟩
  · rw [fault_pool]
    simp
  · rw [fault_pool]
    exact hr.mem

/-! ### CXL.io reads -/

theorem ioAnswered_none {id : Nat} {ok : Bool} {data : Bytes} {s : State} (h : s.cxl.dma.find id = none) : ioAnswered id ok data s = s := by
  unfold ioAnswered
  rw [h]

section Reads

variable {id p : Nat} {f : DmaFor} {data : Bytes} {s : State} (h : s.cxl.dma.find id = some (p, f))
include h

/-- A read that completes, the last that its packet waits for. -/
theorem ioAnswered_last (hn : (shared f && (s.cxl.dma.del id).any (fun e => e.2.2 == f)) = false) : ioAnswered id true data s =
    settled (dmaDone f data (flushDma p { s with cxl := { s.cxl with dma := s.cxl.dma.del id } })) := by
  unfold ioAnswered
  simp only [h, hn, if_true, Bool.false_eq_true, if_false]

/-- A read that completes while another of its packet has not. -/
theorem ioAnswered_more (hn : (shared f && (s.cxl.dma.del id).any (fun e => e.2.2 == f)) = true) : ioAnswered id true data s =
    settled (flushDma p { s with cxl := { s.cxl with dma := s.cxl.dma.del id } }) := by
  unfold ioAnswered
  simp only [h, hn, if_true]

/-- A read that fails ends every read of its packet. -/
theorem ioAnswered_fails : ioAnswered id false data s = settled (dmaFail p f (flushDma p
    { s with cxl := { s.cxl with dma := (s.cxl.dma.del id).keep (fun _ e => !(shared f && e.2 == f)) } })) := by
  unfold ioAnswered
  simp only [h, Bool.false_eq_true, if_false]

end Reads

theorem keep_shared {t : Tab (Nat × DmaFor)} {f : DmaFor} (h : shared f = true) :
    t.keep (fun _ e => !(shared f && e.2 == f)) = t.filter (fun e => e.2.2 ≠ f) :=
  List.filter_congr fun e _ => by simp [h, beq_eq_decide]

theorem keep_unshared {t : Tab (Nat × DmaFor)} {f : DmaFor} (h : shared f = false) : t.keep (fun _ e => !(shared f && e.2 == f)) = t :=
  List.filter_eq_self.2 fun e _ => by simp [h]

/-! ### Landing counters -/

theorem ctrRead_own {p : Fin 16} {n a k : Nat} {s : State} (ha : attachOf s p.val = some a) (hn : n < 65536) (hk : partOfCtr s n = some k)
    (hb : boundTo s k a = true) : ctrRead p (0x400000 + 8 * n) 8 s = emit (.regResp (.host p) 0 .ok (s.ctrs.get 0 n)) s := by
  have hi : (0x400000 + 8 * n - 0x400000) / 8 = n := by omega
  unfold ctrRead
  simp only [ha, hi, hk, hb]
  exact if_pos ⟨trivial, by omega, by omega, by omega, trivial⟩

theorem ctrRead_other {p : Fin 16} {off size a : Nat} {s : State} (ha : attachOf s p.val = some a) (h : size ≠ 8 ∨ off % 8 ≠ 0) :
    ctrRead p off size s = faultAt 0 0 none off (emit (.unsupported p) s) := by
  unfold ctrRead
  simp only [ha]
  exact if_neg fun hc => h.elim (fun h => h hc.1) fun h => h hc.2.1

/-- Settles O45: an answer by whether it is awaited, a read by what shares its packet. -/
theorem hostEvents : Obligations.HostEvents := by
  refine ⟨fun s p line a m n keep hl ha hb hm => ?_, fun s p line a keep hl ha hb => ?_, fun s p line a m n keep hl ha hb hm => ?_,
    fun s line a m n hl hb hm => ?_, fun s line a hl hb => ?_, fun s line a n keep _ hb => ?_, fun s line a => sever_severs line a s,
    fun s id p f data hl hf => ⟨fun hs => ⟨?_, ?_, ?_⟩, fun hs => ⟨fun he => ?_, fun he => ?_, ?_, ?_⟩⟩, fun s p h => ?_,
    fun s id ok data hl hf => ⟨?_, ?_⟩, fun s p n a k hl ha hn hk hb => ?_, fun s p off size a hl ha h => ?_⟩
  · exact (run_live hl).trans (congrArg _ ((biArrive_awaited ha hb).trans (if_pos hm)))
  · exact (run_live hl).trans (congrArg _ (biArrive_late ha hb))
  · exact (run_live hl).trans (congrArg _ ((biArrive_awaited ha hb).trans (if_neg (by rw [hm]; decide))))
  · exact (run_live hl).trans (congrArg _ (biSilent_awaited hb hm))
  · exact (run_live hl).trans (congrArg _ (biSilent_none hb))
  · obtain ⟨nx, hx⟩ := biAnswer_last (keep := keep) hb
    dsimp only
    rw [hx]
    refine ⟨?_, fun k hk => ?_, rfl, sameBut_of_eq rfl⟩
    · rw [snoop_setSnoop, if_pos rfl]
      exact settled_bi ..
    · rw [snoop_setSnoop, if_neg hk]
  · exact (run_live hl).trans (congrArg _ (ioAnswered_last hf (by rw [hs]; rfl)))
  · exact (run_live hl).trans (congrArg _ ((ioAnswered_fails hf).trans (by rw [keep_unshared hs])))
  · exact (run_live hl).trans (congrArg _ ((ioAnswered_fails hf).trans (by rw [keep_unshared hs])))
  · refine (run_live hl).trans (congrArg _ (ioAnswered_more hf ?_))
    obtain ⟨e, hm, he⟩ := he
    rw [hs, Bool.true_and, List.any_eq_true]
    exact ⟨e, hm, beq_iff_eq.2 he⟩
  · refine (run_live hl).trans (congrArg _ (ioAnswered_last hf ?_))
    rw [hs, Bool.true_and, List.any_eq_false]
    exact fun e hm => by simpa using he e hm
  · exact (run_live hl).trans (congrArg _ ((ioAnswered_fails hf).trans (by rw [keep_shared hs])))
  · exact (run_live hl).trans (congrArg _ ((ioAnswered_fails hf).trans (by rw [keep_shared hs])))
  · rw [flushDma, h]
    rfl
  · exact (run_live hl).trans (congrArg _ (ioAnswered_none hf))
  · exact (run_live hl).trans (congrArg _ (ioAnswered_none hf))
  · exact (run_live hl).trans (congrArg _ (ctrRead_own ha hn hk hb))
  · exact (run_live hl).trans (congrArg _ (ctrRead_other ha h))

end Sys2Proof.Machine
end

section
/-! The start of a descriptor (R31, R38, R120, R127 to R133, R139). -/

namespace Sys2Proof.Machine

/-- Each row of a descriptor starts the one at the head of its queue, with an effect of its own. -/
theorem exec_descRow {c : Instr} {k q : Nat} {d : Desc} (h : descRow c = some (k, q, d)) (s : State) :
    ∃ eff, exec c s = run (startDesc k q d eff) s := by
  cases c <;> cases h <;> exact ⟨_, rfl⟩

/-! ### The read of the ring -/

theorem ringRead_port {x : Que} {s : State} {p : Nat} (h : dmaPort s x.attach (x.sqBase + 64 * x.head) = some p) :
    ringRead x s = emit (.dmaRead s.cxl.nextId p (x.sqBase + 64 * x.head) 64) { s with cxl := { s.cxl with nextId := s.cxl.nextId + 1 } } := by
  simp only [ringRead, h]

theorem ringRead_sameBut (x : Que) (s : State) : sameBut [.out, .cxl] s (ringRead x s) := by
  unfold ringRead
  dsimp only
  split
  · exact sameBut_of_eq rfl
  · exact sameBut_refl _ s

theorem ringRead_fab (x : Que) (s : State) : (ringRead x s).fab = s.fab := ringRead_sameBut x s .fab (by decide)

theorem ringRead_qs (x : Que) (s : State) : (ringRead x s).qs = s.qs := ringRead_sameBut x s .qs (by decide)

theorem takeWid_ringRead (x : Que) (s : State) : (takeWid (ringRead x s)).1 = (takeWid s).1 := by
  rw [takeWid, takeWid, ringRead_fab]

/-! ### The state in which a descriptor has its effect -/

theorem newborn_wid (s : State) (q : Nat) (d : Desc) : (newborn s q d).wid ≠ 0 := Nat.succ_ne_zero _

theorem que_begun (s : State) (q k : Nat) (d : Desc) : que (begun s q d) k =
    if k = q then { que s q with head := ((que s q).head + 1) % 2 ^ (que s q).sqLog2, ops := (que s q).ops ++ [newborn s q d] }
    else que s k := by
  rw [begun, que_setQue]
  have hq : que (takeWid (ringRead (que s q) s)).2 k = que s k := congrArg (fun t => t.ctx.get Que.init k) (ringRead_qs _ s)
  rw [hq]

theorem begun_sameBut (s : State) (q : Nat) (d : Desc) : sameBut [.out, .qs, .fab, .cxl] s (begun s q d) :=
  sameBut_trans (sameBut_mono (ringRead_sameBut (que s q) s) (by decide)) (sameBut_of_eq rfl)

theorem begun_ep (s : State) (q : Nat) (d : Desc) : (begun s q d).fab.ep = s.fab.ep := by
  rw [← ringRead_fab (que s q) s]
  rfl

theorem queEpid_begun (s : State) (q : Nat) (d : Desc) : queEpid (begun s q d) (que (begun s q d) q) = queEpid s (que s q) := by
  rw [que_begun, if_pos rfl, queEpid, queEpid, ownEpid, ownEpid, begun_ep]

/-! ### The start -/

section

variable {s : State} {k q : Nat} {d : Desc} {eff : Nat → Op → State → State}

theorem startDesc_still (h : canStart s q d = false ∨ (D.opcode d ≠ k ∧ D.opcode d < 10)) : startDesc k q d eff s = s := by
  refine if_neg ?_
  obtain h | ⟨hk, ht⟩ := h
  · simp [h]
  · simp [hk, ht]

/-- A descriptor that may start has its row's effect, or completes with FORMAT, in the state `begun`. -/
theorem startDesc_starts (hc : canStart s q d = true) (hk : D.opcode d = k ∨ 10 ≤ D.opcode d) : startDesc k q d eff s =
    spent q (newborn s q d) (if formatOk d then eff q (newborn s q d) (begun s q d)
      else complete q (newborn s q d).idx St.format 0 0 (begun s q d)) := by
  unfold startDesc
  rw [if_pos (by simpa [hc] using hk)]
  have hn : newborn s q d = newOp (que s q).head (takeWid (ringRead (que s q) s)).1 d := by rw [newborn, takeWid_ringRead]
  rw [begun, hn]
  rfl

theorem exec_starts {c : Instr} (he : ∀ s, exec c s = run (startDesc k q d eff) s) (hl : live s = true) (hc : canStart s q d = true)
    (hf : formatOk d = true) (hk : D.opcode d = k) : exec c s = .next (spent q (newborn s q d) (eff q (newborn s q d) (begun s q d))) := by
  rw [he, run_live hl, startDesc_starts hc (.inl hk), if_pos hf]

end

/-! ### A misaligned ATOMIC -/

theorem startAtomic_misaligned {q : Nat} {o : Op} {s : State} (he : (queEpid s (que s q)).isSome = true)
    (ha : D.atomAddr o.d % atomWidth (D.atomType o.d) ≠ 0) : startAtomic q o s = complete q o.idx St.align 0 (D.atomAddr o.d) s := by
  unfold startAtomic
  dsimp only
  rw [if_neg (by simpa [Option.isSome_iff_ne_none] using he), if_pos ha, startFail]

@[simp] theorem halt_pool (q idx st : Nat) (s : State) : (halt q idx st s).pool = s.pool := by
  unfold halt
  dsimp only
  split
  · rfl
  · rw [tracePoint_pool]; rfl

@[simp] theorem complete_pool (q idx st n r : Nat) (s : State) : (complete q idx st n r s).pool = s.pool := by
  cases h : (que s q).op idx with
  | none => rw [complete_none h]
  | some o =>
    have he : (ended q idx st n r o s).pool = s.pool := ended_sameBut q idx st n r o s .pool (by decide)
    rw [complete_some h]
    split
    · rw [halt_pool, he]
    · exact he

/-- Settles O46: every row starts the descriptor by `startDesc`, which either has the row's effect, or ends it with FORMAT, in `begun`. -/
theorem descriptors : Obligations.Descriptors := by
  unfold Obligations.Descriptors
  refine ⟨fun s q d hl hc hf => ?_, fun c s k q d hl hr hc hk hf => ?_, fun c s k q d hl hr h => ?_, fun s q d => ?_,
    fun s q d hl hc hf hk he ha => ?_⟩
  · exact ⟨exec_starts (eff := fun q o s => complete q o.idx St.ok 0 0 s) (fun _ => rfl) hl hc hf,
      exec_starts (eff := startMove) (fun _ => rfl) hl hc hf, exec_starts (eff := startMove) (fun _ => rfl) hl hc hf,
      exec_starts (eff := startMove) (fun _ => rfl) hl hc hf, exec_starts (eff := startAtomic) (fun _ => rfl) hl hc hf,
      exec_starts (eff := startWait) (fun _ => rfl) hl hc hf, exec_starts (eff := fun q _ s => checkFences q s) (fun _ => rfl) hl hc hf,
      exec_starts (eff := startSignal) (fun _ => rfl) hl hc hf, exec_starts (eff := startColl) (fun _ => rfl) hl hc hf,
      exec_starts (eff := startClose) (fun _ => rfl) hl hc hf⟩
  · obtain ⟨eff, he⟩ := exec_descRow hr s
    rw [he, run_live hl, startDesc_starts hc hk, if_neg (by simp [hf])]
  · obtain ⟨eff, he⟩ := exec_descRow hr s
    rw [he, run_live hl, startDesc_still h]
  · have hq := que_begun s q q d
    rw [if_pos rfl] at hq
    refine ⟨by rw [hq], by rw [hq], fun k hk => by rw [que_begun, if_neg hk], newborn_wid s q d, begun_sameBut s q d, fun p hp => ?_⟩
    have hr := ringRead_port (x := que s q) hp
    exact ⟨congrArg State.out hr, congrArg State.cxl hr⟩
  · have hb := begun_sameBut s q d
    have hs := startAtomic_misaligned (o := newborn s q d) ((congrArg Option.isSome (queEpid_begun s q d)).trans he) ha
    refine ⟨?_, (complete_pool ..).trans (hb .pool (by decide)), (complete_ctrs ..).trans (hb .ctrs (by decide))⟩
    exact (exec_starts (eff := startAtomic) (fun _ => rfl) hl hc hf hk).trans
      (congrArg (fun x => Host.Outcome.next (spent q (newborn s q d) x)) hs)

end Sys2Proof.Machine
end

section
/-! Pool memory, where the shared operations write none of it: registers, packets, pool, translation and queues. -/

namespace Sys2Proof.Machine

/-- A part that a frame does not name holds the same memory. -/
theorem sameBut_poolMem {l : List Field} {s t : State} (h : sameBut l s t) (hp : Field.pool ∉ l) : t.pool.mem = s.pool.mem :=
  congrArg Pool.mem (h .pool hp)

@[simp] theorem ite_poolMem (c : Prop) [Decidable c] (a b : State) :
    (if c then a else b).pool.mem = if c then a.pool.mem else b.pool.mem := apply_ite (fun s : State => s.pool.mem) ..

@[simp] theorem foldl_poolMem {α : Type} {f : State → α → State} {xs : List α} {s : State}
    (h : ∀ (t : State) (x : α), (f t x).pool.mem = t.pool.mem) : (xs.foldl f s).pool.mem = s.pool.mem :=
  List.foldlRecOn (motive := fun t : State => t.pool.mem = s.pool.mem) _ _ rfl fun _ ht x _ => (h _ x).trans ht

/-! ### The registers and tables -/

@[simp] theorem setCfg_poolMem (s : State) (off : Nat) (v : Word) : (setCfg s off v).pool.mem = s.pool.mem := rfl

@[simp] theorem bumpN_poolMem (off n : Nat) (s : State) : (bumpN off n s).pool.mem = s.pool.mem := rfl

@[simp] theorem bump_poolMem (off : Nat) (s : State) : (bump off s).pool.mem = s.pool.mem := rfl

@[simp] theorem setPart_poolMem (s : State) (n : Nat) (p : Part) : (setPart s n p).pool.mem = s.pool.mem := rfl

@[simp] theorem setQue_poolMem (s : State) (q : Nat) (x : Que) : (setQue s q x).pool.mem = s.pool.mem := rfl

@[simp] theorem setOpt_poolMem (s : State) (p : Nat) (o : OptPort) : (setOpt s p o).pool.mem = s.pool.mem := rfl

@[simp] theorem setCxl_poolMem (s : State) (p : Nat) (o : CxlPort) : (setCxl s p o).pool.mem = s.pool.mem := rfl

@[simp] theorem setAcc_poolMem (s : State) (a : Nat) (x : AccSt) : (setAcc s a x).pool.mem = s.pool.mem := rfl

/-! ### What leaves the module, faults, reports and counts -/

@[simp] theorem emit_poolMem (o : Out) (s : State) : (emit o s).pool.mem = s.pool.mem := rfl

@[simp] theorem freeVal_poolMem (m : Nat) (s : State) : (freeVal m s).2.pool.mem = s.pool.mem := rfl

@[simp] theorem faultSev_poolMem (cls block sev : Nat) (p : Option Nat) (addr detail : Nat) (s : State) :
    (faultSev cls block sev p addr detail s).pool.mem = s.pool.mem :=
  sameBut_poolMem linked_faultSev.1 (by decide)

@[simp] theorem fault_poolMem (cls block : Nat) (p : Option Nat) (addr detail : Nat) (s : State) :
    (fault cls block p addr detail s).pool.mem = s.pool.mem :=
  congrArg Pool.mem (fault_pool ..)

@[simp] theorem faultAtSev_poolMem (cls block sev : Nat) (p : Option Nat) (addr : Nat) (s : State) :
    (faultAtSev cls block sev p addr s).pool.mem = s.pool.mem :=
  congrArg Pool.mem (faultAtSev_pool ..)

@[simp] theorem faultAt_poolMem (cls block : Nat) (p : Option Nat) (addr : Nat) (s : State) :
    (faultAt cls block p addr s).pool.mem = s.pool.mem :=
  sameBut_poolMem linked_faultAt.1 (by decide)

@[simp] theorem faultAny_poolMem (cls block sev : Nat) (p : Option Nat) (s : State) : (faultAny cls block sev p s).pool.mem = s.pool.mem := by
  rw [toldFrom_faultAny ..]

@[simp] theorem reportOn_poolMem (l : Link) (code : Nat) (payload : Bytes) (s : State) : (reportOn l code payload s).pool.mem = s.pool.mem := by
  rw [toldFrom_reportOn ..]

@[simp] theorem reportRaw_poolMem (code : Nat) (payload : Bytes) (s : State) : (reportRaw code payload s).pool.mem = s.pool.mem :=
  congrArg Pool.mem (reportRaw_pool ..)

@[simp] theorem report_poolMem (code subject detail : Nat) (s : State) : (report code subject detail s).pool.mem = s.pool.mem := by
  rw [toldFrom_report ..]

@[simp] theorem logEntry_poolMem (source level : Nat) (p : Option Nat) (point code : Nat) (data : Bytes) (s : State) :
    (logEntry source level p point code data s).pool.mem = s.pool.mem :=
  rfl

@[simp] theorem tracePoint_poolMem (pt p : Nat) (data : Bytes) (s : State) : (tracePoint pt p data s).pool.mem = s.pool.mem :=
  congrArg Pool.mem (tracePoint_pool ..)

@[simp] theorem leaveL1_poolMem (p : Nat) (s : State) : (leaveL1 p s).pool.mem = s.pool.mem := by
  unfold leaveL1
  simp

@[simp] theorem event_poolMem (a kind : Nat) (args : List Nat) (s : State) : (event a kind args s).pool.mem = s.pool.mem :=
  congrArg Pool.mem (event_pool ..)

@[simp] theorem popFault_poolMem (s : State) : (popFault s).pool.mem = s.pool.mem := by
  unfold popFault
  dsimp only
  (repeat' split) <;> simp

@[simp] theorem health_poolMem (i kind n : Nat) (s : State) : (health i kind n s).pool.mem = s.pool.mem := rfl

/-! ### Messages -/

@[simp] theorem respond_poolMem (src : Src) (txn tag minor : Nat) (st : Status) (payload : Bytes) (s : State) :
    (respond src txn tag minor st payload s).pool.mem = s.pool.mem :=
  congrArg Pool.mem (respond_pool ..)

@[simp] theorem answer_poolMem (r : Req) (st : Status) (payload : Bytes) (s : State) : (answer r st payload s).pool.mem = s.pool.mem :=
  congrArg Pool.mem (answer_pool ..)

@[simp] theorem owe_poolMem (r : Req) (why key : Nat) (s : State) : (owe r why key s).pool.mem = s.pool.mem := rfl

@[simp] theorem settle_poolMem (why key : Nat) (st : Status) (payload : Bytes) (s : State) :
    (settle why key st payload s).pool.mem = s.pool.mem := by
  unfold settle
  simp

@[simp] theorem heard_poolMem (src : Src) (s : State) : (heard src s).pool.mem = s.pool.mem := congrArg Pool.mem (heard_pool ..)

@[simp] theorem disagree_poolMem (opcode : Nat) (s : State) : (disagree opcode s).pool.mem = s.pool.mem := by
  unfold disagree
  simp

/-! ### The switch -/

@[simp] theorem takeFabric_poolMem (p vc cls cells : Nat) (s : State) : (takeFabric p vc cls cells s).2.pool.mem = s.pool.mem := by
  unfold takeFabric
  dsimp only
  split <;> rfl

@[simp] theorem pushRet_poolMem (p vc cls : Nat) (shared : Bool) (n : Nat) (s : State) :
    (pushRet p vc cls shared n s).pool.mem = s.pool.mem := by
  rw [sentFrom_pushRet ..]

@[simp] theorem leave_poolMem (o : Own) (n : Nat) (s : State) : (leave o n s).pool.mem = s.pool.mem :=
  sameBut_poolMem switched_leave.1 (by decide)

@[simp] theorem passCells_poolMem (p vc cls cells : Nat) (s : State) : (passCells p vc cls cells s).pool.mem = s.pool.mem := by
  rw [sentFrom_passCells ..]

@[simp] theorem grantShared_poolMem (p : Nat) (s : State) : (grantShared p s).pool.mem = s.pool.mem :=
  sameBut_poolMem switched_grantShared.1 (by decide)

@[simp] theorem putFlit_poolMem (p : Nat) (h : FlitHdr) (msg : Bytes) (s : State) : (putFlit p h msg s).pool.mem = s.pool.mem := rfl

@[simp] theorem sendIdle_poolMem (p : Nat) (s : State) : (sendIdle p s).pool.mem = s.pool.mem := rfl

@[simp] theorem sendSeq_poolMem (p : Nat) (f : TxFlit) (s : State) : (sendSeq p f s).pool.mem = s.pool.mem := by rw [sentFrom_sendSeq ..]

@[simp] theorem txRun_poolMem (p x0 : Nat) (s : State) : (txRun p x0 s).pool.mem = s.pool.mem := by rw [sentFrom_txRun ..]

@[simp] theorem txPort_poolMem (p : Nat) (s : State) : (txPort p s).pool.mem = s.pool.mem := by rw [sentFrom_txPort ..]

@[simp] theorem sendLink_poolMem (p opc : Nat) (args : List Nat) (s : State) : (sendLink p opc args s).pool.mem = s.pool.mem := by
  rw [sentFrom_sendLink ..]

@[simp] theorem frameOut_poolMem (p : Nat) (fs : List TxFlit) (s : State) : (frameOut p fs s).pool.mem = s.pool.mem := by
  rw [sentFrom_frameOut ..]

@[simp] theorem copyRun_poolMem (x0 : Nat) (s : State) : (copyRun x0 s).pool.mem = s.pool.mem := sameBut_poolMem switched_copyRun.1 (by decide)

@[simp] theorem flushCopies_poolMem (s : State) : (flushCopies s).pool.mem = s.pool.mem := sameBut_poolMem switched_flushCopies.1 (by decide)

@[simp] theorem anaCopyBytes_poolMem (p : Nat) (egressDir : Bool) (h : Hdr) (b : Bytes) (s : State) :
    (anaCopyBytes p egressDir h b s).pool.mem = s.pool.mem := by
  unfold anaCopyBytes
  simp

@[simp] theorem anaCopy_poolMem (p : Nat) (egressDir : Bool) (q : Pkt) (s : State) : (anaCopy p egressDir q s).pool.mem = s.pool.mem :=
  sameBut_poolMem switched_anaCopy.1 (by decide)

@[simp] theorem setLane_poolMem (l : Nat) (x : OutLane) (s : State) : (setLane l x s).pool.mem = s.pool.mem := rfl

@[simp] theorem grantsOf_poolMem (rs : List Rq) (s : State) : (grantsOf rs s).2.pool.mem = s.pool.mem :=
  sameBut_poolMem switched_grantsOf.1 (by decide)

@[simp] theorem zeroDrr_poolMem (outp vc : Nat) (s : State) : (zeroDrr outp vc s).pool.mem = s.pool.mem :=
  sameBut_poolMem switched_zeroDrr.1 (by decide)

@[simp] theorem iteration_poolMem (first : Bool) (xs : List Xfer) (s : State) : (iteration first xs s).2.pool.mem = s.pool.mem :=
  sameBut_poolMem switched_iteration.1 (by decide)

@[simp] theorem movePtrs_poolMem (inL outL vc : Nat) (s : State) : (movePtrs inL outL vc s).pool.mem = s.pool.mem := rfl

@[simp] theorem crossed_poolMem (x : Xfer) (s : State) : (crossed x s).pool.mem = s.pool.mem := sameBut_poolMem switched_crossed.1 (by decide)

@[simp] theorem matchSlot_poolMem (xs : List Xfer) (s : State) : (matchSlot xs s).2.pool.mem = s.pool.mem :=
  sameBut_poolMem switched_matchSlot.1 (by decide)

@[simp] theorem cellsCross_poolMem (xs : List Xfer) (s : State) : (cellsCross xs s).2.pool.mem = s.pool.mem := by
  unfold cellsCross
  simp

@[simp] theorem slots_poolMem (x0 : Nat) (x1 : List Xfer) (s : State) : (slots x0 x1 s).pool.mem = s.pool.mem :=
  sameBut_poolMem switched_slots.1 (by decide)

@[simp] theorem linkWork_poolMem (s : State) : (linkWork s).pool.mem = s.pool.mem := sameBut_poolMem switched_linkWork.1 (by decide)

@[simp] theorem switch_poolMem (s : State) : (switch s).pool.mem = s.pool.mem := sameBut_poolMem switched_switch.1 (by decide)

/-! ### Sending packets -/

@[simp] theorem enqueue_poolMem (outp : Nat) (q : Queued) (s : State) : (enqueue outp q s).pool.mem = s.pool.mem :=
  sameBut_poolMem switched_enqueue.1 (by decide)

@[simp] theorem enqueueAt_poolMem (outp : Nat) (detoured mark : Bool) (q : Queued) (p : Pkt) (s : State) :
    (enqueueAt outp detoured mark q p s).pool.mem = s.pool.mem := by
  unfold enqueueAt
  simp

@[simp] theorem dropQueued_poolMem (q : Queued) (s : State) : (dropQueued q s).pool.mem = s.pool.mem :=
  sameBut_poolMem switched_dropQueued.1 (by decide)

@[simp] theorem routePkt_poolMem (mark : Bool) (q : Queued) (p : Pkt) (s : State) : (routePkt mark q p s).pool.mem = s.pool.mem :=
  sameBut_poolMem switched_routePkt.1 (by decide)

@[simp] theorem routeAgain_poolMem (mark : Bool) (q : Queued) (s : State) : (routeAgain mark q s).pool.mem = s.pool.mem :=
  sameBut_poolMem switched_routeAgain.1 (by decide)

@[simp] theorem rechoose_poolMem (mark : Bool) (qs : List Queued) (s : State) : (rechoose mark qs s).pool.mem = s.pool.mem :=
  sameBut_poolMem switched_rechoose.1 (by decide)

@[simp] theorem routeOwn_poolMem (outp : Option Nat) (q : Queued) (s : State) : (routeOwn outp q s).pool.mem = s.pool.mem :=
  sameBut_poolMem switched_routeOwn.1 (by decide)

@[simp] theorem enterBuffer_poolMem (inp : Nat) (outp : Option Nat) (x : Load) (s : State) :
    (enterBuffer inp outp x s).pool.mem = s.pool.mem :=
  sameBut_poolMem switched_enterBuffer.1 (by decide)

@[simp] theorem forward_poolMem (p : Pkt) (s : State) : (forward p s).pool.mem = s.pool.mem := sameBut_poolMem switched_forward.1 (by decide)

@[simp] theorem forwardRecorded_poolMem (p : Pkt) (s : State) : (forwardRecorded p s).pool.mem = s.pool.mem :=
  sameBut_poolMem switched_forwardRecorded.1 (by decide)

@[simp] theorem sendCtl_poolMem (port : Nat) (x : Load) (s : State) : (sendCtl port x s).pool.mem = s.pool.mem := by
  unfold sendCtl
  simp

@[simp] theorem forwardTransit_poolMem (port : Nat) (p : Pkt) (s : State) : (forwardTransit port p s).pool.mem = s.pool.mem :=
  sameBut_poolMem switched_forwardTransit.1 (by decide)

@[simp] theorem noteMalformed_poolMem (dst : Nat) (s : State) : (noteMalformed dst s).pool.mem = s.pool.mem := by
  unfold noteMalformed
  simp

@[simp] theorem handOver_poolMem (port : Option (Fin 64)) (h : Hdr) (s : State) : (handOver port h s).pool.mem = s.pool.mem :=
  sameBut_poolMem switched_handOver.1 (by decide)

@[simp] theorem retryBlocks_poolMem (s : State) : (retryBlocks s).pool.mem = s.pool.mem := sameBut_poolMem switched_retryBlocks.1 (by decide)

@[simp] theorem protect_poolMem (p : Nat) (q : Pkt) (s : State) : (protect p q s).2.pool.mem = s.pool.mem := by
  unfold protect
  split <;> rfl

@[simp] theorem freshCounts_poolMem (p : Nat) (s : State) : (freshCounts p s).pool.mem = s.pool.mem := rfl

@[simp] theorem takeWid_poolMem (s : State) : (takeWid s).2.pool.mem = s.pool.mem := rfl

@[simp] theorem setFlow_poolMem (s : State) (k : Nat) (f : SFlow) : (setFlow s k f).pool.mem = s.pool.mem := rfl

@[simp] theorem launch_poolMem (k : Nat) (f : SFlow) (q : Pkt) (s : State) : (launch k f q s).pool.mem = s.pool.mem := by
  unfold launch
  dsimp only
  (repeat' split) <;> simp

@[simp] theorem sendFlow_poolMem (q : Pkt) (s : State) : (sendFlow q s).pool.mem = s.pool.mem := by
  unfold sendFlow
  dsimp only
  split <;> simp

@[simp] theorem pushFlow_poolMem (k n : Nat) (s : State) : (pushFlow k n s).pool.mem = s.pool.mem := by
  induction n generalizing s with
  | zero => rfl
  | succ n ih =>
    rw [pushFlow]
    split
    · rfl
    · split
      · rfl
      · simp [ih]

@[simp] theorem pushAll_poolMem (s : State) : (pushAll s).pool.mem = s.pool.mem := by
  unfold pushAll
  simp

@[simp] theorem sendReply_poolMem (q : Pkt) (s : State) : (sendReply q s).pool.mem = s.pool.mem := by
  unfold sendReply
  split <;> simp

@[simp] theorem resend_poolMem (k : Nat) (s : State) : (resend k s).pool.mem = s.pool.mem := by
  unfold resend
  split <;> simp

/-! ### The pool -/

@[simp] theorem poisonWords_poolMem (ws : List Nat) (s : State) : (poisonWords ws s).pool.mem = s.pool.mem := rfl

@[simp] theorem mendWord_poolMem (w : Nat) (s : State) : (mendWord w s).pool.mem = s.pool.mem := rfl

@[simp] theorem checkWord_poolMem (w m : Nat) (s : State) : (checkWord w m s).pool.mem = s.pool.mem := by
  unfold checkWord
  dsimp only
  (repeat' split) <;> simp

@[simp] theorem checkRead_poolMem (p : Option Nat) (a n : Nat) (s : State) : (checkRead p a n s).pool.mem = s.pool.mem := by
  unfold checkRead
  simp

@[simp] theorem flipBit_poolMem (w b : Nat) (s : State) : (flipBit w b s).pool.mem = s.pool.mem := rfl

@[simp] theorem setExt_poolMem (n : Nat) (e : Ext) (s : State) : (setExt n e s).pool.mem = s.pool.mem := rfl

@[simp] theorem setSnoop_poolMem (line : Nat) (x : Snoop) (s : State) : (setSnoop line x s).pool.mem = s.pool.mem := rfl

@[simp] theorem startBi_poolMem (line mask next : Nat) (inv : Bool) (grant : Option Nat) (s : State) :
    (startBi line mask next inv grant s).pool.mem = s.pool.mem := by
  unfold startBi
  dsimp only
  rw [foldl_poolMem fun t a => by split <;> simp]
  simp

@[simp] theorem snoopLine_poolMem (w : Bool) (line : Nat) (s : State) : (snoopLine w line s).pool.mem = s.pool.mem := by
  unfold snoopLine
  dsimp only
  (repeat' split) <;> simp

@[simp] theorem snoopRange_poolMem (w : Bool) (ls : List Nat) (s : State) : (snoopRange w ls s).1.pool.mem = s.pool.mem := by
  unfold snoopRange
  simp

@[simp] theorem takeEntry_poolMem (line part : Nat) (x : Snoop) (s : State) : (takeEntry line part x s).1.pool.mem = s.pool.mem := by
  unfold takeEntry
  dsimp only
  (repeat' split) <;> simp

@[simp] theorem hostRead_poolMem (line part att : Nat) (excl : Bool) (s : State) : (hostRead line part att excl s).1.pool.mem = s.pool.mem := by
  unfold hostRead
  dsimp only
  (repeat' split) <;> simp

@[simp] theorem hostWrite_poolMem (line att : Nat) (mv : MetaVal) (s : State) : (hostWrite line att mv s).1.pool.mem = s.pool.mem := by
  unfold hostWrite
  dsimp only
  (repeat' split) <;> simp

@[simp] theorem biAnswer_poolMem (line att : Nat) (keep : Bool) (s : State) : (biAnswer line att keep s).pool.mem = s.pool.mem := by
  rw [snooped_biAnswer ..]

@[simp] theorem orphan_poolMem (line p : Nat) (s : State) : (orphan line p s).pool.mem = s.pool.mem := by rw [snooped_orphan ..]

@[simp] theorem resolveAttach_poolMem (att : Nat) (s : State) : (resolveAttach att s).1.pool.mem = s.pool.mem := by rw [snooped_resolveAttach ..]

@[simp] theorem sever_poolMem (line att : Nat) (s : State) : (sever line att s).pool.mem = s.pool.mem := by
  unfold sever
  simp

@[simp] theorem addDup_poolMem (src wid old expiry job : Nat) (s : State) : (addDup src wid old expiry job s).pool.mem = s.pool.mem := rfl

@[simp] theorem mirrorSend_poolMem (p dstMod wid len : Nat) (last : Bool) (b : Body) (s : State) :
    (mirrorSend p dstMod wid len last b s).pool.mem = s.pool.mem := by
  unfold mirrorSend
  split <;> simp

@[simp] theorem addReq_poolMem (wid : Nat) (r : OutReq) (s : State) : (addReq wid r s).pool.mem = s.pool.mem := rfl

@[simp] theorem delReq_poolMem (wid : Nat) (s : State) : (delReq wid s).pool.mem = s.pool.mem := rfl

@[simp] theorem forwardWrite_poolMem (i : Nat) (e : Ext) (a n : Nat) (org : Origin) (fin : Option (Access × Nat)) (s : State) :
    (forwardWrite i e a n org fin s).1.pool.mem = s.pool.mem := by
  unfold forwardWrite
  simp

@[simp] theorem fetchMirror_poolMem (e : Ext) (ws : List Nat) (s : State) : (fetchMirror e ws s).1.pool.mem = s.pool.mem := by
  unfold fetchMirror
  simp

@[simp] theorem readAt_poolMem (e : Ext) (a n : Nat) (fetched : Bool) (s : State) : (readAt e a n fetched s).1.pool.mem = s.pool.mem := by
  unfold readAt
  dsimp only
  (repeat' split) <;> simp

@[simp] theorem prefetchAt_poolMem (e : Ext) (a n : Nat) (s : State) : (prefetchAt e a n s).1.pool.mem = s.pool.mem := by
  unfold prefetchAt
  simp

@[simp] theorem coherence_poolMem (e : Ext) (acc : Access) (a n : Nat) (s : State) : (coherence e acc a n s).1.pool.mem = s.pool.mem := by
  unfold coherence
  split
  · rfl
  · split
    · split <;> simp
    · simp
    · split <;> simp
    · simp

/-! ### Translation -/

@[simp] theorem cachePtrs_poolMem (p : Nat) (ps : List (Nat × BitVec 128)) (s : State) : (cachePtrs p ps s).pool.mem = s.pool.mem := rfl

@[simp] theorem walkEnded_poolMem (p : Nat) (w : Trip) (s : State) : (walkEnded p w s).pool.mem = s.pool.mem := by
  unfold walkEnded
  split <;> simp

@[simp] theorem cacheLeaf_poolMem (p page lv : Nat) (l : BitVec 128) (seq : Nat) (pf : Bool) (s : State) :
    (cacheLeaf p page lv l seq pf s).pool.mem = s.pool.mem := by
  unfold cacheLeaf
  simp

@[simp] theorem hitLeaf_poolMem (c : CEnt) (s : State) : (hitLeaf c s).pool.mem = s.pool.mem := rfl

@[simp] theorem demand_poolMem (p fva : Nat) (s : State) : (demand p fva s).1.pool.mem = s.pool.mem := by
  unfold demand
  dsimp only
  (repeat' split) <;> simp

@[simp] theorem readable_poolMem (a n : Nat) (s : State) : (readable a n s).pool.mem = s.pool.mem := rfl

@[simp] theorem putEntry_poolMem (p a : Nat) (e : BitVec 128) (s : State) : (putEntry p a e s).pool.mem = s.pool.mem := rfl

@[simp] theorem flipDigest_poolMem (p page lv : Nat) (l : BitVec 128) (s : State) : (flipDigest p page lv l s).pool.mem = s.pool.mem := rfl

@[simp] theorem freeEmpty_poolMem (p : Nat) (s : State) : (freeEmpty p s).pool.mem = s.pool.mem :=
  foldl_poolMem fun _ _ => foldl_poolMem fun _ _ => rfl

@[simp] theorem clearBad_poolMem (p lo hi : Nat) (s : State) : (clearBad p lo hi s).pool.mem = s.pool.mem := by
  unfold clearBad
  simp

@[simp] theorem unmapPages_poolMem (p lo hi : Nat) (s : State) : (unmapPages p lo hi s).pool.mem = s.pool.mem := by
  unfold unmapPages
  dsimp only
  rw [freeEmpty_poolMem, foldl_poolMem fun _ _ => (putEntry_poolMem ..).trans (flipDigest_poolMem ..), clearBad_poolMem]

/-! ### Queues -/

@[simp] theorem dmaSend_poolMem (p : Nat) (o : Out) (s : State) : (dmaSend p o s).pool.mem = s.pool.mem := by
  unfold dmaSend
  simp

@[simp] theorem flushRun_poolMem (p : Nat) (l : List Out) (s : State) : (flushRun p l s).pool.mem = s.pool.mem := by
  induction l generalizing s with
  | nil => rfl
  | cons o l ih =>
    rw [flushRun]
    split
    · simp [ih]
    · rfl

@[simp] theorem flushDma_poolMem (p : Nat) (s : State) : (flushDma p s).pool.mem = s.pool.mem := by
  unfold flushDma
  simp

@[simp] theorem dmaReadOn_poolMem (port addr len : Nat) (f : DmaFor) (s : State) : (dmaReadOn port addr len f s).pool.mem = s.pool.mem := by
  unfold dmaReadOn
  simp

@[simp] theorem dmaRead_poolMem (att addr len : Nat) (f : DmaFor) (s : State) : (dmaRead att addr len f s).pool.mem = s.pool.mem := by
  unfold dmaRead
  simp

@[simp] theorem dmaWrite_poolMem (att addr : Nat) (data : Bytes) (s : State) : (dmaWrite att addr data s).pool.mem = s.pool.mem := by
  unfold dmaWrite
  simp

@[simp] theorem dmaFence_poolMem (att addr n : Nat) (f : DmaFor) (s : State) : (dmaFence att addr n f s).pool.mem = s.pool.mem := by
  unfold dmaFence
  simp

@[simp] theorem dropSegs_poolMem (f : Seg → Bool) (g : Prefetch → Bool) (s : State) : (dropSegs f g s).pool.mem = s.pool.mem := rfl

@[simp] theorem dropQueue_poolMem (q : Nat) (s : State) : (dropQueue q s).pool.mem = s.pool.mem := rfl

@[simp] theorem dropDesc_poolMem (q idx : Nat) (s : State) : (dropDesc q idx s).pool.mem = s.pool.mem := rfl

@[simp] theorem dropPart_poolMem (p : Nat) (s : State) : (dropPart p s).pool.mem = s.pool.mem := rfl

@[simp] theorem dropExt_poolMem (home ext : Nat) (s : State) : (dropExt home ext s).pool.mem = s.pool.mem := rfl

@[simp] theorem setOp_poolMem (q : Nat) (o : Op) (s : State) : (setOp q o s).pool.mem = s.pool.mem := rfl

@[simp] theorem onOp_poolMem (q idx : Nat) (f : Op → Op) (s : State) : (onOp q idx f s).pool.mem = s.pool.mem := by
  unfold onOp
  split <;> rfl

@[simp] theorem failOpAt_poolMem (q idx off st result : Nat) (s : State) : (failOpAt q idx off st result s).pool.mem = s.pool.mem := by
  unfold failOpAt
  simp

@[simp] theorem failOp_poolMem (q idx st result : Nat) (s : State) : (failOp q idx st result s).pool.mem = s.pool.mem := by
  unfold failOp
  simp

@[simp] theorem halt_poolMem (q idx st : Nat) (s : State) : (halt q idx st s).pool.mem = s.pool.mem := congrArg Pool.mem (halt_pool ..)

@[simp] theorem debugDone_poolMem (n st : Nat) (data : Bytes) (s : State) : (debugDone n st data s).pool.mem = s.pool.mem := by
  unfold debugDone
  simp

@[simp] theorem forget_poolMem (q idx : Nat) (s : State) : (forget q idx s).pool.mem = s.pool.mem := rfl

@[simp] theorem complete_poolMem (q idx st bytes result : Nat) (s : State) : (complete q idx st bytes result s).pool.mem = s.pool.mem :=
  congrArg Pool.mem (complete_pool ..)

@[simp] theorem completeVia_poolMem (q idx st bytes result : Nat) (s : State) : (completeVia q idx st bytes result s).pool.mem = s.pool.mem := by
  unfold completeVia
  dsimp only
  (repeat' split) <;> simp

@[simp] theorem checkWaits_poolMem (c : Nat) (s : State) : (checkWaits c s).pool.mem = s.pool.mem := by
  unfold checkWaits
  simp

@[simp] theorem raiseCtr_poolMem (c n : Nat) (s : State) : (raiseCtr c n s).pool.mem = s.pool.mem := by
  unfold raiseCtr
  simp

@[simp] theorem checkFences_poolMem (q : Nat) (s : State) : (checkFences q s).pool.mem = s.pool.mem := by
  unfold checkFences
  split <;> simp

@[simp] theorem tryFinish_poolMem (q idx : Nat) (s : State) : (tryFinish q idx s).pool.mem = s.pool.mem := by
  unfold tryFinish
  dsimp only
  (repeat' split) <;> simp

@[simp] theorem opAnswered_poolMem (q idx n st result : Nat) (s : State) : (opAnswered q idx n st result s).pool.mem = s.pool.mem := by
  unfold opAnswered
  simp

@[simp] theorem pieceData_poolMem (q idx off : Nat) (data : Bytes) (s : State) : (pieceData q idx off data s).pool.mem = s.pool.mem := rfl

@[simp] theorem pieceFail_poolMem (q idx off st result : Nat) (s : State) : (pieceFail q idx off st result s).pool.mem = s.pool.mem := by
  unfold pieceFail
  simp

@[simp] theorem hostFail_poolMem (m : MemReq) (load : Bool) (p : Option Nat) (st : Nat) (s : State) :
    (hostFail m load p st s).pool.mem = s.pool.mem := by
  unfold hostFail
  simp

@[simp] theorem hostDone_poolMem (m : MemReq) (snp : Snp) (load : Bool) (data : Bytes) (s : State) :
    (hostDone m snp load data s).pool.mem = s.pool.mem := by
  unfold hostDone
  simp

/-! ### Answers to packets -/

@[simp] theorem setDFlow_poolMem (k : Nat) (d : DFlow) (s : State) : (setDFlow k d s).pool.mem = s.pool.mem := rfl

@[simp] theorem clearCe_poolMem (h : Hdr) (s : State) : (clearCe h s).pool.mem = s.pool.mem := by
  unfold clearCe
  split <;> simp

@[simp] theorem sendAck_poolMem (h : Hdr) (st : Nat) (clear : Bool) (s : State) : (sendAck h st clear s).pool.mem = s.pool.mem := by
  unfold sendAck
  simp

@[simp] theorem sendData_poolMem (h : Hdr) (vc st : Nat) (data : Bytes) (valid : List Bool) (s : State) :
    (sendData h vc st data valid s).pool.mem = s.pool.mem := by
  unfold sendData
  simp

@[simp] theorem flowDone_poolMem (h : Hdr) (s : State) : (flowDone h s).pool.mem = s.pool.mem := by
  unfold flowDone
  split <;> simp

@[simp] theorem breakOp_poolMem (h : Hdr) (s : State) : (breakOp h s).pool.mem = s.pool.mem := by
  unfold breakOp
  split <;> simp

@[simp] theorem noteRefused_poolMem (h : Hdr) (st : Nat) (s : State) : (noteRefused h st s).pool.mem = s.pool.mem := by
  unfold noteRefused
  split <;> simp

@[simp] theorem landed_poolMem (h : Hdr) (clear : Bool) (s : State) : (landed h clear s).pool.mem = s.pool.mem := by
  unfold landed
  split <;> simp

@[simp] theorem landsAt_poolMem (h : Hdr) (n : Nat) (s : State) : (landsAt h n s).pool.mem = s.pool.mem := by
  unfold landsAt
  split <;> simp

@[simp] theorem refused_poolMem (h : Hdr) (st : Nat) (s : State) : (refused h st s).pool.mem = s.pool.mem := by
  unfold refused
  simp

end Sys2Proof.Machine
end

section
/-! Pool memory, where collectives, extents, flows, recovery and what arrives write none of it. -/

namespace Sys2Proof.Machine

/-! ### Collectives: vertices and members -/

@[simp] theorem setGrp_poolMem (ctx : Nat) (g : Grp) (s : State) : (setGrp ctx g s).pool.mem = s.pool.mem := rfl

theorem offerNext_poolMem {s t : State} (h : offerNext s = some t) : t.pool.mem = s.pool.mem := by
  unfold offerNext at h
  dsimp only at h
  split at h
  · cases h
  · cases h
    exact sendFlow_poolMem ..

@[simp] theorem offerRun_poolMem (n : Nat) (s : State) : (offerRun n s).pool.mem = s.pool.mem := by
  induction n generalizing s with
  | zero => rfl
  | succ n ih =>
    rw [offerRun]
    split
    · next h => rw [ih, offerNext_poolMem h]
    · rfl

@[simp] theorem offerAll_poolMem (s : State) : (offerAll s).pool.mem = s.pool.mem := by
  unfold offerAll
  simp

@[simp] theorem colOffer_poolMem (ctx : Nat) (p : Pkt) (s : State) : (colOffer ctx p s).pool.mem = s.pool.mem := by
  unfold colOffer
  simp

@[simp] theorem colUnoffer_poolMem (f : Nat → Bool) (s : State) : (colUnoffer f s).pool.mem = s.pool.mem := rfl

@[simp] theorem colSend_poolMem (g : Grp) (dstMod vc len wid : Nat) (last : Bool) (b : Body) (s : State) :
    (colSend g dstMod vc len wid last b s).pool.mem = s.pool.mem := by
  unfold colSend
  split <;> simp

@[simp] theorem setRun_poolMem (r : McRun) (s : State) : (setRun r s).pool.mem = s.pool.mem := rfl

@[simp] theorem addRun_poolMem (r : McRun) (s : State) : (addRun r s).pool.mem = s.pool.mem := rfl

theorem mcSend_poolMem {send : Pkt → State → State} (h : ∀ q t, (send q t).pool.mem = t.pool.mem) (t p src vc len wid : Nat) (last : Bool)
    (b : Body) (q : Option (Nat × Nat)) (s : State) : (mcSend send t p src vc len wid last b q s).pool.mem = s.pool.mem := by
  unfold mcSend
  dsimp only
  rw [foldl_poolMem fun _ _ => h _ _]
  simp

@[simp] theorem colDown_poolMem (g : Grp) (collop : Nat) (b : Body) (s : State) : (colDown g collop b s).pool.mem = s.pool.mem := by
  unfold colDown
  split
  · exact mcSend_poolMem (colOffer_poolMem g.p.ctx) ..
  · simp

@[simp] theorem setMem_poolMem (m : CMem) (s : State) : (setMem m s).pool.mem = s.pool.mem := rfl

@[simp] theorem colEnd_poolMem (m : CMem) (st result : Nat) (s : State) : (colEnd m st result s).pool.mem = s.pool.mem := by
  unfold colEnd
  simp

@[simp] theorem memGot_poolMem (ctx seq rank n : Nat) (s : State) : (memGot ctx seq rank n s).pool.mem = s.pool.mem := by
  unfold memGot
  split <;> rfl

@[simp] theorem colDone_poolMem (ctx seq : Nat) (s : State) : (colDone ctx seq s).pool.mem = s.pool.mem := by
  unfold colDone
  simp

@[simp] theorem setTop_poolMem (t : CTop) (s : State) : (setTop t s).pool.mem = s.pool.mem := rfl

@[simp] theorem endTop_poolMem (t : CTop) (s : State) : (endTop t s).pool.mem = s.pool.mem := rfl

@[simp] theorem dropVerts_poolMem (ctx seq : Nat) (s : State) : (dropVerts ctx seq s).pool.mem = s.pool.mem := rfl

@[simp] theorem colAborted_poolMem (ctx : Nat) (g : Grp) (seq code result : Nat) (s : State) :
    (colAborted ctx g seq code result s).pool.mem = s.pool.mem := by
  unfold colAborted
  simp

@[simp] theorem topAbort_poolMem (ctx : Nat) (g : Grp) (seq code result : Nat) (s : State) :
    (topAbort ctx g seq code result s).pool.mem = s.pool.mem := by
  unfold topAbort
  simp

@[simp] theorem colCause_poolMem (g : Grp) (seq code rank mod : Nat) (s : State) : (colCause g seq code rank mod s).pool.mem = s.pool.mem := by
  unfold colCause
  simp

@[simp] theorem topCheck_poolMem (g : Grp) (t : CTop) (s : State) : (topCheck g t s).pool.mem = s.pool.mem := by
  unfold topCheck
  simp

@[simp] theorem topAck_poolMem (ctx seq : Nat) (s : State) : (topAck ctx seq s).pool.mem = s.pool.mem := by
  unfold topAck
  split <;> simp

@[simp] theorem memberFault_poolMem (m : CMem) (g : Grp) (st addr : Nat) (s : State) : (memberFault m g st addr s).pool.mem = s.pool.mem := by
  unfold memberFault
  simp

@[simp] theorem memCauses_poolMem (p : CMem → Bool) (code : Nat) (s : State) : (memCauses p code s).pool.mem = s.pool.mem :=
  foldl_poolMem fun t m => by split <;> simp

@[simp] theorem vertexLost_poolMem (ctx : Nat) (g : Grp) (lost : Nat) (s : State) : (vertexLost ctx g lost s).pool.mem = s.pool.mem := by
  unfold vertexLost
  dsimp only
  split
  · split <;> (try rw [setGrp_poolMem]) <;> exact foldl_poolMem fun t n => by split <;> simp
  · rfl

/-! ### Multicast -/

@[simp] theorem runCheck_poolMem (r : McRun) (s : State) : (runCheck r s).pool.mem = s.pool.mem := by
  unfold runCheck
  dsimp only
  (repeat' split) <;> simp

@[simp] theorem branchDone_poolMem (r : McRun) (epid : Nat) (excluded echo : Bool) (s : State) :
    (branchDone r epid excluded echo s).pool.mem = s.pool.mem := by
  unfold branchDone
  simp

@[simp] theorem legExcluded_poolMem (h : Hdr) (s : State) : (legExcluded h s).pool.mem = s.pool.mem := by
  unfold legExcluded
  split <;> rfl

@[simp] theorem legLanded_poolMem (h : Hdr) (s : State) : (legLanded h s).pool.mem = s.pool.mem := by
  unfold legLanded
  split <;> simp

/-! ### Delivery -/

@[simp] theorem readDone_poolMem (h : Hdr) (k : ReadKind) (st : Nat) (data : Bytes) (valid : List Bool) (s : State) :
    (readDone h k st data valid s).pool.mem = s.pool.mem := by
  unfold readDone
  simp

@[simp] theorem landCounter_poolMem (h : Hdr) (ctr : Option Nat) (total : Nat) (s : State) :
    (landCounter h ctr total s).pool.mem = s.pool.mem := by
  unfold landCounter
  split <;> simp

@[simp] theorem collAck_poolMem (h : Hdr) (s : State) : (collAck h s).pool.mem = s.pool.mem := by
  unfold collAck
  simp

@[simp] theorem collLanded_poolMem (h : Hdr) (ctr : Option Nat) (rise ctx seq rank n : Nat) (s : State) :
    (collLanded h ctr rise ctx seq rank n s).pool.mem = s.pool.mem := by
  unfold collLanded
  simp

@[simp] theorem collFailed_poolMem (h : Hdr) (ctx seq rank st a : Nat) (s : State) :
    (collFailed h ctx seq rank st a s).pool.mem = s.pool.mem := by
  unfold collFailed
  split <;> simp

@[simp] theorem finish_poolMem (acc : Access) (st : Nat) (data : Bytes) (valid : List Bool) (result : Nat) (s : State) :
    (finish acc st data valid result s).pool.mem = s.pool.mem := by
  unfold finish
  dsimp only
  (repeat' split) <;> simp

@[simp] theorem waitFor_poolMem (w : Why) (acc : Access) (s : State) : (waitFor w acc s).pool.mem = s.pool.mem := rfl

@[simp] theorem severedAccess_poolMem (m : MemReq) (load : Bool) (s : State) : (severedAccess m load s).pool.mem = s.pool.mem := by
  unfold severedAccess
  simp

@[simp] theorem mirrorDone_poolMem (wid : Nat) (s : State) : (mirrorDone wid s).pool.mem = s.pool.mem := by
  unfold mirrorDone
  dsimp only
  (repeat' split) <;> simp

@[simp] theorem mirrorFailed_poolMem (wid st : Nat) (s : State) : (mirrorFailed wid st s).pool.mem = s.pool.mem := by
  unfold mirrorFailed
  dsimp only
  (repeat' split) <;> simp

/-! ### Collectives: records and results -/

@[simp] theorem resultTo_poolMem (ctx seq : Nat) (g : Grp) (wid mod off : Nat) (data : Bytes) (last : Bool) (s : State) :
    (resultTo ctx seq g wid mod off data last s).pool.mem = s.pool.mem := by
  unfold resultTo
  simp

@[simp] theorem topOut_poolMem (ctx seq : Nat) (g : Grp) (c : CollOp) (off : Nat) (data : Bytes) (last : Bool) (s : State) :
    (topOut ctx seq g c off data last s).pool.mem = s.pool.mem := by
  have hm (t p src vc len wid : Nat) (last : Bool) (b : Body) (q : Option (Nat × Nat)) (u : State) :
      (mcSend (colOffer ctx) t p src vc len wid last b q u).pool.mem = u.pool.mem := mcSend_poolMem (colOffer_poolMem ctx) ..
  unfold topOut
  dsimp only
  (repeat' split) <;> simp [hm]

@[simp] theorem delVert_poolMem (v : CVert) (s : State) : (delVert v s).pool.mem = s.pool.mem := rfl

@[simp] theorem setVert_poolMem (v : CVert) (s : State) : (setVert v s).pool.mem = s.pool.mem := rfl

@[simp] theorem openVert_poolMem (ctx : Nat) (g : Grp) (seq k i : Nat) (c : CollOp) (s : State) :
    (openVert ctx g seq k i c s).2.pool.mem = s.pool.mem := by
  unfold openVert
  dsimp only
  (repeat' split) <;> simp

@[simp] theorem vertOut_poolMem (g : Grp) (v : CVert) (off : Nat) (data : Bytes) (last : Bool) (s : State) :
    (vertOut g v off data last s).pool.mem = s.pool.mem := by
  unfold vertOut
  split <;> simp

@[simp] theorem vertAdvance_poolMem (g : Grp) (f : Nat) (v : CVert) (s : State) : (vertAdvance g f v s).pool.mem = s.pool.mem := by
  induction f generalizing v s with
  | zero => simp [vertAdvance]
  | succ f ih =>
    rw [vertAdvance]
    simp [ih]

@[simp] theorem vertJoin_poolMem (ctx : Nat) (g : Grp) (v : CVert) (s : State) : (vertJoin ctx g v s).pool.mem = s.pool.mem := by
  unfold vertJoin
  dsimp only
  (repeat' split) <;> simp

@[simp] theorem vertHeader_poolMem (h : Hdr) (k i : Nat) (left : Bool) (r : CollRec) (c : CollOp) (s : State) :
    (vertHeader h k i left r c s).pool.mem = s.pool.mem := by
  unfold vertHeader
  split <;> simp

@[simp] theorem vertPoison_poolMem (g : Grp) (v : CVert) (left : Bool) (s : State) : (vertPoison g v left s).pool.mem = s.pool.mem := by
  unfold vertPoison
  simp

@[simp] theorem vertChunk_poolMem (h : Hdr) (b : ChunkBody) (s : State) : (vertChunk h b s).pool.mem = s.pool.mem := by
  unfold vertChunk
  split <;> simp

@[simp] theorem memberHeader_poolMem (m : CMem) (g : Grp) (s : State) : (memberHeader m g s).pool.mem = s.pool.mem := by
  unfold memberHeader
  split <;> simp

@[simp] theorem contribute_poolMem (m : CMem) (g : Grp) (off : Nat) (data : Bytes) (s : State) :
    (contribute m g off data s).pool.mem = s.pool.mem := by
  unfold contribute
  split <;> simp

@[simp] theorem blockOut_poolMem (m : CMem) (g : Grp) (wid off : Nat) (data : Bytes) (s : State) :
    (blockOut m g wid off data s).pool.mem = s.pool.mem := by
  unfold blockOut
  simp

@[simp] theorem colGo_poolMem (ctx seq : Nat) (s : State) : (colGo ctx seq s).pool.mem = s.pool.mem := foldl_poolMem fun _ _ => rfl

@[simp] theorem colKick_poolMem (s : State) : (colKick s).pool.mem = s.pool.mem :=
  foldl_poolMem fun t m => by
    split
    · split
      · simp
      · rw [ite_poolMem, colSend_poolMem, foldl_poolMem (fun _ _ => setMem_poolMem ..), ite_self]
    · rfl

@[simp] theorem a2aReported_poolMem (h : Hdr) (r : CollRec) (s : State) : (a2aReported h r s).pool.mem = s.pool.mem := by
  unfold a2aReported
  split
  · simp
  · split <;> simp

@[simp] theorem causeArrive_poolMem (h : Hdr) (r : CollRec) (s : State) : (causeArrive h r s).pool.mem = s.pool.mem := by
  unfold causeArrive
  split <;> simp

@[simp] theorem recArrive_poolMem (job : Nat) (b : Body) (s : State) : (recArrive job b s).pool.mem = s.pool.mem := by
  unfold recArrive
  split
  case h_4 => rfl
  all_goals split <;> simp

/-! ### Extents: offers, revocation, mirrors -/

@[simp] theorem setExtSt_poolMem (n : Nat) (e : Ext) (s : State) : (setExtSt n e s).pool.mem = s.pool.mem := by
  unfold setExtSt
  simp

@[simp] theorem freeExt_poolMem (n : Nat) (s : State) : (freeExt n s).pool.mem = s.pool.mem := by
  unfold freeExt
  simp

@[simp] theorem mctlSend_poolMem (dstMod job gen wid : Nat) (m : MirrorCtl) (s : State) :
    (mctlSend dstMod job gen wid m s).pool.mem = s.pool.mem := by
  unfold mctlSend
  split <;> simp

@[simp] theorem mctlAsk_poolMem (n : Nat) (e : Ext) (dstMod : Nat) (m : MirrorCtl) (s : State) :
    (mctlAsk n e dstMod m s).pool.mem = s.pool.mem := by
  unfold mctlAsk
  simp

@[simp] theorem mctlReply_poolMem (dstMod job gen : Nat) (m : MirrorCtl) (s : State) : (mctlReply dstMod job gen m s).pool.mem = s.pool.mem := by
  unfold mctlReply
  simp

@[simp] theorem rebuildPacket_poolMem (n k : Nat) (s : State) : (rebuildPacket n k s).pool.mem = s.pool.mem := by
  obtain ⟨m, hm⟩ : ∃ m, m = 4096 := ⟨_, rfl⟩
  rw [rebuildPacket, ← hm]
  simp

/-- `t` holds the bytes that `s` holds. As a definition of its own it keeps the kernel from comparing two long effects by running them. -/
def MemKept (s t : State) : Prop := t.pool.mem = s.pool.mem

theorem foldl_memKept {α : Type} {f : State → α → State} {xs : List α} {s : State} (h : ∀ t x, MemKept t (f t x)) :
    MemKept s (xs.foldl f s) :=
  List.foldlRecOn (motive := MemKept s) _ _ rfl fun _ ht x _ => (h _ x).trans ht

theorem rebuildPacket_memKept (n k : Nat) (s : State) : MemKept s (rebuildPacket n k s) := rebuildPacket_poolMem n k s

theorem rebuildStep_memKept (n : Nat) (s : State) : MemKept s (rebuildStep n s) :=
  (foldl_memKept (f := fun s k => rebuildPacket n k s) fun t k => rebuildPacket_memKept n k t).trans (setExt_poolMem ..)

@[simp] theorem rebuildStep_poolMem (n : Nat) (s : State) : (rebuildStep n s).pool.mem = s.pool.mem := rebuildStep_memKept n s

@[simp] theorem startRebuild_poolMem (n target : Nat) (s : State) : (startRebuild n target s).pool.mem = s.pool.mem := by
  unfold startRebuild
  simp

@[simp] theorem rebuildAdvance_poolMem (n : Nat) (s : State) : (rebuildAdvance n s).pool.mem = s.pool.mem := by
  unfold rebuildAdvance
  simp

@[simp] theorem dropRebuild_poolMem (n : Nat) (s : State) : (dropRebuild n s).pool.mem = s.pool.mem := rfl

@[simp] theorem rebuildLate_poolMem (wid : Nat) (r : OutReq) (n k : Nat) (s : State) : (rebuildLate wid r n k s).pool.mem = s.pool.mem := by
  unfold rebuildLate
  simp

@[simp] theorem rebuildAck_poolMem (wid n : Nat) (s : State) : (rebuildAck wid n s).pool.mem = s.pool.mem := by
  unfold rebuildAck
  simp

@[simp] theorem rebuildFail_poolMem (n : Nat) (s : State) : (rebuildFail n s).pool.mem = s.pool.mem := by
  unfold rebuildFail
  simp

@[simp] theorem opEnd_poolMem (q idx st result : Nat) (s : State) : (opEnd q idx st result s).pool.mem = s.pool.mem := by
  unfold opEnd
  split <;> simp

@[simp] theorem releaseEvents_poolMem (e : Ext) (s : State) : (releaseEvents e s).pool.mem = s.pool.mem :=
  sameBut_poolMem releaseEvents_sameBut (by decide)

@[simp] theorem biExtent_poolMem (e : Ext) (s : State) : (biExtent e s).pool.mem = s.pool.mem := by
  unfold biExtent
  simp

@[simp] theorem revokeEnd_poolMem (n : Nat) (s : State) : (revokeEnd n s).pool.mem = s.pool.mem := by
  unfold revokeEnd
  dsimp only
  split <;> simp

@[simp] theorem revokeOn_poolMem (n : Nat) (s : State) : (revokeOn n s).pool.mem = s.pool.mem := by
  unfold revokeOn
  simp

@[simp] theorem revokeDrained_poolMem (n : Nat) (s : State) : (revokeDrained n s).pool.mem = s.pool.mem := by
  unfold revokeDrained
  dsimp only
  split <;> simp

@[simp] theorem revokeDrain_poolMem (n : Nat) (s : State) : (revokeDrain n s).pool.mem = s.pool.mem := by
  unfold revokeDrain
  simp

@[simp] theorem callBack_poolMem (s : State) : (callBack s).pool.mem = s.pool.mem := by
  unfold callBack
  simp

@[simp] theorem shackleEnd_poolMem (n : Nat) (s : State) : (shackleEnd n s).pool.mem = s.pool.mem := by
  unfold shackleEnd
  dsimp only
  split <;> simp

@[simp] theorem shackleGo_poolMem (n : Nat) (s : State) : (shackleGo n s).pool.mem = s.pool.mem := by
  unfold shackleGo
  dsimp only
  split <;> simp

@[simp] theorem promote_poolMem (n : Nat) (s : State) : (promote n s).pool.mem = s.pool.mem := by
  unfold promote
  simp

@[simp] theorem mirrorCreate_poolMem (home job gen eid log2 fva tenant : Nat) (ret : Bool) (s : State) :
    (mirrorCreate home job gen eid log2 fva tenant ret s).pool.mem = s.pool.mem := by
  unfold mirrorCreate
  split
  · exact mctlReply_poolMem ..
  · split
    · exact mctlReply_poolMem ..
    · split
      · exact (mctlReply_poolMem ..).trans (setExtSt_poolMem ..)
      · exact mctlReply_poolMem ..

@[simp] theorem askMirror_poolMem (r : Req) (n target : Nat) (s : State) : (askMirror r n target s).pool.mem = s.pool.mem := by
  unfold askMirror
  simp

@[simp] theorem shackleBegin_poolMem (r : Req) (n p job ten fva : Nat) (s : State) :
    (shackleBegin r n p job ten fva s).pool.mem = s.pool.mem := by
  unfold shackleBegin
  simp

@[simp] theorem later_poolMem (r : Req) (n : Nat) (c : ExtCmd) (s : State) : (later r n c s).pool.mem = s.pool.mem := rfl

/-! ### Flows -/

@[simp] theorem covered_poolMem (p : Pkt) (s : State) : (covered p s).pool.mem = s.pool.mem := by
  unfold covered
  split
  · rfl
  · split
    · rfl
    · split <;> (try split) <;> simp

@[simp] theorem ackFlow_poolMem (k vc seq wid : Nat) (echo : Bool) (s : State) : (ackFlow k vc seq wid echo s).pool.mem = s.pool.mem := by
  unfold ackFlow
  split <;> simp

@[simp] theorem ackReply_poolMem (h : Hdr) (s : State) : (ackReply h s).pool.mem = s.pool.mem := by
  unfold ackReply
  simp

@[simp] theorem prefetchFilled_poolMem (id : Nat) (data : Bytes) (valid : List Bool) (s : State) :
    (prefetchFilled id data valid s).pool.mem = s.pool.mem := by
  unfold prefetchFilled
  split <;> simp

@[simp] theorem prefetchLate_poolMem (id : Nat) (s : State) : (prefetchLate id s).pool.mem = s.pool.mem := by
  unfold prefetchLate
  dsimp only
  (repeat' split) <;> simp

@[simp] theorem moveReq_poolMem (wid epid : Nat) (s : State) : (moveReq wid epid s).pool.mem = s.pool.mem := by
  unfold moveReq
  split <;> rfl

@[simp] theorem opMore_poolMem (wid : Nat) (s : State) : (opMore wid s).pool.mem = s.pool.mem := by
  unfold opMore
  split <;> simp

/-! ### Deadbolt and recovery -/

@[simp] theorem relayDb_poolMem (d : Deadbolt) (arrival : Option Nat) (s : State) : (relayDb d arrival s).pool.mem = s.pool.mem :=
  sameBut_poolMem switched_relayDb.1 (by decide)

@[simp] theorem noteDb_poolMem (d : Deadbolt) (s : State) : (noteDb d s).pool.mem = s.pool.mem := rfl

@[simp] theorem dropConsent_poolMem (job : Nat) (s : State) : (dropConsent job s).pool.mem = s.pool.mem := rfl

@[simp] theorem tearQueue_poolMem (q : Nat) (s : State) : (tearQueue q s).pool.mem = s.pool.mem := by
  unfold tearQueue
  dsimp only
  rw [foldl_poolMem fun t o => by split <;> simp]
  simp

@[simp] theorem hostAborted_poolMem (acc : Access) (p : Nat) (s : State) : (hostAborted acc p s).pool.mem = s.pool.mem := by
  unfold hostAborted
  split <;> simp

@[simp] theorem tearFlows_poolMem (p job : Nat) (s : State) : (tearFlows p job s).pool.mem = s.pool.mem := by
  unfold tearFlows
  simp

@[simp] theorem tearGroups_poolMem (p : Nat) (s : State) : (tearGroups p s).pool.mem = s.pool.mem := by
  unfold tearGroups
  simp

@[simp] theorem originateMsg_poolMem (job cause subject epid : Nat) (s : State) :
    (originateMsg job cause subject epid s).2.pool.mem = s.pool.mem := by
  unfold originateMsg
  simp

@[simp] theorem writeDossier_poolMem (p : Nat) (incomplete : Bool) (s : State) : (writeDossier p incomplete s).pool.mem = s.pool.mem := by
  unfold writeDossier
  simp

@[simp] theorem freeGroups_poolMem (p : Nat) (s : State) : (freeGroups p s).pool.mem = s.pool.mem := by
  unfold freeGroups
  simp

@[simp] theorem disableQueues_poolMem (p : Nat) (s : State) : (disableQueues p s).pool.mem = s.pool.mem := by
  unfold disableQueues
  simp

@[simp] theorem clearKeys_poolMem (p : Nat) (s : State) : (clearKeys p s).pool.mem = s.pool.mem := rfl

@[simp] theorem clearPart_poolMem (p : Nat) (s : State) : (clearPart p s).pool.mem = s.pool.mem := by
  unfold clearPart
  simp

@[simp] theorem releaseMirror_poolMem (n : Nat) (s : State) : (releaseMirror n s).pool.mem = s.pool.mem := by
  unfold releaseMirror
  simp

@[simp] theorem lostTrees_poolMem (h : Nat) (s : State) : (lostTrees h s).pool.mem = s.pool.mem := by
  unfold lostTrees
  dsimp only
  rw [foldl_poolMem fun t r => foldl_poolMem fun u e => by split <;> simp]
  simp

/-! ### Resets -/

@[simp] theorem resetDossier_poolMem (p : Nat) (s : State) : (resetDossier p s).pool.mem = s.pool.mem := by
  unfold resetDossier
  split <;> simp

@[simp] theorem clearLease_poolMem (s : State) : (clearLease s).pool.mem = s.pool.mem := by rw [toldFrom_clearLease ..]

@[simp] theorem resetBlocks_poolMem (full : Bool) (s : State) : (resetBlocks full s).pool.mem = s.pool.mem := by
  unfold resetBlocks
  simp

/-! ### Packets that arrive -/

@[simp] theorem authFail_poolMem (p : Option Nat) (h : Hdr) (s : State) : (authFail p h s).pool.mem = s.pool.mem := by
  unfold authFail
  simp

@[simp] theorem dropLate_poolMem (s : State) : (dropLate s).pool.mem = s.pool.mem := rfl

theorem openFlow_poolMem {h : Hdr} {s t : State} (ho : openFlow h s = some t) : t.pool.mem = s.pool.mem := by
  unfold openFlow at ho
  split at ho
  · cases ho; rfl
  · split at ho
    · cases ho; rfl
    · cases ho

@[simp] theorem wardDeny_poolMem (h : Hdr) (b : Body) (s : State) : (wardDeny h b s).pool.mem = s.pool.mem := by
  unfold wardDeny
  dsimp only
  split
  · simp
  · split
    · simp
    · split
      · simp
      · next t ht =>
        rw [ite_poolMem, ite_poolMem]
        simp [openFlow_poolMem ht]

@[simp] theorem poolRefuse_poolMem (h : Hdr) (b : Body) (st : Nat) (s : State) : (poolRefuse h b st s).pool.mem = s.pool.mem := by
  unfold poolRefuse
  dsimp only
  split <;> simp

@[simp] theorem deviceWrite_poolMem (p att : Nat) (h : Hdr) (port : Option (Fin 64)) (b : WriteBody) (a : Nat) (s : State) :
    (deviceWrite p att h port b a s).pool.mem = s.pool.mem := by
  unfold deviceWrite
  simp

@[simp] theorem mirrorAnswer_poolMem (h : Hdr) (b : ReadBody) (e : Ext) (s : State) : (mirrorAnswer h b e s).pool.mem = s.pool.mem := by
  unfold mirrorAnswer
  dsimp only
  split <;> simp

@[simp] theorem passShadow_poolMem (create : Bool) (src vc home seq job : Nat) (s : State) :
    (passShadow create src vc home seq job s).pool.mem = s.pool.mem := by
  unfold passShadow
  dsimp only
  split <;> simp

@[simp] theorem turnAway_poolMem (h : Hdr) (s : State) : (turnAway h s).pool.mem = s.pool.mem := rfl

@[simp] theorem redirDup_poolMem (p : Nat) (h : Hdr) (b : Body) (s : State) : (redirDup p h b s).pool.mem = s.pool.mem := by
  unfold redirDup
  dsimp only
  (repeat' split) <;> simp

@[simp] theorem closeApply_poolMem (h : Hdr) (s : State) : (closeApply h s).pool.mem = s.pool.mem := by
  unfold closeApply
  simp

@[simp] theorem legPut_poolMem (p : Nat) (h : Hdr) (port : Option (Fin 64)) (t : TreeEntry) (b : WriteBody) (s : State) :
    (legPut p h port t b s).pool.mem = s.pool.mem := by
  unfold legPut
  dsimp only
  split <;> simp

@[simp] theorem legNow_poolMem (h : Hdr) (s : State) : (legNow h s).pool.mem = s.pool.mem := by
  unfold legNow
  split <;> simp

@[simp] theorem legRun_poolMem (h : Hdr) (t : TreeEntry) (s : State) : (legRun h t s).pool.mem = s.pool.mem := by
  unfold legRun
  simp

@[simp] theorem legCopies_poolMem (p : Nat) (h : Hdr) (t : TreeEntry) (b : Body) (s : State) : (legCopies p h t b s).pool.mem = s.pool.mem := by
  unfold legCopies
  simp

@[simp] theorem reportApply_poolMem (h : Hdr) (excluded : Bool) (s : State) : (reportApply h excluded s).pool.mem = s.pool.mem := by
  unfold reportApply
  split <;> simp

end Sys2Proof.Machine
end

section
/-! Pool memory, where queues, host accesses, ports and power write none of it. -/

namespace Sys2Proof.Machine

/-! ### What becomes possible -/

@[simp] theorem spend_poolMem (q n : Nat) (s : State) : (spend q n s).pool.mem = s.pool.mem := by
  unfold spend
  split <;> rfl

@[simp] theorem askWalk_poolMem (p page : Nat) (join : Walk → Walk) (s : State) : (askWalk p page join s).pool.mem = s.pool.mem := by
  unfold askWalk
  simp

@[simp] theorem opWalk_poolMem (q idx p page : Nat) (s : State) : (opWalk q idx p page s).pool.mem = s.pool.mem := by
  unfold opWalk
  simp

@[simp] theorem hitTile_poolMem (s : State) (p : Nat) (gs : List Pg) : (hitTile s p gs).pool.mem = s.pool.mem :=
  foldl_poolMem fun t g => by split <;> simp

@[simp] theorem checkTile_poolMem (q : Nat) (o : Op) (s : State) : (checkTile q o s).pool.mem = s.pool.mem := by
  unfold checkTile
  dsimp only
  split <;> simp

@[simp] theorem opMoved_poolMem (q idx n : Nat) (s : State) : (opMoved q idx n s).pool.mem = s.pool.mem := by
  unfold opMoved
  simp

@[simp] theorem putPacket_poolMem (q : Nat) (o : Op) (src dst home ext : Nat) (rd : Option Redirect) (dest : Dest) (off : Nat)
    (data : Bytes) (s : State) :
    (putPacket q o src dst home ext rd dest off data s).pool.mem = s.pool.mem := by
  unfold putPacket
  dsimp only
  split <;> simp

@[simp] theorem sendSignal_poolMem (q : Nat) (o : Op) (s : State) : (sendSignal q o s).pool.mem = s.pool.mem := by
  unfold sendSignal
  simp

@[simp] theorem sendAtomic_poolMem (q : Nat) (o : Op) (s : State) : (sendAtomic q o s).pool.mem = s.pool.mem := by
  unfold sendAtomic
  dsimp only
  (repeat' split) <;> simp

@[simp] theorem makeSingle_poolMem (q : Nat) (o : Op) (s : State) : (makeSingle q o s).pool.mem = s.pool.mem := by
  unfold makeSingle
  dsimp only
  (repeat' split) <;> simp

@[simp] theorem prefetchSeg_poolMem (q : Nat) (o : Op) (page : Nat) (s : State) : (prefetchSeg q o page s).pool.mem = s.pool.mem := by
  unfold prefetchSeg
  obtain ⟨m, hm⟩ : ∃ m, m = 65536 := ⟨_, rfl⟩
  dsimp only
  rw [ite_poolMem]
  split
  · split
    · split
      · rw [ite_poolMem]
        split
        · rfl
        · refine (foldl_poolMem fun t k => ?_).trans (hitLeaf_poolMem ..)
          exact sendFlow_poolMem ..
      · rfl
    · rfl
  · rfl

@[simp] theorem prefetchWalk_poolMem (p page : Nat) (s : State) : (prefetchWalk p page s).pool.mem = s.pool.mem := by
  unfold prefetchWalk
  simp

@[simp] theorem prefetchTiles_poolMem (q : Nat) (s : State) : (prefetchTiles q s).pool.mem = s.pool.mem := by
  unfold prefetchTiles
  exact List.foldlRecOn (motive := fun x : State × Nat => x.1.pool.mem = s.pool.mem) _ _ rfl fun x hx o _ =>
    (foldl_poolMem fun t n => prefetchWalk_poolMem ..).trans hx

@[simp] theorem prefetch_poolMem (q : Nat) (s : State) : (prefetch q s).pool.mem = s.pool.mem := by
  unfold prefetch
  simp

@[simp] theorem prefetchAll_poolMem (s : State) : (prefetchAll s).pool.mem = s.pool.mem := by
  unfold prefetchAll
  simp

/-! ### Host accesses -/

@[simp] theorem hostHold_poolMem (a : HostAcc) (s : State) : (hostHold a s).pool.mem = s.pool.mem := rfl

@[simp] theorem hostRefuse_poolMem (a : HostAcc) (p : Option Nat) (st : Nat) (s : State) : (hostRefuse a p st s).pool.mem = s.pool.mem := by
  unfold hostRefuse
  simp

@[simp] theorem hostRemote_poolMem (a : HostAcc) (p att : Nat) (u : Use) (t : Target) (s : State) :
    (hostRemote a p att u t s).pool.mem = s.pool.mem := by
  unfold hostRemote
  split <;> simp

@[simp] theorem openGates_poolMem (s : State) : (openGates s).pool.mem = s.pool.mem := by
  unfold openGates
  simp

@[simp] theorem deviceLanded_poolMem (h : Hdr) (ctr : Option Nat) (total : Nat) (s : State) :
    (deviceLanded h ctr total s).pool.mem = s.pool.mem := by
  unfold deviceLanded
  split
  · split
    · split <;> simp
    · simp
  · simp

@[simp] theorem fenceDone_poolMem (q idx : Nat) (s : State) : (fenceDone q idx s).pool.mem = s.pool.mem := by
  unfold fenceDone
  dsimp only
  (repeat' split) <;> simp

@[simp] theorem dmaDone_poolMem (f : DmaFor) (data : Bytes) (s : State) : (dmaDone f data s).pool.mem = s.pool.mem := by
  unfold dmaDone
  split <;> simp

@[simp] theorem dmaFail_poolMem (port : Nat) (f : DmaFor) (s : State) : (dmaFail port f s).pool.mem = s.pool.mem := by
  unfold dmaFail
  cases f with
  | piece q idx off a => simp
  | fence q idx => simp
  | landed => simp
  | result => simp

/-! ### Repair -/

@[simp] theorem startHold_poolMem (s : State) : (startHold s).pool.mem = s.pool.mem := by
  unfold startHold
  simp

@[simp] theorem storeLsa_poolMem (l : Lsa) (s : State) : (storeLsa l s).pool.mem = s.pool.mem := sameBut_poolMem storeLsa_sameBut (by decide)

@[simp] theorem floodLsa_poolMem (l : Lsa) (arrival : Option Nat) (s : State) : (floodLsa l arrival s).pool.mem = s.pool.mem :=
  sameBut_poolMem switched_floodLsa.1 (by decide)

@[simp] theorem originateLsa_poolMem (s : State) : (originateLsa s).pool.mem = s.pool.mem := sameBut_poolMem originateLsa_sameBut (by decide)

@[simp] theorem changeLsa_poolMem (s : State) : (changeLsa s).pool.mem = s.pool.mem := sameBut_poolMem changeLsa_sameBut (by decide)

@[simp] theorem lsaArrive_poolMem (port : Nat) (l : Lsa) (s : State) : (lsaArrive port l s).pool.mem = s.pool.mem := by
  unfold lsaArrive
  simp

@[simp] theorem exchangeDb_poolMem (port : Nat) (s : State) : (exchangeDb port s).pool.mem = s.pool.mem := by
  unfold exchangeDb
  simp

@[simp] theorem installPath_poolMem (e : Nat) (s : State) : (installPath e s).pool.mem = s.pool.mem := by
  unfold installPath
  simp

@[simp] theorem retryRoutes_poolMem (s : State) : (retryRoutes s).pool.mem = s.pool.mem := by
  unfold retryRoutes
  simp

@[simp] theorem installAll_poolMem (s : State) : (installAll s).pool.mem = s.pool.mem := by
  unfold installAll
  simp

/-! ### Ports -/

@[simp] theorem noteAbandon_poolMem (dst : Nat) (s : State) : (noteAbandon dst s).pool.mem = s.pool.mem :=
  sameBut_poolMem linked_noteAbandon.1 (by decide)

@[simp] theorem abandonCut_poolMem (c : Cut) (s : State) : (abandonCut c s).pool.mem = s.pool.mem :=
  sameBut_poolMem linked_abandonCut.1 (by decide)

@[simp] theorem abandonSent_poolMem (p : Nat) (s : State) : (abandonSent p s).pool.mem = s.pool.mem :=
  sameBut_poolMem linked_abandonSent.1 (by decide)

@[simp] theorem endLink_poolMem (p : Nat) (s : State) : (endLink p s).pool.mem = s.pool.mem := sameBut_poolMem linked_endLink.1 (by decide)

@[simp] theorem goDown_poolMem (p : Nat) (s : State) : (goDown p s).pool.mem = s.pool.mem := by
  unfold goDown
  simp

@[simp] theorem applyBias_poolMem (p : Nat) (s : State) : (applyBias p s).pool.mem = s.pool.mem := by
  unfold applyBias
  exact foldl_poolMem fun t w => by split <;> rfl

@[simp] theorem startTrain_poolMem (p : Nat) (full : Bool) (s : State) : (startTrain p full s).pool.mem = s.pool.mem := by
  unfold startTrain
  simp

@[simp] theorem quickRetrain_poolMem (p : Nat) (s : State) : (quickRetrain p s).pool.mem = s.pool.mem := by
  unfold quickRetrain
  simp

@[simp] theorem advertise_poolMem (p : Nat) (s : State) : (advertise p s).pool.mem = s.pool.mem := by
  unfold advertise
  simp only [txPort_poolMem, grantShared_poolMem]
  exact foldl_poolMem fun t k => pushRet_poolMem ..

@[simp] theorem resendFlits_poolMem (p : Nat) (s : State) : (resendFlits p s).pool.mem = s.pool.mem := foldl_poolMem fun _ _ => rfl

@[simp] theorem replay_poolMem (p : Nat) (counted : Bool) (s : State) : (replay p counted s).pool.mem = s.pool.mem := by
  unfold replay
  simp

@[simp] theorem ackTo_poolMem (p a : Nat) (s : State) : (ackTo p a s).pool.mem = s.pool.mem := by
  unfold ackTo
  dsimp only
  split
  · rfl
  · rw [ite_poolMem, foldl_poolMem fun t f => by split <;> simp]
    simp

@[simp] theorem restate_poolMem (p : Nat) (s : State) : (restate p s).pool.mem = s.pool.mem := by
  unfold restate
  simp

@[simp] theorem laneEvent_poolMem (p : Nat) (s : State) : (laneEvent p s).pool.mem = s.pool.mem := rfl

@[simp] theorem setRx_poolMem (p : Nat) (d : Dir) (s : State) : (setRx p d s).pool.mem = s.pool.mem := rfl

@[simp] theorem setTx_poolMem (p : Nat) (d : Dir) (s : State) : (setTx p d s).pool.mem = s.pool.mem := rfl

@[simp] theorem reduceLanes_poolMem (p w : Nat) (s : State) : (reduceLanes p w s).pool.mem = s.pool.mem := by
  unfold reduceLanes
  simp

@[simp] theorem lanesMsg_poolMem (p : Nat) (dir : Bool) (count map : Nat) (s : State) : (lanesMsg p dir count map s).pool.mem = s.pool.mem := by
  unfold lanesMsg
  simp

@[simp] theorem wlOut_poolMem (p w : Nat) (s : State) : (wlOut p w s).pool.mem = s.pool.mem := by
  unfold wlOut
  dsimp only
  (repeat' split) <;> simp

@[simp] theorem wlFail_poolMem (p w : Nat) (s : State) : (wlFail p w s).pool.mem = s.pool.mem := by
  unfold wlFail
  simp

@[simp] theorem swapReqMsg_poolMem (p : Nat) (dir : Bool) (lane src dst : Nat) (failed : Bool) (s : State) :
    (swapReqMsg p dir lane src dst failed s).pool.mem = s.pool.mem := by
  unfold swapReqMsg
  dsimp only
  (repeat' split) <;> simp

@[simp] theorem swapChecked_poolMem (p : Nat) (ok : Bool) (s : State) : (swapChecked p ok s).pool.mem = s.pool.mem := by
  unfold swapChecked
  dsimp only
  split <;> simp

@[simp] theorem applyBiasOf_poolMem (i : Nat) (s : State) : (applyBiasOf i s).pool.mem = s.pool.mem := by
  unfold applyBiasOf
  split <;> rfl

@[simp] theorem swapDoneMsg_poolMem (p : Nat) (dir : Bool) (lane dst : Nat) (s : State) :
    (swapDoneMsg p dir lane dst s).pool.mem = s.pool.mem := by
  unfold swapDoneMsg
  dsimp only
  split <;> simp

@[simp] theorem swapAbortMsg_poolMem (p : Nat) (dir : Bool) (lane reason : Nat) (s : State) :
    (swapAbortMsg p dir lane reason s).pool.mem = s.pool.mem := by
  unfold swapAbortMsg
  dsimp only
  (repeat' split) <;> simp

@[simp] theorem swapLate_poolMem (p : Nat) (s : State) : (swapLate p s).pool.mem = s.pool.mem := by
  unfold swapLate
  simp

@[simp] theorem plannedSwap_poolMem (p w : Nat) (s : State) : (plannedSwap p w s).pool.mem = s.pool.mem := by
  unfold plannedSwap
  dsimp only
  split <;> simp

@[simp] theorem laserOut_poolMem (p w : Nat) (s : State) : (laserOut p w s).pool.mem = s.pool.mem := by
  unfold laserOut
  dsimp only
  (repeat' split) <;> simp

@[simp] theorem rotate_poolMem (p : Nat) (s : State) : (rotate p s).pool.mem = s.pool.mem := by
  unfold rotate
  dsimp only
  (repeat' split) <;> simp

@[simp] theorem calStartMsg_poolMem (p w : Nat) (s : State) : (calStartMsg p w s).pool.mem = s.pool.mem := by
  unfold calStartMsg
  simp

@[simp] theorem calEndMsg_poolMem (p w : Nat) (retired : Bool) (s : State) : (calEndMsg p w retired s).pool.mem = s.pool.mem := by
  unfold calEndMsg
  simp

@[simp] theorem calMeasured_poolMem (p : Nat) (ok : Bool) (s : State) : (calMeasured p ok s).pool.mem = s.pool.mem := by
  unfold calMeasured
  dsimp only
  split <;> simp

@[simp] theorem sendTrain_poolMem (p : Nat) (d : Dir) (s : State) : (sendTrain p d s).pool.mem = s.pool.mem := rfl

@[simp] theorem enterUp_poolMem (p : Nat) (s : State) : (enterUp p s).pool.mem = s.pool.mem := by
  unfold enterUp
  simp

@[simp] theorem trainStep_poolMem (p : Nat) (passing margins : List Nat) (s : State) :
    (trainStep p passing margins s).pool.mem = s.pool.mem := by
  unfold trainStep
  simp

@[simp] theorem foundNbr_poolMem (p m q : Nat) (s : State) : (foundNbr p m q s).pool.mem = s.pool.mem := by
  unfold foundNbr
  split <;> simp

@[simp] theorem trainMsg_poolMem (p nbr nbrPort lanes map : Nat) (s : State) : (trainMsg p nbr nbrPort lanes map s).pool.mem = s.pool.mem := by
  unfold trainMsg
  simp

@[simp] theorem evictPort_poolMem (p : Nat) (s : State) : (evictPort p s).pool.mem = s.pool.mem := by
  unfold evictPort
  simp

@[simp] theorem afterDown_poolMem (p : Nat) (s : State) : (afterDown p s).pool.mem = s.pool.mem := by
  unfold afterDown
  simp

@[simp] theorem tellState_poolMem (p : Nat) (s : State) : (tellState p s).pool.mem = s.pool.mem := by
  unfold tellState
  simp

@[simp] theorem pllLost_poolMem (p : Nat) (s : State) : (pllLost p s).pool.mem = s.pool.mem := by
  unfold pllLost
  simp

@[simp] theorem pllBack_poolMem (p : Nat) (s : State) : (pllBack p s).pool.mem = s.pool.mem := by
  unfold pllBack
  simp

@[simp] theorem enablePort_poolMem (p : Nat) (s : State) : (enablePort p s).pool.mem = s.pool.mem := by
  unfold enablePort
  simp

@[simp] theorem retrainPort_poolMem (p : Nat) (s : State) : (retrainPort p s).pool.mem = s.pool.mem := by
  unfold retrainPort
  simp

@[simp] theorem retirePorts_poolMem (s : State) : (retirePorts s).pool.mem = s.pool.mem := by
  unfold retirePorts
  simp

/-! ### CXL ports -/

@[simp] theorem cxlTrain_poolMem (p : Nat) (s : State) : (cxlTrain p s).pool.mem = s.pool.mem := by
  unfold cxlTrain
  simp

@[simp] theorem cxlRetrainEvent_poolMem (p : Nat) (s : State) : (cxlRetrainEvent p s).pool.mem = s.pool.mem := rfl

@[simp] theorem cxlRetrain_poolMem (p : Nat) (s : State) : (cxlRetrain p s).pool.mem = s.pool.mem := by
  unfold cxlRetrain
  simp

@[simp] theorem commitDecoder_poolMem (p r : Nat) (d : Decoder) (s : State) : (commitDecoder p r d s).pool.mem = s.pool.mem := by
  unfold commitDecoder
  simp

@[simp] theorem restPorts_poolMem (s : State) : (restPorts s).pool.mem = s.pool.mem := rfl

/-! ### Margin plans -/

@[simp] theorem trainChannel_poolMem (c : Nat) (s : State) : (trainChannel c s).pool.mem = s.pool.mem := rfl

@[simp] theorem retrainFallen_poolMem (s : State) : (retrainFallen s).pool.mem = s.pool.mem := by
  unfold retrainFallen
  simp

@[simp] theorem planVcore_poolMem (s : State) : (planVcore s).pool.mem = s.pool.mem := by
  unfold planVcore
  simp

@[simp] theorem planBias_poolMem (i slope : Nat) (s : State) : (planBias i slope s).pool.mem = s.pool.mem := by
  unfold planBias
  simp

@[simp] theorem remapRow_poolMem (row : Nat) (s : State) : (remapRow row s).pool.mem = s.pool.mem := by
  unfold remapRow
  simp

@[simp] theorem planRows_poolMem (s : State) : (planRows s).pool.mem = s.pool.mem := by
  unfold planRows
  simp

@[simp] theorem remapSlice_poolMem (sl : Nat) (s : State) : (remapSlice sl s).pool.mem = s.pool.mem := by
  unfold remapSlice
  simp

@[simp] theorem planSpares_poolMem (s : State) : (planSpares s).pool.mem = s.pool.mem := foldl_poolMem fun t e => by split <;> simp

@[simp] theorem planMemory_poolMem (s : State) : (planMemory s).pool.mem = s.pool.mem := by
  unfold planMemory
  simp

@[simp] theorem loadHistory_poolMem (h : Bytes) (s : State) : (loadHistory h s).pool.mem = s.pool.mem := rfl

@[simp] theorem startPlan_poolMem (s : State) : (startPlan s).pool.mem = s.pool.mem := by
  unfold startPlan
  simp

@[simp] theorem enableMem_poolMem (s : State) : (enableMem s).pool.mem = s.pool.mem := by
  unfold enableMem
  exact foldl_poolMem fun t p => by simp

@[simp] theorem lightUp_poolMem (s : State) : (lightUp s).pool.mem = s.pool.mem := by
  unfold lightUp
  simp

@[simp] theorem startGoesOn_poolMem (s : State) : (startGoesOn s).pool.mem = s.pool.mem := by
  unfold startGoesOn
  simp

@[simp] theorem planEnd_poolMem (s : State) : (planEnd s).pool.mem = s.pool.mem := by
  unfold planEnd
  simp

/-! ### Power -/

@[simp] theorem lit_poolMem (s : State) : (lit s).pool.mem = s.pool.mem := by
  unfold lit
  simp

@[simp] theorem darkPort_poolMem (p : Nat) (s : State) : (darkPort p s).pool.mem = s.pool.mem := by
  unfold darkPort
  simp

@[simp] theorem darken_poolMem (s : State) : (darken s).pool.mem = s.pool.mem := by
  unfold darken
  simp

@[simp] theorem dark_poolMem (s : State) : (dark s).pool.mem = s.pool.mem := by
  unfold dark
  simp

@[simp] theorem powerLit_poolMem (s : State) : (powerLit s).pool.mem = s.pool.mem := by
  unfold powerLit
  simp

@[simp] theorem brakeOn_poolMem (s : State) : (brakeOn s).pool.mem = s.pool.mem := by
  unfold brakeOn
  simp

@[simp] theorem startRamp_poolMem (up : Bool) (s : State) : (startRamp up s).pool.mem = s.pool.mem := rfl

@[simp] theorem moveRamp_poolMem (target : Nat) (s : State) : (moveRamp target s).pool.mem = s.pool.mem := by
  unfold moveRamp
  split <;> rfl

@[simp] theorem rampTo_poolMem (target : Nat) (s : State) : (rampTo target s).pool.mem = s.pool.mem := by
  unfold rampTo
  dsimp only
  split <;> simp

@[simp] theorem lowerTo_poolMem (c : Nat) (s : State) : (lowerTo c s).pool.mem = s.pool.mem := by
  unfold lowerTo
  simp

@[simp] theorem fillTo_poolMem (d : Nat) (s : State) : (fillTo d s).pool.mem = s.pool.mem := by
  unfold fillTo
  simp

@[simp] theorem lullStep_poolMem (d : Nat) (s : State) : (lullStep d s).pool.mem = s.pool.mem := by
  unfold lullStep
  simp

@[simp] theorem govern_poolMem (d : Nat) (s : State) : (govern d s).pool.mem = s.pool.mem := by
  unfold govern
  simp

@[simp] theorem tick_poolMem (demand draw vin tj gddr : Nat) (s : State) : (tick demand draw vin tj gddr s).pool.mem = s.pool.mem :=
  sameBut_poolMem tick_sameBut (by decide)

@[simp] theorem clampCap_poolMem (v : Word) (s : State) : (clampCap v s).2.pool.mem = s.pool.mem := by
  unfold clampCap
  split <;> simp

@[simp] theorem gateDomains_poolMem (req : Nat) (s : State) : (gateDomains req s).pool.mem = s.pool.mem := by
  unfold gateDomains
  simp

end Sys2Proof.Machine
end

section
/-! Pool memory, where the rows and the parts of them that write none of it leave it alone. -/

namespace Sys2Proof.Machine

/-! ### Clocks -/

@[simp] theorem clockLost_poolMem (s : State) : (clockLost s).pool.mem = s.pool.mem := by
  unfold clockLost
  simp

@[simp] theorem startPorts_poolMem (s : State) : (startPorts s).pool.mem = s.pool.mem := by
  unfold startPorts
  exact foldl_poolMem fun t p => by simp

@[simp] theorem imageRead_poolMem (flash : Option Bytes) (s : State) : (imageRead flash s).pool.mem = s.pool.mem := by
  unfold imageRead
  dsimp only
  (repeat' split) <;> simp

/-! ### Lease, resets, SRAM errors -/

@[simp] theorem giveLease_poolMem (l : Option Link) (s : State) : (giveLease l s).pool.mem = s.pool.mem :=
  sameBut_poolMem giveLease_sameBut (by decide)

@[simp] theorem ackReports_poolMem (l : Link) (seq : Nat) (s : State) : (ackReports l seq s).pool.mem = s.pool.mem := by
  unfold ackReports
  split <;> rfl

@[simp] theorem resendReports_poolMem (l : Link) (s : State) : (resendReports l s).pool.mem = s.pool.mem := foldl_poolMem fun _ _ => rfl

@[simp] theorem sramCorrected_poolMem (addr : Nat) (s : State) : (sramCorrected addr s).pool.mem = s.pool.mem := rfl

@[simp] theorem stagedPoison_poolMem (s : State) : (stagedPoison s).pool.mem = s.pool.mem := by
  unfold stagedPoison
  dsimp only
  (repeat' split) <;> simp

@[simp] theorem dropSegment_poolMem (s : State) : (dropSegment s).pool.mem = s.pool.mem := rfl

/-! ### Partitions -/

@[simp] theorem setup_poolMem (m : PartParams) (s : State) : (setup m s).pool.mem = s.pool.mem := rfl

@[simp] theorem bind_poolMem (p a slot : Nat) (s : State) : (bind p a slot s).pool.mem = s.pool.mem := rfl

@[simp] theorem unbind_poolMem (p a slot : Nat) (s : State) : (unbind p a slot s).pool.mem = s.pool.mem := rfl

@[simp] theorem loadKey_poolMem (p slot kid : Nat) (key : Bytes) (s : State) : (loadKey p slot kid key s).pool.mem = s.pool.mem := by
  unfold loadKey
  split
  · exact (foldl_memKept (f := fun s (e : Nat × Ext) => rebuildStep e.1 s) fun t e => rebuildStep_memKept e.1 t).trans rfl
  · rfl

@[simp] theorem scrubLog_poolMem (p : Nat) (s : State) : (scrubLog p s).pool.mem = s.pool.mem := rfl

@[simp] theorem releaseEnd_poolMem (p : Nat) (s : State) : (releaseEnd p s).pool.mem = s.pool.mem :=
  sameBut_poolMem releaseEnd_sameBut (by decide)

@[simp] theorem releaseScrubbed_poolMem (p : Nat) (s : State) : (releaseScrubbed p s).pool.mem = s.pool.mem := by
  unfold releaseScrubbed
  simp

@[simp] theorem endConsent_poolMem (p : Nat) (s : State) : (endConsent p s).pool.mem = s.pool.mem := rfl

@[simp] theorem setConsent_poolMem (p : Nat) (t : Bytes) (s : State) : (setConsent p t s).pool.mem = s.pool.mem := rfl

/-! ### The rows of extents -/

@[simp] theorem addExt_poolMem (a : ExtAddArgs) (s : State) : (addExt a s).pool.mem = s.pool.mem := by
  unfold addExt
  simp

@[simp] theorem offer_poolMem (n mask : Nat) (s : State) : (offer n mask s).pool.mem = s.pool.mem := by
  unfold offer
  simp

@[simp] theorem present_poolMem (a : ExtPresentArgs) (s : State) : (present a s).pool.mem = s.pool.mem := by
  unfold present
  dsimp only
  (repeat' split) <;> simp

/-! ### The mailbox -/

@[simp] theorem mailbox_poolMem (port : Fin 16) (st : Status) (payload : Bytes) (s : State) :
    (mailbox port st payload s).pool.mem = s.pool.mem :=
  rfl

@[simp] theorem clearEvents_poolMem (a : Nat) (hs : List Nat) (s : State) : (clearEvents a hs s).pool.mem = s.pool.mem := by
  unfold clearEvents
  split <;> rfl

@[simp] theorem declined_poolMem (n a : Nat) (s : State) : (declined n a s).pool.mem = s.pool.mem := by
  unfold declined
  simp

@[simp] theorem accepted_poolMem (n a : Nat) (s : State) : (accepted n a s).pool.mem = s.pool.mem := rfl

@[simp] theorem hostRelease_poolMem (home ext a : Nat) (s : State) : (hostRelease home ext a s).pool.mem = s.pool.mem := by
  unfold hostRelease
  split <;> simp

@[simp] theorem spdm_poolMem (port : Fin 16) (falcon mlkem : Bool) (s : State) : (spdm port falcon mlkem s).pool.mem = s.pool.mem := by
  unfold spdm
  simp

@[simp] theorem ideKeys_poolMem (port : Fin 16) (enable : Bool) (s : State) : (ideKeys port enable s).pool.mem = s.pool.mem := by
  unfold ideKeys
  simp

/-! ### The rows of CXL links -/

@[simp] theorem followWidth_poolMem (p width : Nat) (s : State) : (followWidth p width s).pool.mem = s.pool.mem := by
  unfold followWidth
  simp

@[simp] theorem refuseLoopback_poolMem (p : Nat) (s : State) : (refuseLoopback p s).pool.mem = s.pool.mem := by
  unfold refuseLoopback
  simp

/-! ### Thresholds of health -/

@[simp] theorem addEvents_poolMem (s : State) : (addEvents s).pool.mem = s.pool.mem := by
  unfold addEvents
  simp

@[simp] theorem healthReport_poolMem (i lv : Nat) (s : State) : (healthReport i lv s).pool.mem = s.pool.mem := by
  unfold healthReport
  simp

@[simp] theorem spareDoomed_poolMem (p w : Nat) (s : State) : (spareDoomed p w s).pool.mem = s.pool.mem := by
  unfold spareDoomed
  simp

@[simp] theorem laserDoomed_poolMem (p w : Nat) (s : State) : (laserDoomed p w s).pool.mem = s.pool.mem := by
  unfold laserDoomed
  simp

@[simp] theorem hourOver_poolMem (s : State) : (hourOver s).pool.mem = s.pool.mem := rfl

/-! ### The Hinge pause -/

@[simp] theorem refuseHeldBegins_poolMem (s : State) : (refuseHeldBegins s).pool.mem = s.pool.mem :=
  foldl_poolMem fun t c => by split <;> simp

/-! ### Register accesses -/

@[simp] theorem snapshot_poolMem (s : State) : (snapshot s).pool.mem = s.pool.mem := rfl

@[simp] theorem advanceInd_poolMem (x : Nat) (s : State) : (advanceInd x s).pool.mem = s.pool.mem := rfl

@[simp] theorem unlockWith_poolMem (x : Nat) (key : Word) (s : State) : (unlockWith x key s).pool.mem = s.pool.mem := by
  unfold unlockWith
  simp

@[simp] theorem popOldest_poolMem (s : State) : (popOldest s).pool.mem = s.pool.mem := rfl

@[simp] theorem clearLost_poolMem (s : State) : (clearLost s).pool.mem = s.pool.mem := rfl

@[simp] theorem storeBits_poolMem (x off : Nat) (v : Word) (s : State) : (storeBits x off v s).pool.mem = s.pool.mem := by
  unfold storeBits
  simp

@[simp] theorem clearW1c_poolMem (off : Nat) (d : Word) (s : State) : (clearW1c off d s).pool.mem = s.pool.mem := by
  unfold clearW1c
  simp

@[simp] theorem reserved_poolMem (off : Nat) (diff : Word) (s : State) : (reserved off diff s).pool.mem = s.pool.mem :=
  sameBut_poolMem reserved_sameBut (by decide)

@[simp] theorem disarm_poolMem (r : RegDef) (s : State) : (disarm r s).pool.mem = s.pool.mem := sameBut_poolMem disarm_sameBut (by decide)

@[simp] theorem doorbellDropped_poolMem (q : Nat) (s : State) : (doorbellDropped q s).pool.mem = s.pool.mem := by
  unfold doorbellDropped
  simp

@[simp] theorem hostDoorbellDropped_poolMem (a q : Nat) (s : State) : (hostDoorbellDropped a q s).pool.mem = s.pool.mem := by
  unfold hostDoorbellDropped
  simp

@[simp] theorem classRefused_poolMem (off : Nat) (s : State) : (classRefused off s).pool.mem = s.pool.mem := by
  unfold classRefused
  simp

@[simp] theorem hostRegWrite_poolMem (p : Fin 16) (off : Nat) (s : State) : (hostRegWrite p off s).pool.mem = s.pool.mem := by
  unfold hostRegWrite
  split
  · rfl
  · split <;> simp

@[simp] theorem readSide_poolMem (x off : Nat) (s : State) : (readSide x off s).pool.mem = s.pool.mem := by
  unfold readSide
  simp

@[simp] theorem windowRead_poolMem (x off : Nat) (s : State) : (windowRead x off s).2.pool.mem = s.pool.mem := by
  unfold windowRead
  split <;> simp

@[simp] theorem hostRegRead_poolMem (p : Fin 16) (txn off size : Nat) (s : State) : (hostRegRead p txn off size s).pool.mem = s.pool.mem := by
  unfold hostRegRead
  simp

/-! ### The debug port -/

@[simp] theorem result_poolMem (st data : Nat) (s : State) : (result st data s).pool.mem = s.pool.mem := rfl

@[simp] theorem resultSt_poolMem (st : Nat) (s : State) : (resultSt st s).pool.mem = s.pool.mem := rfl

@[simp] theorem resultOpen_poolMem (s : State) : (resultOpen s).pool.mem = s.pool.mem := rfl

@[simp] theorem haltCore_poolMem (c : Nat) (s : State) : (haltCore c s).pool.mem = s.pool.mem := by
  unfold haltCore
  simp

@[simp] theorem coreRuns_poolMem (c : Nat) (s : State) : (coreRuns c s).pool.mem = s.pool.mem := rfl

@[simp] theorem resumeCore_poolMem (c : Nat) (s : State) : (resumeCore c s).pool.mem = s.pool.mem := rfl

@[simp] theorem memRead_poolMem (a : Nat) (s : State) : (memRead a s).pool.mem = s.pool.mem := by
  unfold memRead
  simp

@[simp] theorem memWrite_poolMem (a : Nat) (v : Word) (s : State) : (memWrite a v s).pool.mem = s.pool.mem := by
  unfold memWrite
  simp

@[simp] theorem debugRegRead_poolMem (off : Nat) (s : State) : (debugRegRead off s).pool.mem = s.pool.mem := by
  unfold debugRegRead
  simp

@[simp] theorem debugOn_poolMem (s : State) : (debugOn s).pool.mem = s.pool.mem := rfl

/-! ### Descriptors: start and close -/

@[simp] theorem startFail_poolMem (q : Nat) (o : Op) (st result : Nat) (s : State) : (startFail q o st result s).pool.mem = s.pool.mem := by
  unfold startFail
  simp

@[simp] theorem noEpidFail_poolMem (q : Nat) (o : Op) (s : State) : (noEpidFail q o s).pool.mem = s.pool.mem := by
  unfold noEpidFail
  split <;> simp

@[simp] theorem ringRead_poolMem (x : Que) (s : State) : (ringRead x s).pool.mem = s.pool.mem := by
  unfold ringRead
  dsimp only
  split <;> rfl

@[simp] theorem startMove_poolMem (q : Nat) (o : Op) (s : State) : (startMove q o s).pool.mem = s.pool.mem := by
  unfold startMove
  dsimp only
  (repeat' split) <;> simp

@[simp] theorem closeBegin_poolMem (p : Nat) (s : State) : (closeBegin p s).pool.mem = s.pool.mem := by
  unfold closeBegin
  simp

@[simp] theorem startClose_poolMem (q : Nat) (o : Op) (s : State) : (startClose q o s).pool.mem = s.pool.mem := by
  unfold startClose
  dsimp only
  split <;> simp

@[simp] theorem rotateKey_poolMem (p : Nat) (s : State) : (rotateKey p s).pool.mem = s.pool.mem := congrArg Pool.mem (rotateKey_pool ..)

@[simp] theorem closeEnd_poolMem (p : Nat) (l : List (Nat × Nat)) (s : State) : (closeEnd p l s).pool.mem = s.pool.mem :=
  congrArg Pool.mem (closeEnd_pool ..)

/-! ### Quanta, walks and prefetches -/

@[simp] theorem startAtomic_poolMem (q : Nat) (o : Op) (s : State) : (startAtomic q o s).pool.mem = s.pool.mem := by
  unfold startAtomic
  simp

@[simp] theorem startWait_poolMem (q : Nat) (o : Op) (s : State) : (startWait q o s).pool.mem = s.pool.mem := by
  unfold startWait
  simp

@[simp] theorem startSignal_poolMem (q : Nat) (o : Op) (s : State) : (startSignal q o s).pool.mem = s.pool.mem := by
  unfold startSignal
  simp

@[simp] theorem enterColl_go_poolMem (q : Nat) (o : Op) (ctx r : Nat) (c : CollOp) (x : Que) (seq : Nat) (g : Grp) (s : State) :
    (enterColl.go q o ctx r c x seq g s).pool.mem = s.pool.mem := by
  unfold enterColl.go
  dsimp only
  split <;> simp

@[simp] theorem enterColl_poolMem (q : Nat) (o : Op) (ctx : Nat) (g : Grp) (r : Nat) (c : CollOp) (s : State) :
    (enterColl q o ctx g r c s).pool.mem = s.pool.mem := by
  unfold enterColl
  dsimp only
  split
  · simp
  · split
    · simp
    · split <;> simp

@[simp] theorem startColl_poolMem (q : Nat) (o : Op) (s : State) : (startColl q o s).pool.mem = s.pool.mem := by
  unfold startColl
  dsimp only
  (repeat' split) <;> simp

@[simp] theorem quantumOver_poolMem (e : Nat) (s : State) : (quantumOver e s).pool.mem = s.pool.mem := by
  unfold quantumOver
  split <;> simp

@[simp] theorem opWalked_poolMem (page seq : Nat) (x : Xl) (w : Nat × Nat) (s : State) : (opWalked page seq x w s).pool.mem = s.pool.mem := by
  unfold opWalked
  simp

@[simp] theorem prefetchReplied_poolMem (id : Nat) (data : Bytes) (valid : List Bool) (s : State) :
    (prefetchReplied id data valid s).pool.mem = s.pool.mem := by
  unfold prefetchReplied
  split <;> simp

/-! ### The rows of the fabric -/

@[simp] theorem assign_poolMem (epid kind attach home : Nat) (s : State) : (assign epid kind attach home s).pool.mem = s.pool.mem := by
  unfold assign
  simp

@[simp] theorem freeFlows_poolMem (epid : Nat) (s : State) : (freeFlows epid s).pool.mem = s.pool.mem := rfl

@[simp] theorem release_poolMem (epid : Nat) (s : State) : (release epid s).pool.mem = s.pool.mem := rfl

@[simp] theorem clearTree_poolMem (t : Nat) (s : State) : (clearTree t s).pool.mem = s.pool.mem := rfl

@[simp] theorem setAna_poolMem (a : AnaArgs) (s : State) : (setAna a s).pool.mem = s.pool.mem := by
  unfold setAna
  simp

@[simp] theorem addJob_poolMem (job : Nat) (s : State) : (addJob job s).pool.mem = s.pool.mem := by
  unfold addJob
  simp

@[simp] theorem stopAna_poolMem (s : State) : (stopAna s).pool.mem = s.pool.mem := by
  unfold stopAna
  simp

/-! ### Firmware images -/

@[simp] theorem hingeStart_poolMem (r : Req) (i : Image) (s : State) : (hingeStart r i s).pool.mem = s.pool.mem := rfl

/-! ### The rows of flows -/

@[simp] theorem windowEnd_poolMem (s : State) : (windowEnd s).pool.mem = s.pool.mem := rfl

@[simp] theorem discardQueued_poolMem (q : Queued) (s : State) : (discardQueued q s).pool.mem = s.pool.mem := by
  unfold discardQueued
  simp

@[simp] theorem routeOld_poolMem (src dst vc seq : Nat) (s : State) : (routeOld src dst vc seq s).pool.mem = s.pool.mem := by
  unfold routeOld
  split <;> simp

/-! ### Group contexts -/

@[simp] theorem createGrp_poolMem (p : GrpParams) (s : State) : (createGrp p s).pool.mem = s.pool.mem := rfl

@[simp] theorem onGrp_poolMem (ctx : Nat) (f : Grp → Grp) (s : State) : (onGrp ctx f s).pool.mem = s.pool.mem := by
  unfold onGrp
  split <;> rfl

@[simp] theorem destroySeq_poolMem (ctx n : Nat) (s : State) : (destroySeq ctx n s).pool.mem = s.pool.mem := by
  unfold destroySeq
  dsimp only
  (repeat' split) <;> simp

@[simp] theorem destroyGrp_poolMem (ctx : Nat) (s : State) : (destroyGrp ctx s).pool.mem = s.pool.mem := by
  unfold destroyGrp
  simp

/-! ### The rows of health -/

@[simp] theorem deferredRetrain_poolMem (s : State) : (deferredRetrain s).pool.mem = s.pool.mem := by
  unfold deferredRetrain
  simp

@[simp] theorem patrolBad_poolMem (word : Nat) (s : State) : (patrolBad word s).pool.mem = s.pool.mem := by
  unfold patrolBad
  split <;> simp

@[simp] theorem cellErrors_poolMem (flips : List (Nat × Nat)) (s : State) : (cellErrors flips s).pool.mem = s.pool.mem := by
  unfold cellErrors
  simp

@[simp] theorem patrol_poolMem (addr : Nat) (flips : List (Nat × Nat)) (s : State) : (patrol addr flips s).pool.mem = s.pool.mem := by
  unfold patrol
  simp

@[simp] theorem corrected_poolMem (a old new : Nat) (s : State) : (corrected a old new s).pool.mem = s.pool.mem :=
  sameBut_poolMem corrected_sameBut (by decide)

@[simp] theorem firstTraining_poolMem (a v : Nat) (s : State) : (firstTraining a v s).pool.mem = s.pool.mem :=
  sameBut_poolMem firstTraining_sameBut (by decide)

@[simp] theorem sensor_poolMem (a : Nat) (v : Word) (s : State) : (sensor a v s).pool.mem = s.pool.mem := by
  unfold sensor
  simp

/-! ### The rows of host accesses -/

@[simp] theorem ctrRead_poolMem (port : Fin 16) (off size : Nat) (s : State) : (ctrRead port off size s).pool.mem = s.pool.mem := by
  unfold ctrRead
  split <;> simp

/-! ### The rows of links -/

@[simp] theorem applyLink_poolMem (p : Nat) (f : Bytes) (s : State) : (applyLink p f s).pool.mem = s.pool.mem := by
  unfold applyLink
  dsimp only
  split <;> simp

@[simp] theorem packetEnd_poolMem (p : Nat) (abandoned whole : Bool) (flits : Nat) (bytes : Bytes) (s : State) :
    (packetEnd p abandoned whole flits bytes s).pool.mem = s.pool.mem := by
  unfold packetEnd
  simp

@[simp] theorem startCut_poolMem (p o : Nat) (detoured : Bool) (h : Hdr) (msg : Bytes) (s : State) :
    (startCut p o detoured h msg s).pool.mem = s.pool.mem := by
  unfold startCut
  dsimp only
  split <;> simp

@[simp] theorem endCut_poolMem (p o : Nat) (c : Cut) (bytes : Bytes) (s : State) : (endCut p o c bytes s).pool.mem = s.pool.mem := by
  unfold endCut
  generalize bytes.take (48 + c.h.len) = b
  dsimp only
  rw [switch_poolMem, movePtrs_poolMem, anaCopyBytes_poolMem, anaCopyBytes_poolMem]

@[simp] theorem stepCut_poolMem (p : Nat) (c : Cut) (eop abandon : Bool) (msg bytes : Bytes) (s : State) :
    (stepCut p c eop abandon msg bytes s).pool.mem = s.pool.mem := by
  unfold stepCut
  split <;> simp

@[simp] theorem brokenOff_poolMem (p n : Nat) (b : Bytes) (s : State) : (brokenOff p n b s).pool.mem = s.pool.mem := by
  unfold brokenOff
  split <;> simp

@[simp] theorem dataFlit_poolMem (p : Nat) (sop eop abandon : Bool) (f : Bytes) (s : State) :
    (dataFlit p sop eop abandon f s).pool.mem = s.pool.mem := by
  unfold dataFlit
  dsimp only
  (repeat' split) <;> simp

@[simp] theorem goodFlit_poolMem (p : Nat) (f : Bytes) (s : State) : (goodFlit p f s).pool.mem = s.pool.mem := by
  unfold goodFlit
  simp

@[simp] theorem answerIdle_poolMem (p next : Nat) (s : State) : (answerIdle p next s).pool.mem = s.pool.mem := by
  unfold answerIdle
  simp

@[simp] theorem flitIn_poolMem (p : Nat) (f : Bytes) (s : State) : (flitIn p f s).pool.mem = s.pool.mem := by
  unfold flitIn
  dsimp only
  split
  · rfl
  · rw [answerIdle_poolMem]
    split
    · simp
    · split <;> simp

@[simp] theorem repeatStep_poolMem (p : Nat) (s : State) : (repeatStep p s).pool.mem = s.pool.mem := by
  unfold repeatStep
  simp

/-! ### The rows of packets -/

@[simp] theorem transit_poolMem (q : Pkt) (port : Nat) (s : State) : (transit q port s).pool.mem = s.pool.mem := by
  unfold transit
  simp

/-! ### The rows of power -/

@[simp] theorem trayOut_poolMem (s : State) : (trayOut s).pool.mem = s.pool.mem := by
  unfold trayOut
  simp

/-! ### The rows of queues -/

@[simp] theorem createQueue_poolMem (a : QueArgs) (p att : Nat) (s : State) : (createQueue a p att s).pool.mem = s.pool.mem := rfl

@[simp] theorem resumeQueue_poolMem (q : Nat) (s : State) : (resumeQueue q s).pool.mem = s.pool.mem := rfl

@[simp] theorem destroyQueue_poolMem (q : Nat) (s : State) : (destroyQueue q s).pool.mem = s.pool.mem := rfl

/-! ### Doorbells and register reads -/

@[simp] theorem doorbellHalts_poolMem (q : Nat) (s : State) : (doorbellHalts q s).pool.mem = s.pool.mem := by
  unfold doorbellHalts
  simp

@[simp] theorem crcPass_poolMem (s : State) : (crcPass s).pool.mem = s.pool.mem := by
  obtain ⟨c, hc⟩ : ∃ c, configCrc s = c := ⟨_, rfl⟩
  rw [crcPass, hc]
  dsimp only
  rw [ite_poolMem, faultSev_poolMem, ite_self]

/-! ### The rows of repair -/

@[simp] theorem ageOut_poolMem (origin : Nat) (s : State) : (ageOut origin s).pool.mem = s.pool.mem := by
  unfold ageOut
  simp

/-! ### The rows of translation -/

@[simp] theorem invalidate_poolMem (r : Req) (p lo hi : Nat) (s : State) : (invalidate r p lo hi s).pool.mem = s.pool.mem := by
  unfold invalidate
  simp

@[simp] theorem invalDone_poolMem (src : Src) (s : State) : (invalDone src s).pool.mem = s.pool.mem := by
  unfold invalDone
  split <;> simp

/-! ### What the module does of itself -/

@[simp] theorem idle_poolMem (s : State) : (idle s).pool.mem = s.pool.mem := by
  unfold idle
  simp

end Sys2Proof.Machine
end

section
/-! The canonical form of pool memory, kept by accesses, delivery, extents, flows and resets. -/

namespace Sys2Proof.Machine

theorem ite_canonical {c : Prop} [Decidable c] {s t : State} (hs : memCanonical s) (ht : memCanonical t) :
    memCanonical (if c then s else t) := by
  split
  · exact hs
  · exact ht

theorem foldl_canonical {α : Type} {f : State → α → State} {xs : List α} {s : State} (hs : memCanonical s)
    (hf : ∀ t x, memCanonical t → memCanonical (f t x)) : memCanonical (xs.foldl f s) :=
  List.foldlRecOn (motive := memCanonical) _ _ hs fun t ht x _ => hf t x ht

/-! ### Messages -/

theorem serve_canonical {r : Req} {m : Msg} {p : Option Nat} {checks : State → List (Bool × Status)} {eff : State → Answer} {s : State}
    (hs : memCanonical s) (he : memCanonical (eff s).1) : memCanonical (serve r m p checks eff s) := by
  have ha (st : Status) (b : Bytes) (t : State) (ht : memCanonical t) : memCanonical (answer r st b t) := by simpa [memCanonical] using ht
  unfold serve
  refine ite_canonical (ha _ _ _ hs) (ite_canonical (ha _ _ _ hs) (ite_canonical (ha _ _ _ hs) (ite_canonical (ha _ _ _ hs) (ite_canonical ?_ ?_))))
  · simpa [memCanonical] using hs
  · split
    · exact ha _ _ _ (ite_canonical (by simpa [memCanonical] using hs) hs)
    · split
      · next h => rw [h] at he; exact ha _ _ _ he
      · next h => rw [h] at he; exact he

theorem message_canonical {r : Req} {m : Msg} {p : Option Nat} {c : Instr} {checks : State → List (Bool × Status)} {eff : State → Answer}
    {s : State} (hs : memCanonical s) (he : ∀ t, memCanonical t → memCanonical (eff t).1) : memCanonical (message r m p c checks eff s) := by
  have hh : memCanonical (heard r.src s) := by simpa [memCanonical] using hs
  unfold message
  refine ite_canonical hs ?_
  dsimp only
  split
  · exact hh
  · refine ite_canonical hh (ite_canonical ?_ (ite_canonical ?_ (serve_canonical hh (he _ hh))))
    · simpa [memCanonical] using hh
    · simpa [memCanonical] using hh

/-! ### The pool -/

@[simp] theorem putBytes_canonical {i : Nat} {e : Ext} {acc : Access} {a : Nat} {data : Bytes} {mask : Option (List Bool)}
    {fin : Option (Access × Nat)} {s : State} (hs : memCanonical s) : memCanonical (putBytes i e acc a data mask fin s).1 := by
  unfold putBytes
  dsimp only
  have hw := writeMem_canonical a data mask (if (mergeBad s a data mask).isEmpty then s else
    fault 6 3 (some e.part) (8 * ((mergeBad s a data mask).head?).getD 0) (mergeBad s a data mask).length s) (by simpa [memCanonical] using hs)
  split
  · exact hw
  · simpa [memCanonical] using hw

@[simp] theorem splitWrite_canonical {i : Nat} {e : Ext} {acc : Access} {a : Nat} {data : Bytes} {mask : Option (List Bool)}
    {ctr : Option Nat} {total : Nat} {s : State} (hs : memCanonical s) : memCanonical (splitWrite i e acc a data mask ctr total s).1 := by
  obtain ⟨pb, hb⟩ : ∃ pb, pb = @putBytes := ⟨_, rfl⟩
  obtain ⟨po, ho⟩ : ∃ po, po = @partOfWrite := ⟨_, rfl⟩
  have hp (t b d u) (ht : memCanonical t) : memCanonical (pb i e acc b d u none t).1 := by rw [hb]; exact putBytes_canonical ht
  generalize hq : @splitWrite = q
  delta splitWrite at hq
  rw [← hb, ← ho] at hq
  subst hq
  dsimp only
  have hput (t : State) (b : Nat) (d : Bytes × Option (List Bool)) (ht : memCanonical t) : memCanonical
      (if d.1 = [] then (t, none) else ((pb i e acc b d.1 d.2 none t).1, (pb i e acc b d.1 d.2 none t).2.1)).1 := by
    split
    · exact ht
    · exact hp t b _ _ ht
  exact hput _ _ _ (hput _ _ _ hs)

@[simp] theorem writeAt_canonical {i : Nat} {e : Ext} {acc : Access} {a : Nat} {data : Bytes} {mask : Option (List Bool)}
    {ctr : Option Nat} {total : Nat} {fetched : Bool} {s : State} (hs : memCanonical s) :
    memCanonical (writeAt i e acc a data mask ctr total fetched s).1 := by
  obtain ⟨pb, hb⟩ : ∃ pb, pb = @putBytes := ⟨_, rfl⟩
  obtain ⟨sw, hw⟩ : ∃ sw, sw = @splitWrite := ⟨_, rfl⟩
  have hp (t fin) (ht : memCanonical t) : memCanonical (pb i e acc a data mask fin t).1 := by rw [hb]; exact putBytes_canonical ht
  have hsw (t) (ht : memCanonical t) : memCanonical (sw i e acc a data mask ctr total t).1 := by rw [hw]; exact splitWrite_canonical ht
  rw [writeAt, ← hb, ← hw]
  dsimp only
  generalize ht : List.foldl _ s _ = t
  have hc : memCanonical t := by rw [← ht]; simpa [memCanonical] using hs
  split
  · simpa [memCanonical] using hc
  · split
    · exact hsw t hc
    · (repeat' split) <;> exact hp t _ hc

@[simp] theorem atomicAt_canonical {i : Nat} {e : Ext} {acc : Access} {a op ty operand compare : Nat} {fetched : Bool} {s : State}
    (hs : memCanonical s) : memCanonical (atomicAt i e acc a op ty operand compare fetched s).1 := by
  have hc : memCanonical (checkRead (some e.part) a (atomWidth ty) s) := by simpa [memCanonical] using hs
  unfold atomicAt
  dsimp only
  generalize checkRead (some e.part) a (atomWidth ty) s = t at hc
  split
  · exact hs
  · split
    · exact hs
    · split
      · exact hc
      · split
        · exact hc
        · split
          · split <;> simpa [memCanonical] using hc
          · have hw := writeMem_canonical a (leBytes (atomWidth ty) (atomNew op ty (leNat (poolBytes t a (atomWidth ty))) operand compare)) none t hc
            generalize writeMem a (leBytes (atomWidth ty) (atomNew op ty (leNat (poolBytes t a (atomWidth ty))) operand compare)) none t = w at hw
            split
            · split
              · simpa [memCanonical] using hw
              · exact hw
            · split <;>
              · next hx =>
                have hv := congrArg (fun r => r.1.pool.mem) hx
                simp only [forwardWrite_poolMem] at hv
                rw [memCanonical, ← hv]
                split
                · simpa [memCanonical] using hw
                · exact hw

@[simp] theorem perform_canonical {i : Nat} {e : Ext} {acc : Access} {fetched : Bool} {s : State} (hs : memCanonical s) :
    memCanonical (perform i e acc fetched s).1 := by
  have hc : memCanonical (coherence e acc acc.addr acc.what.size s).1 := by simpa [memCanonical] using hs
  unfold perform
  split
  · exact hs
  · split
    · next h => simpa [h] using hc
    · next t h =>
      have ht : memCanonical t := by simpa [h] using hc
      split
      · split <;> simpa [memCanonical] using ht
      · exact writeAt_canonical ht
      · exact atomicAt_canonical ht

/-! ### Delivery -/

@[simp] theorem access_canonical {i : Nat} {e : Ext} {acc : Access} {fetched : Bool} {s : State} (hs : memCanonical s) :
    memCanonical (access i e acc fetched s) := by
  have hp : memCanonical (perform i e acc fetched s).1 := perform_canonical hs
  unfold access
  split <;> next h => simpa [h, memCanonical] using hp

@[simp] theorem again_canonical {acc : Access} {fetched : Bool} {s : State} (hs : memCanonical s) : memCanonical (again acc fetched s) := by
  unfold again
  split
  · split
    · split
      · simpa [memCanonical] using hs
      · exact access_canonical hs
    · exact access_canonical hs
  · simpa [memCanonical] using hs

@[simp] theorem sweep_canonical {go : State → Why × Access → Bool} {fetched : Bool} {s : State} (hs : memCanonical s) :
    memCanonical (sweep go fetched s) := by
  refine foldl_canonical hs fun t w ht => ?_
  split
  · exact again_canonical ht
  · exact ht

@[simp] theorem retryWaits_canonical {n : Nat} {s : State} (hs : memCanonical s) : memCanonical (retryWaits n s) := by
  induction n generalizing s with
  | zero => exact hs
  | succ n ih =>
    rw [retryWaits]
    split
    · exact ih (sweep_canonical hs)
    · exact hs

@[simp] theorem wake_canonical {w : Why} {fetched : Bool} {s : State} (hs : memCanonical s) : memCanonical (wake w fetched s) := by
  unfold wake
  simp [memCanonical, hs]

@[simp] theorem fetchOver_canonical {wid addr n : Nat} {s : State} (hs : memCanonical s) : memCanonical (fetchOver wid addr n s) := by
  unfold fetchOver
  dsimp only
  split <;> simp [memCanonical, hs]

@[simp] theorem mirrorRead_canonical {wid addr : Nat} {data : Bytes} {valid : List Bool} {s : State} (hs : memCanonical s) :
    memCanonical (mirrorRead wid addr data valid s) := by
  unfold mirrorRead
  refine fetchOver_canonical (foldl_canonical ?_ fun t w ht => writeMem_canonical _ _ _ t ht)
  split
  · exact hs
  · simpa [memCanonical] using hs

/-! ### Collectives: records and results -/

@[simp] theorem memberWrite_canonical {h : Hdr} {off : Nat} {data : Bytes} {m : CMem} {s : State} (hs : memCanonical s) :
    memCanonical (memberWrite h off data m s) := by
  unfold memberWrite
  dsimp only
  split
  · next o at' _ _ _ _ =>
    split
    · simpa [memCanonical] using hs
    · have hd : memCanonical (demand (que s m.q).part (D.dstAddr o.d + at') s).1 := by simpa [memCanonical] using hs
      split
      · next hx =>
        rw [hx] at hd
        split
        · exact access_canonical hd
        · simpa [memCanonical] using hd
      all_goals
        next hx =>
        rw [hx] at hd
        simpa [memCanonical] using hd
  · exact hs

@[simp] theorem resultArrive_canonical {h : Hdr} {b : ResultBody} {s : State} (hs : memCanonical s) : memCanonical (resultArrive h b s) := by
  unfold resultArrive
  have hb : memCanonical (if resultOver s b.group h.job b.seq then bump 0x300008 s else s) := by
    split
    · exact hs
    · exact hs
  generalize (if resultOver s b.group h.job b.seq then bump 0x300008 s else s) = t at hb
  have hf (xs : List CMem) (u : State) (hu : memCanonical u) : memCanonical (xs.foldl (fun s m => memberWrite h b.off b.data m s) u) :=
    foldl_canonical hu fun v m hv => memberWrite_canonical hv
  have hg (xs : List CMem) (r : McRun) : memCanonical
      (if xs = [] then legLanded h (setRun r t) else xs.foldl (fun s m => memberWrite h b.off b.data m s) (setRun r t)) := by
    split
    · simpa [memCanonical] using hb
    · exact hf _ _ hb
  dsimp only
  split
  · split
    · exact hb
    · split <;> exact hg _ _
  · split
    · simpa [memCanonical] using hb
    · exact hf _ _ (by simpa [memCanonical] using hb)

/-! ### Extents: offers, revocation, mirrors -/

@[simp] theorem endReq_canonical {wid st : Nat} {s : State} (hs : memCanonical s) : memCanonical (endReq wid st s) := by
  unfold endReq
  dsimp only
  (repeat' split) <;> simp [memCanonical, hs]

@[simp] theorem endInflight_canonical {n st : Nat} {s : State} (hs : memCanonical s) : memCanonical (endInflight n st s).1 := by
  unfold endInflight
  refine foldl_canonical (foldl_canonical (foldl_canonical hs fun t x ht => ?_) fun t x ht => ?_) fun t r ht => endReq_canonical ht
  · simpa [memCanonical] using ht
  · split <;> simpa [memCanonical] using ht

@[simp] theorem revokeForce_canonical {n : Nat} {s : State} (hs : memCanonical s) : memCanonical (revokeForce n s) := by
  unfold revokeForce
  simp [memCanonical, hs]

@[simp] theorem revokeBegin_canonical {n : Nat} {retain : Bool} {us : Nat} {now : Bool} {s : State} (hs : memCanonical s) :
    memCanonical (revokeBegin n retain us now s) := by
  unfold revokeBegin
  dsimp only
  (repeat' split) <;> simp [memCanonical, hs]

@[simp] theorem scrubOn_canonical {n : Nat} {s : State} (hs : memCanonical s) : memCanonical (scrubOn n s) := by
  unfold scrubOn
  dsimp only
  split
  · exact scrubRange_canonical _ _ _ (by simpa [memCanonical] using hs)
  · exact hs

@[simp] theorem shackleFail_canonical {n : Nat} {st : Status} {s : State} (hs : memCanonical s) : memCanonical (shackleFail n st s) := by
  unfold shackleFail
  simp [memCanonical, hs]

theorem mctlAnswered_canonical {f : MirrorCtl → Bool} {eid : Nat} {g : Nat → State → State} {s : State} (hs : memCanonical s)
    (hg : ∀ n t, memCanonical t → memCanonical (g n t)) : memCanonical (mctlAnswered f eid g s) := by
  unfold mctlAnswered
  split
  · exact hg _ _ (by simpa [memCanonical] using hs)
  · exact hs

@[simp] theorem mctlApply_canonical {src job gen : Nat} {m : MirrorCtl} {s : State} (hs : memCanonical s) :
    memCanonical (mctlApply src job gen m s) := by
  unfold mctlApply
  split
  case h_1 | h_3 | h_5 | h_7 => (repeat' split) <;> simpa [memCanonical] using hs
  · refine mctlAnswered_canonical hs fun n t ht => ?_
    dsimp only
    (repeat' split) <;> simpa [memCanonical] using ht
  · refine mctlAnswered_canonical hs fun n t ht => ?_
    split
    · simpa [memCanonical] using ht
    · exact shackleFail_canonical ht
  · exact mctlAnswered_canonical hs fun n t ht => by simpa [memCanonical] using ht
  · exact mctlAnswered_canonical hs fun n t ht => by simpa [memCanonical] using ht

@[simp] theorem mctlGone_canonical {st : Status} {wid : Nat} {s : State} (hs : memCanonical s) : memCanonical (mctlGone st wid s) := by
  unfold mctlGone
  dsimp only
  (repeat' split) <;> simp [memCanonical, hs]

@[simp] theorem laterStep_canonical {n : Nat} {s : State} (hs : memCanonical s) : memCanonical (laterStep n s) := by
  unfold laterStep
  dsimp only
  (repeat' split) <;> simp [memCanonical, hs]

@[simp] theorem laterAll_canonical {s : State} (hs : memCanonical s) : memCanonical (laterAll s) :=
  foldl_canonical hs fun _ x ht => foldl_canonical ht fun _ _ hu => laterStep_canonical hu

/-! ### Flows -/

@[simp] theorem reqFailed_canonical {k wid st seq : Nat} {s : State} (hs : memCanonical s) : memCanonical (reqFailed k wid st seq s) := by
  unfold reqFailed
  dsimp only
  (repeat' split) <;> simp [memCanonical, hs]

@[simp] theorem ackArrive_canonical {h : Hdr} {st : Nat} {s : State} (hs : memCanonical s) : memCanonical (ackArrive h st s) := by
  unfold ackArrive
  dsimp only
  (repeat' split) <;> simp [memCanonical, hs]

@[simp] theorem replyArrive_canonical {h : Hdr} {st : Nat} {data : Bytes} {valid : List Bool} {s : State} (hs : memCanonical s) :
    memCanonical (replyArrive h st data valid s) := by
  unfold replyArrive
  dsimp only
  (repeat' split) <;> simp [memCanonical, hs]

@[simp] theorem lostPkt_canonical {p : Pkt} {s : State} (hs : memCanonical s) : memCanonical (lostPkt p s) := by
  unfold lostPkt
  split
  · exact hs
  · split
    · exact mctlGone_canonical hs
    · exact endReq_canonical hs
    · exact hs

@[simp] theorem redirectFlow_canonical {k home n : Nat} {s : State} (hs : memCanonical s) : memCanonical (redirectFlow k home n s) := by
  induction n generalizing s with
  | zero => exact hs
  | succ n ih =>
    rw [redirectFlow]
    split
    · exact hs
    · split
      · exact hs
      · dsimp only
        split
        · exact ih (lostPkt_canonical (by simpa [memCanonical] using hs))
        · split
          · exact hs
          · refine ih (foldl_canonical ?_ fun t q ht => by simpa [memCanonical] using ht)
            split <;> simpa [memCanonical] using hs

@[simp] theorem redirectAll_canonical {s : State} (hs : memCanonical s) : memCanonical (redirectAll s) := by
  refine foldl_canonical hs fun t e ht => ?_
  split
  · exact redirectFlow_canonical ht
  · exact ht

@[simp] theorem freezeFlows_canonical {home : Nat} {s : State} (hs : memCanonical s) : memCanonical (freezeFlows home s) := by
  refine foldl_canonical hs fun t e ht => ?_
  dsimp only
  split
  · split
    · exact redirectFlow_canonical (by simpa [memCanonical] using ht)
    · exact ht
  · exact ht

/-! ### Deadbolt and recovery -/

@[simp] theorem tearAccesses_canonical {p job : Nat} {s : State} (hs : memCanonical s) : memCanonical (tearAccesses p job s) := by
  unfold tearAccesses
  refine foldl_canonical (foldl_canonical (foldl_canonical (foldl_canonical hs fun t w ht => ?_) fun t m ht => ?_) fun t w ht => ?_)
    fun t r ht => endReq_canonical ht
  · simpa [memCanonical] using ht
  · split <;> simpa [memCanonical] using ht
  · exact foldl_canonical ht fun u a hu => by simpa [memCanonical] using hu

@[simp] theorem teardown_canonical {p : Nat} {d : Deadbolt} {s : State} (hs : memCanonical s) : memCanonical (teardown p d s) := by
  unfold teardown
  simp [memCanonical, hs]

@[simp] theorem actDb_canonical {d : Deadbolt} {s : State} (hs : memCanonical s) : memCanonical (actDb d s) := by
  unfold actDb
  dsimp only
  (repeat' split) <;> simp [memCanonical, hs]

@[simp] theorem originate_canonical {job cause subject epid : Nat} {s : State} (hs : memCanonical s) :
    memCanonical (originate job cause subject epid s) := by
  unfold originate
  simp [memCanonical, hs]

@[simp] theorem dbArrive_canonical {port : Nat} {d : Deadbolt} {s : State} (hs : memCanonical s) : memCanonical (dbArrive port d s) := by
  unfold dbArrive
  split <;> simp [memCanonical, hs]

@[simp] theorem originateParts_canonical {ps : List Nat} {cause subject : Nat} {s : State} (hs : memCanonical s) :
    memCanonical (originateParts ps cause subject s) := by
  refine foldl_canonical hs fun t p ht => ?_
  split
  · exact originate_canonical ht
  · exact ht

@[simp] theorem reqExpired_canonical {wid : Nat} {r : OutReq} {s : State} (hs : memCanonical s) : memCanonical (reqExpired wid r s) := by
  unfold reqExpired
  dsimp only
  (repeat' split) <;> simp [memCanonical, hs]

@[simp] theorem lateRequests_canonical {old : Tab Ep} {s : State} (hs : memCanonical s) : memCanonical (lateRequests old s) := by
  refine foldl_canonical hs fun t w ht => ?_
  split
  · split
    · exact reqExpired_canonical ht
    · exact ht
  · exact ht

@[simp] theorem scrubExtents_canonical {p : Nat} {s : State} (hs : memCanonical s) : memCanonical (scrubExtents p s) :=
  foldl_canonical hs fun _ _ ht => revokeBegin_canonical ht

@[simp] theorem resetTail_canonical {p pol : Nat} {s : State} (hs : memCanonical s) : memCanonical (resetTail p pol s) := by
  unfold resetTail
  split <;> simp [memCanonical, hs]

@[simp] theorem resetGo_canonical {p pol : Nat} {s : State} (hs : memCanonical s) : memCanonical (resetGo p pol s) := by
  unfold resetGo
  dsimp only
  split <;> simp [memCanonical, hs]

@[simp] theorem resetBegin_canonical {p cause : Nat} {s : State} (hs : memCanonical s) : memCanonical (resetBegin p cause s) := by
  unfold resetBegin
  dsimp only
  split <;> simp [memCanonical, hs]

@[simp] theorem partReset_canonical {p pol : Nat} {s : State} (hs : memCanonical s) : memCanonical (partReset p pol s) := by
  unfold partReset
  dsimp only
  (repeat' split) <;> simp [memCanonical, hs]

@[simp] theorem resumeResets_canonical {s : State} (hs : memCanonical s) : memCanonical (resumeResets s) := by
  refine foldl_canonical hs fun t e ht => ?_
  split
  · split
    · exact resetGo_canonical ht
    · exact ht
  · exact ht

@[simp] theorem lostExt_canonical {h n : Nat} {s : State} (hs : memCanonical s) : memCanonical (lostExt h n s) := by
  unfold lostExt
  dsimp only
  (repeat' split) <;> simp [memCanonical, hs]

@[simp] theorem declareLost_canonical {h : Nat} {s : State} (hs : memCanonical s) : memCanonical (declareLost h s) := by
  unfold declareLost
  refine ite_canonical hs ?_
  extract_lets homes members nb fab s1 s2 s3 s4 ctl s5 s6 old fab' s7 s8
  have h2 : memCanonical s2 := foldl_canonical hs fun _ _ hu => lostExt_canonical hu
  have h4 : memCanonical s4 := foldl_canonical (by simpa [s3, memCanonical] using h2) fun u e hu => by
    split
    · simpa [memCanonical] using hu
    · exact hu
  have h5 : memCanonical s5 := foldl_canonical h4 fun _ _ hu => mctlGone_canonical hu
  have h6 : memCanonical s6 := freezeFlows_canonical h5
  have h7 : memCanonical s7 := by simpa [s7, memCanonical] using h6
  have h8 : memCanonical s8 := ite_canonical (by simpa [memCanonical] using h7) h7
  exact originateParts_canonical (originateParts_canonical h8)

/-! ### Resets -/

@[simp] theorem resetStart_canonical {p cause : Nat} {s : State} (hs : memCanonical s) : memCanonical (resetStart p cause s) := by
  unfold resetStart
  split <;> simp [memCanonical, hs]

@[simp] theorem resetFinish_canonical {p : Nat} {s : State} (hs : memCanonical s) : memCanonical (resetFinish p s) := by
  unfold resetFinish
  dsimp only
  (repeat' split) <;> simp [memCanonical, hs]

@[simp] theorem softReset_canonical {full : Bool} {cause : Nat} {dossiers : Bool} {s : State} (hs : memCanonical s) :
    memCanonical (softReset full cause dossiers s) := by
  have h1 (xs : List Nat) (t : State) (ht : memCanonical t) : memCanonical (xs.foldl (fun s p => resetStart p cause s) t) :=
    foldl_canonical ht fun _ _ hu => resetStart_canonical hu
  have h2 (xs : List Nat) (t : State) (ht : memCanonical t) : memCanonical (xs.foldl (fun s p => resetDossier p s) t) :=
    foldl_canonical ht fun u p hu => by simpa [memCanonical] using hu
  have h3 (xs : List Nat) (t : State) (ht : memCanonical t) : memCanonical (xs.foldl (fun s p => setPart s p (raiseGen s (part s p))) t) :=
    foldl_canonical ht fun _ _ hu => hu
  have h4 (xs : List Nat) (t : State) (ht : memCanonical t) : memCanonical (xs.foldl (fun s p => resetFinish p s) t) :=
    foldl_canonical ht fun _ _ hu => resetFinish_canonical hu
  have h5 (xs : Tab Ext) (t : State) (ht : memCanonical t) : memCanonical (xs.foldl (fun s e => scrubOn e.1 s) t) :=
    foldl_canonical ht fun _ _ hu => scrubOn_canonical hu
  have h6 (b : Bool) (t : State) (ht : memCanonical t) : memCanonical (clearLease (resetBlocks b t)) := by simpa [memCanonical] using ht
  have h7 (k : Nat) (t : State) (ht : memCanonical t) : memCanonical (report 0x8005 k 0 (faultAny 0x15 10 0 none t)) := by
    simpa [memCanonical] using ht
  unfold softReset
  refine h7 _ _ (h6 _ _ (h5 _ _ (h4 _ _ (h3 _ _ ?_))))
  exact ite_canonical (h2 _ _ (h1 _ _ hs)) (h1 _ _ hs)

@[simp] theorem hardReset_canonical {s : State} : memCanonical (hardReset s) := reset_canonical

end Sys2Proof.Machine
end

section
/-! The canonical form of pool memory, kept by what arrives, what becomes possible, and host accesses. -/

namespace Sys2Proof.Machine

/-! ### Packets that arrive -/

@[simp] theorem poolRequest_canonical {p : Nat} {h : Hdr} {port : Option (Fin 64)} {rd : Option Redirect} {b : Body} {addr : Nat} {s : State}
    (hs : memCanonical s) : memCanonical (poolRequest p h port rd b addr s) := by
  unfold poolRequest
  split
  · simpa [memCanonical] using hs
  · split
    · simpa [memCanonical] using hs
    · split
      · simpa [memCanonical] using hs
      · split
        · simpa [memCanonical] using hs
        · exact access_canonical hs

@[simp] theorem mirrorApply_canonical {h : Hdr} {b : MirrorBody} {e : Ext} {s : State} (hs : memCanonical s) :
    memCanonical (mirrorApply h b e s) := by
  have hw : memCanonical (writeMem (e.base + b.off) b.data none s) := writeMem_canonical _ _ _ _ hs
  generalize ht : writeMem (e.base + b.off) b.data none s = t at hw
  unfold mirrorApply
  dsimp only
  rw [ht]
  split
  · split <;> simpa [memCanonical] using hs
  · (repeat' split) <;> simpa [memCanonical] using hw

@[simp] theorem rebuildApply_canonical {h : Hdr} {b : RebuildBody} {n : Nat} {e : Ext} {s : State} (hs : memCanonical s) :
    memCanonical (rebuildApply h b n e s) := by
  obtain ⟨m, hm⟩ : ∃ m, m = 2 ^ 20 := ⟨_, rfl⟩
  have hw : memCanonical (writeMem (e.base + b.step * m + b.off) b.data none s) := writeMem_canonical _ _ _ _ hs
  rw [rebuildApply, ← hm]
  dsimp only
  split <;> simpa [memCanonical] using hw

@[simp] theorem redirectApply_canonical {p : Nat} {q : Pkt} {port : Option (Fin 64)} {r : Redirect} {s : State} (hs : memCanonical s) :
    memCanonical (redirectApply p q port r s) := by
  unfold redirectApply
  split
  · simpa [memCanonical] using hs
  · split
    · exact hs
    · refine ite_canonical ?_ (poolRequest_canonical (ite_canonical hs ?_))
      · simpa [memCanonical] using hs
      · simpa [memCanonical] using hs

@[simp] theorem legApply_canonical {p : Nat} {h : Hdr} {port : Option (Fin 64)} {b : Body} {s : State} (hs : memCanonical s) :
    memCanonical (legApply p h port b s) := by
  have hl : memCanonical (legRun h (tree s h.tree) s) := by simpa [memCanonical] using hs
  have hc : memCanonical (if (tree s h.tree).root then legRun h (tree s h.tree) s
      else legCopies p h (tree s h.tree) b (legRun h (tree s h.tree) s)) := by
    split
    · exact hl
    · simpa [memCanonical] using hl
  unfold legApply
  dsimp only
  generalize (if (tree s h.tree).root then legRun h (tree s h.tree) s
    else legCopies p h (tree s h.tree) b (legRun h (tree s h.tree) s)) = t at hc
  split
  · simpa [memCanonical] using hc
  · split
    · exact resultArrive_canonical hc
    · simpa [memCanonical] using hc
  · split <;> simpa [memCanonical] using hc

@[simp] theorem applyPkt_canonical {p : Nat} {q : Pkt} {port : Option (Fin 64)} {s : State} (hs : memCanonical s) :
    memCanonical (applyPkt p q port s) := by
  have hl (b : Bool) (t : State) (ht : memCanonical t) : memCanonical (landed q.h b t) := by simpa [memCanonical] using ht
  unfold applyPkt
  dsimp only
  split
  · exact redirectApply_canonical hs
  · split
    · exact legApply_canonical hs
    · split
      · split
        · exact poolRequest_canonical hs
        · simpa [memCanonical] using hs
      · split
        · split <;> simpa [memCanonical] using hs
        · exact poolRequest_canonical hs
      · exact poolRequest_canonical hs
      · simpa [memCanonical] using hs
      · exact hl _ _ (replyArrive_canonical hs)
      · simpa [memCanonical] using hs
      · simpa [memCanonical] using hs
      · split
        · split
          · exact mirrorApply_canonical hs
          · simpa [memCanonical] using hs
        · simpa [memCanonical] using hs
      · split
        · exact rebuildApply_canonical hs
        · simpa [memCanonical] using hs
      · exact mctlApply_canonical (hl _ _ hs)
      · simpa [memCanonical] using hs
      · simpa [memCanonical] using hs
      · exact resultArrive_canonical hs
      all_goals simpa [memCanonical] using hs

@[simp] theorem takeUp_canonical {p : Nat} {q : Pkt} {port : Option (Fin 64)} {s : State} (hs : memCanonical s) :
    memCanonical (takeUp p q port s) := by
  unfold takeUp
  simp [memCanonical, hs]

@[simp] theorem dupPkt_canonical {p : Nat} {q : Pkt} {port : Option (Fin 64)} {s : State} (hs : memCanonical s) :
    memCanonical (dupPkt p q port s) := by
  have hb : memCanonical (bump 0x60050 s) := hs
  unfold dupPkt
  dsimp only
  split
  · split <;> simpa [memCanonical] using hb
  · split
    · split
      · split
        · exact poolRequest_canonical hb
        · exact hb
      · split
        · split
          · simpa [memCanonical] using hb
          · exact hb
        · exact poolRequest_canonical hb
    · split
      · simpa [memCanonical] using hb
      · exact hb
    · simpa [memCanonical] using hb
    · simpa [memCanonical] using hb

@[simp] theorem seqArrive_canonical {p : Nat} {q : Pkt} {port : Option (Fin 64)} {s : State} (hs : memCanonical s) :
    memCanonical (seqArrive p q port s) := by
  unfold seqArrive
  dsimp only
  split
  · simpa [memCanonical] using hs
  · split
    · exact hs
    · next t ho =>
      have ht : memCanonical t := by rw [memCanonical, openFlow_poolMem ho]; exact hs
      split
      · exact dupPkt_canonical ht
      · split
        · exact ht
        · split
          · exact takeUp_canonical ht
          · (repeat' split) <;> exact ht

@[simp] theorem heldStep_canonical {k : Nat} {d : DFlow} {s : State} (hs : memCanonical s) : memCanonical (heldStep k d s) := by
  unfold heldStep
  dsimp only
  (repeat' split) <;> simp [memCanonical, hs]

@[simp] theorem heldAll_canonical {n : Nat} {s : State} (hs : memCanonical s) : memCanonical (heldAll n s) := by
  induction n generalizing s with
  | zero => exact hs
  | succ n ih =>
    rw [heldAll]
    split
    · exact ih (heldStep_canonical hs)
    · exact hs

@[simp] theorem redirGo_canonical {s : State} (hs : memCanonical s) : memCanonical (redirGo s) := by
  refine foldl_canonical hs fun t x ht => ?_
  split
  · exact redirectApply_canonical ht
  · exact ht

@[simp] theorem unprotected_canonical {h : Hdr} {st : Nat} {s : State} (hs : memCanonical s) : memCanonical (unprotected h st s) := by
  unfold unprotected
  dsimp only
  (repeat' split) <;> simp [memCanonical, hs]

@[simp] theorem admitted_canonical {p : Nat} {q : Pkt} {port : Option (Fin 64)} {s : State} (hs : memCanonical s) :
    memCanonical (admitted p q port s) := by
  have hh : memCanonical (handOver port q.h s) := by simpa [memCanonical] using hs
  unfold admitted
  split
  · exact ackArrive_canonical hh
  · split
    · exact replyArrive_canonical hh
    · exact seqArrive_canonical hs
  · exact seqArrive_canonical hs

@[simp] theorem arrive_canonical {q : Pkt} {port : Option (Fin 64)} {s : State} (hs : memCanonical s) : memCanonical (arrive q port s) := by
  unfold arrive
  extract_lets t
  have ha : memCanonical t := by
    unfold t
    split
    · simpa [memCanonical] using hs
    · exact hs
  clear_value t
  refine ite_canonical (ite_canonical ?_ ?_) (ite_canonical ?_ ?_)
  · simpa [memCanonical] using ha
  · simpa [memCanonical] using ha
  · simpa [memCanonical] using ha
  · split
    · simpa [memCanonical] using ha
    · simpa [memCanonical] using ha
    · refine ite_canonical (admitted_canonical ha) ?_
      simpa [memCanonical] using ha
    · split
      · exact unprotected_canonical ha
      · refine ite_canonical (admitted_canonical ha) ?_
        simpa [memCanonical] using ha

/-! ### What becomes possible -/

@[simp] theorem fetchPiece_canonical {q : Nat} {o : Op} {off len : Nat} {s : State} (hs : memCanonical s) :
    memCanonical (fetchPiece q o off len s) := by
  unfold fetchPiece
  dsimp only
  refine ite_canonical (by simpa [memCanonical] using hs) ?_
  (repeat' split) <;> simp [memCanonical, hs]

@[simp] theorem cutPiece_canonical {q : Nat} {o : Op} {s : State} (hs : memCanonical s) : memCanonical (cutPiece q o s) := by
  unfold cutPiece
  exact foldl_canonical (by simpa [memCanonical] using hs) fun _ _ ht => fetchPiece_canonical ht

@[simp] theorem sendBytes_canonical {q : Nat} {o : Op} {off : Nat} {data : Bytes} {s : State} (hs : memCanonical s) :
    memCanonical (sendBytes q o off data s) := by
  have hm (t p src vc len wid : Nat) (last : Bool) (b : Body) (x : Option (Nat × Nat)) (u : State) :
      (mcSend sendFlow t p src vc len wid last b x u).pool.mem = u.pool.mem := mcSend_poolMem sendFlow_poolMem ..
  unfold sendBytes
  dsimp only
  (repeat' split) <;> simp [memCanonical, hm, hs]

@[simp] theorem sendPiece_canonical {q : Nat} {o : Op} {off : Nat} {data : Bytes} {s : State} (hs : memCanonical s) :
    memCanonical (sendPiece q o off data s) := by
  unfold sendPiece
  split <;> simp [memCanonical, hs]

@[simp] theorem flushQueue_canonical {q n : Nat} {s : State} (hs : memCanonical s) : memCanonical (flushQueue q n s) := by
  induction n generalizing s with
  | zero => exact hs
  | succ n ih =>
    rw [flushQueue]
    split
    · refine ite_canonical hs ?_
      split
      · exact ih hs
      · refine ih ?_
        rw [memCanonical, tryFinish_poolMem]
        exact sendPiece_canonical (by simpa [memCanonical] using hs)
      · exact hs
    · exact hs

theorem pumpStep_canonical {q : Nat} {s t : State} (hs : memCanonical s) (h : pumpStep q s = some t) : memCanonical t := by
  unfold pumpStep at h
  split at h
  · split at h
    · cases h
    · split at h
      · split at h
        · cases h
          simpa [memCanonical] using hs
        · cases h
      · split at h
        · cases h
          exact cutPiece_canonical hs
        · split at h
          · split at h
            · cases h
              simpa [memCanonical] using hs
            · cases h
          · cases h
  · cases h

@[simp] theorem pumpQueue_canonical {q n : Nat} {s : State} (hs : memCanonical s) : memCanonical (pumpQueue q n s) := by
  induction n generalizing s with
  | zero => exact hs
  | succ n ih =>
    have hf : memCanonical (flushQueue q ((que s q).pieces.length + 1) s) := flushQueue_canonical hs
    rw [pumpQueue]
    split
    · next h => exact ih (pumpStep_canonical hf h)
    · split
      · simpa [memCanonical] using hf
      · exact hf

@[simp] theorem react_canonical {n : Nat} {s : State} (hs : memCanonical s) : memCanonical (react n s) := by
  induction n generalizing s with
  | zero => exact hs
  | succ n ih =>
    rw [react]
    exact ite_canonical (ih (redirGo_canonical (heldAll_canonical (retryWaits_canonical hs)))) hs

@[simp] theorem pumpAll_canonical {s : State} (hs : memCanonical s) : memCanonical (pumpAll s) :=
  foldl_canonical hs fun _ _ ht => pumpQueue_canonical ht

@[simp] theorem kick_canonical {s : State} (hs : memCanonical s) : memCanonical (kick s) := by
  unfold kick
  extract_lets s1 s2
  have h1 : memCanonical s1 := react_canonical hs
  have h2 : memCanonical s2 := by
    rw [memCanonical, colKick_poolMem]
    refine pumpAll_canonical ?_
    rw [memCanonical, offerAll_poolMem, pushAll_poolMem]
    exact redirectAll_canonical h1
  exact react_canonical h2

/-! ### Host accesses -/

@[simp] theorem hostLocal_canonical {a : HostAcc} {p att : Nat} {u : Use} {t : Target} {s : State} (hs : memCanonical s) :
    memCanonical (hostLocal a p att u t s) := by
  unfold hostLocal
  split
  · split <;> simpa [memCanonical] using hs
  · refine ite_canonical ?_ (access_canonical hs)
    simpa [memCanonical] using hs

@[simp] theorem hostLeaf_canonical {a : HostAcc} {p att fva lv : Nat} {l : BitVec 128} {seq : Nat} {s : State} (hs : memCanonical s) :
    memCanonical (hostLeaf a p att fva lv l seq s) := by
  unfold hostLeaf
  dsimp only
  (repeat' split) <;> simp [memCanonical, hs]

@[simp] theorem hostTranslate_canonical {a : HostAcc} {p att fva : Nat} {s : State} (hs : memCanonical s) :
    memCanonical (hostTranslate a p att fva s) := by
  unfold hostTranslate
  dsimp only
  split <;> simp [memCanonical, hs]

@[simp] theorem hostServe_canonical {a : HostAcc} {s : State} (hs : memCanonical s) : memCanonical (hostServe a s) := by
  unfold hostServe
  dsimp only
  (repeat' split) <;> simp [memCanonical, hs]

@[simp] theorem hostArrive_canonical {a : HostAcc} {s : State} (hs : memCanonical s) : memCanonical (hostArrive a s) := by
  unfold hostArrive
  dsimp only
  (repeat' split) <;> simp [memCanonical, hs]

@[simp] theorem retryPort_canonical {p : Nat} {s : State} (hs : memCanonical s) : memCanonical (retryPort p s) := by
  unfold retryPort
  exact ite_canonical hs (foldl_canonical hs fun _ _ ht => hostServe_canonical ht)

@[simp] theorem settled_canonical {s : State} (hs : memCanonical s) : memCanonical (settled s) := by
  have h1 : memCanonical (kick (openGates s)) := kick_canonical (s := openGates s) (by simpa [memCanonical] using hs)
  unfold settled
  generalize kick (openGates s) = t at h1
  have h2 : memCanonical (if someHeld t then kick ((List.range 16).foldl (fun s p => retryPort p s) t) else t) :=
    ite_canonical (kick_canonical (foldl_canonical h1 fun _ _ hu => retryPort_canonical hu)) h1
  dsimp only
  generalize (if someHeld t then kick ((List.range 16).foldl (fun s p => retryPort p s) t) else t) = u at h2
  have h3 : memCanonical (laterAll (callBack u)) := laterAll_canonical (s := callBack u) (by simpa [memCanonical] using h2)
  refine ite_canonical h3 ?_
  simpa [memCanonical] using h3

@[simp] theorem heldTimeout_canonical {p : Nat} {s : State} (hs : memCanonical s) : memCanonical (heldTimeout p s) := by
  refine foldl_canonical hs fun t a ht => ?_
  extract_lets owner u
  have hu : memCanonical u := by simpa [u, memCanonical] using ht
  clear_value u owner
  split
  · exact originateParts_canonical hu
  · exact hu

@[simp] theorem hostWalked_canonical {p : Nat} {x : Xl} {seq : Nat} {a : HostAcc} {s : State} (hs : memCanonical s) :
    memCanonical (hostWalked p x seq a s) := by
  unfold hostWalked
  split
  · split
    · exact hostLeaf_canonical hs
    · simpa [memCanonical] using hs
    · simpa [memCanonical] using hs
  · simpa [memCanonical] using hs

/-! ### Repair -/

@[simp] theorem loseUnreachable_canonical {s : State} (hs : memCanonical s) : memCanonical (loseUnreachable s) :=
  ite_canonical (foldl_canonical hs fun _ _ ht => ite_canonical (declareLost_canonical ht) ht) hs

@[simp] theorem isolateExt_canonical {n : Nat} {s : State} (hs : memCanonical s) : memCanonical (isolateExt n s) := by
  unfold isolateExt
  dsimp only
  split <;> simp [memCanonical, hs]

@[simp] theorem isolate_canonical {s : State} (hs : memCanonical s) : memCanonical (isolate s) := by
  unfold isolate
  refine ite_canonical hs (foldl_canonical (originateParts_canonical (foldl_canonical ?_ fun _ _ ht => isolateExt_canonical ht))
    fun _ _ ht => declareLost_canonical ht)
  exact hs

/-! ### Ports -/

@[simp] theorem repairEnd_canonical {s : State} (hs : memCanonical s) : memCanonical (repairEnd s) := by
  unfold repairEnd
  split <;> simp [memCanonical, hs]

/-! ### CXL ports -/

@[simp] theorem cxlTrained_canonical {p width : Nat} {full : Bool} {s : State} (hs : memCanonical s) :
    memCanonical (cxlTrained p width full s) := by
  unfold cxlTrained
  split <;> simp [memCanonical, hs]

@[simp] theorem cxlLost_canonical {p width : Nat} {s : State} (hs : memCanonical s) : memCanonical (cxlLost p width s) := by
  unfold cxlLost
  dsimp only
  (repeat' split) <;> simp [memCanonical, hs]

@[simp] theorem portReset_canonical {p : Nat} {down : Bool} {s : State} (hs : memCanonical s) : memCanonical (portReset p down s) := by
  unfold portReset
  split
  · exact hs
  · next a _ =>
    extract_lets t
    have ht : memCanonical t := hs
    have hr : memCanonical (resolveAttach a t).1 := by simpa [memCanonical] using ht
    split
    next u n h =>
    rw [h] at hr
    refine foldl_canonical ?_ fun _ _ ht => partReset_canonical ht
    refine ite_canonical hr ?_
    simpa [memCanonical] using hr

end Sys2Proof.Machine
end

section
/-! The canonical form of pool memory, kept by the effects of the rows. -/

namespace Sys2Proof.Machine

/-! ### Lease, resets, SRAM errors -/

@[simp] theorem resetKind_canonical {k : Nat} {s : State} (hs : memCanonical s) : memCanonical (resetKind k s) := by
  unfold resetKind
  split <;> simp [memCanonical, hs]

@[simp] theorem sramData_canonical {addr region : Nat} {s : State} (hs : memCanonical s) : memCanonical (sramData addr region s) := by
  unfold sramData
  split <;> simp [memCanonical, hs]

@[simp] theorem moduleFault_canonical {addr region : Nat} {s : State} (hs : memCanonical s) : memCanonical (moduleFault addr region s) := by
  unfold moduleFault
  simp [memCanonical, hs]

@[simp] theorem sramError_canonical {addr region : Nat} {s : State} (hs : memCanonical s) : memCanonical (sramError addr region s) := by
  refine ite_canonical (sramData_canonical hs) (ite_canonical ?_ (moduleFault_canonical hs))
  simpa [memCanonical] using hs

/-! ### Partitions -/

@[simp] theorem tagFree_canonical {p : Nat} {s : State} (hs : memCanonical s) : memCanonical (tagFree p s) := by
  unfold tagFree
  dsimp only
  (repeat' split) <;> simp [memCanonical, hs]

/-! ### The rows of extents -/

@[simp] theorem revokeNow_canonical {r : Req} {n disp us : Nat} {s : State} (hs : memCanonical s) : memCanonical (revokeNow r n disp us s) := by
  unfold revokeNow
  split <;> simp [memCanonical, hs]

@[simp] theorem scrubSeen_canonical {s : State} {home ext kind : Nat} (hs : memCanonical s) : memCanonical (scrubSeen s home ext kind) := by
  unfold scrubSeen
  split <;> simp [memCanonical, hs]

@[simp] theorem forcedTimeout_canonical {kind n : Nat} {s : State} (hs : memCanonical s) : memCanonical (forcedTimeout kind n s) := by
  unfold forcedTimeout
  dsimp only
  split <;> simp [memCanonical, hs]

@[simp] theorem drainDone_canonical {kind n : Nat} {s : State} (hs : memCanonical s) : memCanonical (drainDone kind n s) := by
  unfold drainDone
  dsimp only
  split <;> simp [memCanonical, hs]

@[simp] theorem scrubEnd_canonical {n : Nat} {s : State} (hs : memCanonical s) : memCanonical (scrubEnd n s) := by
  unfold scrubEnd
  extract_lets e s1 s2
  have h2 : memCanonical s2 := scrubRange_canonical _ _ _ hs
  clear_value s2
  refine ite_canonical ?_ (ite_canonical ?_ ?_)
  · simpa [memCanonical] using h2
  · split <;> simpa [memCanonical] using h2
  · simpa [memCanonical] using h2

/-! ### The mailbox -/

theorem mailCmd_canonical {port : Fin 16} {c : Instr} {f : Nat → State → State} {s : State} (hs : memCanonical s)
    (hf : ∀ a, memCanonical (f a s)) : memCanonical (mailCmd port c f s) := by
  unfold mailCmd
  refine ite_canonical hs (ite_canonical ?_ (ite_canonical ?_ (ite_canonical ?_ ?_)))
  · simpa [memCanonical] using hs
  · simpa [memCanonical] using hs
  · simpa [memCanonical] using hs
  · split
    · exact hf _
    · exact hs

/-! ### The rows of CXL links -/

@[simp] theorem ideFailed_canonical {p : Nat} {s : State} (hs : memCanonical s) : memCanonical (ideFailed p s) := by
  unfold ideFailed
  dsimp only
  split <;> simp [memCanonical, hs]

/-! ### Thresholds of health -/

@[simp] theorem act_canonical {i lv : Nat} {s : State} (hs : memCanonical s) : memCanonical (act i lv s) := by
  unfold act
  split <;> simp [memCanonical, hs]

@[simp] theorem crossPart_canonical {i : Nat} {s : State} (hs : memCanonical s) : memCanonical (crossPart i s) := by
  unfold crossPart
  refine ite_canonical hs (foldl_canonical hs fun t k ht => act_canonical ?_)
  simpa [memCanonical] using ht

@[simp] theorem secondOver_canonical {s : State} (hs : memCanonical s) : memCanonical (secondOver s) :=
  foldl_canonical (by simpa [memCanonical] using hs) fun _ _ ht => crossPart_canonical ht

/-! ### The Hinge pause -/

@[simp] theorem pauseEnds_canonical {old new : Nat} {st : Status} {s : State} (hs : memCanonical s) : memCanonical (pauseEnds old new st s) := by
  unfold pauseEnds
  extract_lets fw s1 s2 s3
  have h2 : memCanonical s2 := by simpa [s2, s1, memCanonical] using hs
  have h3 : memCanonical s3 := foldl_canonical h2 fun t p ht => ite_canonical ht (by simpa [memCanonical] using ht)
  exact settled_canonical (resumeResets_canonical h3)

@[simp] theorem hingeReject_canonical {s : State} (hs : memCanonical s) : memCanonical (hingeReject s) := by
  unfold hingeReject
  split <;> simp [memCanonical, hs]

@[simp] theorem hingeAccept_canonical {s : State} (hs : memCanonical s) : memCanonical (hingeAccept s) := by
  unfold hingeAccept
  dsimp only
  (repeat' split) <;> simp [memCanonical, hs]

/-! ### Register accesses -/

@[simp] theorem writeActs_canonical {x off : Nat} {old v : Word} {d : Option Word} {s : State} (hs : memCanonical s) :
    memCanonical (writeActs x off old v d s) := by
  have ha := hingeAccept_canonical hs
  unfold writeActs
  extract_lets wo rg p s1 s2
  have h1 : memCanonical s1 := ite_canonical (by simpa [memCanonical] using hs) hs
  have h2 : memCanonical s2 := ite_canonical ha hs
  clear_value s1 s2
  split
  · refine ite_canonical ?_ hs
    simpa [memCanonical] using hs
  split
  · exact hs
  split
  · simpa [memCanonical] using hs
  split
  · refine ite_canonical ?_ hs
    simpa [memCanonical] using hs
  split
  · refine ite_canonical ?_ h1
    simpa [memCanonical] using h1
  split
  · refine ite_canonical ?_ hs
    simpa [memCanonical] using hs
  split
  · refine ite_canonical ?_ hs
    simpa [memCanonical] using hs
  split
  · exact ite_canonical (hingeReject_canonical h2) h2
  split <;> simpa [memCanonical] using hs

@[simp] theorem writeReg_canonical {who : Acc} {x off : Nat} {k : WriteKind} {d : Word} {unlocked : Bool} {s : State}
    (hs : memCanonical s) : memCanonical (writeReg who x off k d unlocked s).2 := by
  unfold writeReg
  dsimp only
  (repeat' split) <;> simp [memCanonical, hs]

@[simp] theorem windowWrite_canonical {who : Acc} {x off : Nat} {k : WriteKind} {d : Word} {s : State} (hs : memCanonical s) :
    memCanonical (windowWrite who x off k d s).2 := by
  unfold windowWrite
  split <;> simp [memCanonical, hs]

theorem linkAccess_canonical {l : Link} {txn : Nat} {f : State → Status × Nat × State} {s : State} (hs : memCanonical s)
    (hf : ∀ t, memCanonical t → memCanonical (f t).2.2) : memCanonical (linkAccess l txn f s) := by
  have hh : memCanonical (heard (.mgt l) s) := by simpa [memCanonical] using hs
  unfold linkAccess
  extract_lets t
  split
  · exact hh
  · exact ite_canonical hh (hf _ hh)

@[simp] theorem linkWrite_canonical {l : Link} {off : Nat} {d : Word} {s : State} (hs : memCanonical s) :
    memCanonical (linkWrite l off d s).2.2 := by
  unfold linkWrite
  dsimp only
  (repeat' split) <;> simp [memCanonical, hs]

@[simp] theorem regWrite_canonical {a : RAcc} {off : Nat} {d : Word} {s : State} (hs : memCanonical s) : memCanonical (regWrite a off d s) := by
  unfold regWrite
  split
  · exact linkAccess_canonical hs fun _ ht => linkWrite_canonical ht
  · simpa [memCanonical] using hs
  · refine ite_canonical hs ?_
    split
    · exact hs
    · exact windowWrite_canonical hs

@[simp] theorem regRead_canonical {a : RAcc} {off : Nat} {s : State} (hs : memCanonical s) : memCanonical (regRead a off s) := by
  unfold regRead
  split
  · refine linkAccess_canonical hs fun t ht => ?_
    split
    · exact ht
    · simpa [memCanonical] using ht
  · simpa [memCanonical] using hs
  · refine ite_canonical hs ?_
    simpa [memCanonical] using hs

/-! ### The debug port -/

theorem frame_canonical {ok : Bool} {f : State → State} {s : State} (hs : memCanonical s) (hf : ∀ t, memCanonical t → memCanonical (f t)) :
    memCanonical (frame ok f s) := by
  unfold frame
  refine ite_canonical hs (ite_canonical ?_ (ite_canonical (hf _ hs) ?_))
  · simpa [memCanonical] using hs
  · simpa [memCanonical] using hs

theorem onCore_canonical {c : Nat} {f : State → State} {s : State} (hs : memCanonical s) (hf : memCanonical (f s)) :
    memCanonical (onCore c f s) := ite_canonical hf (by simpa [memCanonical] using hs)

@[simp] theorem debugRegWrite_canonical {off : Nat} {v : Word} {s : State} (hs : memCanonical s) : memCanonical (debugRegWrite off v s) := by
  unfold debugRegWrite
  dsimp only
  (repeat' split) <;> simp [memCanonical, hs]

@[simp] theorem debugAccess_canonical {n p : Nat} {t : Target} {data : Option Bytes} {s : State} (hs : memCanonical s) :
    memCanonical (debugAccess n p t data s) := by
  unfold debugAccess
  dsimp only
  (repeat' split) <;> simp [memCanonical, hs]

@[simp] theorem debugPart_canonical {p fva : Nat} {data : Option Bytes} {s : State} (hs : memCanonical s) :
    memCanonical (debugPart p fva data s) := by
  unfold debugPart
  refine ite_canonical ?_ (ite_canonical ?_ ?_)
  · simpa [memCanonical] using hs
  · simpa [memCanonical] using hs
  · extract_lets n db t
    have hd : memCanonical (demand p fva t).1 := by simpa [t, memCanonical] using hs
    refine settled_canonical ?_
    split
    · next hx =>
      rw [hx] at hd
      refine ite_canonical ?_ ?_
      · simpa [memCanonical] using hd
      · split
        · simpa [memCanonical] using hd
        · exact debugAccess_canonical hd
    all_goals
      next hx =>
      rw [hx] at hd
      simpa [memCanonical] using hd

@[simp] theorem debugOff_canonical {s : State} (hs : memCanonical s) : memCanonical (debugOff s) := by
  have hv : memCanonical (freeVal (2 ^ 64) s).2 := hs
  unfold debugOff
  refine ite_canonical hs ?_
  split
  next v t h =>
  rw [h] at hv
  extract_lets s1 s2 dbg
  have h1 : memCanonical s1 := ite_canonical hv (by simpa [memCanonical] using hv)
  have h2 : memCanonical s2 := foldl_canonical h1 fun _ _ hu => hu
  exact settled_canonical h2

/-! ### Descriptors: start and close -/

theorem startDesc_canonical {row q : Nat} {d : Desc} {eff : Nat → Op → State → State} {s : State} (hs : memCanonical s)
    (he : ∀ o t, memCanonical t → memCanonical (eff q o t)) : memCanonical (startDesc row q d eff s) := by
  unfold startDesc
  refine ite_canonical ?_ hs
  extract_lets x
  have hw : memCanonical (takeWid (ringRead x s)).2 := by simpa [memCanonical] using hs
  split
  next w t h =>
  rw [h] at hw
  extract_lets o s1 s2 still
  have h2 : memCanonical s2 := ite_canonical (he _ _ hw) (by simpa [startFail, s1, memCanonical] using hw)
  clear_value s2
  refine settled_canonical (ite_canonical ?_ h2)
  simpa [memCanonical] using h2

/-! ### Quanta, walks and prefetches -/

@[simp] theorem closeDrained_canonical {p : Nat} {s : State} (hs : memCanonical s) : memCanonical (closeDrained p s) := by
  unfold closeDrained
  split
  · refine ite_canonical (settled_canonical ?_) hs
    simpa [memCanonical] using hs
  · exact hs

@[simp] theorem grant_canonical {e q : Nat} {s : State} (hs : memCanonical s) : memCanonical (grant e q s) := by
  unfold grant
  split <;> simp [memCanonical, hs]

@[simp] theorem walkFound_canonical {w : Walk} {bad : Bool} {s : State} (hs : memCanonical s) : memCanonical (walkFound w bad s) := by
  unfold walkFound
  extract_lets mark s1 t s2 known s3 s4
  have h1 : memCanonical s1 := ite_canonical (by unfold mark; split <;> exact hs) hs
  have h2 : memCanonical s2 := by simpa [s2, memCanonical] using h1
  have h3 : memCanonical s3 := by
    unfold s3
    clear_value s2
    split
    · refine ite_canonical h2 ?_
      simpa [memCanonical] using h2
    · exact h2
  have h4 : memCanonical s4 := foldl_canonical h3 fun u o hu => by simpa [memCanonical] using hu
  exact foldl_canonical h4 fun _ _ hu => hostWalked_canonical hu

@[simp] theorem walkDone_canonical {p fva : Nat} {bad : Bool} {s : State} (hs : memCanonical s) : memCanonical (walkDone p fva bad s) := by
  unfold walkDone
  dsimp only
  (repeat' split) <;> simp [memCanonical, hs]

/-! ### Firmware images -/

@[simp] theorem applyPreset_canonical {e : Nat × Nat} {s : State} (hs : memCanonical s) : memCanonical (applyPreset e s) := by
  unfold applyPreset
  split
  · refine ite_canonical (writeReg_canonical hs) ?_
    simpa [memCanonical] using hs
  · simpa [memCanonical] using hs

@[simp] theorem accept_canonical {i : Image} {hist : Bytes} {s : State} (hs : memCanonical s) : memCanonical (accept i hist s) := by
  have hl (t : State) (ht : memCanonical t) : memCanonical (loadHistory hist t) := by simpa [memCanonical] using ht
  unfold accept
  extract_lets fw s1 s2 s3 st pw s4
  have h3 : memCanonical s3 := hl _ (foldl_canonical hs fun _ _ ht => applyPreset_canonical ht)
  clear_value s3
  simpa [s4, memCanonical] using h3

/-! ### The rows of flows -/

@[simp] theorem sendClose_canonical {src dst vc : Nat} {s : State} (hs : memCanonical s) : memCanonical (sendClose src dst vc s) := by
  unfold sendClose
  dsimp only
  (repeat' split) <;> simp [memCanonical, hs]

@[simp] theorem expired_canonical {dst : Nat} {s : State} (hs : memCanonical s) : memCanonical (expired dst s) := by
  unfold expired
  simp [memCanonical, hs]

@[simp] theorem packetOld_canonical {src dst vc seq : Nat} {s : State} (hs : memCanonical s) : memCanonical (packetOld src dst vc seq s) := by
  unfold packetOld
  split
  · exact expired_canonical (by simpa [memCanonical] using hs)
  · split
    · split
      · exact expired_canonical (by simpa [memCanonical] using hs)
      · exact hs
    · exact hs

@[simp] theorem redirOld_canonical {src dst vc seq : Nat} {s : State} (hs : memCanonical s) : memCanonical (redirOld src dst vc seq s) := by
  unfold redirOld
  dsimp only
  split <;> simp [memCanonical, hs]

@[simp] theorem requestLate_canonical {src wid : Nat} {s : State} (hs : memCanonical s) : memCanonical (requestLate src wid s) := by
  unfold requestLate
  dsimp only
  (repeat' split) <;> simp [memCanonical, hs]

@[simp] theorem lostFlows_canonical {m : Nat} {s : State} (hs : memCanonical s) : memCanonical (lostFlows m s) := by
  unfold lostFlows
  split <;> simp [memCanonical, hs]

/-! ### The rows of host accesses -/

@[simp] theorem biArrive_canonical {port : Fin 16} {line : Nat} {keep : Bool} {s : State} (hs : memCanonical s) :
    memCanonical (biArrive port line keep s) := by
  unfold biArrive
  split
  · exact hs
  · split
    · exact ite_canonical (settled_canonical (by simpa [memCanonical] using hs)) hs
    · exact hs

@[simp] theorem biSilent_canonical {line att : Nat} {s : State} (hs : memCanonical s) : memCanonical (biSilent line att s) := by
  unfold biSilent
  split
  · exact ite_canonical (settled_canonical (by simpa [memCanonical] using hs)) hs
  · exact hs

@[simp] theorem ioAnswered_canonical {id : Nat} {ok : Bool} {data : Bytes} {s : State} (hs : memCanonical s) :
    memCanonical (ioAnswered id ok data s) := by
  unfold ioAnswered
  split <;> simp [memCanonical, hs]

/-! ### The rows of packets -/

@[simp] theorem packetIn_canonical {q : Pkt} {port : Option (Fin 64)} {s : State} (hs : memCanonical s) : memCanonical (packetIn q port s) := by
  unfold packetIn
  split
  · exact arrive_canonical hs
  · refine ite_canonical hs (ite_canonical ?_ (ite_canonical ?_ (arrive_canonical ?_)))
    · simpa [memCanonical] using hs
    · simpa [memCanonical] using hs
    · simpa [memCanonical] using hs

@[simp] theorem packetWhole_canonical {q : Pkt} {flits : Nat} {port : Fin 64} {s : State} (hs : memCanonical s) :
    memCanonical (packetWhole q flits port s) := by
  unfold packetWhole
  split <;> simp [memCanonical, hs]

@[simp] theorem arrivalLate_canonical {ctx seq level vertex : Nat} {s : State} (hs : memCanonical s) :
    memCanonical (arrivalLate ctx seq level vertex s) := by
  unfold arrivalLate
  dsimp only
  (repeat' split) <;> simp [memCanonical, hs]

/-! ### The rows of power -/

@[simp] theorem trayIn_canonical {s : State} (hs : memCanonical s) : memCanonical (trayIn s) := by
  unfold trayIn
  split <;> simp [memCanonical, hs]

@[simp] theorem admitAgain_canonical {s : State} (hs : memCanonical s) : memCanonical (admitAgain s) := by
  unfold admitAgain
  split <;> simp [memCanonical, hs]

/-! ### Doorbells and register reads -/

@[simp] theorem ringDoorbell_canonical {q : Nat} {v : DWord} {s : State} (hs : memCanonical s) : memCanonical (ringDoorbell q v s) := by
  unfold ringDoorbell
  dsimp only
  (repeat' split) <;> simp [memCanonical, hs]

@[simp] theorem hostDoorbell_canonical {p : Fin 16} {size q : Nat} {v : DWord} {viaBar : Bool} {s : State} (hs : memCanonical s) :
    memCanonical (hostDoorbell p size q v viaBar s) := by
  unfold hostDoorbell
  dsimp only
  (repeat' split) <;> simp [memCanonical, hs]

@[simp] theorem doorbellWrite_canonical {a : RAcc} {q : Nat} {v : DWord} {viaBar : Bool} {s : State} (hs : memCanonical s) :
    memCanonical (doorbellWrite a q v viaBar s) := by
  unfold doorbellWrite
  refine ite_canonical hs ?_
  split
  · exact hostDoorbell_canonical hs
  · exact regWrite_canonical hs

end Sys2Proof.Machine
end

section
/-! Every command keeps pool memory in its canonical form, and so does a step. -/

namespace Sys2Proof.Machine

/-! ### What a row keeps, by the way in which it runs -/

/-- Every next state that the command answers from a canonical state is canonical. -/
def KeepsMem (c : Instr) : Prop := ∀ s t, memCanonical s → exec c s = .next t → memCanonical t

section
variable {c : Instr} {f : State → State} (hf : ∀ s, memCanonical s → memCanonical (f s))
include hf

theorem keepsMem_of_run (h : ∀ s, exec c s = run f s) : KeepsMem c := by
  intro s t hs ht
  rw [h] at ht
  obtain ⟨h', -⟩ | ⟨h', -⟩ | ⟨h', -⟩ := run_cases f s <;> rw [h'] at ht <;> cases ht
  · exact hs
  · exact hf s hs

theorem keepsMem_of_runWrite (h : ∀ s, exec c s = runWrite f s) : KeepsMem c := by
  intro s t hs ht
  rw [h] at ht
  obtain ⟨h', -⟩ | ⟨h', -⟩ := runWrite_cases f s <;> rw [h'] at ht <;> cases ht
  · exact hs
  · exact hf s hs

theorem keepsMem_of_runAon (h : ∀ s, exec c s = runAon f s) : KeepsMem c := by
  intro s t hs ht
  rw [h] at ht
  obtain ⟨h', -⟩ | ⟨h', -⟩ | ⟨h', -⟩ := runAon_cases f s <;> rw [h'] at ht <;> cases ht
  · exact hs
  · exact hf s hs

theorem keepsMem_of_next (h : ∀ s, exec c s = .next (f s)) : KeepsMem c := by
  intro s t hs ht
  rw [h] at ht
  cases ht
  exact hf s hs

end

theorem keepsMem_of_packetRow {c : Instr} {port : Option (Fin 64)} {e : Env} {b : Body} (h : ∀ s, exec c s = packetRow port e b s) :
    KeepsMem c :=
  keepsMem_of_run (fun _ hs => settled_canonical (packetIn_canonical hs)) h

/-! ### The effects of some messages -/

theorem takeLease_canonical {l : Link} {s : State} (hs : memCanonical s) : memCanonical (takeLease l s).1 := by
  simp [takeLease, memCanonical, hs]

theorem commit_canonical {r : Req} {s : State} (hs : memCanonical s) : memCanonical (commit r s).1 := by
  unfold commit
  split
  · exact hs
  · split
    · simp [memCanonical, hs]
    · split
      · simp [memCanonical, hs]
      · simp [done, memCanonical, hs]

theorem tokenRefused_canonical {r : Req} {p : Nat} {s : State} (hs : memCanonical s) : memCanonical (tokenRefused r p s).1 := by
  simp [tokenRefused, memCanonical, hs]

theorem mapAll_canonical {p lv : Nat} {es : List (Nat × BitVec 128)} {s : State} (hs : memCanonical s) :
    memCanonical ((mapAll p lv es s).getD s) := by
  cases h : mapAll p lv es s with
  | none => exact hs
  | some t =>
    have hp := (tabled_mapAll h).pool
    have hm : t.pool.mem = s.pool.mem := by rw [hp]
    simpa [memCanonical, hm] using hs

theorem armGrp_canonical {ctx : Nat} {s : State} (hs : memCanonical s) : memCanonical (armGrp ctx s).1 := by
  unfold armGrp
  split
  · exact hs
  · simp [memCanonical, hs]

theorem testRefused_canonical {r : Req} {st : Status} {s : State} (hs : memCanonical s) : memCanonical (testRefused r st s).1 := by
  simp [testRefused, memCanonical, hs]

theorem optCal_canonical {r : Req} {port : Nat} {s : State} (hs : memCanonical s) : memCanonical (optCal r port s).1 := by
  unfold optCal
  split
  · exact testRefused_canonical hs
  · split
    · exact testRefused_canonical hs
    · simp [done, memCanonical, hs]

theorem sramBist_canonical {r : Req} {s : State} (hs : memCanonical s) : memCanonical (sramBist r s).1 := by
  unfold sramBist
  split
  · exact testRefused_canonical hs
  · simp [memCanonical, hs]

theorem gddrRetrain_canonical {r : Req} {s : State} (hs : memCanonical s) : memCanonical (gddrRetrain r s).1 := by
  unfold gddrRetrain
  split
  · exact testRefused_canonical hs
  · split
    · exact testRefused_canonical hs
    · exact foldl_canonical hs fun t c ht => by simp [memCanonical, ht]

theorem selftest_canonical {r : Req} {kind port : Nat} {s : State} (hs : memCanonical s) :
    memCanonical (if kind = 0 then done s else if kind = 1 then optCal r port s else if kind = 2 then sramBist r s
      else if kind = 3 then gddrRetrain r s else testRefused r .range s).1 := by
  split
  · exact hs
  · split
    · exact optCal_canonical hs
    · split
      · exact sramBist_canonical hs
      · split
        · exact gddrRetrain_canonical hs
        · exact testRefused_canonical hs

/-! ### All commands -/

theorem exec_keepsMem (c : Instr) : KeepsMem c := by
  cases c
  case getVersion | mgtHeartbeat | leaseRelease | attestGet | modReset | fwStatus | fwBegin | fwAbort | partSetup | partBind | partUnbind |
      partReset | partRelease | consentClear | partQuery | dossierRead | jobAbort | extAdd | extPresent | extMirror | extRevoke | extShackle |
      extQuery | xltInval | xltQuery | grpCreate | grpMembers | grpHosts | grpDestroy | grpQuery | epidAssign | epidRelease | treeWrite |
      treeClear | anaSet | fabQuery | powerLit | powerDark | logRead | ageRead | traceSet | queCreate | queResume | queDestroy | queQuery =>
    exact keepsMem_of_run (fun s hs => message_canonical hs fun t ht => by simp [done, memCanonical, ht]) fun _ => rfl
  case leaseTake =>
    refine keepsMem_of_run (fun s hs => message_canonical hs fun t ht => ?_) fun _ => rfl
    split
    · exact takeLease_canonical ht
    · exact ht
  case reportAck | keyLoad =>
    refine keepsMem_of_run (fun s hs => message_canonical hs fun t ht => ?_) fun _ => rfl
    split
    · simp [done, memCanonical, ht]
    · exact ht
  case fwData =>
    refine keepsMem_of_run (fun s hs => message_canonical hs fun t ht => ?_) fun _ => rfl
    dsimp only
    split <;> simp [done, memCanonical, ht]
  case fwCommit =>
    exact keepsMem_of_run (fun s hs => message_canonical hs fun t ht => commit_canonical ht) fun _ => rfl
  case consentSet =>
    refine keepsMem_of_run (fun s hs => message_canonical hs fun t ht => ?_) fun _ => rfl
    split
    · exact tokenRefused_canonical ht
    · split <;> simp [done, memCanonical, ht]
  case xltMap =>
    exact keepsMem_of_run (fun s hs => message_canonical hs fun t ht => mapAll_canonical ht) fun _ => rfl
  case xltUnmap =>
    exact keepsMem_of_run (fun s hs => message_canonical hs fun t ht => by simp [digestAnswer, memCanonical, ht]) fun _ => rfl
  case grpArm =>
    exact keepsMem_of_run (fun s hs => message_canonical hs fun t ht => armGrp_canonical ht) fun _ => rfl
  case anaConsent =>
    refine keepsMem_of_run (fun s hs => message_canonical hs fun t ht => ?_) fun _ => rfl
    split
    · simp [memCanonical, ht]
    · split <;> simp [done, memCanonical, ht]
  case anaClear =>
    refine keepsMem_of_run (fun s hs => message_canonical hs fun t ht => ?_) fun _ => rfl
    have hj : memCanonical (t.fab.ana.jobs.foldl (fun s j => dropConsent j s) t) := foldl_canonical ht fun _ _ hu => hu
    simp only [done]
    refine settled_canonical (ite_canonical ?_ (ite_canonical hj ht))
    simpa [memCanonical] using ite_canonical hj ht
  case selftest =>
    exact keepsMem_of_run (fun s hs => message_canonical hs fun t ht => selftest_canonical ht) fun _ => rfl
  case identify | getSupportedLogs | getLog | getEventRecords | clearEventRecords | getDynamicCapacityConfiguration | releaseDynamicCapacity =>
    exact keepsMem_of_run (fun s hs => mailCmd_canonical hs fun a => by simp [memCanonical, hs]) fun _ => rfl
  case addDynamicCapacityResponse =>
    refine keepsMem_of_run (fun s hs => mailCmd_canonical hs fun a => ?_) fun _ => rfl
    split
    · simp only [memCanonical, mailbox_poolMem]
      split <;> simp [hs]
    · simp [memCanonical, hs]
  case doorbell | capCommand | clkGateOffReq | clkObsWrite | hltPlanRun | optPortEnable | optPortRetrain | cxlPortRetrain | fltPop |
      fltStatLostClear | latchSnap | unlock | indDataWrite | cfgcrcRefWrite | setAliasWrite | clrAliasWrite | tglAliasWrite | registerWrite |
      cfgcrcPass =>
    exact keepsMem_of_runWrite (fun s hs => by simp [memCanonical, hs]) fun _ => rfl
  case nop | put | get | copyTile | atomic | wait | fence | signal | coll | epochClose =>
    exact keepsMem_of_run (fun s hs => startDesc_canonical hs fun o t ht => by simp [memCanonical, ht]) fun _ => rfl
  case hotReset | functionLevelReset | cxlReset | deadboltMessage | scrubDone | cxlLinkUp | cxlTrainRetry =>
    refine keepsMem_of_run (fun s hs => ite_canonical ?_ ?_) fun _ => rfl
    all_goals simp [memCanonical, hs]
  case fwSessionTimeout | presentAnswerTimeout =>
    refine keepsMem_of_run (fun s hs => ?_) fun _ => rfl
    split <;> simp [memCanonical, hs]
  case woquelImageRead | identityRegenerated | governorTick | pwrBrakeAssert | inputLow | inputBrake | inputHigh | thermalCeiling |
      thermalRelease | thermalBrake | thermalShutdown | referencePresent | rootPllLock | referenceLoss | lullHoldExpiry =>
    exact keepsMem_of_runAon (fun s hs => by simp [memCanonical, hs]) fun _ => rfl
  case fabricWrite | fabricReadRequest | atomicRequest | signalArrival | reply | acknowledgement | deliveryReport | flowClose | redirectRequest |
      mirrorWrite | rebuildStep | mirrorControl | unprotectedRefusal | multicastLeg | header | contribution | resultChunk | done | go |
      allToAllReport | cause | abort =>
    exact keepsMem_of_packetRow fun _ => rfl
  case dbgNop | memRd | memWr | regRd | partRd | partWr =>
    exact keepsMem_of_run (fun s hs => frame_canonical hs fun t ht => by simp [memCanonical, ht]) fun _ => rfl
  case halt | resume | step | bpSet | bpClear | coreRd | coreWr =>
    exact keepsMem_of_run (fun s hs => frame_canonical hs fun t ht => onCore_canonical ht (by simp [memCanonical, ht])) fun _ => rfl
  case regWr =>
    exact keepsMem_of_runWrite (fun s hs => frame_canonical hs fun t ht => by simp [memCanonical, ht]) fun _ => rfl
  case pwrBrakeRelease | inputRecover | staggerExpiry | thermalBrakeRelease =>
    refine keepsMem_of_runAon (fun s hs => ?_) fun _ => rfl
    dsimp only
    split <;> simp [memCanonical, hs]
  case powerApplied =>
    refine keepsMem_of_next (fun s hs => ite_canonical ?_ ?_) fun _ => rfl
    all_goals simp [memCanonical, hs]
  case inputOff =>
    exact keepsMem_of_next (fun s hs => by simp [memCanonical, hs]) fun _ => rfl
  case thermalRestart | rootRelock =>
    refine keepsMem_of_runAon (fun s hs => ite_canonical ?_ ?_) fun _ => rfl
    all_goals simp [memCanonical, hs]
  -- every other row runs one state function
  all_goals exact keepsMem_of_run (fun s hs => by simp [memCanonical, hs]) fun _ => rfl

/-! ### The step -/

theorem idleCmd_poolMem {s t : State} {c : Instr} (h : idleCmd s = some (c, t)) : t.pool.mem = s.pool.mem := by
  unfold idleCmd at h
  split at h
  · split at h
    · cases h
    · cases h
      rfl
  · cases h

/-- Settles O7: of a step each command, and what the module does of itself, keeps the form. -/
theorem canonicalMemoryKept : Obligations.CanonicalMemoryKept := by
  unfold Obligations.CanonicalMemoryKept
  intro s t hs h
  cases hp : s.pending with
  | cons c rest =>
    rw [step_cons hp] at h
    exact exec_keepsMem c { s with pending := rest } t hs h
  | nil =>
    rw [step, hp] at h
    cases hi : idleCmd s with
    | none =>
      rw [hi] at h
      cases h
      simpa [memCanonical] using hs
    | some ct =>
      obtain ⟨c, u⟩ := ct
      rw [hi] at h
      exact exec_keepsMem c u t (by simpa [memCanonical, idleCmd_poolMem hi] using hs) h

end Sys2Proof.Machine
end
